-- ==== Sys2Proof/Word.lean ====
section
/-! DEFINITION. The word types of the model: what the manual treats as bits is a bit vector, counts and addresses used as
keys are natural numbers (R13 and the notation section of 00_scope.md). -/

namespace Sys2Proof

/-- A byte of a payload, a frame or a memory. -/
abbrev Byte := BitVec 8

/-- A 16-bit field. -/
abbrev Half := BitVec 16

/-- A 32-bit word: mailbox indices, tags, sequences (R95, R100). -/
abbrev Word := BitVec 32

/-- A 64-bit word: addresses and 64-bit values (R34, R116). -/
abbrev DWord := BitVec 64

end Sys2Proof
end

