-- ==== Sys2Proof/Syntax.lean ====
section
/-! DEFINITION. Syntax: the commands of the block, one constructor of `Instr` per row of spec/opcode_table.json, and the
operand types they carry. A mailbox row carries the request that Ottum carries out (R96, R100); an event row carries the
lane, die, channel, bus or port it happens at and the values the module then measures or receives. -/

namespace Sys2Proof

/-- The two lanes (R24). -/
inductive Lane where
  | a | b
  deriving DecidableEq, Repr

/-- One value per lane. -/
structure PerLane (α : Type) where
  a : α
  b : α
  deriving DecidableEq, Repr

/-- The two feeds: FEED_A serves P0 and P1, FEED_B serves P2 and P3 (R27). -/
inductive Feed where
  | a | b
  deriving DecidableEq, Repr

/-- PRID 0 to 31. -/
abbrev Prid := Fin 32
/-- Power dies P0 to P3 (R19). -/
abbrev Die := Fin 4
/-- Load channels CH00 to CH63 (R19). -/
abbrev Chan := Fin 64
/-- Inputs IN00 to IN47. -/
abbrev Input := Fin 48
/-- Buses CAN0 to CAN11. -/
abbrev Bus := Fin 12
/-- Application pairs AP0 to AP5. -/
abbrev Pair := Fin 6
/-- Lockstep pairs of a lane: 0-5 AP0-AP5, 6 SVP (R292). -/
abbrev LockPair := Fin 7
/-- Switch ports 0 to 38 (R16, R349). -/
abbrev Port := Fin 39
/-- Physical switch ports 0 to 6: UPL, RGE, RGW, ED0 to ED3. -/
abbrev PhyPort := Fin 7

/-- The two ring ports of a node (R303). -/
inductive RingPort where
  | rge | rgw
  deriving DecidableEq, Repr

/-- The path a request comes by (R108, R127). -/
inductive Path where
  | gov            -- the governor window
  | mgmt           -- the management channel
  | part (p : Prid)  -- the partition window of PRID p
  deriving DecidableEq, Repr

/-- A mailbox window (R34, R95). -/
inductive Win where
  | gov
  | part (p : Prid)
  deriving DecidableEq, Repr

/-- A request as Ottum copies it at take-up: header fields, slot fields and payload (R96, R100). The opcode is the row's. -/
structure Req where
  path     : Path
  auth     : Bool        -- flags[2] (R101)
  fence    : Bool        -- flags[1] (R101)
  tag      : Word
  seq      : Word
  payload  : List Byte   -- the AUTH trailer, when present, is its last 24 bytes (R122)
  payAddr  : Nat         -- payload address (R96)
  respAddr : Nat         -- response buffer address (R96)
  cap      : Nat         -- response buffer capacity (R96)
  stamp    : Nat         -- epoch that stamped the doorbell (R110)
  unsecured : Bool       -- arrived on UPL without a SecTAG while on factory defaults (R126)
  deriving DecidableEq, Repr

/-- A frame of EtherType 0x88B5 as it arrives on an uplink (R123, R124), what stands behind the EtherType in raw bytes. -/
structure MgmtFrame where
  dst      : Nat
  src      : Nat
  secTag   : Bool        -- carries a SecTAG with SCI, and an ICV
  scOk     : Bool        -- it arrived under the management secure channel
  verified : Bool        -- MACsec verification and replay protection passed
  vlan     : Option Half -- the optional IEEE 802.1Q tag
  rtag     : Option Half -- the optional IEEE 802.1CB R-tag
  body     : List Byte   -- management prefix (12 bytes), mailbox header (32 bytes) and payload
  deriving DecidableEq, Repr

/-- An access of a core or of a DMA engine in the partitions' map (R34, R35, R130). -/
inductive AccKind where
  | read | write
  deriving DecidableEq, Repr

/-- The mode in which a core executes (R128, R129). -/
inductive CoreMode where
  | hs | vs | vu | u
  deriving DecidableEq, Repr, Inhabited

/-- A core or DMA access at the partition gate. `virt` is the virtualisation mode of the instruction; DMA names its PRID. -/
structure Access where
  pair  : Option Pair      -- none: DMA of the switch core or the cipher engine
  dma   : Prid             -- the PRID a DMA access carries
  virt  : Bool
  kind  : AccKind
  addr  : Nat
  size  : Nat              -- bytes
  data  : List Byte        -- bytes of a write
  deriving DecidableEq, Repr

/-- A frame of the power command link toward a die, without its kind, which is the row's (R192). `num` is the stream
sequence number, `arg` argument bytes 4 to 9, `idx` the local channel index. -/
structure LinkFrame where
  num : Half
  idx : Fin 16
  arg : List Byte
  deriving DecidableEq, Repr

/-- A reading of one channel by its die at a 1 ms update: the mean of the squared current, the dissipation of its
transistor, the mean current, output voltage and local temperature (R215, R217, R236). -/
structure ChanMeas where
  i2    : Rat      -- A^2
  pwr   : Rat      -- W
  ma    : Int      -- mA
  v10   : Int      -- 10 mV
  local10 : Int    -- 0.1 degrees C
  deriving DecidableEq, Repr

/-- The bands of a feed in the table of R70. -/
inductive FeedBand where
  | valid | low | lost | above36 | reversed
  deriving DecidableEq, Repr

/-- One lane's sample of an input (R242, R244, R245). -/
structure Sample where
  value   : Int     -- mV, or 0.01 Hz in mode 4
  volt    : Nat     -- 10 mV
  duty    : Nat     -- 0.1 %
  state   : Bool
  lowF    : Bool
  highF   : Bool
  age     : Nat     -- microseconds since its refresh when it was tagged, against which in.age.limit stands (R245)
  deriving DecidableEq, Repr

/-- A CAN frame (R388, R398). -/
structure CanFrame where
  ident : Nat
  ide   : Bool
  fdf   : Bool
  brs   : Bool
  esi   : Bool
  rtr   : Bool
  dlc   : Nat
  data  : List Byte
  deriving DecidableEq, Repr

/-- An Ethernet frame at the switch core (R356, R360). `len` counts destination address to FCS. -/
structure EthFrame where
  dst   : Nat
  src   : Nat
  vid   : Option Nat
  dei   : Bool
  rtag  : Option Half
  etype : Nat
  len   : Nat
  data  : List Byte
  deriving DecidableEq, Repr

/-- A SecTAG with the ICV of a received frame (R377). -/
structure SecTag where
  sci : DWord
  an  : Fin 4
  pn  : Nat
  icv : List Byte
  deriving DecidableEq, Repr

/-- The Ethernet part of a Belfry frame (R310, R313): its addresses, the version of its header, and whether its FCS is the one
computed over it. -/
structure RingWire where
  dst     : Nat
  src     : Nat
  version : Fin 16
  fcsOk   : Bool
  deriving DecidableEq, Repr

/-- What a poll names: the polled node and the round (R316, R319). -/
structure Poll where
  node  : Nat
  round : Word
  deriving DecidableEq, Repr

/-- What the exchange of a pairing finds: whether it authenticates, and whether module identity and life-cycle state are equal
(R271). -/
structure PairingFound where
  authOk : Bool
  idOk   : Bool
  lifeOk : Bool
  deriving DecidableEq, Repr

/-- The earlier accesses that a fence orders: writes, reads (R429, R433). -/
structure FenceOrder where
  writes : Bool
  reads  : Bool
  deriving DecidableEq, Repr

/-- The Belfry header of a slot frame and what it carries (R310). -/
structure RingFrame where
  wire    : RingWire
  kind    : Fin 16
  origin  : Fin 16
  wrap    : Fin 4
  west    : Bool       -- direction: false east, true west
  feed    : Bool
  hops    : Nat
  claim   : Bool
  slot    : Nat
  round   : Word
  depart  : Int
  corr    : Nat
  bid     : Option (Fin 8)
  ack     : Bool
  healthy : Bool
  sleepBid : Bool
  deviation : Int      -- local arrival minus slot start, ns, as the node measures it (R328)
  carried : Option EthFrame
  deriving DecidableEq, Repr

/-- The Call field of a beacon (R312). -/
inductive CallKind where
  | none | hand | sleep
  deriving DecidableEq, Repr

/-- State of a Call (R312). -/
inductive CallState where
  | none | announced | confirmed | withdrawn
  deriving DecidableEq, Repr

/-- A beacon (R312). -/
structure Beacon where
  wire     : RingWire
  round    : Nat
  dealer   : Fin 16
  rank     : Nat
  hand     : Fin 8
  callKind : CallKind
  callState : CallState
  target   : Fin 8
  callRound : Word
  crc      : Word
  deriving DecidableEq, Repr

/-- An event record before delivery (R528). `la`, `lb`: detected by Lane A, by Lane B. -/
structure EvRec where
  ev      : Fin 256
  la      : Bool
  lb      : Bool
  cause   : Nat
  subject : Nat
  detail  : Int
  epoch   : Nat
  deriving DecidableEq, Repr

/-- What an agreement item carries (R258, R264, R297). -/
inductive ItemBody where
  | input (i : Input) (s : Sample)
  | can (b : Bus) (f : CanFrame)
  | eth (entry gen src : Nat) (f : EthFrame)
  | mgmt (f : MgmtFrame)
  | event (r : EvRec)
  | tamper (intrusion : Bool)
  | close (count : Nat)
  | check (stream : Nat) (num : Nat) (crc : Word)
  | hash (region : Nat) (h : DWord)
  deriving DecidableEq, Repr

/-- An item tagged with the epoch of its arrival (R258). -/
structure Item where
  epoch : Nat
  body  : ItemBody
  deriving DecidableEq, Repr

/-- The links of flits (R30). -/
inductive FlitLink where
  | laneA | laneB | bridge
  deriving DecidableEq, Repr

/-- The temperature-measured dies of R524: compute and network die of each lane, power dies. -/
inductive TempDie where
  | power (d : Die)
  | compute (l : Lane)
  | network (l : Lane)
  deriving DecidableEq, Repr

/-- The monitors of the tamper alarm (R463, parameter key.tamper.cause). -/
inductive TamperKind where
  | rail | temperature | mesh | loop
  deriving DecidableEq, Repr

/-- What the module finds at a lane start beside its own state: the failed step of the injection (0 passed, R293), whether
the other start self-tests passed (R75 step 6), whether an alarm is present (R464) and whether a storage device answers (R52). -/
structure StartEnv where
  injectFail : Nat
  selfTestOk : Bool
  tamper     : Option TamperKind
  device     : Bool
  deriving DecidableEq, Repr

/-- The AMO instructions of RV64GCH (R436). -/
inductive AmoOp where
  | swap | add | xor | and | or | min | max | minu | maxu
  deriving DecidableEq, Repr

/-- An access through the bridge window at the far memory port (R427, R436). -/
inductive BridgeOp where
  | read
  | write (data : List Byte)
  | lr
  | sc (data : List Byte)
  | amo (op : AmoOp) (data : List Byte)
  deriving DecidableEq, Repr

/-- The parts of a slice command whose in-flight work ends (R140). -/
inductive StagingArea where
  | firmware (l : Lane) | config
  deriving DecidableEq, Repr

/-- Wake sources of the table of R416. -/
inductive WakeSrc where
  | busPattern (b : Bus)
  | busFrame (b : Bus) (overflow : Bool)
  | pin
  | input (i : Input)
  | timer
  | ring (l : Lane)
  deriving DecidableEq, Repr

/-- The outcomes of a scrub pass (R516). -/
structure ScrubFind where
  corrected   : Nat
  uncorrectableLane : Bool       -- a word of tenant SRAM in a slice, L2, SVP SRAM or key store
  freeGranule : List (Fin 768)   -- uncorrectable words in granules no slice holds
  flashPages  : List Nat         -- uncorrectable pages of embedded flash, by address
  overran     : Bool
  deriving DecidableEq, Repr

/-- The readings of one 100 ms coolant step (R522, R523). -/
structure CoolantMeas where
  substrate : List Int    -- four values, 0.1 degrees C
  power     : List Rat    -- four values, W, conduction, clamp and logic
  computeNet : List Int   -- CA, CB, NA, NB, 0.1 degrees C
  module     : Rat        -- module dissipation, W
  deriving DecidableEq, Repr

/-- What a diagnostic check finds at the end of its qualifying time (R227). -/
inductive Finding where
  | present | absent
  deriving DecidableEq, Repr

/-- THE COMMANDS: one constructor per row of spec/opcode_table.json, in its order. -/
inductive Instr where
  | nop (q : Req)
  | moduleInfo (q : Req)
  | paramGet (q : Req)
  | paramSet (q : Req)
  | authChallenge (q : Req)
  | authChallengeExpiry (mgmt : Bool)
  | sliceCreate (q : Req)
  | sliceGrow (q : Req)
  | sliceShrink (q : Req)
  | sliceDestroy (q : Req)
  | sliceQuery (q : Req)
  | thaw (q : Req)
  | drainLimitReached (p : Prid)
  | drainEnd (p : Prid) (us : Nat)
  | teardownEnd (p : Prid)
  | granuleZeroed (g : Fin 768)
  | chanSet (q : Req)
  | chanPwm (q : Req)
  | chanMulti (q : Req)
  | unlock (q : Req)
  | chanStatus (q : Req)
  | dieIsolateOpen (q : Req)
  | dieIsolateClose (q : Req)
  | dieIsolateStorePolicy (q : Req)
  | failsafeStore (q : Req)
  | failsafeStoreWritten
  | inputRead (q : Req)
  | ringBid (q : Req)
  | ringBidTimeout (l : Lane)
  | switchEntrySet (q : Req)
  | switchEntryDel (q : Req)
  | generationDrained (l : Lane) (index : Fin 4096)
  | portStats (q : Req)
  | macsecSaInstall (q : Req)
  | macsecSaMakeCurrent (q : Req)
  | macsecSaRetire (q : Req)
  | canSend (q : Req)
  | canRead (q : Req)
  | canFilterSet (q : Req)
  | sleepRequest (q : Req)
  | sleepCancel (q : Req)
  | wakeHold (q : Req)
  | bridgeRangeMark (q : Req)
  | keyLoad (q : Req)
  | keyReplace (q : Req)
  | keyDestroy (q : Req)
  | keyEvict (q : Req)
  | tamperAck (q : Req)
  | cipherCtxSet (q : Req)
  | cipherRun (q : Req)
  | cipherOperationDone (ctx : Fin 240)
  | cipherCtxFree (q : Req)
  | storageWrite (q : Req)
  | storageErase (q : Req)
  | storageDeviceDone (p : Prid)
  | externalStorageRead (l : Lane) (pair : Pair) (virt : Bool) (offset size : Nat)
  | updateBegin (q : Req)
  | stagingEraseDone (area : StagingArea)
  | updateBlock (q : Req)
  | updateVerify (q : Req)
  | updateVerifyDone
  | updateActivate (q : Req)
  | configBlock (q : Req)
  | configCommit (q : Req)
  | commitRestart
  | lifecycleSet (q : Req)
  | lifecycleWritten
  | debugEnable (q : Req)
  | roleSet (q : Req)
  | laneRestart (q : Req)
  | eventRead (q : Req)
  | faultLogRead (q : Req)
  | faultClearLog (q : Req)
  | faultClearCounts (q : Req)
  | doorbell (l : Lane) (w : Win) (v : Word)
  | requestTakeUp (l : Lane) (w : Win)
  | managementFrame (l : Lane) (f : MgmtFrame)
  | eqConsWrite (p : Prid) (v : Word)
  | registerWrite (l : Lane) (eq : Bool) (w : Win) (offset : Nat) (v : Word)
  | hgpridWrite (l : Lane) (pair : Pair) (mode : CoreMode) (v : DWord)
  | fabricAccess (l : Lane) (acc : Access)
  | rateWindowEnd
  | budgetPeriod (l : Lane) (pair : Pair)
  | budgetExhausted (l : Lane) (pair : Pair)
  | epochBoundary (offsetNs : Int)
  | agreementItemReceived (l : Lane) (item : Item)
  | timeWord (l : Lane)
  | timeWordTimeout (l : Lane)
  | linkFlitError (k : FlitLink) (again : Bool)
  | bridgeLinkHealthy
  | laneFault (l : Lane) (cause : Nat)
  | lockstepMismatch (l : Lane) (pair : LockPair) (cause : Fin 4)
  | comparatorTimeout (l : Lane) (pair : LockPair) (silent : Bool)
  | sweepPeriod (l : Lane)
  | debugHaltRequest (l : Lane) (pair : LockPair)
  | laneDownReceived (l : Lane) (cause : Nat) (pair : Nat)
  | restartDue (l : Lane)
  | laneStart (l : Lane) (env : StartEnv)
  | laneReady (l : Lane)
  | lanePairing (l : Lane) (found : PairingFound)
  | resyncCut (l : Lane) (holdUs : Nat)
  | resyncComplete (l : Lane) (ms : Nat)
  | modulePowerUp (mv : Nat)
  | powerDieLogicUp (d : Die)
  | t30Valid (mv : Nat)
  | t30Invalid (mv : Nat)
  | railsLowered (l : Lane) (mv : Nat)
  | railsRestored (l : Lane) (mv : Nat)
  | t30Overvoltage (mv : Nat)
  | feedBandChange (f : Feed) (band : FeedBand) (mv : Int)
  | feedReversed (f : Feed) (mv : Int)
  | feedUnreversed (f : Feed) (mv : Int)
  | feedReturnNextChannel (d : Die)
  | logicSourceReturn (d : Die)
  | refreshDue (l : Lane) (d : Die)
  | refresh (d : Die) (port : Lane) (dev10 : Bool)
  | set (d : Die) (port : Lane) (f : LinkFrame)
  | pwm (d : Die) (port : Lane) (f : LinkFrame)
  | multi (d : Die) (port : Lane) (f : LinkFrame)
  | keep (d : Die) (port : Lane) (f : LinkFrame)
  | role (d : Die) (port : Lane) (f : LinkFrame)
  | unlockFrame (d : Die) (port : Lane) (f : LinkFrame)
  | conf (d : Die) (port : Lane) (f : LinkFrame)
  | store (d : Die) (port : Lane) (f : LinkFrame)
  | read (d : Die) (port : Lane) (item : Nat)
  | ack (l : Lane) (d : Die)
  | status (l : Lane) (d : Die)
  | event (l : Lane) (d : Die)
  | powerFrameCrcFail (d : Die) (port : Lane)
  | pairingWindowEnd (d : Die) (num : Half)
  | preferredPortSilent (d : Die)
  | ackTimeout (l : Lane) (d : Die) (num : Half)
  | watchdogExpiry (d : Die)
  | diePollDue (l : Lane) (d : Die)
  | slopeEnd (c : Chan)
  | inrushWindowEnd (c : Chan)
  | inrushEarlyEnd (c : Chan)
  | pwmEdge (c : Chan) (onEdge : Bool)
  | clampEnd (c : Chan) (energyUj : Nat) (start10 : Int)
  | clampBinEnd (d : Die)
  | fastTrip (c : Chan)
  | shortInLimit (c : Chan)
  | fuseModelUpdate (d : Die) (substrate10 : Int) (m : List ChanMeas)
  | thermalShutdown (c : Chan)
  | tripHoldEnd (c : Chan)
  | thermalHoldEnd (c : Chan)
  | retryWindowEnd (c : Chan)
  | openLoadOnCheck (c : Chan) (f : Finding)
  | offStateCheck (c : Chan) (open' short : Finding)
  | stuckOnCheck (c : Chan) (f : Finding)
  | noOnCheck (c : Chan) (f : Finding)
  | senseMismatchCheck (c : Chan) (f : Finding)
  | shortGndClear (c : Chan)
  | isolationSwitchOpen (d : Die)
  | isolationSwitchClosed (d : Die)
  | isolationSwitchFault (d : Die) (c : Fin 16)
  | ledgerUpdate (d : Die)
  | counterCopy
  | inputScan (l : Lane) (i : Input) (mv : Int)
  | edgeTimerPeriod (l : Lane) (i : Input) (period high : Nat)
  | edgeTimeout (l : Lane) (i : Input)
  | wakeInputCheck (dom : Lane) (i : Input) (mv : Int)
  | roundStart (l : Lane)
  | beaconReceived (l : Lane) (b : Beacon)
  | ownSlotStart (l : Lane) (slot : Fin 64)
  | polledSlotStart (l : Lane) (slot : Fin 64)
  | pollReceived (l : Lane) (w : RingWire) (slot : Fin 64) (poll : Poll)
  | slotFrameReceived (l : Lane) (port : RingPort) (f : RingFrame)
  | openWindowFrame (l : Lane) (port : RingPort) (f : RingFrame)
  | delayMeasurementDue (l : Lane) (rge rgw : List Nat)
  | slotsEnd (l : Lane)
  | guardEnd (l : Lane)
  | dealerSilent (l : Lane)
  | ringGraceExpired (l : Lane)
  | coldStart (l : Lane)
  | keepBlock (l : Lane) (port : RingPort)
  | repeatCut (l : Lane) (port : RingPort)
  | ringLinkBreak (l : Lane) (port : RingPort)
  | linkHealthy (l : Lane) (port : RingPort)
  | frameIngress (l : Lane) (port : PhyPort) (sec : Option SecTag) (f : EthFrame)
  | vpTransmitDescriptor (l : Lane) (p : Prid)
  | egressTransmit (l : Lane) (port : PhyPort)
  | portLinkDown (l : Lane) (port : PhyPort)
  | portLinkUp (l : Lane) (port : PhyPort)
  | portHoldExpiry (l : Lane) (port : PhyPort)
  | deckCount (l : Lane) (free linked inFlight : Nat)
  | reclaimSweepEnd (l : Lane) (returned : Nat)
  | sequenceRecoveryReset (l : Lane) (handle : Fin 1024)
  | canFrameReceived (l : Lane) (b : Bus) (f : CanFrame)
  | canFrameSent (l : Lane) (b : Bus)
  | canTryFailed (l : Lane) (b : Bus) (error : Bool)
  | busOff (l : Lane) (b : Bus)
  | busOffRecovery (l : Lane) (b : Bus)
  | dominantTimeout (l : Lane) (b : Bus)
  | nmCycle
  | nmTimeout (b : Bus)
  | powerDownComplete
  | wakeSource (dom : Lane) (src : WakeSrc)
  | wakePin
  | wakeAckTimeout (dom : Lane)
  | noTrafficTimeout
  | keepawakeThreshold (network : Fin 14) (node : Nat)
  | bridgeWindowAccess (l : Lane) (pair : Pair) (virt : Bool) (op : BridgeOp) (offset size : Nat)
  | prefetchLifeExpiry (l : Lane) (pair : Pair)
  | bridgeCompletion (l : Lane) (pair : Pair) (collected : Bool)
  | lockExpiry
  | completionTimeout (l : Lane)
  | tamperAlarm (l : Lane) (k : TamperKind)
  | glitchClear
  | scrubPass (l : Lane) (r : ScrubFind)
  | aonCheck (l : Lane) (readOk rtcOk : Bool)
  | coolantEstimate (m : CoolantMeas)
  | dieTemperature (d : TempDie) (t10 : Int)
  | dieOvertempTimeout (network : Bool) (l : Lane) (t10 : Int)
  | faultLogAppend (l : Lane)
  | logHourEnd (l : Lane)
  | t30Band3Left (mv : Nat)
  | feedBelow18V (d : Die)
  | thermalWarning (c : Chan) (above : Bool)
  | activateTimeout
  | portActivityTimeout (l : Lane)
  | commandPortReturn (d : Die)
  | keyOperationDone (slot : Fin 255)
  | configCommitWritten
  | wakeCoordinationLinkFail
  | canBusError (l : Lane) (b : Bus) (tec rec : Nat)
  | ringLineEnergy (l : Lane) (port : RingPort)
  | fence (l : Lane) (pair : Pair) (virt : Bool) (order : FenceOrder)
  | macsecRxWaitExpiry (l : Lane)
  deriving DecidableEq, Repr

end Sys2Proof
end

