-- ==== Sys2Proof/Decode.lean ====
section
/-! DEFINITION. Decode: the commands of the block come as commands, and no row of spec/opcode_table.json gives bits. -/

namespace Sys2Proof

/-- The command that a word spells by the bits of the opcode table: none, as no row has bits. A mailbox request's bytes are
read by `reqOf` in Machine/Mail.lean, from the layout of R96 and R100. -/
def decodeTableWord (_nbits _w : Nat) : Option Instr := none

end Sys2Proof
end

