-- ==== Sys2Proof/Types/Core.lean ====
section
/-! DEFINITION. Types of the cores of a lockstep pair: architectural state, delay-FIFO tokens, and the credits of a weighted round
robin (10_lockstep_pairs.md; R144, R148). -/

namespace Sys2Proof

/-- A line of an L1 cache (R295). -/
structure CacheLine where
  index : Nat
  tag   : Nat
  dirty : Bool
  data  : List Byte
  deriving DecidableEq, Repr, Inhabited

/-- The architectural state that each core of a pair holds (R283, R295). -/
structure CoreArch where
  x      : List DWord           -- x0-x31
  f      : List DWord           -- f0-f31
  fcsr   : Word
  pc     : DWord
  mode   : CoreMode             -- privilege mode
  csrs   : List (Nat × DWord)   -- the other implemented CSRs, by address; an unlisted one holds 0
  dcache : List CacheLine       -- valid lines
  icache : List CacheLine
  deriving DecidableEq, Repr, Inhabited

/-- One core of a pair. `cycle` always equals `instret` (R40). -/
structure CoreSt where
  arch    : CoreArch
  hgprid  : Fin 32              -- R128
  instret : Nat                 -- retired instructions
  budget  : List Nat            -- remaining budget per PRID (R144)
  deriving DecidableEq, Repr

/-- The kinds of token (R286). -/
inductive TokenKind where
  | ordinary | trap | halt
  deriving DecidableEq, Repr

/-- A token of the delay FIFO (R286). The last two fields say what the fetch word spells, as the command gives it: whether the
instruction issues with virtualisation mode on, and what it writes to hgprid. -/
structure Token where
  kind   : TokenKind
  cause  : Byte                 -- asynchronous interrupt taken before the instruction
  fetch  : Word
  load   : DWord
  scOk   : Bool
  csrIn  : DWord
  out    : BitVec 128           -- address, size, kind and PRID of the instruction's fabric request
  sweep  : Byte
  parity : BitVec 39
  virt   : Bool
  guest  : Option (Fin 32)
  deriving DecidableEq, Repr

/-- The credits of the participants of a weighted round robin and the place of the next turn (R148). -/
structure Sched where
  credit : List Int
  turn   : Nat
  deriving DecidableEq, Repr

end Sys2Proof
end

