-- ==== Sys2Proof/Config.lean ====
section
/-! DEFINITION. Config: what one module or its makers fix, and the values the spec leaves open. The free values and the
cryptographic primitives are opaque constants, so no proof can rest on a value of theirs (log entries 3, 4, 5). -/

namespace Sys2Proof

/-- The n-th free 64-bit value the machine draws: the challenge of AUTH_CHALLENGE (R121 gives no generator). -/
opaque Config.freeWord : Nat → DWord

/-- The n-th free draw of a lane's random source for random early drop (R368), in millionths. -/
opaque Config.freeDraw : Nat → Nat

/-- The value a register file or a result holds where a rule states no value: the n-th free number. -/
opaque Config.freeNat : Nat → Nat

/-- The 64-bit module identity fixed in OTP (R120). -/
opaque Config.identity : DWord

/-- First address of the module's block of 64 MAC addresses, divided by 64 (R351). -/
opaque Config.macBlock : Nat

/-- The governor authentication key that slot 240 carries from manufacture, an AES-256 key (R126, R448). -/
opaque Config.authKeyOf : Vector Byte 32

/-- Its bytes. -/
def Config.authKey : List Byte := Config.authKeyOf.toList

/-- The Spire: the secret both network dies hold in OTP (R443). -/
opaque Config.spire : List Byte

/-- The counter-mode key derivation of R444: key, label, context. -/
opaque Config.kdfOf : List Byte → List Byte → List Byte → Vector Byte 32

/-- Its 32 bytes. -/
def Config.kdf (key label context : List Byte) : List Byte := (Config.kdfOf key label context).toList

/-- The P-384 public point of a private key, x then y (R450, R468). -/
opaque Config.p384PubOf : List Byte → Vector Byte 96

/-- Its 96 bytes. -/
def Config.p384Pub (key : List Byte) : List Byte := (Config.p384PubOf key).toList

/-- The ECDH shared secret of a private key and a public point (R453). -/
opaque Config.ecdh : List Byte → List Byte → List Byte

/-- The firmware verification public key of a life-cycle state that Ottum loads into slot 254 (R450). -/
opaque Config.firmwareKeyOf : Nat → Vector Byte 96

/-- Its 96 bytes. -/
def Config.firmwareKey (life : Nat) : List Byte := (Config.firmwareKeyOf life).toList

/-- AES-CMAC of a message under a key (R122, R469). -/
opaque Config.cmacOf : List Byte → List Byte → Vector Byte 16

/-- Its 16 bytes. -/
def Config.cmac (key message : List Byte) : List Byte := (Config.cmacOf key message).toList

/-- The key stream of AES-GCM under a key and a 12-byte IV, byte by byte (R474). -/
opaque Config.gcmStream : List Byte → List Byte → Nat → Byte

/-- AES-GCM encryption and decryption: data and key stream combine by exclusive or (R474, R478). -/
def Config.gcmText (key iv data : List Byte) : List Byte :=
  List.zipWith (· ^^^ ·) data ((List.range data.length).map (Config.gcmStream key iv))

/-- AES-GCM authentication tag over key, IV, additional data and ciphertext (R474). -/
opaque Config.gcmTagOf : List Byte → List Byte → List Byte → List Byte → Vector Byte 16

/-- Its 16 bytes. -/
def Config.gcmTag (key iv aad text : List Byte) : List Byte := (Config.gcmTagOf key iv aad text).toList

/-- XTS encryption of one 4,096-byte data unit: key, unit number, plaintext (R480). -/
opaque Config.xtsCipherOf : List Byte → Nat → List Byte → Vector Byte 4096

/-- Its bytes. -/
def Config.xtsCipher (key : List Byte) (unit : Nat) (text : List Byte) : List Byte := (Config.xtsCipherOf key unit text).toList

/-- XTS decryption of one data unit (R480). -/
opaque Config.xtsPlainOf : List Byte → Nat → List Byte → Vector Byte 4096

/-- Its bytes. -/
def Config.xtsPlain (key : List Byte) (unit : Nat) (text : List Byte) : List Byte := (Config.xtsPlainOf key unit text).toList

/-- SHA-384 of a message (R156, R450). -/
opaque Config.sha384Of : List Byte → Vector Byte 48

/-- Its 48 bytes. -/
def Config.sha384 (message : List Byte) : List Byte := (Config.sha384Of message).toList

/-- Whether an ECDSA P-384 signature (third) with SHA-384 of a message (second) verifies under a public key (first) (R491). -/
opaque Config.ecdsaOk : List Byte → List Byte → List Byte → Bool

/-- Ottum's migration table: the record bytes of a configuration image of an older format in a newer one (R505). -/
opaque Config.migrateCfg : Nat → Nat → List Byte → List Byte

/-- The n-th free unit of external storage: what a unit written over unerased data holds (R481). -/
opaque Config.freeUnit : Nat → Vector Byte 4096

/-- What a bank of a fail-safe store holds when the write with a count broke off (R206). -/
opaque Config.tornRecord : Nat → Vector Byte 72

/-- Whether the self-test of a key that stands in a shadow register passes (R456). -/
opaque Config.selfTestOk : List Byte → Bool

/-- The instruction word that a core fetches. -/
opaque Config.fetched : CoreArch → Word

/-- What executing a fetched word makes of a core's architectural state, given the value of its load, the success of its
store-conditional and the value of a CSR outside the pair: the instruction set is not of this block. -/
opaque Config.executed : CoreArch → Word → DWord → Bool → DWord → CoreArch

/-- What a core presents to the comparator for its fabric request: address, size, PRID, byte mask and data (R288). -/
opaque Config.request : CoreArch → Word → List Byte

/-- Whether a core takes a pending interrupt of a number: 9, 12 for a guest external one, 24. -/
opaque Config.takes : CoreArch → Nat → Bool

/-- Whether the node generation table of a module authenticates (R447). -/
opaque Config.genTableOk : Bool

end Sys2Proof
end

