-- ==== Sys2Proof/Machine/Bits.lean ====
section
/-! DEFINITION. Helpers over bytes, bits, lists, sparse memories and lane pairs that every meaning uses: byte order (R13),
the check words of R102, R194 and R295, and the canonical sparse memory. -/

namespace Sys2Proof

/-- The value of one lane. -/
def PerLane.get {α : Type} (p : PerLane α) : Lane → α
  | .a => p.a
  | .b => p.b

/-- The pair with one lane's value replaced. -/
def PerLane.set {α : Type} (p : PerLane α) (l : Lane) (v : α) : PerLane α :=
  match l with
  | .a => { p with a := v }
  | .b => { p with b := v }

/-- The pair with one lane's value changed. -/
def PerLane.upd {α : Type} (p : PerLane α) (l : Lane) (f : α → α) : PerLane α := p.set l (f (p.get l))

/-- Both values changed by one function. -/
def PerLane.map {α β : Type} (p : PerLane α) (f : α → β) : PerLane β := ⟨f p.a, f p.b⟩

/-- The same value in both lanes. -/
def PerLane.both {α : Type} (v : α) : PerLane α := ⟨v, v⟩

/-- The other lane. -/
def Lane.other : Lane → Lane
  | .a => .b
  | .b => .a

/-- The lane's number in events and parameters: 0 Lane A, 1 Lane B (R534). -/
def Lane.num : Lane → Nat
  | .a => 0
  | .b => 1

/-- 1 for true. -/
def b2n (b : Bool) : Nat := if b then 1 else 0

/-- The list with the element at an index changed; unchanged when there is none. -/
def updAt {α : Type} : List α → Nat → (α → α) → List α
  | [], _, _ => []
  | x :: xs, 0, f => f x :: xs
  | x :: xs, n + 1, f => x :: updAt xs n f

/-- The list with the element at an index replaced. -/
def setAt {α : Type} (l : List α) (i : Nat) (v : α) : List α := updAt l i (fun _ => v)

/-- Each element changed by a function of its index, counting from `n`. -/
def mapIdxFrom {α β : Type} (f : Nat → α → β) : Nat → List α → List β
  | _, [] => []
  | n, x :: xs => f n x :: mapIdxFrom f (n + 1) xs

/-- The value a key has in an association list. -/
def assocD {β : Type} (dflt : β) : List (Nat × β) → Nat → β
  | [], _ => dflt
  | (k, v) :: t, i => if k = i then v else assocD dflt t i

/-- An association list with one key set. -/
def assocSet {β : Type} (l : List (Nat × β)) (k : Nat) (v : β) : List (Nat × β) :=
  (k, v) :: l.filter (fun e => e.1 != k)

/-- A list in the order of a relation; elements that the relation does not separate keep their order. -/
def sortBy {α : Type} (le : α → α → Bool) : List α → List α
  | [] => []
  | x :: t => insertFront le x (sortBy le t)
where
  /-- An element placed before the elements that it may stand before. -/
  insertFront (le : α → α → Bool) (x : α) : List α → List α
    | [] => [x]
    | y :: t => if le x y then x :: y :: t else y :: insertFront le x t

/-! ## Numbers and bytes (R13: little-endian in mailboxes and memory, big-endian in network frames) -/

/-- The number that bytes spell, least significant byte first. -/
def leNat : List Byte → Nat
  | [] => 0
  | b :: bs => b.toNat + 256 * leNat bs

/-- `n` bytes of a number, least significant first. -/
def leBytes : Nat → Nat → List Byte
  | 0, _ => []
  | n + 1, v => BitVec.ofNat 8 v :: leBytes n (v / 256)

/-- The number that bytes spell, most significant byte first. -/
def beNat (l : List Byte) : Nat := leNat l.reverse

/-- `n` bytes of a number, most significant first. -/
def beBytes (n v : Nat) : List Byte := (leBytes n v).reverse

/-- `len` bytes of a list from an offset. -/
def bytesAt (l : List Byte) (off len : Nat) : List Byte := (l.drop off).take len

/-- The byte at an offset as a number, 0 when there is none. -/
def byteAt (l : List Byte) (off : Nat) : Nat := (l.getD off 0).toNat

/-- The little-endian number of `len` bytes at an offset. -/
def fieldAt (l : List Byte) (off len : Nat) : Nat := leNat (bytesAt l off len)

/-- Whether the bytes at an offset are all zero (a res field, R14). -/
def zerosAt (l : List Byte) (off len : Nat) : Bool := (bytesAt l off len).all (· == 0)

/-- `n` zero bytes. -/
def zeroBytes (n : Nat) : List Byte := List.replicate n 0

/-- The bytes that replace those at an offset. -/
def spliceAt (l : List Byte) (off : Nat) (v : List Byte) : List Byte :=
  l.take off ++ v ++ l.drop (off + v.length)

/-- The signed value of an unsigned encoding of `n` bytes. -/
def toSigned (n v : Nat) : Int := if v < 2 ^ (8 * n - 1) then v else (v : Int) - 2 ^ (8 * n)

/-- The unsigned encoding of a signed value in `n` bytes. -/
def ofSigned (n : Nat) (v : Int) : Nat := (v % (2 ^ (8 * n) : Int)).toNat

/-- A number kept within a range. -/
def clampInt (lo hi v : Int) : Int := if v < lo then lo else if hi < v then hi else v

/-- A number kept at or below a limit. -/
def satNat (hi v : Nat) : Nat := if hi < v then hi else v

/-- The number whose bit n is element n of the list. -/
def bitsOf : List Bool → Nat
  | [] => 0
  | b :: bs => b2n b + 2 * bitsOf bs

/-- The indices below `n` whose bit is set. -/
def bitIdx (n v : Nat) : List Nat := (List.range n).filter (fun i => v.testBit i)

/-- The largest whole number at or below a rational. -/
def ratFloor (q : Rat) : Int := q.floor

/-- A rational at or above 0 as the whole number below it. -/
def ratNat (q : Rat) : Nat := q.floor.toNat

/-! ## Check words -/

/-- One bit of a reflected CRC. -/
def crcStepR (poly c : Nat) : Nat := if c % 2 = 1 then (c / 2) ^^^ poly else c / 2

/-- One byte of a reflected CRC. -/
def crcByteR (poly c : Nat) (b : Byte) : Nat :=
  (List.range 8).foldl (fun c _ => crcStepR poly c) (c ^^^ b.toNat)

/-- CRC-32C (R102): reflected polynomial 0x82F63B78, initial value and final XOR of ones. -/
def crc32c (l : List Byte) : Nat := (l.foldl (crcByteR 0x82F63B78) 0xFFFFFFFF) ^^^ 0xFFFFFFFF

/-- One bit of an unreflected CRC of `w` bits. -/
def crcStepN (w poly c : Nat) : Nat :=
  if c.testBit (w - 1) then ((2 * c) % 2 ^ w) ^^^ poly else (2 * c) % 2 ^ w

/-- One byte of an unreflected CRC of `w` bits. -/
def crcByteN (w poly c : Nat) (b : Byte) : Nat :=
  (List.range 8).foldl (fun c _ => crcStepN w poly c) (c ^^^ (b.toNat * 2 ^ (w - 8)))

/-- CRC-16 of the power command link (R194): polynomial 0x1021, initial value 0xFFFF. -/
def crc16 (l : List Byte) : Nat := l.foldl (crcByteN 16 0x1021) 0xFFFF

/-- CRC-64 of ECMA-182 from an initial value of 0 (R295, R297). -/
def crc64 (l : List Byte) : Nat := l.foldl (crcByteN 64 0x42F0E1EBA9EA3693) 0

/-! ## Sparse memories: addresses strictly rising, no entry equal to what an unlisted address reads as -/

/-- The byte at an address: the listed one, else `dflt`. -/
def memGet (dflt : Byte) : List (Nat × Byte) → Nat → Byte
  | [], _ => dflt
  | (k, v) :: t, a => if k = a then v else memGet dflt t a

/-- The memory with one byte written, in canonical form. -/
def memSet (dflt : Byte) : List (Nat × Byte) → Nat → Byte → List (Nat × Byte)
  | [], a, v => if v = dflt then [] else [(a, v)]
  | (k, w) :: t, a, v =>
    if a < k then (if v = dflt then (k, w) :: t else (a, v) :: (k, w) :: t)
    else if a = k then (if v = dflt then t else (a, v) :: t)
    else (k, w) :: memSet dflt t a v

/-- The canonical form above a bound: every listed address is at least `lo`, addresses rise, no entry is `dflt`. -/
def memWfFrom (dflt : Byte) : Nat → List (Nat × Byte) → Bool
  | _, [] => true
  | lo, (k, v) :: t => decide (lo ≤ k) && decide (v ≠ dflt) && memWfFrom dflt (k + 1) t

/-- The canonical form of a memory. -/
def Memory.wf (dflt : Byte) (m : List (Nat × Byte)) : Bool := memWfFrom dflt 0 m

/-- `len` bytes from an address. -/
def memRead (dflt : Byte) (m : List (Nat × Byte)) (a : Nat) : Nat → List Byte
  | 0 => []
  | len + 1 => memGet dflt m a :: memRead dflt m (a + 1) len

/-- Bytes written from an address on. -/
def memWrite (dflt : Byte) (m : List (Nat × Byte)) : Nat → List Byte → List (Nat × Byte)
  | _, [] => m
  | a, v :: vs => memWrite dflt (memSet dflt m a v) (a + 1) vs

/-- The bytes of a range put back to what an unlisted address reads as. -/
def memErase (m : List (Nat × Byte)) (base len : Nat) : List (Nat × Byte) :=
  m.filter (fun e => e.1 < base || base + len ≤ e.1)

end Sys2Proof
end

