-- ==== Sys2Proof/Types/Chan.lean ====
section
/-! DEFINITION. Types of the state of a power die and its channels (06_load_channels_switching.md,
07_load_channels_protection.md), and of Ottum's side of the command link (R192-R201). -/

namespace Sys2Proof

/-- What the gate of a channel is doing (R174, R176, R183, R191). -/
inductive Phase where
  | off | rising | on | falling | clamp      -- switching on and off
  | pwmOn | pwmOff | pwmClamp                -- phases of a running PWM; pwmClamp: its turn-off has not ended (R554)
  deriving DecidableEq, Repr

/-- The last command acted upon (chan.command, R209). -/
inductive Cmd where
  | off | on | pwm
  deriving DecidableEq, Repr

/-- The queued command of a channel (R191; chan.pending). -/
inductive Queued where
  | none | on | pwm (freq duty : Nat)
  deriving DecidableEq, Repr

/-- What CHAN_STATUS reports of a channel, as one 1 ms update of its die took it (R234). -/
structure ChanSnap where
  state   : Nat
  cause   : Nat
  retries : Nat
  flags   : BitVec 16
  last    : Nat
  lock    : Nat
  ma      : Int
  v10     : Int
  local10 : Int
  tw10    : Int
  window  : Nat                -- mJ
  ledger  : Nat
  deriving DecidableEq, Repr

/-- One load channel as its die holds it. -/
structure ChanSt where
  enabled    : Bool            -- R168
  phase      : Phase           -- R174
  command    : Cmd             -- R209
  freq       : Nat             -- frequency in force, Hz (R209)
  duty       : Nat             -- duty in force, 0.1 % (R177)
  cmdDuty    : Nat             -- duty commanded, 0.1 % (R177)
  nextPwm    : Option (Nat × Nat)  -- frequency and duty taken at the next period (R176)
  phase256   : Nat             -- phase of its slot, 1/256 period, as the last PWM frame brought it (R178, R193)
  inSlot     : Bool            -- its periods start in its phase slot: false during a first period that does not (R178)
  queued     : Queued          -- R191
  onDue      : Bool            -- a PWM on-phase is due behind a running turn-off (R554)
  waitFeed   : Bool            -- an on-command waits for the sequence of R71 (R225 case 13, R230)
  inrush     : Bool            -- inrush window open (R179)
  stretched  : Bool            -- the window lasts the class maximum (R180)
  clampMode  : Bool            -- clamp mode taken at the running turn-off: true external freewheel (R182)
  fastOff    : Bool            -- the running turn-off uses the fast slope of R211
  lock       : Fin 3           -- R187
  bins       : List Nat        -- clamp energy per 50 ms bin, microjoule, present bin first (R186)
  lastUj     : Nat             -- R184
  clampCount : Nat             -- R190
  wear       : Nat             -- 10^-6 equivalents (R190)
  switchCount : Nat            -- R190
  tripHold   : Bool            -- R211
  fuseHold   : Bool            -- R218
  thermHold  : Bool            -- R221
  nbrHold    : Bool            -- the thermal hold is neighbour-coupled (R222)
  thermLatch : Bool            -- R221
  retryLatch : Bool            -- R223
  protLast   : Fin 6           -- R211
  trips      : Nat             -- R236
  retryUsed  : Nat             -- R223
  offByProt  : Bool            -- a protective turn-off since the retry counter last reset (R223)
  thermCount : Nat             -- R221
  lastTripMs : Option Nat      -- die millisecond of the last fast trip or short in limit (R222)
  dtw        : Rat             -- R215
  dtn        : Rat             -- R215, R217
  tw         : Rat             -- estimate, degrees C (R215)
  local10    : Int             -- local sensor, 0.1 degrees C (R221)
  ma         : Int             -- mean current, mA (R236)
  v10        : Int             -- output voltage, 10 mV (R236)
  flags      : BitVec 16       -- chan.diag.flags (R235)
  openRun    : Nat             -- consecutive off-state checks finding open load (R227)
  shortRun   : Nat             -- same for short to battery
  ledger     : Nat             -- index, millionths (R233)
  ledgerFrac : Rat             -- carried fraction of a millionth (R233)
  ledgerSum  : Rat             -- sum of the weights of this second's steps (R233)
  ledgerSteps : Nat            -- steps of this second (R233)
  snap       : ChanSnap        -- R234
  deriving DecidableEq, Repr

/-- One entry of a fail-safe store (R206): 0 OFF, 1 ON, 2 HOLD, 3 PWM. -/
structure FsEntry where
  st   : Fin 4
  duty : Nat
  freq : Nat
  deriving DecidableEq, Repr

/-- One bank of a fail-safe store: the 72 bytes of its record (R206). -/
structure FsBank where
  bytes : List Byte
  deriving DecidableEq, Repr

/-- One bank of the isolation record: its 8 bytes (R231). -/
structure IsoBank where
  bytes : List Byte
  deriving DecidableEq, Repr

/-- The sequenced kinds of R193. -/
inductive SeqKind where
  | set | pwm | multi | keep | role | unlock | conf | store
  deriving DecidableEq, Repr

/-- A sequenced frame a die holds or has acted upon. `ms`: the die's millisecond at that moment (R197). -/
structure DieFrame where
  kind  : SeqKind
  frame : LinkFrame
  ms    : Nat
  deriving DecidableEq, Repr

/-- A report of a die in an EVENT frame (R193): protection, lock, watchdog, store. `chan` none: a report of the die. -/
structure DieReport where
  ev      : Nat
  cause   : Nat
  subject : Nat
  detail  : Int
  deriving DecidableEq, Repr

/-- What a STATUS reply shows of one channel: chan.state, chan.pending, and whether a lock or latch refuses on-commands
(R200, R209). -/
structure ChanView where
  state   : Nat
  pending : Nat
  refuses : Bool
  deriving DecidableEq, Repr

/-- What a die sends to a lane (R193 kinds 0xA to 0xC). -/
inductive DieMsg where
  | ack (num : Half) (copy : Fin 4) (applied queued refused : BitVec 16) (outcome : Nat)
  | status (item : Nat) (l : Half) (portA portB failSafe : Bool) (chans : List ChanView)
  | event (r : DieReport)
  deriving DecidableEq, Repr

/-- The positions of the isolation switch (R232). -/
inductive IsoState where
  | closed | opened | opening | closing
  deriving DecidableEq, Repr

/-- One power die. -/
structure DieSt where
  powered    : Bool            -- logic rail up (R74, R75)
  source     : Fin 3           -- logic source: 0 T30, 1 FEED_A, 2 FEED_B (R74)
  ms         : Nat             -- its own time scale, ms, advanced by the 1 ms update (R186, R215)
  chans      : List ChanSt     -- 16 channels
  preferred  : Lane            -- preferred port (R196, R199)
  lnum       : Half            -- L (R195)
  held       : List DieFrame   -- standby copies held, oldest first (R196, R198)
  acted      : List DieFrame   -- recent acted frames, newest first (R196, R197)
  failSafe   : Bool            -- fail-safe mode (R202, R204)
  taken      : Bool            -- taken over since logic power-up (R168)
  wdtMs      : Nat             -- timeout in force (R202)
  wdtNext    : Nat             -- timeout to take at the next valid frame (R202)
  expiries   : Nat             -- R210
  crc        : PerLane Nat     -- frames failing CRC-16 per port (R31)
  crcTimes   : PerLane (List Nat) -- their die milliseconds within the last 100 ms (R31)
  standbyActed : Nat           -- R209
  divergence : Nat             -- R196, R197
  gaps       : Nat             -- R195
  oldDiscarded : Nat           -- R197
  lastValid  : PerLane (Option Nat) -- die millisecond of the last valid frame per port (R199, R269)
  devRun     : Nat             -- consecutive REFRESH intervals differing by more than 10 % (R205)
  wdtFault   : Bool            -- R205
  toLane     : PerLane (List DieMsg) -- frames toward each lane not yet received (R193, R200)
  store      : PerLane FsBank  -- two banks (R206)
  storeCfg   : List FsEntry    -- configured states the die received in CONF frames (R193, R207)
  storeBad   : Bool            -- check failed at logic power-up, report waits for the take-over (R77)
  storing    : Option Lane     -- the bank a STORE is writing (R206, R207)
  iso        : IsoState        -- R232
  isoBanks   : PerLane IsoBank -- R231
  isoBad     : Bool            -- no valid isolation record, report waits for the take-over (R231)
  isoStuck   : BitVec 16       -- channels that were stuck-on when the switch last opened (R230)
  substrate10 : Int            -- substrate sensor, 0.1 degrees C (R236)
  feedNext   : Option Nat      -- next local index of the feed-return sequence (R71)
  pwmRefs    : List (Nat × Nat) -- the reference of each frequency in use: the frequency and the local index that set it (R178)
  reverseOn  : Bool            -- the reversed feed drives every channel on, logic rail or not (R73)
  offSince   : Option Nat      -- its millisecond at the command that turned every channel off before sleep (R86)
  conf       : List (Nat × Nat) -- values taken from CONF frames: member * 16 + local index (R193)
  deriving DecidableEq, Repr

/-- A sequenced frame Ottum has sent and not yet seen acknowledged in both lanes (R200). -/
structure Unacked where
  num   : Half
  kind  : SeqKind
  frame : LinkFrame
  doneA : Bool
  doneB : Bool
  asked : PerLane Bool         -- the lane has sent READ for want of its ACK (R200)
  was   : List Nat             -- chan.state of the die's channels when it was sent
  outcome : Nat                -- outcome of the acknowledgement (R171)
  deriving DecidableEq, Repr

/-- Counters of one channel kept in the parameter store (R190, R233). -/
structure Restored where
  clampCount : Nat
  wear       : Nat
  switchCount : Nat
  ledger     : Nat
  deriving DecidableEq, Repr

/-- Ottum's side of one die: the command stream and the poll of R518. -/
structure DieLink where
  lastNum  : Half              -- number of the last sequenced frame sent (R192)
  unacked  : List Unacked      -- R200
  lost     : Bool              -- fault.die.lost (R518)
  shown    : Option DieSt      -- what the die's parameters keep showing while it is silent (R518)
  missed   : PerLane Nat       -- consecutive READs without reply per lane (R518)
  refreshes : PerLane Nat      -- REFRESH frames sent (R201)
  refreshNum : Half            -- the number that the last REFRESH carried (R193)
  reads    : PerLane Nat       -- READ frames sent (R518)
  saved    : List Restored     -- parameter store copy of the counters, 16 channels (R190)
  silentReport : PerLane Bool  -- port-activity reply awaited (R269)
  deriving DecidableEq, Repr

end Sys2Proof
end

