-- ==== Sys2Proof/Machine/Frames.lean ====
section
/-! DEFINITION. The bytes of the power command link and of a die's NVM: the 12-byte frame (R192-R194), the fail-safe record
(R206) and the isolation record (R231). -/

namespace Sys2Proof

/-! ## Power command frames (R192, R193) -/

/-- The kind nibble of a sequenced frame. -/
def SeqKind.code : SeqKind → Nat
  | .set => 1 | .pwm => 2 | .multi => 3 | .keep => 4 | .role => 5 | .unlock => 6 | .conf => 7 | .store => 8

/-- The sequenced kind of a nibble. -/
def seqKindOf : Nat → Option SeqKind
  | 1 => some .set | 2 => some .pwm | 3 => some .multi | 4 => some .keep | 5 => some .role | 6 => some .unlock
  | 7 => some .conf | 8 => some .store | _ => none

/-- Bytes 0-9 of a frame: kind and index, copy byte, sequence, argument. -/
def frameBody (kind idx copy num : Nat) (arg : List Byte) : List Byte :=
  BitVec.ofNat 8 (16 * kind + idx) :: BitVec.ofNat 8 copy :: (leBytes 2 num ++ arg)

/-- A whole frame: bytes 0-9 and their CRC-16 (R194). -/
def frameBytes (kind idx copy num : Nat) (arg : List Byte) : List Byte :=
  let body := frameBody kind idx copy num arg
  body ++ leBytes 2 (crc16 body)

/-- The bytes of a sequenced frame; its copy byte is res. -/
def LinkFrame.bytes (f : LinkFrame) (k : SeqKind) : List Byte := frameBytes k.code f.idx.val 0 f.num.toNat f.arg

/-- The bytes of a REFRESH, which carries the last sequenced number sent. -/
def refreshBytes (num : Half) : List Byte := frameBytes 0 0 0 num.toNat (zeroBytes 6)

/-- The bytes of a READ of an item. -/
def readBytes (item : Nat) : List Byte := frameBytes 9 0 0 0 (leBytes 1 item ++ zeroBytes 5)

/-- What a port of a die makes of the bytes that arrive. -/
inductive PortFrame where
  | crcWrong
  | refresh
  | seq (k : SeqKind) (f : LinkFrame)
  | read (item : Nat)
  | discarded
  deriving DecidableEq, Repr

/-- The frame that 12 bytes spell: a wrong check word, one of the kinds toward a die, or one that is discarded (R193, R194). -/
def portFrame (l : List Byte) : PortFrame :=
  if l.length ≠ 12 ∨ crc16 (l.take 10) ≠ fieldAt l 10 2 then .crcWrong
  else match byteAt l 0 / 16 with
    | 0 => .refresh
    | 9 => .read (byteAt l 4)
    | k => match seqKindOf k with
      | some k => .seq k { num := BitVec.ofNat 16 (fieldAt l 2 2), idx := Fin.ofNat 16 (byteAt l 0), arg := bytesAt l 4 6 }
      | none => .discarded

/-! ## The fail-safe record (R206) -/

/-- A stored fail-safe state OFF. -/
def FsEntry.off : FsEntry := { st := 0, duty := 0, freq := 0 }

/-- The word of one channel: state, duty and frequency in their 2, 10 and 12 bits. -/
def FsEntry.word (e : FsEntry) : Nat := e.st.val * 2 ^ 30 + e.duty % 1024 * 2 ^ 20 + e.freq % 4096 * 2 ^ 8

/-- The state that a word of the record holds. -/
def fsEntryOf (w : Nat) : FsEntry :=
  { st := Fin.ofNat 4 (w / 2 ^ 30), duty := w / 2 ^ 20 % 1024, freq := w / 2 ^ 8 % 4096 }

/-- Bytes 0-67 of a record: the 16 words and the write count. -/
def fsBody (es : List FsEntry) (count : Nat) : List Byte :=
  ((List.range 16).flatMap fun i => leBytes 4 (es.getD i FsEntry.off).word) ++ leBytes 4 count

/-- A record with its check word. -/
def FsBank.of (es : List FsEntry) (count : Nat) : FsBank :=
  { bytes := fsBody es count ++ leBytes 4 (crc32c (fsBody es count)) }

/-- The 16 states that a bank holds. -/
def FsBank.entries (k : FsBank) : List FsEntry := (List.range 16).map fun i => fsEntryOf (fieldAt k.bytes (4 * i) 4)

/-- The write count as the bank holds it. -/
def FsBank.count (k : FsBank) : Nat := fieldAt k.bytes 64 4

/-- The check word is correct. -/
def FsBank.valid (k : FsBank) : Bool := k.bytes.length == 72 && crc32c (k.bytes.take 68) == fieldAt k.bytes 68 4

/-! ## The isolation record (R231) -/

/-- Bytes 0-5 of a record: policy, state, res, write count. -/
def isoBody (policy : Fin 3) (opened : Bool) (count : Nat) : List Byte :=
  leBytes 1 policy.val ++ leBytes 1 (b2n opened) ++ zeroBytes 2 ++ leBytes 2 count

/-- A record with its check word. -/
def IsoBank.of (policy : Fin 3) (opened : Bool) (count : Nat) : IsoBank :=
  { bytes := isoBody policy opened count ++ leBytes 2 (crc16 (isoBody policy opened count)) }

/-- The policy that a bank holds. -/
def IsoBank.policy (k : IsoBank) : Fin 3 := Fin.ofNat 3 (byteAt k.bytes 0)

/-- The bank holds the state open. -/
def IsoBank.opened (k : IsoBank) : Bool := byteAt k.bytes 1 == 1

/-- The write count as the bank holds it. -/
def IsoBank.count (k : IsoBank) : Nat := fieldAt k.bytes 4 2

/-- The check word is correct. -/
def IsoBank.valid (k : IsoBank) : Bool := k.bytes.length == 8 && crc16 (k.bytes.take 6) == fieldAt k.bytes 6 2

end Sys2Proof
end

