-- ==== Sys2Proof/Machine/Params.lean ====
section
/-! DEFINITION. The parameters of the module (R15, R16, R116): identity, type, instances, access, range and value after
start of every row of the parameter tables, and the lookups over them. A value is held as its unsigned encoding; a bytes
value is the little-endian number of its bytes. -/

namespace Sys2Proof

/-- Parameter types (R116). -/
inductive PTy where
  | u8 | u16 | u32 | u64 | i8 | i16 | i32
  | bytes (n : Nat)
  deriving DecidableEq, Repr

/-- The Access column. -/
inductive PAcc where
  | r | rw | ro | g
  deriving DecidableEq, Repr

/-- Which instances a parameter has (R16 and the parameter sections of the chapters). -/
inductive PInst where
  | one | prid | chan | die | input | bus | phy | phyNoRing | vp | slot | ctx
  deriving DecidableEq, Repr

/-- One row of a parameter table: range and value after start; the class of a channel or the port narrows some (R209). -/
structure ParamDef where
  id   : Nat
  ty   : PTy
  inst : PInst
  acc  : PAcc
  lo   : Int
  hi   : Int
  dflt : Nat
  deriving DecidableEq, Repr

/-- The type code of R116. -/
def PTy.code : PTy → Nat
  | .u8 => 0x01 | .u16 => 0x02 | .u32 => 0x03 | .u64 => 0x04
  | .i8 => 0x11 | .i16 => 0x12 | .i32 => 0x13 | .bytes _ => 0x20

/-- The length of a value in bytes (R116). -/
def PTy.len : PTy → Nat
  | .u8 => 1 | .u16 => 2 | .u32 => 4 | .u64 => 8
  | .i8 => 1 | .i16 => 2 | .i32 => 4 | .bytes n => n

/-- Whether values of the type are signed. -/
def PTy.signed : PTy → Bool
  | .i8 => true | .i16 => true | .i32 => true | _ => false

/-- A value as the number it stands for. -/
def PTy.value (t : PTy) (v : Nat) : Int := if t.signed then toSigned t.len v else v

/-- All sixteen policers of a bank disabled: rates 0, the smallest buckets, flags 0 (R367; the bucket sizes are the
model's, log entry 7). -/
def policerBankDefault : Nat :=
  leNat ((List.range 16).flatMap fun _ =>
    leBytes 4 0 ++ leBytes 4 0 ++ leBytes 3 2048 ++ leBytes 1 0 ++ leBytes 3 2048 ++ leBytes 1 0)

/-- Group 0x01. -/
def paramGroup01 : List ParamDef :=
  [ ⟨0x0120, .u16, .one, .ro, 0, 60000, 0⟩,
    ⟨0x0121, .u8, .one, .ro, 1, 3, 0⟩,
    ⟨0x0122, .i32, .one, .ro, (-36000), 60000, 0⟩,
    ⟨0x0123, .i32, .one, .ro, (-36000), 60000, 0⟩,
    ⟨0x0124, .u8, .one, .ro, 0, 255, 0⟩,
    ⟨0x0125, .u8, .one, .ro, 0, 5, 0⟩,
    ⟨0x0128, .u8, .one, .g, 4, 20, 16⟩,
    ⟨0x0129, .u16, .one, .g, 0, 240, 0⟩,
    ⟨0x012A, .u32, .one, .ro, 0, 72000, 0⟩,
    ⟨0x012B, .u32, .one, .ro, 0, 72000, 0⟩,
    ⟨0x012C, .u8, .one, .ro, 0, 3, 0⟩,
    ⟨0x012D, .u8, .one, .ro, 0, 4, 0⟩,
    ⟨0x0140, .u8, .one, .ro, 0, 2, 0⟩,
    ⟨0x0141, .u8, .one, .ro, 0, 4, 0⟩,
    ⟨0x0142, .u8, .one, .ro, 0, 4, 0⟩,
    ⟨0x0143, .u16, .one, .ro, 0, 65535, 0⟩,
    ⟨0x0144, .u16, .one, .ro, 0, 65535, 0⟩,
    ⟨0x0145, .u32, .one, .ro, 0, 0xffffffff, 0⟩,
    ⟨0x0146, .u32, .one, .ro, 0, 0xffffffff, 0⟩,
    ⟨0x0147, .u8, .one, .ro, 0, 6, 0⟩,
    ⟨0x0148, .u8, .one, .ro, 0, 32, 0⟩,
    ⟨0x0149, .u16, .one, .ro, 0, 100, 0⟩,
    ⟨0x014A, .u32, .one, .ro, 0, 26000, 0⟩,
    ⟨0x014B, .u16, .one, .g, 256, 4096, 1024⟩,
    ⟨0x014C, .i16, .one, .ro, (-32768), 32767, 0⟩,
    ⟨0x014D, .u32, .one, .ro, 0, 0xffffffff, 0⟩,
    ⟨0x0150, .u32, .one, .ro, 0, 0xffffffff, 0⟩,
    ⟨0x0151, .u32, .one, .ro, 0, 0xffffffff, 0⟩,
    ⟨0x0152, .u16, .one, .ro, 0, 65535, 0⟩,
    ⟨0x0153, .u8, .one, .ro, 0, 255, 0⟩,
    ⟨0x0154, .u8, .one, .ro, 0, 255, 0⟩,
    ⟨0x0155, .u32, .one, .ro, 0, 0xffffffff, 0⟩,
    ⟨0x0156, .u32, .one, .ro, 0, 0xffffffff, 0⟩,
    ⟨0x0157, .u8, .one, .ro, 0, 8, 0⟩,
    ⟨0x0158, .u8, .one, .ro, 0, 8, 0⟩ ]

/-- Group 0x10. -/
def paramGroup10 : List ParamDef :=
  [ ⟨0x1001, .u8, .prid, .r, 0, 5, 0⟩,
    ⟨0x1002, .u8, .prid, .rw, 1, 255, 16⟩,
    ⟨0x1003, .u8, .prid, .rw, 1, 255, 16⟩,
    ⟨0x1004, .u8, .prid, .rw, 1, 255, 16⟩,
    ⟨0x1008, .u32, .prid, .rw, 100, 100000, 10000⟩,
    ⟨0x1009, .u8, .prid, .rw, 1, 64, 16⟩,
    ⟨0x100A, .u32, .prid, .rw, 1, 32000, 2000⟩,
    ⟨0x100B, .u16, .prid, .rw, 4, 1024, 64⟩,
    ⟨0x100C, .u32, .prid, .rw, 1, 32000, 1000⟩,
    ⟨0x100D, .u16, .prid, .rw, 4, 1024, 64⟩,
    ⟨0x1010, .u16, .prid, .rw, 1, 100, 5⟩,
    ⟨0x1018, .u32, .prid, .r, 0, 0xffffffff, 0⟩,
    ⟨0x1019, .u8, .prid, .r, 0, 6, 0⟩,
    ⟨0x101A, .u64, .prid, .r, 0, 0xffffffffffffffff, 0⟩,
    ⟨0x1020, .u32, .prid, .r, 0, 0xffffffff, 0⟩,
    ⟨0x1021, .u8, .prid, .rw, 0, 63, 63⟩ ]

/-- Group 0x20. -/
def paramGroup20 : List ParamDef :=
  [ ⟨0x2001, .u8, .chan, .rw, 0, 1, 0⟩,
    ⟨0x2002, .u8, .chan, .r, 0, 6, 0⟩,
    ⟨0x2003, .u8, .chan, .r, 0, 2, 0⟩,
    ⟨0x2004, .u8, .chan, .rw, 0, 3, 1⟩,
    ⟨0x2005, .u16, .chan, .r, 0, 65535, 0⟩,
    ⟨0x2006, .u16, .chan, .r, 0, 1000, 0⟩,
    ⟨0x2007, .u8, .chan, .rw, 0, 255, 0⟩,
    ⟨0x2008, .u8, .chan, .rw, 0, 100, 0⟩,
    ⟨0x2009, .u16, .chan, .rw, 50, 1600, 0⟩,
    ⟨0x200A, .u8, .chan, .rw, 0, 1, 0⟩,
    ⟨0x200B, .u16, .chan, .rw, 0, 400, 0⟩,
    ⟨0x2010, .u16, .chan, .r, 0, 65535, 0⟩,
    ⟨0x2011, .u16, .chan, .r, 0, 65535, 0⟩,
    ⟨0x2012, .u8, .chan, .r, 0, 2, 0⟩,
    ⟨0x2013, .u64, .chan, .r, 0, 0xffffffffffffffff, 0⟩,
    ⟨0x2014, .u64, .chan, .r, 0, 0xffffffffffffffff, 0⟩,
    ⟨0x2015, .u64, .chan, .r, 0, 0xffffffffffffffff, 0⟩,
    ⟨0x2016, .u8, .chan, .r, 0, 3, 0⟩,
    ⟨0x2018, .u8, .die, .r, 0, 1, 0⟩,
    ⟨0x2019, .u32, .die, .r, 0, 0xffffffff, 0⟩,
    ⟨0x201A, .u32, .die, .r, 0, 0xffffffff, 0⟩,
    ⟨0x201B, .u32, .die, .r, 0, 0xffffffff, 0⟩,
    ⟨0x201C, .u32, .die, .r, 0, 0xffffffff, 0⟩,
    ⟨0x201D, .u32, .die, .r, 0, 0xffffffff, 0⟩,
    ⟨0x2020, .u8, .chan, .r, 0, 7, 0⟩,
    ⟨0x2021, .u8, .chan, .r, 0, 5, 0⟩,
    ⟨0x2022, .u32, .chan, .r, 0, 0xffffffff, 0⟩,
    ⟨0x2024, .u8, .chan, .rw, 0, 15, 3⟩,
    ⟨0x2025, .u16, .chan, .rw, 1, 600, 10⟩,
    ⟨0x2026, .u16, .chan, .rw, 10, 10000, 100⟩,
    ⟨0x2027, .u8, .chan, .r, 0, 255, 0⟩,
    ⟨0x2028, .u8, .chan, .rw, 0, 1, 0⟩,
    ⟨0x2029, .i16, .chan, .r, (-400), 2000, 0⟩,
    ⟨0x202A, .u32, .chan, .r, 0, 0xffffffff, 0⟩,
    ⟨0x2030, .u16, .chan, .rw, 0, 2500, 0⟩,
    ⟨0x2031, .u8, .chan, .rw, 0, 4, 2⟩,
    ⟨0x2032, .u16, .chan, .rw, 100, 300, 100⟩,
    ⟨0x2033, .u8, .chan, .rw, 0, 1, 0⟩,
    ⟨0x2034, .i16, .chan, .rw, (-40), 125, 70⟩,
    ⟨0x2035, .i8, .chan, .rw, (-20), 40, 10⟩,
    ⟨0x2036, .i8, .chan, .rw, (-40), 0, 0⟩,
    ⟨0x2037, .u8, .chan, .rw, 5, 60, 20⟩,
    ⟨0x2038, .u8, .chan, .rw, 0, 1, 0⟩,
    ⟨0x2039, .u16, .chan, .rw, 500, 60000, 10000⟩,
    ⟨0x203A, .u16, .chan, .rw, 100, 5000, 1000⟩,
    ⟨0x203B, .u16, .chan, .rw, 10, 5000, 100⟩,
    ⟨0x203C, .i16, .chan, .r, (-400), 3000, 0⟩,
    ⟨0x203D, .i16, .chan, .r, 0, 2000, 0⟩,
    ⟨0x2040, .u16, .chan, .r, 0, 65535, 0⟩,
    ⟨0x2041, .u16, .chan, .rw, 2, 500, 0⟩,
    ⟨0x2042, .u8, .chan, .rw, 0, 1, 1⟩,
    ⟨0x2043, .i32, .chan, .r, (-500000), 500000, 0⟩,
    ⟨0x2044, .i16, .chan, .r, (-4500), 6000, 0⟩,
    ⟨0x2048, .u32, .chan, .r, 0, 0xffffffff, 0⟩,
    ⟨0x2049, .u16, .chan, .rw, 50, 200, 100⟩,
    ⟨0x2050, .u8, .die, .r, 0, 3, 0⟩,
    ⟨0x2051, .u8, .die, .ro, 0, 2, 0⟩,
    ⟨0x2052, .u32, .die, .ro, 0, 0xffffffff, 0⟩,
    ⟨0x2054, .i16, .die, .r, (-400), 2000, 0⟩ ]

/-- Group 0x28. -/
def paramGroup28 : List ParamDef :=
  [ ⟨0x2801, .u8, .chan, .rw, 0, 3, 0⟩,
    ⟨0x2802, .u16, .chan, .rw, 0, 1000, 500⟩,
    ⟨0x2803, .u16, .chan, .rw, 25, 2000, 100⟩,
    ⟨0x2808, .u8, .chan, .ro, 0, 3, 0⟩,
    ⟨0x2809, .u16, .chan, .ro, 0, 1000, 0⟩,
    ⟨0x280A, .u16, .chan, .ro, 0, 4095, 0⟩,
    ⟨0x280B, .u8, .chan, .ro, 0, 1, 0⟩,
    ⟨0x2810, .u8, .die, .rw, 2, 200, 20⟩,
    ⟨0x2811, .u32, .die, .r, 0, 0xffffffff, 0⟩,
    ⟨0x2812, .u8, .die, .r, 0, 1, 0⟩,
    ⟨0x2813, .u32, .die, .ro, 0, 100000, 0⟩ ]

/-- Group 0x30. -/
def paramGroup30 : List ParamDef :=
  [ ⟨0x3001, .u8, .input, .rw, 0, 4, 0⟩,
    ⟨0x3002, .u8, .input, .rw, 0, 20, 0⟩,
    ⟨0x3003, .u8, .input, .rw, 0, 3, 0⟩,
    ⟨0x3004, .u8, .input, .rw, 0, 250, 10⟩,
    ⟨0x3005, .u16, .input, .rw, 0, 36000, 0⟩,
    ⟨0x3006, .u16, .input, .rw, 0, 36000, 2000⟩,
    ⟨0x3007, .u16, .input, .rw, 0, 36000, 4000⟩,
    ⟨0x3008, .u16, .input, .rw, 0, 36000, 36000⟩,
    ⟨0x3009, .u16, .input, .rw, 1, 1000, 10⟩,
    ⟨0x300A, .u16, .input, .rw, 0, 5000, 200⟩,
    ⟨0x300B, .u8, .input, .rw, 1, 40, 10⟩,
    ⟨0x300C, .u8, .input, .rw, 0, 1, 0⟩,
    ⟨0x300D, .u8, .input, .rw, 0, 1, 0⟩,
    ⟨0x3010, .i32, .input, .r, (-1), 2000000, 0⟩,
    ⟨0x3011, .i16, .input, .r, 0, 3600, 0⟩,
    ⟨0x3012, .u16, .input, .r, 0, 65535, 0⟩,
    ⟨0x3013, .u32, .input, .r, 0, 0xffffffff, 0⟩,
    ⟨0x3014, .i32, .input, .r, (-1), 2000000, 0⟩,
    ⟨0x3015, .i32, .input, .r, (-1), 2000000, 0⟩ ]

/-- Group 0x40. -/
def paramGroup40 : List ParamDef :=
  [ ⟨0x4001, .u8, .one, .rw, 0, 2, 1⟩,
    ⟨0x4002, .u8, .one, .rw, 0, 255, 255⟩,
    ⟨0x4003, .u8, .one, .rw, 2, 16, 16⟩,
    ⟨0x4004, .u8, .one, .rw, 0, 255, 255⟩,
    ⟨0x4005, .u8, .one, .rw, 3, 16, 16⟩,
    ⟨0x4006, .u32, .one, .rw, 100000, 10000000, 1000000⟩,
    ⟨0x4007, .u16, .one, .rw, 500, 20000, 2000⟩,
    ⟨0x4008, .u16, .one, .rw, 200, 2000, 400⟩,
    ⟨0x4009, .u16, .one, .rw, 500, 3000, 1500⟩,
    ⟨0x400A, .u16, .one, .rw, 0, 65535, 0⟩,
    ⟨0x400B, .u16, .one, .rw, 200, 5000, 1000⟩,
    ⟨0x400C, .u8, .one, .rw, 0, 7, 0⟩,
    ⟨0x400D, .u32, .one, .rw, 0, 0xffffffff, 1⟩,
    ⟨0x400E, .u16, .one, .rw, 4, 1024, 64⟩,
    ⟨0x400F, .u32, .one, .ro, 0, 0xffffffff, 0⟩,
    ⟨0x4010, .u8, .one, .ro, 0, 6, 0⟩,
    ⟨0x4030, .u8, .one, .ro, 0, 255, 0⟩,
    ⟨0x4011, .u64, .one, .ro, 0, 0xffffffffffffffff, 0⟩,
    ⟨0x4031, .u64, .one, .ro, 0, 0xffffffffffffffff, 0⟩,
    ⟨0x4012, .u8, .one, .ro, 0, 7, 0⟩,
    ⟨0x4032, .u8, .one, .ro, 0, 255, 0⟩,
    ⟨0x4013, .u8, .one, .ro, 0, 255, 0⟩,
    ⟨0x4033, .u8, .one, .ro, 0, 255, 0⟩,
    ⟨0x4014, .u16, .one, .ro, 0, 65535, 0⟩,
    ⟨0x4034, .u16, .one, .ro, 0, 65535, 0⟩,
    ⟨0x4015, .u8, .one, .ro, 0, 255, 0⟩,
    ⟨0x4035, .u8, .one, .ro, 0, 255, 0⟩,
    ⟨0x4016, .u8, .one, .ro, 0, 8, 0⟩,
    ⟨0x4036, .u8, .one, .ro, 0, 255, 0⟩,
    ⟨0x4017, .i32, .one, .ro, (-5000), 5000, 0⟩,
    ⟨0x4037, .i32, .one, .ro, (-2147483648), 0x7fffffff, 0⟩,
    ⟨0x4018, .i32, .one, .ro, (-500000), 500000, 0⟩,
    ⟨0x4038, .i32, .one, .ro, (-2147483648), 0x7fffffff, 0⟩,
    ⟨0x4019, .u16, .one, .ro, 0, 65535, 0⟩,
    ⟨0x4039, .u16, .one, .ro, 0, 65535, 0⟩,
    ⟨0x401A, .u16, .one, .ro, 0, 65535, 0⟩,
    ⟨0x403A, .u16, .one, .ro, 0, 65535, 0⟩,
    ⟨0x401B, .u16, .one, .ro, 0, 65535, 0⟩,
    ⟨0x403B, .u16, .one, .ro, 0, 65535, 0⟩,
    ⟨0x401C, .u32, .one, .ro, 0, 0xffffffff, 0⟩,
    ⟨0x403C, .u32, .one, .ro, 0, 0xffffffff, 0⟩,
    ⟨0x401D, .u32, .one, .ro, 0, 0xffffffff, 0⟩,
    ⟨0x403D, .u32, .one, .ro, 0, 0xffffffff, 0⟩,
    ⟨0x401E, .u32, .one, .ro, 0, 0xffffffff, 0⟩,
    ⟨0x403E, .u32, .one, .ro, 0, 0xffffffff, 0⟩,
    ⟨0x401F, .u32, .one, .ro, 0, 0xffffffff, 0⟩,
    ⟨0x403F, .u32, .one, .ro, 0, 0xffffffff, 0⟩ ]

/-- Group 0x48. -/
def paramGroup48 : List ParamDef :=
  [ ⟨0x4801, .u8, .phy, .rw, 0, 1, 0⟩,
    ⟨0x4802, .u8, .phy, .r, 0, 2, 0⟩,
    ⟨0x4803, .u8, .phy, .rw, 0, 50, 2⟩,
    ⟨0x4804, .u16, .phy, .rw, 64, 4352, 1522⟩,
    ⟨0x4805, .u16, .phy, .rw, 1, 4094, 1⟩,
    ⟨0x4806, .u8, .phyNoRing, .rw, 0, 1, 1⟩,
    ⟨0x4807, .u64, .phy, .ro, 0, 0xffffffffffffffff, 0⟩,
    ⟨0x4810, (.bytes 8), .phy, .rw, 0, 0, 0x101010101010⟩,
    ⟨0x4811, (.bytes 16), .phy, .rw, 0, 0, 0x4000400040004000400040004000400⟩,
    ⟨0x4812, (.bytes 96), .phy, .rw, 0, 0, 0x64190000324b19000a64320064190000324b19000a64320064190000324b19000a64320064190000324b19000a64320064190000324b19000a64320064190000324b19000a64320064190000324b19000a64320064190000324b19000a6432⟩,
    ⟨0x4813, (.bytes 16), .phy, .r, 0, 0, 0⟩,
    ⟨0x4820, .u64, .vp, .rw, 0, 0xffffffffffffffff, 0⟩,
    ⟨0x4821, .u16, .vp, .rw, 16, 4096, 256⟩,
    ⟨0x4822, .u64, .vp, .rw, 0, 0xffffffffffffffff, 0⟩,
    ⟨0x4823, .u16, .vp, .rw, 16, 4096, 256⟩,
    ⟨0x4824, .u16, .vp, .r, 0, 24576, 0⟩,
    ⟨0x4825, .u64, .vp, .ro, 0, 0xffffffffffffffff, 0⟩,
    ⟨0x4830, (.bytes 8), .one, .rw, 0, 0, 0x1f40032000a0002⟩,
    ⟨0x4831, .u8, .one, .rw, 0, 8, 2⟩,
    ⟨0x4832, .u8, .one, .rw, 0, 1, 1⟩,
    ⟨0x4833, .u8, .one, .rw, 1, 48, 8⟩,
    ⟨0x4834, .u16, .one, .ro, 0, 32768, 0⟩,
    ⟨0x4835, .u32, .one, .ro, 0, 0xffffffff, 0⟩,
    ⟨0x4836, .u8, .one, .rw, 2, 64, 64⟩,
    ⟨0x4837, .u16, .one, .rw, 5, 1000, 25⟩,
    ⟨0x4838, .u16, .one, .ro, 0, 8192, 0⟩,
    ⟨0x4840, .u8, .one, .rw, 0, 1, 0⟩,
    ⟨0x4841, .u8, .one, .rw, 0, 3, 1⟩,
    ⟨0x4842, .u32, .one, .rw, 0, 0xffffffff, 0⟩,
    ⟨0x4843, (.bytes 32), .one, .rw, 0, 0, 0⟩,
    ⟨0x4844, (.bytes 160), .one, .ro, 0, 0, 0⟩,
    ⟨0x4880, (.bytes 256), .one, .rw, 0, 0, policerBankDefault⟩,
    ⟨0x4881, (.bytes 256), .one, .rw, 0, 0, policerBankDefault⟩,
    ⟨0x4882, (.bytes 256), .one, .rw, 0, 0, policerBankDefault⟩,
    ⟨0x4883, (.bytes 256), .one, .rw, 0, 0, policerBankDefault⟩,
    ⟨0x4884, (.bytes 256), .one, .rw, 0, 0, policerBankDefault⟩,
    ⟨0x4885, (.bytes 256), .one, .rw, 0, 0, policerBankDefault⟩,
    ⟨0x4886, (.bytes 256), .one, .rw, 0, 0, policerBankDefault⟩,
    ⟨0x4887, (.bytes 256), .one, .rw, 0, 0, policerBankDefault⟩,
    ⟨0x4888, (.bytes 256), .one, .rw, 0, 0, policerBankDefault⟩,
    ⟨0x4889, (.bytes 256), .one, .rw, 0, 0, policerBankDefault⟩,
    ⟨0x488A, (.bytes 256), .one, .rw, 0, 0, policerBankDefault⟩,
    ⟨0x488B, (.bytes 256), .one, .rw, 0, 0, policerBankDefault⟩,
    ⟨0x488C, (.bytes 256), .one, .rw, 0, 0, policerBankDefault⟩,
    ⟨0x488D, (.bytes 256), .one, .rw, 0, 0, policerBankDefault⟩,
    ⟨0x488E, (.bytes 256), .one, .rw, 0, 0, policerBankDefault⟩,
    ⟨0x488F, (.bytes 256), .one, .rw, 0, 0, policerBankDefault⟩ ]

/-- Group 0x50. -/
def paramGroup50 : List ParamDef :=
  [ ⟨0x5001, .u8, .bus, .rw, 0, 2, 1⟩,
    ⟨0x5002, .u8, .bus, .rw, 0, 1, 1⟩,
    ⟨0x5003, .u8, .bus, .rw, 1, 32, 1⟩,
    ⟨0x5004, .u16, .bus, .rw, 2, 256, 127⟩,
    ⟨0x5005, .u8, .bus, .rw, 2, 128, 32⟩,
    ⟨0x5006, .u8, .bus, .rw, 1, 128, 32⟩,
    ⟨0x5007, .u8, .bus, .rw, 1, 32, 1⟩,
    ⟨0x5008, .u8, .bus, .rw, 1, 32, 11⟩,
    ⟨0x5009, .u8, .bus, .rw, 1, 16, 4⟩,
    ⟨0x500A, .u8, .bus, .rw, 1, 16, 4⟩,
    ⟨0x500B, .u8, .bus, .rw, 0, 2, 1⟩,
    ⟨0x500C, .u8, .bus, .rw, 0, 127, 12⟩,
    ⟨0x500D, .u8, .bus, .r, 0, 255, 0⟩,
    ⟨0x500E, .u8, .bus, .r, 0, 255, 0⟩,
    ⟨0x5010, .u8, .bus, .rw, 1, 127, 16⟩,
    ⟨0x5011, .u8, .bus, .rw, 1, 48, 32⟩,
    ⟨0x5018, .u8, .bus, .r, 0, 3, 0⟩,
    ⟨0x5019, .u8, .bus, .r, 0, 3, 0⟩,
    ⟨0x501A, .u16, .bus, .r, 0, 65535, 0⟩,
    ⟨0x501B, .u16, .bus, .r, 0, 65535, 0⟩,
    ⟨0x501C, .u32, .bus, .r, 0, 0xffffffff, 0⟩,
    ⟨0x501D, .u32, .bus, .r, 0, 0xffffffff, 0⟩,
    ⟨0x5020, .u32, .bus, .r, 0, 0xffffffff, 0⟩,
    ⟨0x5021, .u32, .bus, .r, 0, 0xffffffff, 0⟩,
    ⟨0x5022, .u32, .bus, .r, 0, 0xffffffff, 0⟩,
    ⟨0x5023, .u32, .bus, .r, 0, 0xffffffff, 0⟩,
    ⟨0x5024, .u32, .bus, .r, 0, 0xffffffff, 0⟩,
    ⟨0x5025, .u64, .bus, .r, 0, 0xffffffffffffffff, 0⟩,
    ⟨0x5026, .u64, .bus, .r, 0, 0xffffffffffffffff, 0⟩,
    ⟨0x5027, .u8, .bus, .r, 0, 128, 0⟩ ]

/-- Group 0x58. -/
def paramGroup58 : List ParamDef :=
  [ ⟨0x5801, .u8, .one, .ro, 0, 4, 0⟩,
    ⟨0x5803, (.bytes 12), .one, .rw, 0, 0, 0x10101010101010101010101⟩,
    ⟨0x5804, (.bytes 240), .one, .rw, 0, 0, 0⟩,
    ⟨0x5805, .u8, .one, .rw, 0, 3, 3⟩,
    ⟨0x5806, .u32, .one, .rw, 0, 2592000, 0⟩,
    ⟨0x5807, .u16, .one, .rw, 1500, 10000, 2000⟩,
    ⟨0x5808, .u16, .one, .rw, 500, 60000, 3000⟩,
    ⟨0x5809, (.bytes 16), .one, .ro, 0, 0, 0⟩,
    ⟨0x580A, .u32, .one, .ro, 0, 0xffffffff, 0⟩,
    ⟨0x580B, .u32, .one, .ro, 0, 0xffffffff, 0⟩,
    ⟨0x5810, .u16, .one, .rw, 0, 4095, 0⟩,
    ⟨0x5811, .u32, .one, .rw, 0, 0xffffffff, 0⟩,
    ⟨0x5812, .u32, .one, .rw, 0, 536870911, 0⟩,
    ⟨0x5813, .u32, .one, .rw, 0, 0xffffffff, 0⟩,
    ⟨0x5814, .u8, .one, .rw, 0, 255, 0⟩,
    ⟨0x5815, .u8, .one, .rw, 0, 7, 0⟩,
    ⟨0x5816, .u8, .one, .rw, 0, 7, 1⟩,
    ⟨0x5817, .u16, .one, .rw, 10, 1000, 100⟩,
    ⟨0x5818, .u16, .one, .rw, 500, 10000, 2000⟩,
    ⟨0x5820, .u16, .one, .rw, 1, 1440, 30⟩,
    ⟨0x5821, (.bytes 256), .one, .ro, 0, 0, 0⟩,
    ⟨0x5822, .u32, .one, .ro, 0, 0xffffffff, 0⟩ ]

/-- Group 0x60. -/
def paramGroup60 : List ParamDef :=
  [ ⟨0x6001, .u8, .one, .g, 0, 1, 0⟩,
    ⟨0x6002, .u8, .one, .g, 1, 100, 10⟩,
    ⟨0x6003, .u16, .one, .g, 0, 256, 128⟩,
    ⟨0x6004, .u8, .one, .g, 1, 20, 5⟩,
    ⟨0x6008, (.bytes 128), .one, .ro, 0, 0, 0⟩,
    ⟨0x6009, (.bytes 128), .one, .ro, 0, 0, 0⟩,
    ⟨0x6010, .u8, .one, .ro, 0, 2, 0⟩,
    ⟨0x6011, .u32, .one, .ro, 0, 0xffffffff, 0⟩,
    ⟨0x6012, .u32, .one, .ro, 0, 0xffffffff, 0⟩,
    ⟨0x6013, .u32, .one, .ro, 0, 0xffffffff, 0⟩,
    ⟨0x6014, .u32, .one, .ro, 0, 0xffffffff, 0⟩,
    ⟨0x6015, .u32, .one, .ro, 0, 0xffffffff, 0⟩,
    ⟨0x6016, .u32, .one, .ro, 0, 0xffffffff, 0⟩,
    ⟨0x6017, .u32, .one, .ro, 0, 0xffffffff, 0⟩,
    ⟨0x6018, .u16, .one, .ro, 0, 4800, 0⟩ ]

/-- Group 0x70. -/
def paramGroup70 : List ParamDef :=
  [ ⟨0x7001, .u8, .slot, .r, 0, 3, 0⟩,
    ⟨0x7002, .u8, .slot, .r, 0, 5, 0⟩,
    ⟨0x7003, .u8, .slot, .r, 0, 255, 0⟩,
    ⟨0x7004, .u8, .slot, .r, 0, 255, 0⟩,
    ⟨0x7005, .u8, .slot, .r, 0, 255, 0⟩,
    ⟨0x7006, .u32, .slot, .r, 0, 0xffffffff, 0⟩,
    ⟨0x7007, .u16, .slot, .r, 0, 65535, 0⟩,
    ⟨0x7040, .u8, .one, .ro, 0, 4, 0⟩,
    ⟨0x7041, .u8, .one, .ro, 0, 1, 0⟩,
    ⟨0x7042, .u32, .one, .ro, 0, 0xffffffff, 0⟩,
    ⟨0x7043, .u8, .one, .ro, 0, 4, 0⟩,
    ⟨0x7044, .u16, .one, .ro, 0, 1024, 0⟩,
    ⟨0x7045, (.bytes 82), .one, .ro, 0, 0, 0⟩,
    ⟨0x7046, (.bytes 96), .one, .ro, 0, 0, 0⟩ ]

/-- Group 0x78. -/
def paramGroup78 : List ParamDef :=
  [ ⟨0x7801, .u8, .ctx, .r, 0, 4, 0⟩,
    ⟨0x7802, .u16, .ctx, .r, 0, 254, 0⟩,
    ⟨0x7803, .u8, .ctx, .r, 0, 255, 0⟩,
    ⟨0x7804, .u64, .ctx, .r, 0, 0xffffffffffffffff, 0⟩,
    ⟨0x7805, .u32, .ctx, .r, 0, 0xffffffff, 0⟩,
    ⟨0x7806, .u64, .ctx, .r, 0, 0xffffffffffffffff, 0⟩,
    ⟨0x7807, .u64, .ctx, .r, 0, 0xffffffffffffffff, 0⟩,
    ⟨0x7808, .u32, .ctx, .r, 0, 0xffffffff, 0⟩,
    ⟨0x7840, .u8, .one, .g, 0, 3, 1⟩,
    ⟨0x7841, .u16, .one, .ro, 0, 2400, 0⟩,
    ⟨0x7842, .u8, .one, .g, 0, 20, 0⟩,
    ⟨0x7843, .u8, .one, .g, 1, 255, 16⟩,
    ⟨0x7844, .u32, .one, .ro, 0, 0xffffffff, 0⟩,
    ⟨0x7845, (.bytes 12), .one, .g, 0, 0, 0⟩,
    ⟨0x7846, (.bytes 8), .one, .g, 0, 0, 0x200000001000000⟩,
    ⟨0x7847, .u32, .one, .g, 0, 0xffffffff, 4096⟩,
    ⟨0x7848, .u16, .one, .ro, 0, 4096, 0⟩,
    ⟨0x7849, .u8, .one, .ro, 0, 255, 0⟩ ]

/-- Group 0x80. -/
def paramGroup80 : List ParamDef :=
  [ ⟨0x8001, .u8, .one, .ro, 0, 5, 0⟩,
    ⟨0x8002, .u8, .one, .ro, 0, 5, 0⟩,
    ⟨0x8003, .u32, .one, .ro, 0, 0xffffffff, 0⟩,
    ⟨0x8004, .u16, .one, .ro, 0, 65535, 0⟩,
    ⟨0x8005, .u32, .one, .ro, 0, 6291456, 0⟩,
    ⟨0x8006, .u8, .one, .ro, 0, 255, 0⟩,
    ⟨0x8007, .u8, .one, .ro, 0, 255, 0⟩,
    ⟨0x8008, .u32, .one, .ro, 0, 0xffffffff, 0⟩,
    ⟨0x8010, .i8, .one, .rw, (-40), 85, 65⟩,
    ⟨0x8011, .u32, .one, .ro, 0, 0xffffffff, 0⟩,
    ⟨0x8012, .u8, .one, .ro, 0, 3, 0⟩,
    ⟨0x8013, .u32, .one, .ro, 0, 0xffffffff, 0⟩,
    ⟨0x8014, .u16, .one, .ro, 0, 65535, 0⟩,
    ⟨0x8015, .u16, .one, .ro, 0, 65535, 0⟩,
    ⟨0x8016, .u32, .one, .ro, 0, 0xffffffff, 0⟩ ]

/-- Group 0x90. -/
def paramGroup90 : List ParamDef :=
  [ ⟨0x9001, .u8, .one, .ro, 0, 255, 0⟩,
    ⟨0x9002, .u8, .one, .ro, 0, 255, 0⟩,
    ⟨0x9003, .i16, .one, .ro, (-400), 2000, 0⟩,
    ⟨0x9004, .i8, .one, .ro, (-128), 127, 0⟩,
    ⟨0x9005, .u16, .one, .g, 1, 10000, 100⟩,
    ⟨0x9006, .u32, .one, .ro, 0, 0xffffffff, 0⟩,
    ⟨0x9007, .u32, .one, .ro, 0, 0xffffffff, 0⟩,
    ⟨0x9008, .u16, .one, .ro, 0, 256, 0⟩,
    ⟨0x9009, .u32, .one, .ro, 0, 0xffffffff, 0⟩,
    ⟨0x900A, .u16, .one, .ro, 0, 65535, 0⟩,
    ⟨0x900B, .u8, .one, .ro, 0, 255, 0⟩,
    ⟨0x900C, .u32, .one, .ro, 0, 0xffffffff, 0⟩ ]

/-- Every parameter of the module. -/
def paramTable : List ParamDef :=
  paramGroup01 ++ paramGroup10 ++ paramGroup20 ++ paramGroup28 ++ paramGroup30 ++ paramGroup40 ++ paramGroup48 ++ paramGroup50 ++ paramGroup58 ++ paramGroup60 ++ paramGroup70 ++ paramGroup78 ++ paramGroup80 ++ paramGroup90

/-- Whether an instance exists for a parameter (R16). -/
def PInst.has : PInst → Nat → Bool
  | .one, i => i == 0
  | .prid, i => decide (i < 32)
  | .chan, i => decide (i < 64)
  | .die, i => decide (i < 64) && i % 16 == 0
  | .input, i => decide (i < 48)
  | .bus, i => decide (i < 12)
  | .phy, i => decide (i < 7)
  | .phyNoRing, i => decide (i < 7) && i != 1 && i != 2
  | .vp, i => decide (7 ≤ i) && decide (i < 39)
  | .slot, i => decide (i < 255)
  | .ctx, i => decide (i < 255)

/-- The row of a parameter, if its ID exists. -/
def paramDef? (id : Nat) : Option ParamDef := paramTable.find? (fun d => d.id == id)

/-- The key of a value in the running configuration. -/
def pkey (id inst : Nat) : Nat := id * 256 + inst

/-! ## Channel classes (R19, R167) -/

/-- The class of a channel: 0 H, 1 M, 2 L, by its local index. -/
def classOf (c : Nat) : Nat := if c % 16 < 2 then 0 else if c % 16 < 8 then 1 else 2

/-- A figure of R167 by class. -/
def byClass {α : Type} (c : Nat) (h m l : α) : α :=
  match classOf c with
  | 0 => h
  | 1 => m
  | _ => l

/-- The range and the value after start of a parameter at an instance: the class rows of R209, R210 and R236, the ring
port rows of R382. -/
def ParamDef.at (d : ParamDef) (inst : Nat) : Int × Int × Nat :=
  match d.id with
  | 0x2005 => (25, byClass inst 400 2000 2000, d.dflt)
  | 0x2007 => (0, 255, 16 * (inst % 16))
  | 0x2008 => (0, byClass inst 100 60 40, 0)
  | 0x2009 => (byClass inst 400 150 50, byClass inst 1600 600 200, byClass inst 800 300 100)
  | 0x200B => (0, byClass inst 400 150 50, 0)
  | 0x2803 => (25, byClass inst 400 2000 2000, 100)
  | 0x2030 => (0, 2500, byClass inst 1000 250 75)
  | 0x2041 => (byClass inst 20 10 2, byClass inst 500 200 100, byClass inst 50 20 5)
  | 0x4804 => (64, if inst = 1 ∨ inst = 2 then 1536 else 4352, d.dflt)
  | _ => (d.lo, d.hi, d.dflt)

/-- The value after start (R15). -/
def paramDefault (id inst : Nat) : Nat :=
  match paramDef? id with
  | some d => (d.at inst).2.2
  | none => 0

/-- The running value of a configuration parameter. -/
def pval (m : List (Nat × Nat)) (id inst : Nat) : Nat := assocD (paramDefault id inst) m (pkey id inst)

/-- The running value as the signed number it stands for. -/
def pint (m : List (Nat × Nat)) (id inst : Nat) : Int :=
  match paramDef? id with
  | some d => d.ty.value (pval m id inst)
  | none => 0

/-- The bytes of a running value. -/
def pbytes (m : List (Nat × Nat)) (id inst n : Nat) : List Byte := leBytes n (pval m id inst)

/-- The running configuration with one value set; the value after start is not listed. -/
def pset (m : List (Nat × Nat)) (id inst v : Nat) : List (Nat × Nat) :=
  let rest := m.filter (fun e => e.1 != pkey id inst)
  if v = paramDefault id inst then rest else (pkey id inst, v) :: rest

/-- The cross-sections of R214. -/
def wireAreas : List Nat := [35, 50, 75, 100, 150, 250, 400, 600, 1000, 1600, 2500]

/-- One policer record of a bank obeys R367. -/
def policerOk (r : List Byte) : Bool :=
  decide (fieldAt r 0 4 ≤ 10000000) && decide (fieldAt r 0 4 ≤ fieldAt r 4 4) &&
  decide (2048 ≤ fieldAt r 8 3) && decide (byteAt r 11 < 8) &&
  decide (2048 ≤ fieldAt r 12 3) && byteAt r 15 == 0

/-- Rules on a value beyond its numeric range: reserved bits, listed values, the fields of bytes values. -/
def paramExtraOk (id v : Nat) : Bool :=
  if id = 0x2030 then v == 0 || wireAreas.contains v
  else if id = 0x4002 ∨ id = 0x4004 ∨ id = 0x4013 then decide (v ≤ 15) || v == 255
  else if id = 0x400A then decide ((bitIdx 16 v).length ≤ 8)
  else if id = 0x4811 then (List.range 8).all fun q => let x := fieldAt (leBytes 16 v) (2 * q) 2; decide (8 ≤ x) && decide (x ≤ 8192)
  else if id = 0x4812 then (List.range 24).all fun q =>
    let r := bytesAt (leBytes 96 v) (4 * q) 4
    decide (byteAt r 0 ≤ 100) && decide (byteAt r 1 ≤ 100) && decide (byteAt r 2 ≤ 100) && byteAt r 3 == 0
  else if id = 0x4821 ∨ id = 0x4823 then [16, 32, 64, 128, 256, 512, 1024, 2048, 4096].contains v
  else if id = 0x4830 then (List.range 4).all fun q => let x := fieldAt (leBytes 8 v) (2 * q) 2; decide (1 ≤ x) && decide (x ≤ 1000)
  else if 0x4880 ≤ id ∧ id ≤ 0x488F then (List.range 16).all fun i => policerOk (bytesAt (leBytes 256 v) (16 * i) 16)
  else if id = 0x5803 then (leBytes 12 v).all fun b => decide (b.toNat ≤ 2)
  else if id = 0x5804 then (List.range 12).all fun i =>
    let r := bytesAt (leBytes 240 v) (20 * i) 20
    byteAt r 3 / 32 % 4 == 0 && decide (byteAt r 7 < 32) && decide (byteAt r 8 < 16) && decide (byteAt r 9 < 2) && zerosAt r 10 2
  else if id = 0x5811 ∨ id = 0x5813 then !v.testBit 30 && !v.testBit 29
  else if id = 0x6003 then v % 64 == 0
  else if id = 0x500D ∨ id = 0x500E then decide (v ≤ 127) || v == 255
  else if id = 0x7004 then decide (v ≤ 31) || v == 254 || v == 255
  else if id = 0x7005 then (decide (3 ≤ v) && decide (v ≤ 5)) || (decide (8 ≤ v) && decide (v ≤ 40))
  else if id = 0x7803 then v == 0 || (decide (16 ≤ v) && decide (v ≤ 64))
  else if id = 0x9004 then v == 75 || v == 85
  else if id = 0x0124 then (List.range 4).all fun k => (v >>> (2 * k)) % 4 != 3
  else if id = 0x0152 ∨ id = 0x900A then (v >>> 11) % 16 == 0 && (id == 0x0152 || (v >>> 8) % 8 == 0)
  else if id = 0x0153 ∨ id = 0x0154 then decide (v < 128)
  else if id = 0x4015 ∨ id = 0x900B then decide (v < 16)
  else if id = 0x7849 then decide (v < 4)
  else true

/-- A value lies in its range (R117 stage 1). -/
def paramInRange (d : ParamDef) (inst v : Nat) : Bool :=
  let (lo, hi, _) := d.at inst
  (match d.ty with
   | .bytes _ => true
   | t => decide (lo ≤ t.value v) && decide (t.value v ≤ hi)) && paramExtraOk d.id v

end Sys2Proof
end

