-- ==== Sys2Proof/Types/Mail.lean ====
section
/-! DEFINITION. Types of the mailboxes, requests and slices (04_governor_mailboxes.md, 05_partitions.md). -/

namespace Sys2Proof

/-- Status codes (R106). -/
inductive Status where
  | ok | pending | badOpcode | badParam | badCheck | denied | noResource | busy | locked | resized
  | nonceExhausted | tagFail | tamperAbort | staleGeneration | notActive
  deriving DecidableEq, Repr

/-- A resource record (R131). -/
structure ResRec where
  kind   : Nat
  shared : Bool
  move   : Bool
  first  : Nat
  value  : Nat
  deriving DecidableEq, Repr

/-- The phase of a slice (part.state of R166; frozen stands apart). -/
inductive SlicePhase where
  | none | running | shrinking | tearing | creating
  deriving DecidableEq, Repr

/-- A range of tenant SRAM or of external storage held by a slice. -/
structure MemRange where
  base   : Nat
  len    : Nat
  shared : Bool
  deriving DecidableEq, Repr

/-- The resources of one slice (R132). Bit maps are numbers whose bit n names object n. -/
structure Slice where
  phase    : SlicePhase
  frozen   : Bool              -- R152
  chans    : BitVec 64         -- kind 0x01
  inputs   : BitVec 64         -- kind 0x02
  buses    : BitVec 64         -- kind 0x03
  queues   : BitVec 64         -- kind 0x04
  quota    : Nat               -- kind 0x05, cells
  slots    : List (Nat × Nat)  -- kind 0x06, first and count
  ctxs     : List (Nat × Nat)  -- kind 0x07
  events   : List (BitVec 64)  -- kind 0x08, bases 0, 64, 128, 192
  sram     : List MemRange     -- kind 0x09
  storage  : List MemRange     -- kind 0x0A
  cores    : List Nat          -- kind 0x0B, units per pair
  deriving DecidableEq, Repr

/-- A SLICE_SHRINK or SLICE_DESTROY under way (R140-R142): what it removes and the counts of its response. -/
structure Drain where
  recs     : List ResRec
  destroy  : Bool
  begun    : Bool              -- the boundary of its take-up has passed: the resources are leaving (R140)
  ended    : Bool              -- nothing is in flight any more; its response is completed and not yet visible (R141)
  total    : Nat               -- items in flight at that boundary
  resized  : Nat               -- requests that received RESIZED (R142)
  cut      : Nat               -- items cut at the drain limit (R140)
  deriving DecidableEq, Repr

/-- A CAN receive filter (R396). -/
structure CanFilter where
  fd    : Bool
  classical : Bool
  ide   : Bool
  maclen : Nat
  ident : Nat
  mask  : Nat
  ctx   : Nat
  deriving DecidableEq, Repr

/-- A classification entry of the switch (R361). -/
structure SwEntry where
  mac     : Nat
  macMask : Nat
  vidMatch : Bool
  vid     : Nat
  srcPort : Nat
  valid   : Bool
  pridMatch : Bool
  prid    : Nat
  dests   : BitVec 39
  queue   : Nat
  life    : Nat
  slot    : Nat
  policer : Nat
  police  : Bool
  action  : Nat
  handle  : Nat
  deriving DecidableEq, Repr

/-- A cipher context (R471, R488). -/
structure CipherCtx where
  mode    : Nat
  slot    : Nat
  fixedIv : Nat
  width   : Nat
  counter : Nat
  offset  : Nat
  length  : Nat
  kcv     : Word
  ops     : Nat
  tagFails : Nat
  warned  : Bool               -- EV247 raised at the warning level (R475)
  refused : Bool               -- EV247 raised at the first refusal (R475)
  deriving DecidableEq, Repr

/-- A loaded key (R448, R450). -/
structure KeySlot where
  type    : Nat                -- 0 empty
  uses    : BitVec 8
  owner   : Nat
  node    : Nat
  kcv     : Word
  gen     : Half
  material : List Byte
  replacing : Bool             -- state 2 of key.slot.state
  ackOnly : Bool               -- state 3: TAMPER_ACK only
  deriving DecidableEq, Repr

/-- What takes effect at the epoch boundary at which a response becomes visible (R114). -/
inductive Effect where
  | none
  | params (l : List (Nat × Nat))                     -- PARAM_SET (R117)
  | slice (p : Prid) (create : Bool) (recs : List ResRec)  -- SLICE_CREATE, SLICE_GROW (R137)
  | thaw (p : Prid)                                   -- R153
  | mark (consume : Bool) (entry base len : Nat)      -- R430
  | canFilter (p : Prid) (b : Bus) (i : Nat) (f : Option CanFilter) -- R396
  | isolate (d fn policy : Nat)                       -- DIE_ISOLATE (R229-R231)
  | faultClear (fn : Nat)                             -- R533
  | tamperAck                                         -- R466
  | shrunk (p : Prid)                                 -- the drain of SLICE_SHRINK is over (R141)
  | ctxSet (c : Nat) (r : CipherCtx)                  -- R472
  | ctxFree (c : Nat)                                 -- R473
  | keyLoad (slot : Nat) (k : KeySlot)                -- R455
  | keyEvict (slot : Nat)                             -- R458
  | keyDestroy (node : Nat)                           -- R459
  | debug (lanes : BitVec 2) (pairs : BitVec 7)       -- R299
  | saInstall (sa : Fin 10) (an : Fin 4) (pn : Nat)   -- R379
  | saCurrent (sa : Fin 2)
  | saRetire (sa : Fin 10)
  | restartBoth                                       -- CONFIG_COMMIT mode 2 (R507)
  | lifeRestart                                       -- LIFECYCLE_SET (R461)
  deriving DecidableEq, Repr

/-- A response posted and not yet visible, or in a response slot (R96, R100, R113). -/
structure Response where
  path    : Path
  opcode  : Nat
  tag     : Word
  seq     : Word
  status  : Status
  payload : List Byte
  length  : Nat                -- payload length field; the length required under R107
  addr    : Nat                -- where the payload is written (R96)
  doneA   : Bool               -- completed in Lane A (R113)
  doneB   : Bool
  effect  : Effect
  unsecured : Bool             -- answers a frame without a SecTAG (R126)
  asked   : List Byte          -- the request's payload, which names its objects (R111)
  deriving DecidableEq, Repr

/-- A management response as one lane's uplink sent it: its form, its R-tag (R125, R126). -/
structure MgSent where
  resp : Response
  rtag : Half
  deriving DecidableEq, Repr

/-- What a request that has returned or may return PENDING waits for (R112). -/
inductive PendKind where
  | chan (d : Die) (num : Half) (c : Chan)                         -- CHAN_SET, CHAN_PWM, UNLOCK: the acknowledgement (R171)
  | multi (left : List (Die × Half)) (applied queued refused : BitVec 64)
  | failsafe (dies counts : List Nat) (entries : List (List FsEntry)) -- R207: selected dies, write counts and values of every die at take-up
  | create (p : Prid) (recs : List ResRec)                         -- SLICE_CREATE behind a teardown (R138)
  | shrink (p : Prid)
  | destroy (p : Prid)
  | ringBid (hand : Fin 8) (doneA doneB : Bool)                    -- R339
  | swEntry (index : Nat) (gen : Nat) (drainedA drainedB : Bool)   -- R363, R365
  | sleep                                                          -- R422
  | keyImport (slot : Nat) (k : KeySlot) (blob : List Byte)        -- R455
  | keyReplace (slot : Nat) (k : KeySlot) (blob : List Byte) (ok : Bool) -- R456: ok once the self-test has passed
  | cipher (ctx : Nat) (key : List Byte) (iv : List Byte) (core : Bool) -- R478, the key in use at take-up (R486); it has a core
  | storage (write : Bool) (offset len : Nat) (data : List Byte) (core : Bool) -- R481; it has had its turn at the engine
  | updVerify                                                      -- R496
  | updActivate (sel : BitVec 2) (handBack : Bool) (origin : Lane) (current : Option Lane) (leftA leftB : Bool)
  | cfgCommit (mode : Nat)                                         -- R507
  | lifecycle (target : Nat)                                       -- R461
  | roleSet (dest : Lane) (acks : BitVec 4)                          -- R277
  | laneRestart (l : Lane)                                         -- R278
  deriving DecidableEq, Repr

/-- A request taken up and not finished. -/
structure Pend where
  req    : Req
  opcode : Nat
  kind   : PendKind
  epoch  : Nat                 -- epoch of its take-up
  told   : Bool                -- PENDING has been posted (R112)
  deriving DecidableEq, Repr

/-- A request that waits for an object or behind FENCE (R111). -/
structure Wait where
  req   : Req
  op    : Nat
  epoch : Nat                  -- epoch of its take-up
  told  : Bool                 -- PENDING has been posted (R112)
  deriving DecidableEq, Repr

/-- An accepted request remembered for the duplicate rule (R104). `answer` is its final response once it exists;
`askers` are duplicates waiting for it. -/
structure Recent where
  gov     : Bool               -- governor window and management channel share the rule (R127)
  prid    : Nat
  tag     : Word
  seq     : Word
  epoch   : Nat
  answer  : Option Response
  askers  : List Req
  deriving DecidableEq, Repr

/-- A request slot's 64 bytes with the epoch stamp of its doorbell (R96, R110). -/
structure SlotBytes where
  bytes : List Byte
  stamp : Nat
  deriving DecidableEq, Repr

/-- The part of a mailbox window that one lane's software and Ottum move (R95). -/
structure WinLane where
  reqProd  : Word
  taken    : Word              -- index of the next request this lane's Ottum takes up; REQ_CONS once both have (R98)
  slots    : List SlotBytes
  copies   : List (Word × Bool × List Byte) -- index, whether carried out, and content of the requests this lane has taken
                               -- up and the other lane has not (R113, R265, R266)
  indexErr : Bool              -- an index error since the last boundary (R97)
  statusRead : Bool            -- MB_STATUS has been read since the last boundary
  deriving DecidableEq, Repr

/-- The agreed part of a mailbox window (R95, R159). -/
structure WinAgreed where
  respProd  : Word
  respCons  : Word
  irqEn     : BitVec 2
  irqStatus : BitVec 2
  reqCons   : Word             -- REQ_CONS, taken at each boundary
  admitted  : Word             -- index of the next request that no lane has taken up
  pacing    : Bool             -- the rate limit holds take-up back at this moment (R115)
  paced     : Bool             -- MB_STATUS[2], taken at each boundary
  indexErr  : Bool             -- MB_STATUS[3], taken at each boundary
  mbEpoch   : Nat
  slots     : List (Option Response)  -- response slots
  lanes     : PerLane WinLane
  deriving DecidableEq, Repr

/-- An event queue window (R527, R529). -/
structure EventQ where
  prod    : Word
  cons    : Word
  dropped : Bool               -- EQ_STATUS[0]
  lost    : Nat                -- EQ_LOST
  irqEn   : Bool
  irqStatus : Bool
  recs    : List (Option (EvRec × Nat × Nat × Nat))  -- record, agreed round, agreed offset, sequence (R528)
  deriving DecidableEq, Repr

/-- Token buckets and rate windows of one partition (R147, R150). Tokens: requests in millionths, bits for the others. -/
structure Rates where
  mailTok   : Nat
  cipherTok : Nat
  bridgeTok : Nat
  mailWork  : Nat              -- presented in the present window (R150)
  cipherWork : Nat
  bridgeWork : Nat
  mailOver  : Nat              -- consecutive windows over
  cipherOver : Nat
  bridgeOver : Nat
  deriving DecidableEq, Repr

/-- The violation record of one partition (R166). -/
structure Violations where
  count : Nat
  cause : Nat
  addr  : Nat
  decided : Bool               -- a decided violation freezes the PRID at the next boundary (R151)
  budgetTraps : Nat
  deriving DecidableEq, Repr

end Sys2Proof
end

