-- ==== Sys2Proof/Types/Net.lean ====
section
/-! DEFINITION. Types of the networks of a lane: Belfry node (11_belfry_ring.md), switch core (12_switch_core.md), CAN
controllers (13_can_fd.md), and the inputs (08_inputs.md). -/

namespace Sys2Proof

/-- One slot of a hand (R307). -/
structure Slot where
  start : Nat       -- ns
  len   : Nat       -- units of 10 ns
  owner : Nat
  polled : Bool
  west  : Bool
  sync  : Bool
  frame : Nat       -- units of 16 bytes
  deriving DecidableEq, Repr

/-- A hand: slot list and poll table (R306-R308). -/
structure Hand where
  slots : List Slot
  polls : List (List Nat)
  deriving DecidableEq, Repr

/-- The states of a ring node (ring.state of R348). -/
inductive RingState where
  | off | listening | integrating | synchronised | coldStarting | passive | asleep
  deriving DecidableEq, Repr

/-- The ring configuration that a node took at its lane's start (R347). -/
structure RingCfg where
  node   : Nat
  nodes  : Nat
  rank   : Nat
  length : Nat
  guard  : Nat
  pi     : Nat
  hop    : Nat
  mask   : BitVec 16
  deriving DecidableEq, Repr

/-- One Belfry node. -/
structure RingNode where
  st        : RingState
  cfg       : RingCfg
  startEpoch : Nat              -- epoch in which the present round began (R334)
  round     : Nat               -- R348
  hand      : Fin 8
  dealer    : Option (Fin 16)
  iAmDealer : Bool
  dealerRank : Nat
  aliveLast : BitVec 16         -- nodes alive in the previous round (R321, R336, R410)
  aliveNow  : BitVec 16         -- static frame taken in during the present round
  alivePrev : BitVec 16         -- during the previous round
  acks      : BitVec 16         -- acknowledging static frames of the present round (R336)
  noSleepBid : BitVec 16        -- nodes whose static frame of the round carried sleep bid 0 (R409, R410)
  bids      : List (Nat × Fin 8) -- bids carried in this round's static frames: origin, hand (R335)
  claims    : List Nat          -- other or own candidates claiming in this round (R323)
  claimsPrev : List Nat
  looped    : PerLane Bool      -- RGE, RGW looped (ring.loop [0], [1]); a = RGE, b = RGW
  broken    : PerLane Bool      -- link declared broken (R341)
  healthy   : PerLane Bool      -- own link check carries healthy (R344)
  peerHealthy : PerLane Bool    -- healthy taken in from the neighbour in the previous round
  peerNow   : PerLane Bool      -- healthy taken in from the neighbour in this round
  seen      : List (Nat × Nat × Nat)  -- (origin, round number, slot) accepted in this round (R315)
  devs      : List (Nat × Int)  -- deviations by synchronisation node (R328)
  devsPrev  : List (Nat × Int)  -- of the even round of a rate pair (R331)
  corrPrev  : Int               -- c(2m)
  pendingCorr : Int             -- correction to apply at the end of the guard (R330)
  syncN     : Nat               -- R329
  few       : Bool              -- the last round had fewer than four values (R329)
  offset    : Int
  rate      : Int               -- 0.001 ppm
  spread    : Nat
  zeroRounds : Nat              -- consecutive rounds with n = 0 (R329)
  overLimit : Nat               -- consecutive rounds beyond the offset limit (R332)
  goodRounds : Nat              -- consecutive rounds within Pi while integrating (R326)
  goodRate   : Bool             -- one of them a rate round
  silent    : Nat               -- consecutive rounds without a beacon (R321, R322)
  gotBeacon : Bool              -- a beacon was taken in for the present round
  beaconSeen : Bool             -- a beacon has been taken in since step 8 (R325)
  lastBeacon : Nat              -- epoch of the last beacon taken in (R407)
  delays    : PerLane Nat       -- RGE, RGW, ns (R327)
  blocked   : Nat               -- R317
  blockedRecent : List Nat      -- epochs of the blocks within the last second
  keepShut  : Bool              -- origination shut (R317)
  cut       : Nat               -- R318
  cutThisRound : Bool
  pollsMissed : Nat             -- R320
  polledSlots : List Nat        -- polled slots of this round in which a poll for the own node arrived
  withdrawn : Nat               -- R336
  callKind  : CallKind          -- the Call running
  callState : CallState
  callTarget : Fin 8
  callRound : Nat
  ownBid    : Option (Fin 8)    -- R339
  sleepBid  : Bool              -- own sleep bid (R407)
  noCallBefore : Nat            -- no sleep Call is announced before this round (R410)
  sleepCommit : Bool            -- past the ring's sleep commit point (R407)
  sent      : List RingFrame    -- frames originated or repeated in this round (R314)
  beacon    : Option Beacon     -- the beacon sent in this round (R312, R319)
  openTransit : PerLane Nat     -- bytes waiting in the open-window buffers (R346)
  deriving DecidableEq, Repr

/-- A frame held by the switch core: its entry and generation, class lifetime and remaining references (R363, R371). -/
structure SwFrame where
  id     : Nat
  index  : Nat                  -- entry index
  gen    : Nat                  -- generation it matched
  src    : Port
  sender : Option Prid          -- PRID of a virtual port sender
  frame  : EthFrame
  born   : Nat                  -- epoch of its admission (R372)
  life   : Nat                  -- lifetime, ms
  slot   : Nat
  handle : Option (Nat × Nat)   -- stream handle and sequence number
  colour : Fin 3                -- 0 green, 1 yellow, 2 red
  deriving DecidableEq, Repr

/-- Statistics of one port (R380). -/
structure PortStats where
  rxF : Nat
  rxB : Nat
  txF : Nat
  txB : Nat
  noEntry : Nat
  policer : Nat
  red : Nat
  queue : Nat
  life : Nat
  hold : Nat
  mcast : Nat
  errs : Nat
  deriving DecidableEq, Repr

/-- The link of a physical port (sw.port.link, R373). -/
inductive LinkSt where
  | down | up | hold
  deriving DecidableEq, Repr

/-- An SA of the uplink's SecY (R377-R379): the order of sw.macsec.sa. -/
structure Sa where
  installed : Bool
  inUse  : Bool
  an     : Fin 4
  pn     : Nat                  -- next unreserved (transmit) or lowest acceptable (receive)
  deriving DecidableEq, Repr

/-- IEEE 802.1CB recovery of one stream handle (R376): highest number and received history below it. -/
structure Recov where
  handle : Nat
  top    : Nat
  hist   : List Nat             -- numbers received within the history
  deriving DecidableEq, Repr

/-- The switch core of one lane. Queues are lists of frame ids, head first. -/
structure SwitchSt where
  frames  : List SwFrame
  nextId  : Nat
  queues  : List (List (List Nat))   -- 7 physical ports, 8 queues (R349)
  residue : List (List (Nat × Nat))  -- per port: frame id and queue (R371)
  vpRx    : List (List (List Nat))   -- 32 virtual ports, 8 receive queues (R358)
  deficit : List (List Nat)          -- deficit round robin credit per port and queue (R369)
  avg     : List (List Rat)          -- RED average occupancy per port and queue, percent (R368)
  links   : List LinkSt
  stats   : List PortStats           -- 39 ports
  buckets : List (Nat × (Nat × Nat × Nat)) -- policer index: committed and peak tokens in 1/160 byte and the epoch they stood so (R366)
  seqNum  : List (Nat × Nat)         -- next IEEE 802.1CB number per handle, 0 when unlisted (R376)
  recov   : List Recov
  txHead  : List Nat                 -- descriptors taken per virtual port (R357)
  rxHead  : List Nat                 -- receive descriptors used per virtual port (R358)
  cut     : List Nat                 -- descriptors classified per virtual port at the cut (R364)
  leaked  : Nat                      -- R375
  lostCells : Nat                    -- cells neither free, linked nor in flight (R374)
  mismatch : Nat                     -- consecutive audits with a mismatch
  sweeping : Bool                    -- R375
  txStopped : Bool                   -- MACsec transmit stopped for want of an SA (R377)
  txFlushed : Bool                   -- the hold of the stopped transmit has run out (R373, R377)
  blockLeft : Nat                    -- packet numbers left in this lane's block (R476)
  nextPn  : Nat                      -- next packet number of this lane's block
  rxPn    : List Nat                 -- lowest acceptable packet number per receive SA (8)
  deriving DecidableEq, Repr

/-- A frame in a CAN transmit queue (R389-R392). -/
structure CanTx where
  frame : CanFrame
  tries : Nat
  prid  : Option Prid           -- none: the module's NM frame
  final : Bool                  -- the final NM frame (R412)
  deriving DecidableEq, Repr

/-- One lane's controller of one bus. -/
structure CanCtl where
  tx      : List CanTx          -- pending, in order of admission (R391)
  recent  : List (CanFrame × Nat) -- frames sent within the last 10 ms with their epoch (R395)
  txErr   : Nat
  rxErr   : Nat
  busOff  : Bool
  passive : Bool
  busOffs : Nat
  dropped : Nat
  echo    : Nat
  frames  : Nat                 -- frames this lane's controller sent (can.tx.frames reports the active lane's)
  tdc     : Nat
  clamped : Bool                -- compensation has been clamped since the lane's start (R387)
  offFrom : Nat                 -- epoch of its last bus-off (R259)
  countsFrom : Nat              -- epoch from which its receive list counts for agreement (R399)
  deriving DecidableEq, Repr

/-- A received frame in a partition's queue (R398). -/
structure CanRx where
  frame  : CanFrame
  filter : Nat
  mac    : Option Bool          -- verification result
  epoch  : Nat
  deriving DecidableEq, Repr

/-- The agreed state of one bus. -/
structure CanBus where
  filters : List (Nat × Nat × CanFilter)        -- PRID, index, filter (R396)
  queues  : List (Nat × List CanRx × Nat)       -- PRID, queue, dropped since the last CAN_READ (R397, R398)
  standbyDiscard : Nat
  rxFrames : Nat
  committed : Bool                              -- past its commit point (R407)
  finalSent : Bool                              -- the final NM frame is queued (R412)
  counts  : List (Nat × Nat)                    -- per lane * 16 + cause: frames concerned since the last record (R403)
  deriving DecidableEq, Repr

/-- One lane's front end of one input (R242). -/
structure FrontEnd where
  sample  : Option Sample       -- the latest classified sample
  tagged  : Option Sample       -- the sample as it stood at the last boundary, tagged with the epoch then ended (R258)
  fast    : Bool                -- mode 4: the latest period is below 50 us (R244)
  state   : Bool                -- accepted state bit
  low     : Bool
  high    : Bool
  candState : Bool              -- candidate classification under debounce
  candLow : Bool
  candHigh : Bool
  run     : Nat                 -- scans the candidate has been seen
  first   : Bool                -- no classification accepted since start or change of mode
  stamp   : Nat                 -- time word at the last refresh (R245)
  deriving DecidableEq, Repr

/-- The agreed state of one input (R245-R251). -/
structure InputSt where
  value  : Int
  volt   : Nat
  duty   : Nat
  flags  : BitVec 16
  disCount : Nat
  disRun : Nat                  -- epoch deliveries of unbroken disagreement
  agrRun : Nat
  atSleep : Bool                -- state recorded at sleep entry (R252)
  wakeLow : Nat                 -- comparator levels of the always-on domains, mV, taken at sleep entry (R252)
  wakeHigh : Nat
  atRequest : Bool              -- state at the take-up of SLEEP_REQUEST (R413)
  wakeRun : PerLane Nat         -- consecutive always-on checks finding a different level (R253)
  hist    : List (Nat × Int × Nat × Nat × BitVec 16) -- delivered changes: epoch, value, voltage, duty, flags (R250)
  deriving DecidableEq, Repr

end Sys2Proof
end

