-- ==== Sys2Proof/Types/Sys.lean ====
section
/-! DEFINITION. Types of the lanes, supplies, bridge, keys, images and faults (03, 09, 10, 14-19). -/

namespace Sys2Proof

/-- The life-cycle states (R22). -/
inductive Lifecycle where
  | blank | development | production | fieldReturn | retired
  deriving DecidableEq, Repr

/-- Outcome of the last access of a pair or DMA engine, as the issuing core sees it (R35, R128, R428, R553). -/
inductive AccResult where
  | none
  | done (data : List Byte)
  | fault                       -- access fault
  | misaligned                  -- address-misaligned exception (R427)
  | virtualInstr | illegalInstr -- R128
  | stalled                     -- stalled at the gate of a frozen PRID (R152)
  | scFailed                    -- the store-conditional failed (R436)
  | waits                       -- waits for the lock token (R436)
  | sent                        -- a bridge read issued, completion outstanding
  deriving DecidableEq, Repr

/-- A line fetched ahead (R433). -/
structure PrefLine where
  addr : Nat                    -- line address, multiple of 64
  data : List Byte
  deriving DecidableEq, Repr

/-- A bridge read issued and not completed (R440). -/
structure BridgeRead where
  pair : Pair
  prid : Prid
  addr : Nat
  data : List Byte              -- taken at the far memory port
  lines : List PrefLine         -- prefetched with it
  abandoned : Bool              -- its access was abandoned (R152)
  deriving DecidableEq, Repr

/-- A bridge access that waits for tokens of its partition's bucket (R147). -/
structure BridgeWait where
  prid : Nat
  virt : Bool
  op   : BridgeOp
  addr : Nat
  size : Nat
  deriving DecidableEq, Repr

/-- One lockstep pair of a lane: two cores and what stands between and before them. -/
structure PairSt where
  running : Bool                -- R157
  main    : CoreSt
  chk     : CoreSt              -- the checker, behind the main core by the tokens of the FIFO (R284)
  fifo    : List (Token × CoreSt) -- the delay FIFO, oldest first, with the main core's state before each instruction, from
                                -- which the comparator has its operand (R286, R288)
  budgetIrq : Bool              -- local interrupt 24 pending (R145)
  seip    : Bool                -- supervisor external interrupt, bit 9 of mip and sip (R160)
  hgeip   : BitVec 32           -- guest external interrupts, bits 1-31 (R160)
  lines   : List PrefLine       -- prefetched lines, oldest first, at most 8 (R433)
  units   : List (Nat × List Byte)  -- kept decrypted storage units, newest first, at most 8 (R480)
  result  : AccResult           -- what its last access ended in
  stalled : Option (Access × Nat)   -- access stalled at a freeze, and the PRID it carries (R152)
  waits   : Option BridgeWait
  haltMark : Bool               -- debug-halt mark in its token stream (R300)
  deriving DecidableEq, Repr

/-- The guest PRID in hgprid (R128). -/
def PairSt.hgprid (p : PairSt) : Fin 32 := p.main.hgprid

/-- The remaining budgets (R144). -/
def PairSt.budget (p : PairSt) : List Nat := p.main.budget

/-- The Ottum image in the active slot of a lane (R490). -/
structure ImgInfo where
  version : Word                -- major, minor, patch, build as four bytes
  level   : Nat                 -- pairing level
  security : Nat
  storeFmt : Nat
  storeOldest : Nat
  cfgFmt   : Nat
  cfgOldest : Nat              -- offset below cfgFmt, 0-15
  cls      : Nat               -- class 1-3 (R490)
  root     : Lifecycle         -- life-cycle state whose root signed it (R491)
  valid    : Bool              -- the active slot is whole: no copy into it has been broken off (R498)
  deriving DecidableEq, Repr

/-- A staging slot (R493-R497; upd.staging of R513). -/
inductive StagingSt where
  | empty | erasing | receiving | accepted | copied | rejected
  deriving DecidableEq, Repr

/-- One lane's staging slot. -/
structure Staging where
  st      : StagingSt
  declared : Nat
  bytes   : List (Nat × Byte)   -- bytes written
  result  : Nat                 -- R491 result code of the last verification; 1 not written
  journal : Nat                 -- blocks copied by a copy that was broken off (R498)
  copying : Bool                -- the copy of this start may still be under way (R497)
  verifying : Bool
  deriving DecidableEq, Repr

/-- A record of the fault log (R528, R531). -/
structure LogRec where
  entry  : EvRec
  round  : Nat
  offset : Nat
  seq    : Nat
  deriving DecidableEq, Repr

/-- One lane. -/
structure LaneSt where
  st        : Nat               -- lane state 0-4 (R256)
  ready     : Bool              -- step 9 reached (R75, R525)
  timeWords : Nat               -- R39, R40
  opUs      : Nat               -- microseconds of operation since its last start (R89)
  ownOffsetUs : Nat             -- Lane B's count begins at half the interval at a cold start (R89)
  interval  : Nat               -- restart interval in force, h (R94)
  overdue   : Bool              -- restart overdue raised (R91)
  restartWaits : Bool           -- a due restart waits for the other lane (R91)
  rolling   : Bool              -- restarting, not yet back in state 4
  startCause : Nat              -- R94
  defaults  : Bool              -- on factory defaults, CFG_DEFAULTED (R81, R82)
  cfgState  : Nat               -- module.cfg.state (R94)
  repairing : Bool              -- configuration repair under way (R83)
  injectResult : Nat            -- R302
  broken    : BitVec 7          -- broken pairs (R300)
  lockFaults : Nat              -- R302
  faultEpochs : List Nat        -- epochs of its lane faults within 1 h (R520)
  heldByFaults : Bool           -- R520 case 4
  hotHeld   : Bool              -- taken out by R524
  localFault : Option Nat       -- epoch of its last local fault (R266)
  aonCause  : Option (Nat × Nat) -- cause and pair recorded in the always-on domain (R292)
  haltRecord : Bool             -- debug halt recorded (R300)
  held      : List EvRec        -- events detected during steps 4-8 (R525)
  own       : List Item         -- items taken in (R258)
  far       : List Item         -- items received from the far lane
  expects   : Bool              -- awaits its peer's close records: the peer is in state 4 as far as the lane knows (R269)
  since     : Nat               -- first epoch of its present service, from which its items count (R274)
  toFar     : List Item         -- sent over the bridge link and not yet arrived (R258)
  closeSeen : Option Nat        -- newest epoch whose far close record has arrived with all its items (R259)
  closeDue  : Option (Nat × Nat) -- a close record that arrived before the items that it counts: epoch, count (R258)
  missedClose : Bool            -- peer-silent procedure running (R269)
  diesSayActive : Bool          -- some die reported the active lane's port active (R269)
  checks    : List (Nat × Nat × Word × Nat) -- own check records: stream, number, CRC, PRID that owns the item (R264)
  farChecks : List (Nat × Nat × Word) -- far lane's records that arrived before the own ones (R264)
  hashes    : List (Nat × Nat × DWord) -- own region hashes: region, epoch, hash (R297)
  resent    : List Nat          -- time words at which flits of its lane link were sent again, within 1 ms (R30)
  bridgeResent : List Nat       -- time words at which flits of the bridge link were sent again, within 1 ms (R30)
  resyncStage : Nat             -- 0 none, 1 copying, 2 cut at the next boundary, 3 hold, 4 hold over (R272-R274)
  band      : Nat               -- T30 band 1-3 (R64)
  baseBand  : Nat               -- band 1 or 2 last entered
  railsLow  : Bool              -- R68
  device    : Bool              -- external storage device present (R52)
  xspiVcc   : Bool              -- R52
  wetFull   : Bool              -- front ends supply the full wetting (R240)
  released  : Bool              -- shared terminals released (R26, R92)
  aonMiss   : Nat               -- consecutive failed reads of its always-on domain (R517)
  aonFault  : Bool
  image     : ImgInfo
  staging   : Staging
  pairs     : List PairSt       -- AP0-AP5
  svp       : PairSt            -- the supervisor pair, which runs Ottum (R283)
  svpRam    : List (Nat × Byte) -- its private SRAM, 256 KiB, an unlisted byte reads 0 (R283)
  vpSched   : Sched             -- the switch's turns among the virtual ports (R148)
  brSched   : Sched             -- the bridge's turns among the partitions (R148)
  pairPeriods : Nat             -- sweep periods completed since its start (R302)
  laneCompares : Nat
  ring      : RingNode
  sw        : SwitchSt
  can       : List CanCtl       -- 12 buses
  fronts    : List FrontEnd     -- 48 inputs
  log       : List LogRec       -- fault log, oldest first (R531)
  logQueue  : List LogRec       -- class F records not yet appended (R531)
  logTotal  : Nat               -- records written since manufacture
  logHour   : Nat               -- records appended in this hour
  logDropped : Nat
  eccCorrected : Nat            -- R516
  eccRecent : List (Nat × Nat)  -- corrections of the passes within the last hour, by epoch (R516)
  temps     : Int × Int         -- compute and network die, 0.1 degrees C (R524)
  wakeAck   : Bool              -- its acknowledgement reached its always-on domain (R418)
  asleep    : Bool              -- its domain is in wake detection and keeps it off (R405, R418)
  domFirst  : Option (Nat × Nat) -- first wake source its domain detected: code, detail (R417)
  domSources : Nat              -- every source, bit (code - 1)
  domFlags  : Nat               -- flag bits [2] and [1] of R417
  glitchPresent : Bool          -- its monitor still sees a glitch (R463)
  intrusionPresent : Bool
  latchedTamper : Option Bool   -- latched in sleep with its class: true intrusion (R464)
  tamperCode : Nat              -- code of the alarm its present start found, 0 none (key.tamper.cause of R468)
  deriving DecidableEq, Repr

/-- One feed (R70, R73). -/
structure FeedSt where
  band : FeedBand
  mv   : Int
  deriving DecidableEq, Repr

/-- A node timed for keeping a network awake (R420). -/
structure AwakeEntry where
  network : Nat
  node    : Nat
  running : Bool
  start   : Nat                -- AGREED_ROUND at the start
  epoch0  : Nat                -- epoch at the start
  seconds : Nat
  deriving DecidableEq, Repr

/-- A node that keeps a network awake: since when, and when it was last heard (R412, R420). -/
structure AwakeRun where
  network : Nat
  node    : Nat
  start   : Nat                -- AGREED_ROUND
  epoch0  : Nat
  last    : Nat                -- epoch
  deriving DecidableEq, Repr

/-- Network sleep and wake (R405-R424). -/
structure NwSt where
  state    : Nat               -- nw.state (R405)
  latched  : Option (Nat × Nat) -- wake request latched in state 2: source, detail (R415)
  record   : List Byte         -- nw.wake.record (R417)
  holds    : BitVec 32         -- R423
  falseCount : Nat
  ackFailed : Nat
  ackFailedNew : Bool          -- EV237 waits for the next start that reaches step 9 (R418)
  confirmed : Bool             -- wake confirmed (R419)
  wakeSource : Nat             -- code of the last wake
  linkFailed : Bool            -- wake-coordination link (R418)
  log      : List AwakeEntry   -- R421, newest first
  awake    : List AwakeRun     -- nodes that keep a network awake (R412, R420)
  sleepMs  : Nat               -- ms in state 3, from the real-time counter
  deriving DecidableEq, Repr

/-- The cross-lane bridge (R425-R442). -/
structure BridgeSt where
  prefetchMarks : List (Nat × Nat)  -- 16 entries: base, length
  consumeMarks  : List (Nat × Nat)
  link     : Nat               -- bridge.link.state
  retries  : Nat
  failures : Nat
  modeInForce : Nat            -- R442
  token    : Option (Lane × Pair × Nat)  -- holder of the lock and its line (R436)
  grants   : Nat
  expired  : Nat
  discards : Nat
  hits     : Nat
  prefDiscards : Nat
  rate     : Nat
  traffic  : PerLane Nat       -- window traffic sent by each lane in the present 10 ms, bits
  reads    : PerLane (List BridgeRead)  -- issued by each lane
  uncollected : PerLane (List BridgeRead) -- completions arrived and not collected (timer mode)
  deriving DecidableEq, Repr

/-- The key store, identical in both lanes (R443-R468). -/
structure KeySt where
  slots    : List KeySlot      -- 256
  shadows  : Nat               -- shadow registers in use (R456)
  gens     : List Half         -- generation per node 0-40 (R447)
  tableOk  : Bool              -- generation table accepted (R447)
  state    : Nat               -- key.store.state
  unlocked : Bool              -- tree unlocked since the last start
  alarms   : Nat
  cause    : Nat
  blocked  : Bool              -- loads blocked by an intrusion alarm until TAMPER_ACK
  testRoot : Bool              -- R445
  pendingAlarm : Option (Bool × Nat)  -- alarm detected, effects at the boundary of R463: true intrusion; epoch of detection
  blobs    : List (Nat × Nat × KeySlot) -- Ottum's own blobs: slot, life-cycle state of their making, key (R446, R450)
  life     : Lifecycle         -- life-cycle state read at step 5 of the last start (R84, R461)
  deriving DecidableEq, Repr

/-- Images and the parameter store (R489-R513). -/
structure ImgSt where
  accepted : List Byte         -- configuration bank in force; empty: none
  acceptedB : Option (List Byte) -- Lane B's bank when it differs from Lane A's (R83, R509)
  staging  : List (Nat × Byte) -- configuration staging bank
  cfgSt    : Nat               -- cfg.staging 0-3
  version  : Nat               -- cfg.version
  commits  : Nat
  deferred : Nat
  storeFmt : PerLane Nat       -- cfg.store.format, of each lane's bank in use
  storeWrites : PerLane Nat    -- cfg.store.writes
  storeOk  : PerLane Bool      -- a valid parameter store bank exists
  resumes  : Nat               -- upd.copy.resumes
  boot     : Option (List Byte) -- boot record body of the accepted image (R156)
  commitRestart : Bool         -- mode 2: both lanes restart 1 ms after visibility (R507)
  deriving DecidableEq, Repr

/-- Counts of one event for EVENT_READ (R530). -/
structure EvCount where
  ev     : Nat
  count  : Nat
  latest : Option EvRec
  deriving DecidableEq, Repr

/-- Coolant supervision (R522, R523): flags and the 100 ms steps each condition has lasted. -/
structure CoolSt where
  est10   : Int
  flags   : BitVec 8
  hist    : List Int           -- estimates of the last 5 s, newest first
  modPwr  : List Rat           -- module dissipation of the same steps
  overRun : Nat
  underRun : Nat
  notRising : Nat
  declRun : Nat
  declUnder : Nat
  critUnder : Nat
  sub     : List Int           -- last substrate readings (R524)
  deriving DecidableEq, Repr

/-- A divergence remembered for an hour (R266, R267). -/
structure DivRec where
  epoch : Nat
  prid  : Nat                  -- 32 none
  deriving DecidableEq, Repr

end Sys2Proof
end

