-- ==== Sys2Proof/Types/Block.lean ====
section
/-! DEFINITION. The groups that make up the machine's state: one-time memory, tenant SRAM and external storage, and the
block of everything else (R16 names most of the groups). -/

namespace Sys2Proof

/-- One-time programmable memory and the ordering code: what no command rewrites, only burns further. -/
structure Otp where
  codeAE    : Bool              -- GZ864-AE (R2)
  identity  : DWord             -- R120
  lifecycle : Lifecycle         -- R22
  rollback  : PerLane Nat       -- anti-rollback counter, 0-255 (R500)
  destroyed : Nat               -- destroy counter, 0-1,024 (R447)
  deriving DecidableEq, Repr

/-- The byte memories of each lane in canonical form: tenant SRAM (an unlisted byte reads 0, R34, R134) and the external
storage device (an unlisted byte reads 0xFF, log entry 6). -/
structure MemSt where
  sram : PerLane (List (Nat × Byte))
  ext  : PerLane (List (Nat × Byte))
  watch : Option Lane           -- lane whose written pages are noted for a resynchronisation (R272)
  dirty : List Nat              -- its 4 KiB pages written since the last copy pass (R272)
  deriving DecidableEq, Repr

/-- Supplies, roles, epochs and agreed time of the module (03, 09). -/
structure ModuleSt where
  t30Valid  : Bool              -- R63
  t30       : Nat               -- measured T30, mV (R94)
  feedA     : FeedSt            -- R70
  feedB     : FeedSt
  epoch     : Nat               -- number of the running epoch (R257)
  round     : Nat               -- AGREED_ROUND (R163)
  offset    : Nat               -- AGREED_OFFSET
  timeSync  : Bool              -- AGREED_FLAGS[0]
  timeSubst : Bool              -- AGREED_FLAGS[1]
  timeAdj   : Bool              -- AGREED_FLAGS[2]
  active    : Option Lane       -- R255
  handTo    : Option Lane       -- the active role passes to this lane at the next boundary (R92, R268, R277)
  handFail  : Bool              -- that change is a failover (R270)
  handCause : Nat               -- its LANE_DOWN cause, 0 for silence or none (R534)
  failovers : Nat               -- R270
  divCount  : Nat               -- R265
  divSource : Nat
  divPrid   : Nat               -- 32 none
  divLog    : List DivRec       -- divergences within 1 h (R266, R267)
  divSeen   : List (Nat × Nat)  -- divergences detected and not yet decided: source, PRID (R266)
  resyncMs  : Nat               -- R282
  resyncHold : Nat              -- R282
  resyncFrom : Nat              -- epoch at which the copying began (R272)
  cutHold   : Nat               -- hold of the cut to come, us
  cutMs     : Nat               -- duration of the resynchronisation about to end, ms
  epochOffset : Int             -- R257, ns
  offsetRun : Nat               -- consecutive epochs above 5 us (R257)
  canRxDiff : Nat               -- R259
  laneDownLast : Nat            -- fault.lane_down.last (R535)
  lockLast  : Nat               -- module.lockstep.last (R302)
  deferLeft : PerLane Nat       -- deferral of the next due restart, min (R90)
  activeSince : Option Nat      -- epoch in which a lane became active at its step 9 (R79)
  provision : Bool              -- BLANK: a lane has booted and answers identity and provisioning alone (R84)
  identityOut : Option DWord    -- RETIRED: the identity its boot code reported before it stopped (R84)
  deriving DecidableEq, Repr

/-- Mailboxes (04). -/
structure MailSt where
  gov     : WinAgreed           -- governor window (R95)
  parts   : List WinAgreed      -- windows of PRID 0-31
  mgRx    : Nat                 -- MG_RX_COUNT (R95)
  mgDrop  : Nat                 -- MG_DROP_COUNT
  pend    : List Pend           -- requests taken up, waiting for their final response (R112)
  waiting : List Wait           -- requests that wait for an object or behind FENCE (R111)
  resuming : Option (Nat × Bool) -- take-up epoch of the waiting request now carried out, and whether it was told PENDING
  done    : List Response       -- completed, not yet visible (R113)
  mgQueue : List (MgmtFrame × Nat) -- management frames delivered and not taken up, with their stamp (R110)
  mgSent  : PerLane (List MgSent) -- management responses each lane's uplink has sent, newest first (R125)
  recent  : List Recent         -- R104
  govChallenge  : Option DWord  -- R121
  mgmtChallenge : Option DWord
  mgSeq   : Half                -- R-tag of the next management response (R125, R261)
  deriving DecidableEq, Repr

/-- Partitions and slices (05). -/
structure PartSt where
  slices  : List Slice          -- PRID 0-31
  drains  : List (Nat × Drain)  -- by PRID
  removed : List (Nat × List ResRec × Nat) -- resources shrunk away, and the last stamp whose requests meet RESIZED (R140, R142)
  rates   : List Rates
  viol    : List Violations
  zeroing : List Nat            -- granules of tenant SRAM being zeroed (R134)
  draining : List Nat           -- granules released and still draining (R137, R141)
  starting : Bool               -- steps 1 to 5 of R157 are done, the six pairs start at a boundary
  releaseEpoch : Nat            -- the epoch whose ending boundary starts them (R157)
  irq     : BitVec 32           -- Lp pending (R159)
  alone   : List (Nat × Nat × Nat × Nat)  -- violating accesses that the standby lane alone has seen: epoch, PRID, cause, address (R151)
  decided : List (Nat × Nat × Nat × Nat)  -- the same of the active lane
  ciSched : Sched               -- the cipher engine's turns among the partitions (R148, R485)
  deriving DecidableEq, Repr

/-- Events (19). -/
structure EventSt where
  queues  : List EventQ         -- PRID 0-31
  counts  : List EvCount        -- R530
  items   : List EvRec          -- raised and not yet delivered (R525)
  unrouted : Nat                -- R526
  lastSec : List (Nat × Nat)    -- key and epoch of the last record of the events limited to one per second
  guarantee : BitVec 8          -- fault.guarantee, taken at each boundary (R521)
  deriving DecidableEq, Repr

/-- Agreed tables of the networks (11, 12). -/
structure NetTables where
  entries : List (Nat × SwEntry)  -- valid classification entries (R361)
  gens    : List (Nat × Nat)      -- generation per entry index, 0 when unlisted (R363)
  sas     : List Sa               -- 10 (R377-R379)
  hands   : List Hand             -- 8 (R306)
  cuts    : List (Nat × SwEntry)  -- entry changes taken up and awaiting the cut (R364)
  prev    : List (Nat × (Bool × SwEntry)) -- the generation before the present one of each changed index: whether it was valid, and it (R363)
  lastCut : List Nat               -- the indexes of the latest cut (R364)
  recov   : List Recov            -- agreed elimination of frames bound for virtual ports (R376)
  saSwap  : Bool                  -- the other transmit SA becomes current at the next boundary (R379)
  handsCrc : Word                 -- CRC-32C of the eight hands (R312, ring.hands.crc)
  deriving DecidableEq, Repr

/-- Cipher engine and external storage service (17). -/
structure CipherSt where
  ctxs    : List CipherCtx      -- 256 (R470)
  logUsed : List (Nat × Nat)    -- storage log: offset and length of writes and erases (R482)
  logFull : Bool
  drops   : Nat                 -- cipher.macsec.drops (R485)
  deriving DecidableEq, Repr

/-- Everything of the machine but the queue of commands, the one-time memory and the byte memories. -/
structure Block where
  free   : Nat                  -- free values drawn: the model's own field (log entry 3)
  mod    : ModuleSt
  lanes  : PerLane LaneSt
  mail   : MailSt
  part   : PartSt
  dies   : List DieSt
  links  : List DieLink
  inputs : List InputSt
  can    : List CanBus
  net    : NetTables
  nw     : NwSt
  bridge : BridgeSt
  keys   : KeySt
  cipher : CipherSt
  img    : ImgSt
  ev     : EventSt
  cool   : CoolSt
  params : List (Nat × Nat)     -- running values that differ from the after-start value: ID * 256 + instance (R116)
  deriving DecidableEq, Repr

end Sys2Proof
end

