-- ==== Sys2Proof/Machine/Reset.lean ====
section
/-! DEFINITION. The values the parts of the machine hold before the first supply arrives: the module as delivered (R4),
unpowered. Where the spec states no value, the one chosen here is named in log entry 2. -/

namespace Sys2Proof

/-- The status record of a channel that no update has taken yet (R234). -/
def ChanSnap.zero : ChanSnap :=
  { state := 0, cause := 0, retries := 0, flags := 0, last := 0, lock := 0, ma := 0, v10 := 0, local10 := 0, tw10 := 0, window := 0,
    ledger := 0 }

/-- A channel of a die whose logic has just come up: off, nothing counted (R75 step 1, R209, R220, R236). -/
def ChanSt.fresh : ChanSt :=
  { enabled := false, phase := .off, command := .off, freq := 100, duty := 0, cmdDuty := 0, nextPwm := none,
    queued := .none, onDue := false, waitFeed := false, inrush := false, stretched := false, clampMode := false, fastOff := false,
    lock := 0, bins := List.replicate 20 0, lastUj := 0, clampCount := 0, wear := 0, switchCount := 0,
    tripHold := false, fuseHold := false, thermHold := false, nbrHold := false, thermLatch := false,
    retryLatch := false, protLast := 0, trips := 0, retryUsed := 0, offByProt := false, thermCount := 0,
    lastTripMs := none, dtw := 0, dtn := 0, tw := 0, local10 := 0, ma := 0, v10 := 0, flags := 0, openRun := 0,
    shortRun := 0, ledger := 0, ledgerFrac := 0, ledgerSum := 0, ledgerSteps := 0, phase256 := 0, inSlot := false,
    snap := ChanSnap.zero }

/-- A store bank as delivered: every state OFF (R84, R206). -/
def FsBank.delivered : FsBank := FsBank.of (List.replicate 16 FsEntry.off) 0

/-- An isolation record as delivered: closed, policy 0 (R231). -/
def IsoBank.delivered : IsoBank := IsoBank.of 0 false 0

/-- A power die as delivered, without a logic supply. -/
def DieSt.delivered : DieSt :=
  { powered := false, source := 0, ms := 0, chans := List.replicate 16 ChanSt.fresh, preferred := .a, lnum := 0,
    held := [], acted := [], failSafe := false, taken := false, wdtMs := 20, wdtNext := 20, expiries := 0,
    crc := .both 0, crcTimes := .both [], standbyActed := 0, divergence := 0, gaps := 0, oldDiscarded := 0,
    lastValid := .both none, devRun := 0, wdtFault := false, toLane := .both [],
    store := .both FsBank.delivered, storeCfg := List.replicate 16 FsEntry.off, storeBad := false, iso := .closed,
    isoBanks := .both IsoBank.delivered, isoBad := false, substrate10 := 0, feedNext := none, pwmRefs := [], conf := [],
    storing := none, isoStuck := 0, reverseOn := false, offSince := none }

/-- Ottum's side of a die before its first take-over. -/
def DieLink.fresh : DieLink :=
  { lastNum := 0, unacked := [], lost := false, shown := none, missed := .both 0, refreshes := .both 0, refreshNum := 0,
    reads := .both 0,
    saved := List.replicate 16 { clampCount := 0, wear := 0, switchCount := 0, ledger := 0 },
    silentReport := .both false }

/-- A slice that does not exist (R131). -/
def Slice.empty : Slice :=
  { phase := .none, frozen := false, chans := 0, inputs := 0, buses := 0, queues := 0, quota := 0, slots := [],
    ctxs := [], events := [0, 0, 0, 0], sram := [], storage := [], cores := [0, 0, 0, 0, 0, 0] }

/-- An empty key slot (R468). -/
def KeySlot.empty : KeySlot :=
  { type := 0, uses := 0, owner := 0xFF, node := 0, kcv := 0, gen := 0, material := [], replacing := false,
    ackOnly := false }

/-- An unbound cipher context (R488). -/
def CipherCtx.empty : CipherCtx :=
  { mode := 0, slot := 0, fixedIv := 0, width := 0, counter := 0, offset := 0, length := 0, kcv := 0, ops := 0,
    tagFails := 0, warned := false, refused := false }

/-- One lane's part of a mailbox window after start: all indices 0 (R95). -/
def WinLane.fresh (n : Nat) : WinLane :=
  { reqProd := 0, taken := 0, slots := List.replicate n { bytes := zeroBytes 64, stamp := 0 }, copies := [],
    indexErr := false, statusRead := false }

/-- A mailbox window after start and after SLICE_CREATE (R95, R138). -/
def WinAgreed.fresh (n : Nat) : WinAgreed :=
  { respProd := 0, respCons := 0, irqEn := 0, irqStatus := 0, reqCons := 0, admitted := 0, pacing := false,
    paced := false, indexErr := false, mbEpoch := 0,
    slots := List.replicate n none, lanes := .both (WinLane.fresh n) }

/-- An event queue after SLICE_CREATE (R138, R527). -/
def EventQ.fresh : EventQ :=
  { prod := 0, cons := 0, dropped := false, lost := 0, irqEn := false, irqStatus := false,
    recs := List.replicate 64 none }

/-- Rate accounts with nothing in the buckets and no work counted (R147, R150). -/
def Rates.fresh : Rates :=
  { mailTok := 0, cipherTok := 0, bridgeTok := 0, mailWork := 0, cipherWork := 0, bridgeWork := 0, mailOver := 0,
    cipherOver := 0, bridgeOver := 0 }

/-- No violation (R166). -/
def Violations.fresh : Violations := { count := 0, cause := 0, addr := 0, decided := false, budgetTraps := 0 }

/-- A ring configuration no lane has taken yet: the values after start of R348. -/
def RingCfg.fresh : RingCfg :=
  { node := 255, nodes := 16, rank := 255, length := 1000000, guard := 2000, pi := 400, hop := 1500, mask := 0 }

/-- A ring node that is off (R348). -/
def RingNode.fresh : RingNode :=
  { st := .off, cfg := RingCfg.fresh, startEpoch := 0, peerNow := .both false, round := 0, hand := 0, dealer := none, iAmDealer := false, dealerRank := 255, aliveLast := 0,
    aliveNow := 0, alivePrev := 0, acks := 0, noSleepBid := 0, bids := [], claims := [], claimsPrev := [],
    looped := .both false, broken := .both false, healthy := .both false, peerHealthy := .both false,
    seen := [], devs := [], devsPrev := [], corrPrev := 0,
    pendingCorr := 0, syncN := 0, few := false, offset := 0, rate := 0, spread := 0, zeroRounds := 0, overLimit := 0,
    goodRounds := 0, goodRate := false, silent := 0, gotBeacon := false, beaconSeen := false, lastBeacon := 0, delays := .both 0,
    blocked := 0, blockedRecent := [], keepShut := false, cut := 0,
    cutThisRound := false, pollsMissed := 0, polledSlots := [], withdrawn := 0, callKind := .none,
    callState := .none, callTarget := 0, callRound := 0, ownBid := none, sleepBid := false, noCallBefore := 0,
    sleepCommit := false, sent := [], beacon := none, openTransit := .both 0 }

/-- Statistics at zero (R380). -/
def PortStats.zero : PortStats :=
  { rxF := 0, rxB := 0, txF := 0, txB := 0, noEntry := 0, policer := 0, red := 0, queue := 0, life := 0, hold := 0,
    mcast := 0, errs := 0 }

/-- A switch core with an empty buffer and all links down. -/
def SwitchSt.fresh : SwitchSt :=
  { frames := [], nextId := 0, queues := List.replicate 7 (List.replicate 8 []), residue := List.replicate 7 [],
    vpRx := List.replicate 32 (List.replicate 8 []), deficit := List.replicate 7 (List.replicate 8 0),
    avg := List.replicate 7 (List.replicate 8 0), links := List.replicate 7 .down,
    stats := List.replicate 39 PortStats.zero, buckets := [], seqNum := [], recov := [],
    txHead := List.replicate 32 0, rxHead := List.replicate 32 0, cut := List.replicate 32 0, leaked := 0,
    lostCells := 0, mismatch := 0, sweeping := false, txStopped := false, txFlushed := false, blockLeft := 0, nextPn := 0,
    rxPn := List.replicate 8 0 }

/-- A CAN controller at start (R399, R404). -/
def CanCtl.fresh : CanCtl :=
  { tx := [], recent := [], txErr := 0, rxErr := 0, busOff := false, passive := false, busOffs := 0, dropped := 0,
    echo := 0, frames := 0, tdc := 0, clamped := false, offFrom := 0, countsFrom := 0 }

/-- The agreed state of a bus at start. -/
def CanBus.fresh : CanBus :=
  { filters := [], queues := [], standbyDiscard := 0, rxFrames := 0, committed := false,
    finalSent := false, counts := [] }

/-- A front end that has classified nothing yet (R242). -/
def FrontEnd.fresh : FrontEnd :=
  { sample := none, tagged := none, fast := false, state := false, low := false, high := false, candState := false, candLow := false,
    candHigh := false, run := 0, first := true, stamp := 0 }

/-- The agreed state of an input that never had a value (R254). -/
def InputSt.fresh : InputSt :=
  { value := -1, volt := 0, duty := 0, flags := 0, disCount := 0, disRun := 0, agrRun := 0, atSleep := false,
    wakeLow := 2000, wakeHigh := 4000, atRequest := false, wakeRun := .both 0, hist := [] }

/-- A core's registers all 0, in HS mode with empty caches (R157). -/
def CoreArch.fresh : CoreArch :=
  { x := List.replicate 32 0, f := List.replicate 32 0, fcsr := 0, pc := 0, mode := .hs, csrs := [], dcache := [], icache := [] }

/-- A core that has retired nothing. -/
def CoreSt.fresh : CoreSt := { arch := CoreArch.fresh, hgprid := 0, instret := 0, budget := List.replicate 32 0 }

/-- A pair before it is started. -/
def PairSt.fresh : PairSt :=
  { running := false, main := CoreSt.fresh, chk := CoreSt.fresh, fifo := [], budgetIrq := false, seip := false, hgeip := 0,
    lines := [], units := [], result := .none, stalled := none, waits := none, haltMark := false }

/-- A round robin of 32 participants in which none has had a turn. -/
def Sched.fresh : Sched := { credit := List.replicate 32 0, turn := 0 }

/-- The vendor image both lanes carry at delivery (R4); its numbers are the model's (log entry 2). -/
def ImgInfo.delivered : ImgInfo :=
  { version := 0x00000001, level := 1, security := 0, storeFmt := 1, storeOldest := 1, cfgFmt := 1, cfgOldest := 0,
    cls := 1, root := .production, valid := true }

/-- An empty staging slot (R513). -/
def Staging.empty : Staging :=
  { st := .empty, declared := 0, bytes := [], result := 1, journal := 0, copying := false, verifying := false }

/-- A lane without supply, with nothing recorded. -/
def LaneSt.off : LaneSt :=
  { st := 0, ready := false, timeWords := 0, opUs := 0, ownOffsetUs := 0, interval := 16, overdue := false,
    restartWaits := false, rolling := false, startCause := 0, defaults := false, cfgState := 0, repairing := false,
    injectResult := 0, broken := 0, lockFaults := 0, faultEpochs := [], heldByFaults := false, hotHeld := false,
    localFault := none, aonCause := none, haltRecord := false, held := [], own := [], far := [], expects := false, since := 0, toFar := [], closeSeen := none,
    closeDue := none, farChecks := [],
    missedClose := false, diesSayActive := false, checks := [], hashes := [], resent := [], bridgeResent := [],
    resyncStage := 0, band := 1, baseBand := 1, railsLow := true, device := false, xspiVcc := false,
    wetFull := false, released := true, aonMiss := 0, aonFault := false, image := ImgInfo.delivered,
    staging := Staging.empty, pairs := List.replicate 6 PairSt.fresh, svp := PairSt.fresh, svpRam := [],
    vpSched := Sched.fresh, brSched := Sched.fresh, pairPeriods := 0, laneCompares := 0,
    ring := RingNode.fresh, sw := SwitchSt.fresh, can := List.replicate 12 CanCtl.fresh,
    fronts := List.replicate 48 FrontEnd.fresh, log := [], logQueue := [], logTotal := 0, logHour := 0,
    logDropped := 0, eccCorrected := 0, eccRecent := [], temps := (0, 0), wakeAck := false,
    asleep := false, domFirst := none, domSources := 0, domFlags := 0, glitchPresent := false,
    intrusionPresent := false, latchedTamper := none, tamperCode := 0 }

/-- A feed with nothing on its stud. -/
def FeedSt.off : FeedSt := { band := .lost, mv := 0 }

/-- The module before its first power-up (R255, R282). -/
def ModuleSt.off : ModuleSt :=
  { t30Valid := false, t30 := 0, feedA := FeedSt.off, feedB := FeedSt.off, epoch := 0, round := 0, offset := 0,
    timeSync := false, timeSubst := true, timeAdj := false, active := none, handTo := none, handFail := false,
    handCause := 0, failovers := 0, divCount := 0, divSource := 0, divPrid := 32, divLog := [],
    divSeen := [], resyncMs := 0, resyncHold := 0, resyncFrom := 0, cutHold := 0, cutMs := 0, epochOffset := 0, offsetRun := 0, canRxDiff := 0,
    laneDownLast := 0, lockLast := 0, deferLeft := .both 0, activeSince := none,
    provision := false, identityOut := none }

/-- The mailboxes before any start. -/
def MailSt.fresh : MailSt :=
  { gov := WinAgreed.fresh 16, parts := List.replicate 32 (WinAgreed.fresh 4), mgRx := 0, mgDrop := 0, pend := [],
    waiting := [], resuming := none, done := [], mgQueue := [], mgSent := .both [], recent := [], govChallenge := none, mgmtChallenge := none, mgSeq := 0 }

/-- No slice before the first start. -/
def PartSt.fresh : PartSt :=
  { slices := List.replicate 32 Slice.empty, drains := [], removed := [], rates := List.replicate 32 Rates.fresh,
    viol := List.replicate 32 Violations.fresh, zeroing := [], draining := [], starting := false, releaseEpoch := 0,
    irq := 0, alone := [], decided := [], ciSched := Sched.fresh }

/-- No event yet. -/
def EventSt.fresh : EventSt :=
  { queues := List.replicate 32 EventQ.fresh, counts := [], items := [], unrouted := 0, lastSec := [],
    guarantee := 0 }

/-- Empty network tables. -/
def NetTables.fresh : NetTables :=
  { entries := [], gens := [],
    sas := List.replicate 10 { installed := false, inUse := false, an := 0, pn := 0 },
    hands := List.replicate 8 { slots := [], polls := [] }, cuts := [], prev := [], lastCut := [], recov := [], saSwap := false,
    handsCrc := 0 }

/-- Network sleep and wake before power: the state of a starting module (R405; log entry 2). -/
def NwSt.off : NwSt :=
  { state := 4, latched := none, record := zeroBytes 16, holds := 0, falseCount := 0,
    ackFailed := 0, ackFailedNew := false, confirmed := false, wakeSource := 0, linkFailed := false,
    log := [], awake := [], sleepMs := 0 }

/-- The bridge before power (R442). -/
def BridgeSt.off : BridgeSt :=
  { prefetchMarks := List.replicate 16 (0, 0), consumeMarks := List.replicate 16 (0, 0), link := 0,
    retries := 0, failures := 0, modeInForce := 0, token := none, grants := 0, expired := 0, discards := 0, hits := 0,
    prefDiscards := 0, rate := 0, traffic := .both 0, reads := .both [], uncollected := .both [] }

/-- The governor authentication key of slot 240 as delivered: AES-256, CMAC verification, under node 3 (R126, R443). -/
def KeySlot.delivered240 : KeySlot :=
  { KeySlot.empty with
    type := 2, uses := 0x10, owner := 0xFF, node := 3, material := Config.authKey,
    kcv := BitVec.ofNat 32 (leNat ((Config.cmac Config.authKey []).take 4)) }

/-- The key store as delivered: only the vendor's key of slot 240 has a blob (R126, R450). -/
def KeySt.delivered : KeySt :=
  { slots := List.replicate 256 KeySlot.empty, shadows := 0, gens := List.replicate 41 0, tableOk := true, state := 4,
    unlocked := false, alarms := 0, cause := 0, blocked := false, testRoot := false, pendingAlarm := none,
    blobs := [(240, 2, KeySlot.delivered240)], life := .production }

/-- The cipher engine without a context. -/
def CipherSt.fresh : CipherSt :=
  { ctxs := List.replicate 256 CipherCtx.empty, logUsed := [], logFull := false, drops := 0 }

/-- Images as delivered: no configuration image, an empty parameter store of the image's format (R4, R510). -/
def ImgSt.delivered : ImgSt :=
  { accepted := [], acceptedB := none, staging := [], cfgSt := 0, version := 0, commits := 0, deferred := 0,
    storeFmt := .both 1, storeWrites := .both 0, storeOk := .both true, resumes := 0, boot := none, commitRestart := false }

/-- Coolant supervision with no reading. -/
def CoolSt.fresh : CoolSt :=
  { est10 := 0, flags := 0, hist := [], modPwr := [], overRun := 0, underRun := 0, notRising := 0, declRun := 0,
    declUnder := 0, critUnder := 0, sub := [] }

/-- The block as delivered. -/
def Block.delivered : Block :=
  { free := 0, mod := ModuleSt.off, lanes := .both LaneSt.off, mail := MailSt.fresh, part := PartSt.fresh,
    dies := List.replicate 4 DieSt.delivered, links := List.replicate 4 DieLink.fresh,
    inputs := List.replicate 48 InputSt.fresh, can := List.replicate 12 CanBus.fresh, net := NetTables.fresh,
    nw := NwSt.off, bridge := BridgeSt.off, keys := KeySt.delivered, cipher := CipherSt.fresh,
    img := ImgSt.delivered, ev := EventSt.fresh, cool := CoolSt.fresh, params := [] }

/-- One-time memory as delivered: life-cycle PRODUCTION (R4), nothing counted. -/
def Otp.delivered : Otp :=
  { codeAE := false, identity := Config.identity, lifecycle := .production, rollback := .both 0, destroyed := 0 }

/-- The memories as delivered: nothing listed. -/
def MemSt.delivered : MemSt := { sram := .both [], ext := .both [], watch := none, dirty := [] }

end Sys2Proof
end

