-- ==== Sys2Proof/Machine/State.lean ====
section
/-! DEFINITION. The state of the machine as plain data, the ways a step could stop, and the state after reset. -/

namespace Sys2Proof.Machine

/-- The state: the queue of waiting commands, first in first out, and everything the spec gives the module. Every command
may change the block; few change one-time memory or the byte memories. -/
structure State where
  pending : List Sys2Proof.Instr
  otp     : Otp
  mem     : MemSt
  b       : Block
  deriving DecidableEq, Repr

/-- Why a step stops with a fault: no rule of the spec stops the block on a command of the table, so there is no
reason, and no meaning raises one (safe). -/
inductive Fault where
  deriving DecidableEq, Repr

/-- Why a step refuses. -/
inductive Refusal where
  /-- Raised by `exec` for a command whose meaning is not written, under the command's name. Safe. -/
  | notModelled (mnemonic : String)
  deriving DecidableEq, Repr

/-- The machine right after reset: the module as delivered, unpowered, with no command waiting (R4; log entry 2). -/
def State.reset : State :=
  { pending := [], otp := Otp.delivered, mem := MemSt.delivered, b := Block.delivered }

end Sys2Proof.Machine
end

