-- ==== Sys2Proof/Machine/Ops.lean ====
section
/-! DEFINITION. The named operations over the block that the meanings share: access to lanes, dies, channels, slices and
parameters, which lanes serve, raising events (R525), and the numbers of the life-cycle states. -/

namespace Sys2Proof.Machine

/-- The answer of every meaning: the state with its block replaced. -/
def State.withBlock (s : State) (b : Block) : State := { s with b := b }

/-- The state with its byte memories replaced. -/
def State.withMem (s : State) (m : MemSt) : State := { s with mem := m }

/-- The state with its one-time memory replaced. -/
def State.withOtp (s : State) (o : Otp) : State := { s with otp := o }

/-- A meaning that changes the block alone. -/
def onBlock (f : Block → Block) (s : State) : Host.Outcome State Fault Refusal := .next (s.withBlock (f s.b))

end Sys2Proof.Machine

namespace Sys2Proof

/-! ## Access -/

/-- One lane. -/
def Block.lane (b : Block) (l : Lane) : LaneSt := b.lanes.get l

/-- One lane changed. -/
def Block.modLane (b : Block) (l : Lane) (f : LaneSt → LaneSt) : Block := { b with lanes := b.lanes.upd l f }

/-- Both lanes changed. -/
def Block.modLanes (b : Block) (f : LaneSt → LaneSt) : Block := { b with lanes := b.lanes.map f }

/-- The module's supplies, roles and time changed. -/
def Block.modMod (b : Block) (f : ModuleSt → ModuleSt) : Block := { b with mod := f b.mod }

/-- One power die. -/
def Block.die (b : Block) (d : Nat) : DieSt := b.dies.getD d DieSt.delivered

/-- One power die changed. -/
def Block.modDie (b : Block) (d : Nat) (f : DieSt → DieSt) : Block := { b with dies := updAt b.dies d f }

/-- Ottum's side of a die. -/
def Block.link (b : Block) (d : Nat) : DieLink := b.links.getD d DieLink.fresh

/-- Ottum's side of a die changed. -/
def Block.modLink (b : Block) (d : Nat) (f : DieLink → DieLink) : Block := { b with links := updAt b.links d f }

/-- One channel of a die. -/
def DieSt.chan (d : DieSt) (i : Nat) : ChanSt := d.chans.getD i ChanSt.fresh

/-- One channel of a die changed. -/
def DieSt.modChan (d : DieSt) (i : Nat) (f : ChanSt → ChanSt) : DieSt := { d with chans := updAt d.chans i f }

/-- One load channel (R19). -/
def Block.chan (b : Block) (c : Nat) : ChanSt := (b.die (c / 16)).chan (c % 16)

/-- One load channel changed. -/
def Block.modChan (b : Block) (c : Nat) (f : ChanSt → ChanSt) : Block :=
  b.modDie (c / 16) (fun d => d.modChan (c % 16) f)

/-- The slice of a PRID. -/
def Block.slice (b : Block) (p : Nat) : Slice := b.part.slices.getD p Slice.empty

/-- The slice of a PRID changed. -/
def Block.modSlice (b : Block) (p : Nat) (f : Slice → Slice) : Block :=
  { b with part := { b.part with slices := updAt b.part.slices p f } }

/-- The rate accounts of a PRID. -/
def Block.rates (b : Block) (p : Nat) : Rates := b.part.rates.getD p Rates.fresh

/-- The rate accounts of a PRID changed. -/
def Block.modRates (b : Block) (p : Nat) (f : Rates → Rates) : Block :=
  { b with part := { b.part with rates := updAt b.part.rates p f } }

/-- The violation record of a PRID. -/
def Block.viol (b : Block) (p : Nat) : Violations := b.part.viol.getD p Violations.fresh

/-- The violation record of a PRID changed. -/
def Block.modViol (b : Block) (p : Nat) (f : Violations → Violations) : Block :=
  { b with part := { b.part with viol := updAt b.part.viol p f } }

/-- An agreed input. -/
def Block.input (b : Block) (i : Nat) : InputSt := b.inputs.getD i InputSt.fresh

/-- An agreed input changed. -/
def Block.modInput (b : Block) (i : Nat) (f : InputSt → InputSt) : Block := { b with inputs := updAt b.inputs i f }

/-- The agreed state of a bus. -/
def Block.bus (b : Block) (i : Nat) : CanBus := b.can.getD i CanBus.fresh

/-- The agreed state of a bus changed. -/
def Block.modBus (b : Block) (i : Nat) (f : CanBus → CanBus) : Block := { b with can := updAt b.can i f }

/-- A lane's controller of a bus. -/
def LaneSt.ctl (l : LaneSt) (i : Nat) : CanCtl := l.can.getD i CanCtl.fresh

/-- A lane's controller of a bus changed. -/
def LaneSt.modCtl (l : LaneSt) (i : Nat) (f : CanCtl → CanCtl) : LaneSt := { l with can := updAt l.can i f }

/-- A lane's front end of an input. -/
def LaneSt.front (l : LaneSt) (i : Nat) : FrontEnd := l.fronts.getD i FrontEnd.fresh

/-- A lane's front end of an input changed. -/
def LaneSt.modFront (l : LaneSt) (i : Nat) (f : FrontEnd → FrontEnd) : LaneSt := { l with fronts := updAt l.fronts i f }

/-- An application pair of a lane. -/
def LaneSt.pair (l : LaneSt) (i : Nat) : PairSt := l.pairs.getD i PairSt.fresh

/-- An application pair of a lane changed. -/
def LaneSt.modPair (l : LaneSt) (i : Nat) (f : PairSt → PairSt) : LaneSt := { l with pairs := updAt l.pairs i f }

/-- A lane's ring node changed. -/
def LaneSt.modRing (l : LaneSt) (f : RingNode → RingNode) : LaneSt := { l with ring := f l.ring }

/-- A lane's switch core changed. -/
def LaneSt.modSw (l : LaneSt) (f : SwitchSt → SwitchSt) : LaneSt := { l with sw := f l.sw }

/-- A key slot. -/
def Block.slot (b : Block) (i : Nat) : KeySlot := b.keys.slots.getD i KeySlot.empty

/-- The key store changed. -/
def Block.modKeys (b : Block) (f : KeySt → KeySt) : Block := { b with keys := f b.keys }

/-- A key slot changed. -/
def Block.modSlot (b : Block) (i : Nat) (f : KeySlot → KeySlot) : Block :=
  b.modKeys fun k => { k with slots := updAt k.slots i f }

/-- A cipher context. -/
def Block.ctx (b : Block) (i : Nat) : CipherCtx := b.cipher.ctxs.getD i CipherCtx.empty

/-- A context set at its boundary: its counts go on, and under the same key a counter value once assigned is never assigned again
(R472, R474). -/
def CipherCtx.setTo (x r : CipherCtx) : CipherCtx :=
  { r with counter := if r.kcv = x.kcv then max r.counter x.counter else r.counter, ops := x.ops, tagFails := x.tagFails }

/-- A context freed at its boundary: the counter and the recorded KCV stay (R473). -/
def CipherCtx.freed (x : CipherCtx) : CipherCtx := { x with mode := 0 }

/-- A cipher context changed. -/
def Block.modCtx (b : Block) (i : Nat) (f : CipherCtx → CipherCtx) : Block :=
  { b with cipher := { b.cipher with ctxs := updAt b.cipher.ctxs i f } }

/-- The mailboxes changed. -/
def Block.modMail (b : Block) (f : MailSt → MailSt) : Block := { b with mail := f b.mail }

/-- The bridge changed. -/
def Block.modBridge (b : Block) (f : BridgeSt → BridgeSt) : Block := { b with bridge := f b.bridge }

/-- Network sleep and wake changed. -/
def Block.modNw (b : Block) (f : NwSt → NwSt) : Block := { b with nw := f b.nw }

/-- The images changed. -/
def Block.modImg (b : Block) (f : ImgSt → ImgSt) : Block := { b with img := f b.img }

/-- The partitions changed. -/
def Block.modPart (b : Block) (f : PartSt → PartSt) : Block := { b with part := f b.part }

/-- The events changed. -/
def Block.modEv (b : Block) (f : EventSt → EventSt) : Block := { b with ev := f b.ev }

/-- The network tables changed. -/
def Block.modNet (b : Block) (f : NetTables → NetTables) : Block := { b with net := f b.net }

/-- A running configuration value (R116, R119). -/
def Block.p (b : Block) (id inst : Nat) : Nat := pval b.params id inst

/-- A running configuration value as a signed number. -/
def Block.pi (b : Block) (id inst : Nat) : Int := pint b.params id inst

/-! ## Byte memories (R34, R134) -/

/-- Bytes of a lane's tenant SRAM. -/
def MemSt.read (m : MemSt) (l : Lane) (a n : Nat) : List Byte := memRead 0 (m.sram.get l) a n

/-- The pages written since the last copy pass, after a write of a lane (R272). -/
def MemSt.noted (m : MemSt) (l : Lane) (a n : Nat) : List Nat :=
  if m.watch = some l ∧ n ≠ 0 then
    ((List.range ((a + n - 1) / 4096 + 1 - a / 4096)).map (a / 4096 + ·)).foldl (fun d k => if d.contains k then d else k :: d) m.dirty
  else m.dirty

/-- Bytes written into a lane's tenant SRAM. -/
def MemSt.write (m : MemSt) (l : Lane) (a : Nat) (v : List Byte) : MemSt :=
  { m with sram := m.sram.upd l fun c => memWrite 0 c a v, dirty := m.noted l a v.length }

/-- A range of tenant SRAM zeroed in both lanes (R134). -/
def MemSt.zero (m : MemSt) (a n : Nat) : MemSt := { m with sram := m.sram.map fun c => memErase c a n }

/-- Bytes of a lane's external storage device; an unwritten byte reads 0xFF (log entry 6). -/
def MemSt.readExt (m : MemSt) (l : Lane) (a n : Nat) : List Byte := memRead 0xFF (m.ext.get l) a n

/-- Bytes written into a lane's external storage device. -/
def MemSt.writeExt (m : MemSt) (l : Lane) (a : Nat) (v : List Byte) : MemSt :=
  { m with ext := m.ext.upd l fun c => memWrite 0xFF c a v }

/-! ## Lanes in service -/

/-- A lane is in service: state 4 (R256). -/
def Block.serves (b : Block) (l : Lane) : Bool := (b.lane l).st == 4

/-- The lanes in service. -/
def Block.serving (b : Block) : List Lane := [Lane.a, Lane.b].filter b.serves

/-- A lane takes part in what agreement delivers: it serves, or it has taken the cut (R273). -/
def Block.mirrors (b : Block) (l : Lane) : Bool := b.serves l || decide (3 ≤ (b.lane l).resyncStage)

/-- The lanes to which agreement delivers. -/
def Block.mirrored (b : Block) : List Lane := [Lane.a, Lane.b].filter b.mirrors

/-- The application pairs are stopped for the hold of a cut (R273; log entry 123). -/
def Block.pairsHeld (b : Block) : Bool := decide (3 ≤ (b.lane .a).resyncStage) || decide (3 ≤ (b.lane .b).resyncStage)

/-- Some lane is in service. -/
def Block.anyServes (b : Block) : Bool := b.serves .a || b.serves .b

/-- Both lanes are in service. -/
def Block.bothServe (b : Block) : Bool := b.serves .a && b.serves .b

/-- The active lane, if a lane in service holds the role (R255). -/
def Block.activeLane? (b : Block) : Option Lane := b.mod.active

/-- The active lane; when no lane holds the role, the lane in service, else Lane A. -/
def Block.act (b : Block) : Lane := b.mod.active.getD (if b.serves .a then .a else if b.serves .b then .b else .a)

/-- A lane holds the active role. -/
def Block.isActive (b : Block) (l : Lane) : Bool := b.mod.active == some l

/-- The lane that is in service and not active. -/
def Block.standby? (b : Block) : Option Lane :=
  match b.mod.active with
  | some l => if b.serves l.other then some l.other else none
  | none => none

/-- An accepted configuration is in force in the lanes in service (R81, R82). -/
def Block.configured (b : Block) : Bool := b.serves b.act && !(b.lane b.act).defaults

/-- A lane has reached step 9 and runs: it raises the events it detects (R525). -/
def Block.runs (b : Block) (l : Lane) : Bool := (b.lane l).ready && decide (2 ≤ (b.lane l).st)

/-- No restart, resynchronisation or start of a lane is under way; a held lane is in none (R277, R278). -/
def Block.settled (b : Block) : Bool :=
  [Lane.a, Lane.b].all fun l => let n := (b.lane l).st; n != 1 && n != 3 && !(b.lane l).rolling

/-- A lane sends an item over the bridge link (R258). -/
def Block.toPeer (b : Block) (l : Lane) (it : Item) : Block :=
  if b.serves l && b.bridge.link == 1 then b.modLane l fun x => { x with toFar := x.toFar ++ [it] } else b

/-- A lane takes in an item of the running epoch and sends it to the far lane (R258). -/
def Block.takesIn (b : Block) (l : Lane) (body : ItemBody) : Block :=
  let it : Item := { epoch := b.mod.epoch, body := body }
  (b.modLane l fun x => { x with own := x.own ++ [it] }).toPeer l it

/-- The PRID whose slice holds a channel; 32 when none does. -/
def Block.holderOfChan (b : Block) (c : Nat) : Nat :=
  ((List.range 32).find? fun p => decide (c < 64) && (b.slice p).chans.getLsbD c).getD 32

/-- An UPDATE_ACTIVATE is running (R280). -/
def Block.activating (b : Block) : Bool :=
  b.mail.pend.any fun e => match e.kind with | .updActivate .. => true | _ => false

/-! ## Events (R525, R528, R534) -/

/-- The subject of an event that names none. -/
def noSubject : Nat := 0xFF

/-- A record of an event as one lane detects it in the running epoch. -/
def Block.evRec (b : Block) (l : Lane) (ev cause subject : Nat) (detail : Int) : EvRec :=
  { ev := Fin.ofNat 256 ev, la := l == .a, lb := l == .b, cause := cause, subject := subject, detail := detail,
    epoch := b.mod.epoch }

/-- One lane raises an event: from step 9 on the record goes to delivery, before it the lane holds the record (R525). -/
def Block.raise (b : Block) (l : Lane) (ev cause subject : Nat) (detail : Int) : Block :=
  let r := b.evRec l ev cause subject detail
  if b.runs l then { b with ev := { b.ev with items := b.ev.items ++ [r] } }
  else if (b.lane l).st = 1 then b.modLane l fun x => { x with held := x.held ++ [r] }
  else b

/-- Both lanes that run raise an event they both detect. -/
def Block.raiseAll (b : Block) (ev cause subject : Nat) (detail : Int) : Block :=
  (b.raise .a ev cause subject detail).raise .b ev cause subject detail

/-- The event is raised unless the same key was raised within the last second (20,000 epochs). -/
def Block.raiseLimited (b : Block) (key : Nat) (l : Lane) (ev cause subject : Nat) (detail : Int) : Block :=
  let last := b.ev.lastSec.find? (fun e => e.1 == key)
  let due := match last with
    | some (_, e) => decide (e + 20000 ≤ b.mod.epoch)
    | none => true
  if due then
    (b.raise l ev cause subject detail).modEv fun v => { v with lastSec := assocSet v.lastSec key b.mod.epoch }
  else b

/-- Class F: the event enters the fault log (R534). -/
def eventClassF (ev cause : Nat) : Bool :=
  if ev = 3 ∨ ev = 4 then cause == 1 || cause == 4
  else if ev = 43 then cause == 1
  else if 48 ≤ ev ∧ ev ≤ 111 then
    [0x01, 0x02, 0x06, 0x07, 0x12, 0x14, 0x15, 0x1A, 0x1B, 0x20, 0x21].contains cause
  else if 112 ≤ ev ∧ ev ≤ 159 then cause == 4 || cause == 5
  else if 208 ≤ ev ∧ ev ≤ 231 then ev % 2 == 1 && (cause == 3 || cause == 5)
  else [6, 7, 8, 9, 10, 11, 12, 13, 14, 15, 17, 19, 20, 21, 22, 23, 24, 26, 27, 28, 29, 31, 32, 33, 34, 35, 36, 37,
        38, 39, 40, 41, 46, 47, 165, 166, 167, 174, 180, 197, 199, 237, 240, 241, 244, 248, 250, 252, 255].contains ev

/-! ## Divergence (R265, R266) -/

/-- A divergence is detected: EV019, its source and PRID are recorded, and it waits for the decision of the boundary. -/
def Block.diverge (b : Block) (source prid : Nat) : Block :=
  let b := b.raiseAll 19 source (if prid < 32 then prid else noSubject) 0
  b.modMod fun m => { m with divCount := satNat 0xFFFFFFFF (m.divCount + 1), divSource := source, divPrid := prid,
                             divSeen := m.divSeen ++ [(source, prid)] }

/-- A lane has sent a sequenced item: its check record is kept, goes to the far lane, and is compared with the far lane's where that
came first (R264). -/
def Block.checkSent (b : Block) (l : Lane) (stream num prid : Nat) (content : List Byte) : Block :=
  let crc : Word := BitVec.ofNat 32 (crc32c content)
  let early := (b.lane l).farChecks.find? fun c => c.1 == stream && c.2.1 == num
  let b := b.modLane l fun x =>
    { x with checks := (stream, num, crc, prid) :: x.checks.take 255,
             farChecks := x.farChecks.filter fun c => !(c.1 == stream && c.2.1 == num) }
  let b := b.toPeer l { epoch := b.mod.epoch, body := .check stream num crc }
  match early with
  | some c => if c.2.2 = crc then b else b.diverge 3 prid
  | none => b

/-! ## Numbers -/

/-- The encoding of a life-cycle state (module.lifecycle, R94). -/
def Lifecycle.num : Lifecycle → Nat
  | .blank => 0 | .development => 1 | .production => 2 | .fieldReturn => 3 | .retired => 4

/-- The life-cycle state a number stands for. -/
def lifecycleOf? : Nat → Option Lifecycle
  | 0 => some .blank | 1 => some .development | 2 => some .production | 3 => some .fieldReturn | 4 => some .retired
  | _ => none

/-- Epochs of 50 microseconds in a millisecond. -/
def epochsPerMs : Nat := 20

/-- Epochs in a second. -/
def epochsPerSec : Nat := 20000

/-- Epochs in an hour. -/
def epochsPerHour : Nat := 72000000

/-- A free value: an opaque number that only the counter selects; the counter advances. -/
def Block.drawNat (b : Block) : Nat × Block := (Config.freeNat b.free, { b with free := b.free + 1 })

end Sys2Proof
end

