-- ==== Sys2Proof/Machine/Operands.lean ====
section
/-! DEFINITION. The operand forms of mailbox requests: status codes and headers (R100, R106), the opcode set with its
issuers (R108), the objects a request names (R105 check 5, R111), resource records (R131, R132) and what a slice holds. -/

namespace Sys2Proof

/-- The encoding of a status word (R106). -/
def Status.code : Status → Nat
  | .ok => 0x0000 | .pending => 0x0001 | .badOpcode => 0x0010 | .badParam => 0x0011 | .badCheck => 0x0012
  | .denied => 0x0013 | .noResource => 0x0014 | .busy => 0x0015 | .locked => 0x0016 | .resized => 0x0017
  | .nonceExhausted => 0x0018 | .tagFail => 0x0019 | .tamperAbort => 0x001A | .staleGeneration => 0x001B
  | .notActive => 0x001C

/-- A status is final: every word but PENDING (R106). -/
def Status.final (s : Status) : Bool := s != .pending

/-- Who may issue an opcode, whether it needs AUTH and whether it may pend (R108). -/
structure OpInfo where
  gov  : Bool
  part : Bool
  mgmt : Bool          -- the management channel: a path of the governor, or the only path of letter M
  auth : Bool
  pend : Bool
  deriving DecidableEq, Repr

/-- G, P without AUTH. -/
def OpInfo.gp (pend : Bool) : OpInfo := { gov := true, part := true, mgmt := true, auth := false, pend := pend }
/-- G alone. -/
def OpInfo.g (pend : Bool) : OpInfo := { gov := true, part := false, mgmt := true, auth := false, pend := pend }
/-- P alone. -/
def OpInfo.p (pend : Bool) : OpInfo := { gov := false, part := true, mgmt := false, auth := false, pend := pend }
/-- G with AUTH. -/
def OpInfo.ga : OpInfo := { gov := true, part := false, mgmt := true, auth := true, pend := false }
/-- M with AUTH. -/
def OpInfo.ma (pend : Bool) : OpInfo := { gov := false, part := false, mgmt := true, auth := true, pend := pend }

/-- The opcode table of R108. -/
def opInfo? : Nat → Option OpInfo
  | 0x0001 => some (.gp false) | 0x0002 => some (.gp false) | 0x0010 => some (.gp false)
  | 0x0011 => some (.g false) | 0x0012 => some (.g false)
  | 0x1001 => some (.g true) | 0x1002 => some (.g false) | 0x1003 => some (.g true) | 0x1004 => some (.g true)
  | 0x1005 => some (.gp false) | 0x1006 => some .ga
  | 0x2001 => some (.p false) | 0x2002 => some (.p false) | 0x2003 => some (.p false) | 0x2004 => some (.p false)
  | 0x2005 => some (.gp false) | 0x2006 => some (.g false) | 0x2801 => some (.g true)
  | 0x3001 => some (.p false) | 0x4001 => some (.p true)
  | 0x4801 => some (.g true) | 0x4802 => some (.g true) | 0x4803 => some (.gp false) | 0x4804 => some (.g false)
  | 0x5001 => some (.p false) | 0x5002 => some (.p false) | 0x5003 => some (.p false)
  | 0x5801 => some (.g true) | 0x5802 => some (.p false) | 0x6001 => some (.g false)
  | 0x7001 => some (.gp true) | 0x7002 => some (.gp true) | 0x7003 => some (.g false) | 0x7004 => some (.gp false)
  | 0x7005 => some .ga
  | 0x7801 => some (.gp false) | 0x7802 => some (.p true) | 0x7803 => some (.gp false)
  | 0x7810 => some (.p true) | 0x7811 => some (.p true)
  | 0x8001 => some (.g false) | 0x8002 => some (.g false) | 0x8003 => some (.g true) | 0x8004 => some (.g true)
  | 0x8010 => some (.g false) | 0x8011 => some (.g true) | 0x8020 => some (.ma true) | 0x8021 => some (.ma false)
  | 0x8030 => some (.g true) | 0x8031 => some (.g true)
  | 0x9001 => some (.g false) | 0x9002 => some (.g false) | 0x9003 => some (.g false)
  | _ => none

/-- The path admits the issuer letters of the opcode (check 4 of R105). -/
def OpInfo.permits (i : OpInfo) : Path → Bool
  | .gov => i.gov
  | .mgmt => i.mgmt
  | .part _ => i.part

/-- The opcodes a lane on factory defaults serves on a frame without a SecTAG, and whether AUTH must be set (R126). -/
def openOpcode (op : Nat) (auth : Bool) : Bool :=
  [0x0002, 0x0010, 0x0012].contains op || (auth && [0x7001, 0x7002, 0x8010, 0x8011, 0x4804].contains op)

/-! ## Requests -/

/-- The PRID a path speaks for: 0 for the governor's two doors. -/
def Path.prid : Path → Nat
  | .part p => p.val
  | _ => 0

/-- Governor window and management channel are one mailbox for R104, R110, R111 and FENCE (R127). -/
def Path.isGov : Path → Bool
  | .part _ => false
  | _ => true

/-- Two paths belong to the same mailbox (R127). -/
def Path.sameBox (a c : Path) : Bool := a.isGov == c.isGov && a.prid == c.prid

/-- The response buffer capacity: a management frame carries any response (R123). -/
def Req.room (r : Req) : Nat :=
  match r.path with
  | .mgmt => 4096
  | _ => r.cap

/-- The payload without the AUTH trailer (R122). -/
def Req.pay (r : Req) : List Byte := if r.auth then r.payload.take (r.payload.length - 24) else r.payload

/-- The AUTH trailer: challenge and CMAC (R122). -/
def Req.trailer (r : Req) : List Byte := if r.auth then r.payload.drop (r.payload.length - 24) else []

/-- The flags field of a request (R101). -/
def Req.flags (r : Req) : Nat := 4 * b2n r.auth + 2 * b2n r.fence

/-- Header bytes 0-27 of a request (R100). -/
def Req.header (r : Req) (op : Nat) : List Byte :=
  leBytes 2 op ++ leBytes 2 r.flags ++ leBytes 4 r.tag.toNat ++ leBytes 4 r.payload.length ++ leBytes 4 r.seq.toNat ++
    leBytes 4 r.path.prid ++ zeroBytes 8

/-- A field of the payload. -/
def Req.f (r : Req) (off len : Nat) : Nat := fieldAt r.pay off len

/-! ## Resource records (R131, R132) -/

/-- The record at an offset. -/
def resRecAt (l : List Byte) (off : Nat) : ResRec :=
  { kind := byteAt l off, shared := (byteAt l (off + 1)).testBit 0, move := (byteAt l (off + 1)).testBit 1,
    first := fieldAt l (off + 4) 4, value := fieldAt l (off + 8) 8 }

/-- 64 KiB. -/
def granule : Nat := 65536

/-- 48 MiB of tenant SRAM. -/
def sramSize : Nat := 48 * 1048576

/-- 256 MiB of external storage. -/
def storageSize : Nat := 256 * 1048576

/-- The record's first and value lie in the row of its kind, and it names something (R132, log entry 61). -/
def ResRec.rowOk (r : ResRec) : Bool :=
  match r.kind with
  | 0x01 => r.first == 0 && decide (1 ≤ r.value)
  | 0x02 => r.first == 0 && decide (1 ≤ r.value) && decide (r.value < 2 ^ 48)
  | 0x03 => r.first == 0 && decide (1 ≤ r.value) && decide (r.value < 2 ^ 12)
  | 0x04 => r.first == 0 && decide (1 ≤ r.value) && decide (r.value < 2 ^ 56)
  | 0x05 => r.first == 0 && decide (1 ≤ r.value) && decide (r.value ≤ 24576)
  | 0x06 => decide (r.first < 240) && decide (1 ≤ r.value) && decide (r.first + r.value ≤ 240)
  | 0x07 => decide (r.first < 240) && decide (1 ≤ r.value) && decide (r.first + r.value ≤ 240)
  | 0x08 => (r.first == 0 || r.first == 64 || r.first == 128 || r.first == 192) && decide (1 ≤ r.value)
  | 0x09 => r.first % granule == 0 && decide (r.first < sramSize) && r.value % granule == 0 && decide (0 < r.value) &&
      decide (r.first + r.value ≤ sramSize)
  | 0x0A => r.first % granule == 0 && r.value % granule == 0 && decide (0 < r.value) &&
      decide (r.first + r.value ≤ storageSize)
  | 0x0B => decide (r.first < 6) && decide (1 ≤ r.value) && decide (r.value ≤ 64)
  | _ => false

/-- The bytes of a record are well formed: res bits zero, flags only where their kind has them (R131, R132). -/
def resRecOk (l : List Byte) (off : Nat) (moveOk : Bool) : Bool :=
  let r := resRecAt l off
  decide (byteAt l (off + 1) < 4) && zerosAt l (off + 2) 2 && r.rowOk &&
    (r.kind == 0x09 || (!r.shared && !r.move)) && (moveOk || !r.move)

/-- The records after an 8-byte head. -/
def resRecs (l : List Byte) (n : Nat) : List ResRec := (List.range n).map fun i => resRecAt l (8 + 16 * i)

/-- The 16 bytes of a record. -/
def ResRec.bytes (r : ResRec) : List Byte :=
  leBytes 1 r.kind ++ leBytes 1 (b2n r.shared + 2 * b2n r.move) ++ zeroBytes 2 ++ leBytes 4 r.first ++ leBytes 8 r.value

/-! ## What a slice holds -/

/-- A range lies wholly inside one of a list of ranges. -/
def inRanges (l : List MemRange) (a n : Nat) : Bool := l.any fun r => decide (r.base ≤ a) && decide (a + n ≤ r.base + r.len)

/-- The granules a range of tenant SRAM covers. -/
def granulesOf (base len : Nat) : List Nat := (List.range (len / granule)).map (base / granule + ·)

/-- Every byte of a range of tenant SRAM lies in the slice; neighbouring ranges count together. -/
def Slice.holdsSram (s : Slice) (a n : Nat) : Bool :=
  n == 0 || (decide (a + n ≤ sramSize) &&
    (List.range ((a + n - 1) / granule + 1 - a / granule)).all fun i =>
      inRanges s.sram ((a / granule + i) * granule) granule)

/-- Every byte of a range of external storage lies in the slice. -/
def Slice.holdsStorage (s : Slice) (a n : Nat) : Bool :=
  n == 0 || (decide (a + n ≤ storageSize) &&
    (List.range ((a + n - 1) / granule + 1 - a / granule)).all fun i =>
      inRanges s.storage ((a / granule + i) * granule) granule)

/-- A number lies in one of the slice's ranges of slots or contexts. -/
def inCounts (l : List (Nat × Nat)) (n : Nat) : Bool := l.any fun r => decide (r.1 ≤ n) && decide (n < r.1 + r.2)

/-- An object that a request or a parameter instance names. -/
inductive Named where
  | prid (p : Nat)
  | chan (c : Nat)
  | input (i : Nat)
  | bus (b : Nat)
  | port (p : Nat)
  | slot (s : Nat)
  | ctx (c : Nat)
  | node (n : Nat)
  | entry (i : Nat)
  | die (d : Nat)
  | range (a n : Nat)          -- tenant SRAM
  | storage (a n : Nat)        -- external storage
  | lane (n : Nat)             -- 0 Lane A, 1 Lane B
  | service (n : Nat)          -- a service of the module that is one object: images, MACsec, life cycle
  deriving DecidableEq, Repr

/-- The slice of PRID p holds an object. -/
def Slice.holds (s : Slice) (p : Nat) : Named → Bool
  | .prid q => q == p
  | .chan c => s.chans.getLsbD c
  | .input i => s.inputs.getLsbD i
  | .bus i => s.buses.getLsbD i
  | .port q => if q < 7 then (s.queues >>> (8 * q)) &&& 0xFF != 0 else q == 7 + p
  | .slot i => inCounts s.slots i
  | .ctx i => inCounts s.ctxs i
  | .node _ => true
  | .entry _ => true
  | .die _ => true
  | .range a n => s.holdsSram a n
  | .storage a n => s.holdsStorage a n
  | .lane _ => true
  | .service _ => true

/-- The module has the object. An index beyond the range of its kind names none: it is a field out of range, which fails check 7 and
not check 5 (R170, R388; log entry 60). -/
def Named.exists? : Named → Bool
  | .chan c => decide (c < 64)
  | .input i => decide (i < 48)
  | .bus i => decide (i < 12)
  | .port q => decide (q < 39)
  | .slot i => decide (i < 256)
  | .ctx i => decide (i < 256)
  | _ => true

/-- The objects a request names, by its opcode: check 5 of R105 asks whether the slice holds them, R111 serialises on
them. A payload too short to carry the field names nothing and fails check 7. -/
def namedObjects (op : Nat) (pay : List Byte) : List Named :=
  let n8 := byteAt pay 0
  let n16 := fieldAt pay 0 2
  let guard (k : Nat) (l : List Named) : List Named := if k ≤ pay.length then l else []
  match op with
  | 0x1001 => guard 8 [.prid n8]
  | 0x1002 => guard 8 [.prid n8]
  | 0x1003 => guard 8 [.prid n8]
  | 0x1004 => guard 8 [.prid n8]
  | 0x1006 => guard 8 [.prid n8]
  | 0x2001 => guard 4 [.chan n8]
  | 0x2002 => guard 8 [.chan n8]
  | 0x2003 => guard 16 ((bitIdx 64 (fieldAt pay 0 8)).map .chan)
  | 0x2004 => guard 4 [.chan n8]
  | 0x2005 => guard 4 [.chan n8]
  | 0x2006 => guard 4 [.die n8]
  | 0x2801 => guard 4 ((bitIdx 4 n8).map .die)
  | 0x3001 => guard 8 ((bitIdx 48 (fieldAt pay 0 8)).map .input)
  | 0x4801 => guard 36 [.entry n16]
  | 0x4802 => guard 4 [.entry n16]
  | 0x4803 => guard 4 [.port n8]
  | 0x4804 => guard 16 [.service 2]
  | 0x5001 => guard 12 ([.bus n8] ++ (if byteAt pay 3 = 0 then [] else [.ctx (fieldAt pay 8 2)]))
  | 0x5002 => guard 4 [.bus n8]
  | 0x5003 => guard 16 ([.bus n8] ++ (if byteAt pay 3 = 0 then [] else [.ctx (fieldAt pay 12 2)]))
  | 0x5801 => []
  | 0x7001 => guard 8 [.slot n16]
  | 0x7002 => guard 8 [.slot n16]
  | 0x7003 => guard 4 [.node n8]
  | 0x7004 => guard 4 [.slot n16]
  | 0x7801 => guard 52 ([.ctx n16] ++ (if byteAt pay 4 = 0 then [] else [.slot (fieldAt pay 8 2)]))
  | 0x7802 => guard 64 ([.ctx n16, .range (fieldAt pay 12 8) (fieldAt pay 4 4)] ++
      (if fieldAt pay 20 8 = 0 then [] else [.range (fieldAt pay 20 8) (fieldAt pay 4 4)]) ++
      (if fieldAt pay 8 4 = 0 then [] else [.range (fieldAt pay 28 8) (fieldAt pay 8 4)]))
  | 0x7803 => guard 4 [.ctx n16]
  | 0x7810 => guard 16 [.range (fieldAt pay 8 8) (fieldAt pay 4 4)]
  | 0x8001 => [.service 3]
  | 0x8002 => [.service 3]
  | 0x8003 => [.service 3]
  | 0x8004 => []
  | 0x8010 => [.service 4]
  | 0x8011 => [.service 4]
  | 0x8020 => [.service 6]
  | 0x8030 => []
  | 0x8031 => []
  | _ => []

/-- The object that the instance of a parameter names (R118); a module-wide value names none. -/
def PInst.object? (k : PInst) (inst : Nat) : Option Named :=
  match k with
  | .one => none
  | .prid => some (.prid inst)
  | .chan => some (.chan inst)
  | .die => some (.die (inst / 16))
  | .input => some (.input inst)
  | .bus => some (.bus inst)
  | .phy => some (.port inst)
  | .phyNoRing => some (.port inst)
  | .vp => some (.port inst)
  | .slot => some (.slot inst)
  | .ctx => some (.ctx inst)

/-- The entry at an offset of a PARAM_GET payload: the parameter when its ID exists and the instance lies in range. -/
def paramEntry (l : List Byte) (i : Nat) : Option (ParamDef × Nat) :=
  let off := 4 + 4 * i
  match paramDef? (fieldAt l off 2) with
  | some d => if d.inst.has (byteAt l (off + 2)) && byteAt l (off + 3) == 0 then some (d, byteAt l (off + 2)) else none
  | none => none

/-- The entries of a PARAM_GET payload: none where one is not well formed. -/
def paramEntries (l : List Byte) : List (Option (ParamDef × Nat)) :=
  (List.range (fieldAt l 0 2)).map (paramEntry l)

/-- The form of a PARAM_GET payload (R116). -/
def paramGetOk (l : List Byte) : Bool :=
  let n := fieldAt l 0 2
  decide (4 ≤ l.length) && decide (1 ≤ n) && decide (n ≤ 255) && zerosAt l 2 2 && l.length == 4 + 4 * n

/-- The well-formed entries of a PARAM_GET payload. -/
def paramAsked (l : List Byte) : List (ParamDef × Nat) := if paramGetOk l then (paramEntries l).filterMap id else []

/-- The objects that a list of values names. A PARAM_GET does not wait for the object of a status that tells of an operation in
progress on it, the state of a slice or of a key slot, which it could then never read (log entry 110). -/
def valueObjects (get : Bool) (l : List (ParamDef × Nat)) : List Named :=
  l.filterMap fun e => match e.1.inst with
    | .prid => if get then none else some (.prid e.2)
    | .slot => if get then none else some (.slot e.2)
    | k => k.object? e.2

/-- The parameters that the records of a PARAM_SET payload name, as many as can be read. -/
def setAsked : Nat → List Byte → List (ParamDef × Nat)
  | 0, _ => []
  | n + 1, l => match paramDef? (fieldAt l 0 2) with
    | some d => (d, byteAt l 2) :: setAsked n (l.drop (8 + (fieldAt l 4 2 + 3) / 4 * 4))
    | none => []

/-- The objects on which requests are serialised (R111): those of check 5, and what the other opcodes name. SLICE_QUERY, like
PARAM_GET, reads the state of a slice and waits for none (log entry 110). -/
def serialObjects (op : Nat) (pay : List Byte) : List Named :=
  namedObjects op pay ++ match op with
  | 0x0010 => valueObjects true (paramAsked pay)
  | 0x0011 => valueObjects false (setAsked (fieldAt pay 0 2) (pay.drop 4))
  | 0x7810 => [.storage (fieldAt pay 0 4) (fieldAt pay 4 4)]
  | 0x7811 => [.storage (fieldAt pay 0 4) (fieldAt pay 4 4)]
  | 0x8004 => (bitIdx 2 (byteAt pay 0)).map .lane
  | 0x8030 => [.lane (byteAt pay 0)]
  | 0x8031 => [.lane (byteAt pay 0)]
  | _ => []

/-- Two ranges share a byte. -/
def overlap (a n c m : Nat) : Bool := decide (a < c + m) && decide (c < a + n)

/-- Two names of one object; ranges of memory are one object where they overlap. -/
def Named.meets : Named → Named → Bool
  | .range a n, .range c m => n != 0 && m != 0 && overlap a n c m
  | .storage a n, .storage c m => n != 0 && m != 0 && overlap a n c m
  | x, y => x == y

/-- Two requests name the same object (R111). -/
def sharesObject (a c : List Named) : Bool := a.any fun x => c.any x.meets

/-- An opcode whose own chapter says what it answers while one before it is not finished: SLICE_CREATE pends behind a teardown
(R138); ROLE_SET, LANE_RESTART and UPDATE_ACTIVATE are BUSY during a restart or an UPDATE_ACTIVATE (R277, R278, R280). -/
def answersDuring (op before : Nat) : Bool :=
  (op == 0x1001 && before == 0x1004) || ([0x8004, 0x8030, 0x8031].contains op && [0x8004, 0x8031].contains before)

end Sys2Proof
end

