-- ==== Sys2Proof/Machine/Mailbox.lean ====
section
/-! DEFINITION. Carrying out requests: completing them with a response (R100, R104, R107, R113), leaving them pending
(R112), violations (R149), the checks 4 to 8 of R105 in their order, and reading parameters by issuer (R118). -/

namespace Sys2Proof

/-! ## Violations (R149, R151, R553) -/

/-- The partition commits a violation as the active lane decides it: count, cause and address are taken, EV029 is raised;
a PRID not yet frozen freezes at the next boundary. -/
def Block.violate (b : Block) (p cause addr : Nat) : Block :=
  let b := b.modViol p fun v =>
    { v with count := satNat 0xFFFFFFFF (v.count + 1), cause := cause, addr := addr, decided := true }
  b.raiseAll 29 cause p (toSigned 4 (addr % 2 ^ 32))

/-- A refused access of a PRID that has a slice is a violation: the active lane decides it, and what the standby lane sees is held
against the active lane's sightings (R35, R151, R553). -/
def Block.gateViolation (b : Block) (l : Lane) (p cause addr : Nat) : Block :=
  let e := (b.mod.epoch, p, cause, addr)
  if b.act = l then (b.violate p cause addr).modPart fun s => { s with decided := s.decided ++ [e] }
  else b.modPart fun s => { s with alone := s.alone ++ [e] }

/-! ## Responses -/

/-- A response takes its place among the completed ones; with too small a buffer it carries no payload, status
NO_RESOURCE and the length required, and no effect (R107). -/
def Req.answer (r : Req) (op : Nat) (st : Status) (payload : List Byte) (eff : Effect) (doneA doneB : Bool) : Response :=
  if payload.length ≤ r.room then
    { path := r.path, opcode := op, tag := r.tag, seq := r.seq, status := st, payload := payload,
      length := payload.length, addr := r.respAddr, doneA := doneA, doneB := doneB, effect := eff,
      unsecured := r.unsecured, asked := r.pay }
  else
    { path := r.path, opcode := op, tag := r.tag, seq := r.seq, status := .noResource, payload := [],
      length := payload.length, addr := r.respAddr, doneA := doneA, doneB := doneB, effect := .none,
      unsecured := r.unsecured, asked := r.pay }

/-- The header of a response with its check word (R100-R102). -/
def Response.header (a : Response) : List Byte :=
  let h := leBytes 2 a.opcode ++ leBytes 2 1 ++ leBytes 4 a.tag.toNat ++ leBytes 4 a.length ++ leBytes 4 a.seq.toNat ++
    leBytes 4 (a.status.code * 65536 + a.path.prid) ++ zeroBytes 8
  h ++ leBytes 4 (crc32c (h ++ a.payload))

/-- The copy of a final response that a duplicate request receives (R104); its own buffer counts for R107. -/
def Response.forAsker (a : Response) (q : Req) : Response :=
  let a := { a with path := q.path, addr := q.respAddr, effect := .none, unsecured := q.unsecured, asked := [] }
  if a.payload.length ≤ q.room then a else { a with status := .noResource, payload := [] }

/-- The final response is remembered for duplicates, and those that asked meanwhile get their copies (R104). -/
def Block.remember (b : Block) (a : Response) : Block :=
  let hit := fun (e : Recent) =>
    e.gov == a.path.isGov && e.prid == a.path.prid && e.tag == a.tag && e.seq == a.seq && e.answer.isNone
  let copies := (b.mail.recent.filter hit).flatMap fun e =>
    e.askers.map a.forAsker
  b.modMail fun m =>
    { m with recent := m.recent.map (fun e => if hit e then { e with answer := some a, askers := [] } else e),
             done := m.done ++ copies }

/-- A response is completed (R113). A final one is remembered. -/
def Block.post (b : Block) (a : Response) : Block :=
  let b := b.modMail fun m => { m with done := m.done ++ [a] }
  if a.status.final then b.remember a else b

/-- The request is finished in both lanes with a status, a payload and an effect that waits for visibility (R114). -/
def Block.finish (b : Block) (r : Req) (op : Nat) (st : Status) (payload : List Byte) (eff : Effect) : Block :=
  b.post (r.answer op st payload eff true true)

/-- A final response without a payload. -/
def Block.reply (b : Block) (r : Req) (op : Nat) (st : Status) : Block := b.finish r op st [] .none

/-- A final OK with a payload. -/
def Block.ok (b : Block) (r : Req) (op : Nat) (payload : List Byte) : Block := b.finish r op .ok payload .none

/-- The epoch in which the request now carried out was taken up, and whether it has been told PENDING: now and not, unless it has
waited (R111, R112). -/
def Block.taken (b : Block) : Nat × Bool := b.mail.resuming.getD (b.mod.epoch, false)

/-- The request stays until something else finishes it; `now` posts PENDING at once, if it has not been posted (R112). -/
def Block.hold (b : Block) (r : Req) (op : Nat) (k : PendKind) (now : Bool) : Block :=
  let (e, told) := b.taken
  let b := b.modMail fun m => { m with pend := m.pend ++ [{ req := r, opcode := op, kind := k, epoch := e, told := now || told }] }
  if now && !told then b.post (r.answer op .pending [] .none true true) else b

/-- The request waits for those before it (R111). -/
def Block.keepWaiting (b : Block) (op : Nat) (r : Req) : Block :=
  let (e, told) := b.taken
  b.modMail fun m => { m with waiting := m.waiting ++ [{ req := r, op := op, epoch := e, told := told }] }

/-- Every pending request of a kind is finished with a status, a payload and an effect. -/
def Block.finishWhere (b : Block) (sel : Pend → Bool) (st : Status) (payload : List Byte) (eff : Effect) : Block :=
  let hits := b.mail.pend.filter sel
  let b := b.modMail fun m => { m with pend := m.pend.filter (fun e => !sel e) }
  hits.foldl (fun b e => b.finish e.req e.opcode st payload eff) b

/-! ## Checks at take-up (R105) -/

/-- The key of slot 240 that verifies authentication trailers (R122, R126, R450). -/
def Block.authKeyMaterial (b : Block) : List Byte := (b.slot 240).material

/-- The challenge of a path (R121, R127). -/
def Block.challenge (b : Block) : Path → Option DWord
  | .gov => b.mail.govChallenge
  | .mgmt => b.mail.mgmtChallenge
  | .part _ => none

/-- The challenge of a path is used up. -/
def Block.setChallenge (b : Block) (p : Path) (c : Option DWord) : Block :=
  match p with
  | .gov => b.modMail fun m => { m with govChallenge := c }
  | .mgmt => b.modMail fun m => { m with mgmtChallenge := c }
  | .part _ => b

/-- A new challenge cancels any earlier one that has not been used, whatever path fetched that (R121, R127). -/
def Block.newChallenge (b : Block) (p : Path) (c : DWord) : Block :=
  (b.modMail fun m => { m with govChallenge := none, mgmtChallenge := none }).setChallenge p (some c)

/-- The trailer carries the valid challenge and the CMAC of R122 over header, payload and challenge. -/
def Block.trailerOk (b : Block) (r : Req) (op : Nat) : Bool :=
  let ch := r.trailer.take 8
  match b.challenge r.path with
  | some c => decide (24 ≤ r.payload.length) && leNat ch == c.toNat &&
      r.trailer.drop 8 == Config.cmac b.authKeyMaterial (r.header op ++ r.pay ++ ch)
  | none => false

/-- The granules and objects of a shrink or teardown under way: requests that name them meet RESIZED (R140). -/
def Block.drainOf? (b : Block) (p : Nat) : Option Drain := (b.part.drains.find? (fun e => e.1 == p)).map (·.2)

/-- The records remove an object. -/
def recsRemove (recs : List ResRec) : Named → Bool
  | .chan c => recs.any fun r => r.kind == 0x01 && r.value.testBit c
  | .input i => recs.any fun r => r.kind == 0x02 && r.value.testBit i
  | .bus i => recs.any fun r => r.kind == 0x03 && r.value.testBit i
  | .port q => recs.any fun r => r.kind == 0x04 && decide (q < 7) && (r.value >>> (8 * q)) % 256 != 0
  | .slot i => recs.any fun r => r.kind == 0x06 && decide (r.first ≤ i) && decide (i < r.first + r.value)
  | .ctx i => recs.any fun r => r.kind == 0x07 && decide (r.first ≤ i) && decide (i < r.first + r.value)
  | .range a n => recs.any fun r => r.kind == 0x09 && decide (r.first < a + n) && decide (a < r.first + r.value)
  | .storage a n => recs.any fun r => r.kind == 0x0A && decide (r.first < a + n) && decide (a < r.first + r.value)
  | _ => false

/-- The partition's drain, once its boundary has passed, removes an object; it stands until its response is visible (R140, R141). -/
def Block.drains? (b : Block) (p : Nat) (o : Named) : Bool :=
  match b.drainOf? p with
  | some d => d.begun && recsRemove d.recs o
  | none => false

/-- A range of tenant SRAM that the partition's drain is removing: an access to it faults without a violation (R141). -/
def Block.drainsRange (b : Block) (p a n : Nat) : Bool := b.drains? p (.range a n)

/-- A request rung before a shrink was over names what that shrink has removed (R140, R142). -/
def Block.removedFor (b : Block) (p stamp : Nat) (o : Named) : Bool :=
  !(b.slice p).holds p o && b.part.removed.any fun e => e.1 == p && decide (stamp ≤ e.2.2) && recsRemove e.2.1 o

/-- A request names a resource that its partition's shrink or teardown is removing, or removed while the request stood in its
ring. -/
def Block.resizedBy (b : Block) (r : Req) (objs : List Named) : Bool :=
  match r.path with
  | .part p => objs.any fun o => b.drains? p.val o || b.removedFor p.val r.stamp o
  | _ => false

/-- One more request has received RESIZED, while the final response is not posted (R142). -/
def Block.countResized (b : Block) (p : Nat) : Block :=
  b.modPart fun s => { s with drains := s.drains.map fun e =>
    if e.1 = p ∧ e.2.begun = true ∧ e.2.ended = false then (e.1, { e.2 with resized := e.2.resized + 1 }) else e }

/-- The first address or object outside the requester's slice (check 5): none when all lie inside. A window request's
payload and response buffers lie in the slice of the window's PRID; only a partition's objects are checked. -/
def Block.outside? (b : Block) (r : Req) (objs : List Named) : Option Nat :=
  let p := r.path.prid
  let s := b.slice p
  match r.path with
  | .mgmt => none
  | .gov =>
    if !s.holdsSram r.payAddr r.payload.length then some r.payAddr
    else if !s.holdsSram r.respAddr r.cap then some r.respAddr else none
  | .part _ =>
    if !s.holdsSram r.payAddr r.payload.length then some r.payAddr
    else if !s.holdsSram r.respAddr r.cap then some r.respAddr
    else match objs.find? (fun o => o.exists? && !s.holds p o) with
      | some (.range a _) => some a
      | some (.storage a _) => some a
      | some _ => some 0
      | none => none

/-- Whether a partition may read a value (R118). -/
def Block.mayRead (b : Block) (p : Nat) (d : ParamDef) (inst : Nat) : Bool :=
  let s := b.slice p
  match d.acc with
  | .ro => true
  | .g => false
  | _ => match d.inst with
    | .one => true
    | .prid => inst == p
    | .chan => s.holds p (.chan inst)
    | .die => (s.chans >>> inst).toNat % 65536 != 0
    | .input => s.holds p (.input inst)
    | .bus => s.holds p (.bus inst)
    | .phy => s.holds p (.port inst)
    | .phyNoRing => s.holds p (.port inst)
    | .vp => s.holds p (.port inst)
    | .slot => s.holds p (.slot inst)
    | .ctx => s.holds p (.ctx inst)

/-- The XTS context whose range contains an offset (R480). -/
def Block.xtsAt (b : Block) (x : Nat) : Option Nat :=
  (List.range 240).find? fun i => (b.ctx i).mode == 3 && decide ((b.ctx i).offset ≤ x) && decide (x < (b.ctx i).offset + (b.ctx i).length)

/-- Every unit of a range lies in the range of an XTS context that the slice holds (R481). -/
def Block.xtsHolds (b : Block) (p off len : Nat) : Bool :=
  (List.range ((len + 4095) / 4096)).all fun k => match b.xtsAt (off + 4096 * k) with
    | some i => inCounts (b.slice p).ctxs i
    | none => false

/-- What the chapter of an opcode adds to check 5 of a partition's request: none where it passes; the address of the violation,
or no violation. PARAM_GET looks at every well-formed entry, and a value of Access G is no violation (R118). A SLICE_QUERY of
another PRID or of the pool is denied (R552), here and without a violation (log entry 60). The storage commands name units of
the slice's XTS contexts (R481). A GCM operation names its destination even at address 0 (R477). -/
def Block.denies (b : Block) (op p : Nat) (pay : List Byte) : Option (Option Nat) :=
  let units := fun (_ : Unit) =>
    if pay.length = 16 ∧ b.xtsHolds p (fieldAt pay 0 4) (fieldAt pay 4 4) = false then some (some (fieldAt pay 0 4)) else none
  match op with
  | 0x0010 =>
    let bad := (paramAsked pay).filter fun e => !b.mayRead p e.1 e.2
    if bad.isEmpty then none else if bad.all (fun e => e.1.acc == .g) then some none else some (some 0)
  | 0x1005 => if pay.length = 8 ∧ byteAt pay 0 ≠ p then some none else none
  | 0x7802 =>
    if pay.length = 64 ∧ (b.ctx (fieldAt pay 0 2)).mode = 1 ∧ (b.slice p).holdsSram (fieldAt pay 20 8) (fieldAt pay 4 4) = false
    then some (some (fieldAt pay 20 8)) else none
  | 0x7810 => units ()
  | 0x7811 => units ()
  | _ => none

/-- Check 5 of R105: none where it passes, else the address of the violation or no violation. -/
def Block.check5 (b : Block) (op : Nat) (r : Req) (objs : List Named) : Option (Option Nat) :=
  match b.outside? r objs with
  | some a => some (some a)
  | none => match r.path with
    | .part p => b.denies op p.val r.pay
    | _ => none

/-- Buffers of a window request are multiples of 8 and the capacity is at most 4,096 (R96): the form of the slot, part of
check 2 (log entry 62). -/
def Req.slotOk (r : Req) : Bool :=
  match r.path with
  | .mgmt => true
  | _ => (r.payload.isEmpty || r.payAddr % 8 == 0) && r.respAddr % 8 == 0 && decide (r.cap ≤ 4096)

/-- Authentication-less service: an intrusion alarm or a skipped unlock has taken the keys (R464, R465). -/
def Block.authLess (b : Block) : Bool := b.keys.state == 2 || b.keys.state == 3

/-- A request names what check 5 forbids its issuer: a violation of the partition whose window it is, or of PRID 0 for the governor
window (R105, R149). The management channel has no slice. -/
def Block.nameViolation (b : Block) (r : Req) (addr : Nat) : Block :=
  match r.path with
  | .part p => b.violate p.val 3 addr
  | .gov => b.violate 0 3 addr
  | .mgmt => b

/-- A request that came before keeps this one waiting (R101, R111): it names the same object, or this one carries FENCE and that
one is of the same mailbox, and that one's final response is not visible yet; or it is of the same mailbox and waits itself without
having returned PENDING. A request has its final response when that is visible (log entry 109). -/
def Block.mustWait (b : Block) (op : Nat) (r : Req) : Bool :=
  let objs := serialObjects op r.pay
  let meets := fun (p : Path) (before : Nat) (pay : List Byte) =>
    (!answersDuring op before && sharesObject objs (serialObjects before pay)) || (r.fence && p.sameBox r.path)
  b.mail.waiting.any (fun w => meets w.req.path w.op w.req.pay || (w.req.path.sameBox r.path && !w.told)) ||
    b.mail.pend.any (fun e => meets e.req.path e.opcode e.req.pay) ||
    b.mail.done.any fun a => a.status.final && meets a.path a.opcode a.asked

/-- A request is carried out by the lanes in service: behind those it waits for (R111), the slot's form and the checks 4, 5
and 6 of R105 in their order, then the opcode's own checks 7 and 8 and its effect. With no lane in service nothing takes requests up. A
request on an object under drain ends RESIZED (R140). -/
def Block.serve (b : Block) (op : Nat) (r : Req) (run : Block → Block) : Block :=
  if !b.anyServes then b else
  let info := (opInfo? op).getD (.g false)
  let objs := namedObjects op r.pay
  if b.mustWait op r then b.keepWaiting op r
  else if !r.slotOk then b.reply r op .badParam
  else if !info.permits r.path then b.reply r op .denied
  else if r.unsecured && !openOpcode op r.auth then b.reply r op .denied
  else if b.resizedBy r objs then (b.countResized r.path.prid).reply r op .resized
  else match b.check5 op r objs with
  | some v =>
    let b := b.reply r op .denied
    match v with
    | some a => b.nameViolation r a
    | none => b
  | none =>
    if r.auth && b.authLess && op != 0x7005 then (b.setChallenge r.path none).reply r op .locked
    else if info.auth && !r.auth then b.reply r op .denied
    else if r.auth && !b.trailerOk r op then (b.setChallenge r.path none).reply r op .denied
    else
      run (if r.auth then b.setChallenge r.path none else b)

end Sys2Proof
end

