-- ==== Sys2Proof/Machine/Flags.lean ====
section
/-! DEFINITION. Flag and status computations of the power dies and channels: the bands of a feed (R70), the state, cause and
pending values a channel reports (R209, R236), window sums (R186) and the bits of chan.diag.flags (R235). -/

namespace Sys2Proof

/-! ## Feeds -/

/-- The feed that supplies a die: FEED_A for P0 and P1 (R27). -/
def Block.feedOf (b : Block) (d : Nat) : FeedSt := if d < 2 then b.mod.feedA else b.mod.feedB

/-- A band in which the feed is valid (R70). -/
def FeedBand.isValid : FeedBand → Bool
  | .valid => true
  | .above36 => true
  | _ => false

/-- The feed of a die is valid. -/
def Block.feedValid (b : Block) (d : Nat) : Bool := (b.feedOf d).band.isValid

/-- The feed of a die passes no current: lost or reversed (R70, R73). -/
def Block.feedGone (b : Block) (d : Nat) : Bool :=
  match (b.feedOf d).band with
  | .lost => true
  | .reversed => true
  | _ => false

/-! ## Configuration of a channel as its die holds it -/

/-- A group 0x20 value at the die: what a CONF frame brought, else the running configuration (R193). -/
def Block.cp (b : Block) (member c : Nat) : Nat :=
  assocD (b.p (0x2000 + member) c) (b.die (c / 16)).conf (member * 16 + c % 16)

/-- The same as a signed number. -/
def Block.cpi (b : Block) (member c : Nat) : Int :=
  match paramDef? (0x2000 + member) with
  | some d => d.ty.value (b.cp member c)
  | none => 0

/-! ## A channel's protection -/

/-- A hold of any kind keeps the channel off (R211). -/
def ChanSt.inHold (c : ChanSt) : Bool := c.tripHold || c.fuseHold || c.thermHold

/-- A latch keeps the channel off (R224). -/
def ChanSt.inLatch (c : ChanSt) : Bool := c.thermLatch || c.retryLatch

/-- The gate drives a current: on, turning on or in a PWM on-phase. -/
def Phase.drives : Phase → Bool
  | .rising => true | .on => true | .pwmOn => true | _ => false

/-- A turn-off is running, slope or clamp (R191). -/
def Phase.turningOff : Phase → Bool
  | .falling => true | .clamp => true | .pwmClamp => true | _ => false

/-- The channel runs a PWM. -/
def Phase.pwm : Phase → Bool
  | .pwmOn => true | .pwmOff => true | .pwmClamp => true | _ => false

/-- The gate is held off and no turn-off runs: where the off-state checks run (R227). -/
def Phase.isOff : Phase → Bool
  | .off => true | _ => false

/-- The die reports the channel isolated (R229). -/
def DieSt.isolated (d : DieSt) : Bool := d.iso == .opened || d.iso == .closing

/-- chan.prot.cause: the condition of highest precedence (R225, R236). -/
def protCause (d : DieSt) (c : ChanSt) : Nat :=
  if d.isolated then 7
  else if c.thermLatch then 5
  else if c.retryLatch then 6
  else if c.thermHold then (if c.nbrHold then 4 else 3)
  else if c.fuseHold then 2
  else if c.tripHold then 1
  else 0

/-- The bit of chan.diag.flags for a stuck-on channel. -/
def ChanSt.stuck (c : ChanSt) : Bool := c.flags.getLsbD 4

/-- chan.state (R209, R228, R229); a channel that the reversed feed drives on is on (R73; log entry 103). -/
def chanState (d : DieSt) (c : ChanSt) : Nat :=
  if d.isolated then 6
  else if c.stuck || d.reverseOn then 1
  else match c.phase with
  | .on => 1
  | .pwmOn => 2
  | .pwmOff => 2
  | .pwmClamp => 2
  | .rising => 3
  | .falling => 4
  | .clamp => 4
  | .off => if c.lock ≠ 0 then 5 else if c.inHold || c.inLatch then 6 else 0

/-- chan.command (R209). -/
def Cmd.num : Cmd → Nat
  | .off => 0 | .on => 1 | .pwm => 2

/-- chan.pending (R209). -/
def Queued.num : Queued → Nat
  | .none => 0 | .on => 1 | .pwm _ _ => 2

/-- The window sum in microjoule (R186). -/
def ChanSt.windowUj (c : ChanSt) : Nat := c.bins.sum

/-- Single-pulse clamp energy of the class in mJ (R167). -/
def pulseMj (c : Nat) : Nat := byClass c 1200 400 120

/-- Clamp budget of the class per window in mJ (R167). -/
def budgetMj (c : Nat) : Nat := byClass c 3000 1000 300

/-- The window has recovered: the sum is at most half the class budget (R186). -/
def windowRecovered (n : Nat) (c : ChanSt) : Bool := decide (2 * c.windowUj ≤ budgetMj n * 1000)

/-- Milliseconds until the window will have recovered without a further clamp: bins leave at the die's multiples of
50 ms (R186, R189). -/
def recoveryMs (n : Nat) (ms : Nat) (c : ChanSt) : Nat :=
  match (List.range 21).find? (fun j => decide (2 * (c.bins.take (20 - j)).sum ≤ budgetMj n * 1000)) with
  | some 0 => 0
  | some (j + 1) => (50 - ms % 50) + 50 * j
  | none => 1000

/-- One bit of chan.diag.flags set or cleared. -/
def setFlag (w : BitVec 16) (k : Nat) (v : Bool) : BitVec 16 :=
  if v then w ||| BitVec.ofNat 16 (2 ^ k) else w &&& ~~~ (BitVec.ofNat 16 (2 ^ k))

/-- The duty in force under R177 for a commanded duty, a frequency, a slew code and a feed voltage in mV: each phase lasts
at least two slope times of the typical rate; where four do not fit, 500; 0 and 1,000 are never changed. -/
def dutyInForce (duty freq slew mv : Nat) : Nat :=
  let k := match slew with | 0 => 50 | 1 => 20 | 2 => 10 | _ => 4      -- slope time per mV, 0.1 ns
  let num := 2 * mv * k * freq * 1000                                  -- minimum phase in 0.1 % of the period, times 10^10
  let low := (num + 9999999999) / 10000000000
  if duty = 0 ∨ 1000 ≤ duty then duty
  else if 2 * num > 1000 * 10000000000 then 500
  else if duty < low then low
  else if 1000 - low < duty then 1000 - low
  else duty

/-! ## Reports of a die (R193) -/

/-- A report goes to both lanes. -/
def DieSt.report (d : DieSt) (ev cause subject : Nat) (detail : Int) : DieSt :=
  let m := DieMsg.event { ev := ev, cause := cause, subject := subject, detail := detail }
  { d with toLane := d.toLane.map (· ++ [m]) }

/-- The number under which a die reports a change of its preferred port (R199); no event is raised for it. -/
def portReport : Nat := 1000

/-- Channel event of an enabled channel (R168, R551). -/
def Block.chanReport (b : Block) (c cause : Nat) (detail : Int) : Block :=
  if (b.chan c).enabled then b.modDie (c / 16) fun d => d.report (48 + c) cause c detail else b

/-- A diagnostic bit follows a finding; its rising edge raises cause 0x10 + k where R551 gives one. -/
def Block.flagTo (b : Block) (c k : Nat) (v : Bool) : Block :=
  let old := (b.chan c).flags.getLsbD k
  let b := b.modChan c fun x => { x with flags := setFlag x.flags k v }
  if v && !old && k != 3 && k != 8 && k != 9 then b.chanReport c (0x10 + k) 0 else b

/-- The thresholds of a counter passed by going from `old` to `new`, as 1, 2 and 3 (R190, R233). -/
def passed (old new : Nat) (ths : List Nat) : List Nat :=
  (List.range ths.length).filterMap fun i =>
    if old < ths.getD i 0 && ths.getD i 0 ≤ new then some (i + 1) else none

/-- Bit 8 of chan.diag.flags: an enabled channel's checks are suspended by the feed band (R227, R235). -/
def ChanSt.suspend (x : ChanSt) (susp : Bool) : ChanSt :=
  { x with flags := setFlag x.flags 8 (susp && x.enabled),
           openRun := if susp then 0 else x.openRun, shortRun := if susp then 0 else x.shortRun }

/-- What a 1 ms update of the die reports of a channel (R234). -/
def DieSt.snapOf (d : DieSt) (x : ChanSt) : ChanSnap :=
  { state := chanState d x, cause := protCause d x, retries := x.retryUsed, flags := x.flags, last := x.protLast.val,
    lock := x.lock.val, ma := x.ma, v10 := x.v10, local10 := x.local10,
    tw10 := clampInt (-400) 3000 (ratFloor (x.tw * 10)), window := satNat 65535 (x.windowUj / 1000), ledger := x.ledger }

/-- A channel event for each threshold passed. -/
def Block.reportPassed (b : Block) (c cause old new : Nat) (ths : List Nat) : Block :=
  (passed old new ths).foldl (fun b (i : Nat) => b.chanReport c cause i) b

/-! ## The stored fail-safe states (R206) -/

/-- The bank in force: the valid one with the higher count. -/
def DieSt.storeLane (d : DieSt) : Option Lane :=
  match d.store.a.valid, d.store.b.valid with
  | true, true => some (if d.store.a.count < d.store.b.count then .b else .a)
  | true, false => some .a
  | false, true => some .b
  | false, false => none

/-- The stored entry of a channel, OFF when neither bank is valid (R77). -/
def DieSt.stored (d : DieSt) (i : Nat) : FsEntry :=
  match d.storeLane with
  | some l => (d.store.get l).entries.getD i FsEntry.off
  | none => FsEntry.off

/-- The write count of the store (R206). -/
def DieSt.storeCount (d : DieSt) : Nat :=
  match d.storeLane with
  | some l => (d.store.get l).count
  | none => max d.store.a.count d.store.b.count

/-- The bank the next write goes to: the other one, or the lower count when neither is valid (R206). -/
def DieSt.storeNext (d : DieSt) : Lane :=
  match d.storeLane with
  | some l => l.other
  | none => if d.store.b.count < d.store.a.count then .b else .a

/-- A write of the store with the next count; it runs until FAILSAFE_STORE_WRITTEN. -/
def DieSt.writeStore (d : DieSt) (es : List FsEntry) : DieSt :=
  { d with store := d.store.set d.storeNext (FsBank.of es (d.storeCount + 1)), storing := some d.storeNext }

/-! ## The isolation record (R231) -/

/-- The isolation bank in force. -/
def DieSt.isoLane (d : DieSt) : Option Lane :=
  match d.isoBanks.a.valid, d.isoBanks.b.valid with
  | true, true => some (if d.isoBanks.a.count < d.isoBanks.b.count then .b else .a)
  | true, false => some .a
  | false, true => some .b
  | false, false => none

/-- The stored policy, 0 when no record is valid. -/
def DieSt.isoPolicy (d : DieSt) : Fin 3 :=
  match d.isoLane with
  | some l => (d.isoBanks.get l).policy
  | none => 0

/-- The write count of the record. -/
def DieSt.isoCount (d : DieSt) : Nat :=
  match d.isoLane with
  | some l => (d.isoBanks.get l).count
  | none => max d.isoBanks.a.count d.isoBanks.b.count

/-- A write of the record, unless the count has reached 10,000 (R231). -/
def DieSt.writeIso (d : DieSt) (policy : Fin 3) (opened : Bool) : DieSt :=
  if 10000 ≤ d.isoCount then d else
  let next := match d.isoLane with
    | some l => l.other
    | none => if d.isoBanks.b.count < d.isoBanks.a.count then .b else .a
  { d with isoBanks := d.isoBanks.set next (IsoBank.of policy opened (d.isoCount + 1)) }

/-- chan.iso.state (R232). -/
def IsoState.num : IsoState → Nat
  | .closed => 0 | .opened => 1 | .opening => 2 | .closing => 3

end Sys2Proof
end

