-- ==== Sys2Proof/Machine/Power.lean ====
section
/-! DEFINITION. Power dies: switching of a channel, PWM, inrush, clamp, protective turn-offs and restarts, isolation,
fail-safe mode, and the pairing of command frames (06_load_channels_switching.md, 07_load_channels_protection.md). -/

namespace Sys2Proof

/-! ## Turning a channel on and off -/

/-- The channel leaves off: every turn-on after a protective turn-off counts as a retry until the counter resets, but for the
restart after a neighbour-coupled shut-down (R223; DEDUCED, log 47), and an inrush
window opens (R179), stretched while the feed lies below 18 V (R180). -/
def Block.turnOn (b : Block) (c : Nat) (ph : Phase) : Block :=
  let window := b.cp 0x08 c
  let low := decide ((b.feedOf (c / 16)).mv < 18000)
  b.modChan c fun x =>
    let counts := x.offByProt && !x.nbrHold
    { x with phase := ph, inrush := decide (0 < window), stretched := decide (0 < window) && low, waitFeed := false,
             onDue := false, nbrHold := false, openRun := 0, shortRun := 0,
             retryUsed := if counts then satNat 255 (x.retryUsed + 1) else x.retryUsed }

/-- The channel turns off under its clamp mode (R182); an inrush window ends (R175). A PWM whose off-phase has ended is off
at once; a turn-off that runs already takes the fast slope of a fast trip (R211). -/
def Block.turnOff (b : Block) (c : Nat) (fast : Bool) : Block :=
  let mode := b.cp 0x0A c == 1
  b.modChan c fun x =>
    let x := { x with inrush := false, stretched := false, onDue := false, nextPwm := none, waitFeed := false }
    match x.phase with
    | .off => x
    | .pwmOff => { x with phase := .off }
    | .pwmClamp => { x with phase := .falling }
    | .falling => { x with fastOff := x.fastOff || fast }
    | .clamp => x
    | .rising => { x with phase := .falling, clampMode := mode, fastOff := fast }
    | .on => { x with phase := .falling, clampMode := mode, fastOff := fast }
    | .pwmOn => { x with phase := .falling, clampMode := mode, fastOff := fast }

/-- The duty in force is computed from the commanded one at the present feed (R177). -/
def Block.setDuty (b : Block) (c : Nat) : Block :=
  let slew := b.cp 0x04 c
  let mv := (b.feedOf (c / 16)).mv.toNat
  b.modChan c fun x => { x with duty := dutyInForce x.cmdDuty x.freq slew mv }

/-- The references a die keeps when a channel comes to run at a frequency, and whether that channel's first period lies in its
slot: a frequency at which no channel runs has none, and the channel that starts alone at a frequency sets it (R178). -/
def DieSt.refFor (d : DieSt) (i freq : Nat) : List (Nat × Nat) × Bool :=
  let used := d.pwmRefs.filter fun r => (List.range 16).any fun k => k != i && (d.chan k).phase.pwm && (d.chan k).freq == r.1
  if used.any fun r => r.1 == freq then (used, false) else (used ++ [(freq, i)], true)

/-- The channel takes its place among the periods of a frequency (R178). -/
def Block.placeSlot (b : Block) (c freq : Nat) : Block :=
  let (refs, first) := (b.die (c / 16)).refFor (c % 16) freq
  (b.modDie (c / 16) fun d => { d with pwmRefs := refs }).modChan c fun x => { x with inSlot := first }

/-- A PWM starts with an on-phase at a frequency and duty; its die keeps a reference for the frequency (R176, R178). -/
def Block.startPwm (b : Block) (c freq duty : Nat) : Block :=
  let fromOff := (b.chan c).phase.isOff
  let b := if fromOff then b.turnOn c .pwmOn
           else b.modChan c fun x => { x with phase := .pwmOn, onDue := false }
  let b := b.modChan c fun x => { x with command := .pwm, freq := freq, cmdDuty := duty, queued := .none, nextPwm := none }
  (b.placeSlot c freq).setDuty c

/-- Nothing but the feed and the isolation switch keeps the channel from turning on; the gate of a stuck-on channel is kept off
(R228). -/
def ChanSt.free (x : ChanSt) : Bool := x.lock == 0 && !x.inHold && !x.inLatch && !x.stuck

/-- The on-state the command asks for is taken up from off; without a feed, or with the switch not closed, it waits
(R71, R225 case 13, R230). -/
def Block.goOn (b : Block) (c : Nat) : Block :=
  let x := b.chan c
  let d := b.die (c / 16)
  if d.iso != .closed || x.stuck then b
  else if b.feedGone (c / 16) then b.modChan c fun x => { x with waitFeed := true }
  else match x.command with
  | .off => b
  | .on => b.turnOn c .rising
  | .pwm => b.startPwm c x.freq x.cmdDuty

/-- A stored PWM whose duty is 0 or 1,000 is no PWM but off or on (R176, R177; log entry 103). -/
def FsEntry.plain (e : FsEntry) : FsEntry :=
  if e.st = 3 ∧ e.duty = 0 then { e with st := 0 } else if e.st = 3 ∧ 1000 ≤ e.duty then { e with st := 1 } else e

/-- In fail-safe mode a channel follows its stored state when a hold ends: ON and PWM are its command again (R225 case 12). -/
def Block.recallStored (b : Block) (c : Nat) : Block :=
  let e := ((b.die (c / 16)).stored (c % 16)).plain
  if !(b.die (c / 16)).failSafe || !(b.chan c).enabled then b
  else if e.st = 1 then b.modChan c fun x => { x with command := .on }
  else if e.st = 3 then b.modChan c fun x => { x with command := .pwm, freq := e.freq, cmdDuty := e.duty }
  else b

/-- What a channel does when its turn-off or a hold has ended: a queued command runs, else a command still on restarts; while the
switch is not closed a queued command waits (R191, R223, R225 cases 4, 8, 12, R230). -/
def Block.settle (b : Block) (c : Nat) : Block :=
  if !(b.chan c).phase.isOff || !(b.chan c).free || (b.die (c / 16)).iso != .closed then b else
  let b := b.recallStored c
  let x := b.chan c
  match x.queued with
  | .on => (b.modChan c fun x => { x with command := .on, queued := .none }).goOn c
  | .pwm f d => (b.modChan c fun x => { x with command := .pwm, freq := f, cmdDuty := d, queued := .none }).goOn c
  | .none =>
    if x.command == .off then b
    else if !b.feedValid (c / 16) then b.modChan c fun x => { x with waitFeed := true }
    else b.goOn c

/-! ## Commands at the die (R170, R171, R175, R176, R188, R191, R224, R230) -/

/-- Outcomes of R171, and 4 for a refusal. -/
def refusedOutcome : Nat := 4

/-- An off-command: at once in every state. Latches end, a queue empties, an inrush window ends (R175, R224, R225). It changes
nothing, outcome 3, where the channel is off or turning off and no command waits (R171, R191; DEDUCED, log 48). -/
def Block.cmdOff (b : Block) (c : Nat) : Block × Nat :=
  let x := b.chan c
  let out := if x.inLatch || x.stuck || x.queued != .none || x.waitFeed then 0
             else if x.phase == .pwmClamp then 0
             else if x.phase.turningOff || x.phase.isOff then 3 else 0
  let hot := x.thermLatch && decide (1500 < x.local10)
  let b := b.modChan c fun x =>
    { x with command := .off, queued := .none, thermLatch := false, retryLatch := false,
             thermHold := x.thermHold || hot, waitFeed := false }
  (b.turnOff c false, out)

/-- A PWM command to a running PWM: the next period takes it up (R176); no change where it repeats what the PWM runs at
(R171; DEDUCED, log 48). -/
def Block.nextPeriod (b : Block) (c : Nat) (p : Nat × Nat) : Block × Nat :=
  let x := b.chan c
  if x.nextPwm == none && (x.freq, x.cmdDuty) == p then (b, 3)
  else (b.modChan c fun x => { x with nextPwm := some p }, 0)

/-- An on-command or a PWM command with a duty between 0 and 1,000. A stuck-on channel records it and its gate stays off (R228;
log entry 103). -/
def Block.cmdOn (b : Block) (c : Nat) (pwm : Option (Nat × Nat)) : Block × Nat :=
  let x := b.chan c
  let q : Queued := match pwm with | none => .on | some (f, d) => .pwm f d
  let queue (k : Nat) : Block × Nat := (b.modChan c fun x => { x with queued := q }, k)
  if !x.enabled then (b, refusedOutcome)
  else if x.lock ≠ 0 then (b, refusedOutcome)
  else if x.inLatch then (b, refusedOutcome)
  else if (b.die (c / 16)).iso != .closed then
    (b.modChan c fun x => match pwm with
      | none => { x with queued := q, command := .on }
      | some (f, d) => { x with queued := q, command := .pwm, freq := f, cmdDuty := d }, 2)
  else if x.inHold then queue 2
  else if x.stuck then
    (b.modChan c fun x => match pwm with
      | none => { x with command := .on, queued := .none }
      | some (f, d) => { x with command := .pwm, freq := f, cmdDuty := d, queued := .none }, if pwm.isNone then 3 else 0)
  else match x.phase, pwm with
  | .falling, _ => queue 1
  | .clamp, _ => queue 1
  | .pwmClamp, none => (b.modChan c fun x => { x with phase := .falling, queued := q, nextPwm := none, onDue := false }, 1)
  | .pwmClamp, some p => b.nextPeriod c p
  | .rising, none => (b.modChan c fun x => { x with queued := .none }, 3)
  | .on, none => (b.modChan c fun x => { x with queued := .none }, 3)
  | .rising, some (f, d) => (b.startPwm c f d, 0)
  | .on, some (f, d) => (b.startPwm c f d, 0)
  | .pwmOn, none => (b.modChan c fun x => { x with phase := .on, command := .on, nextPwm := none, onDue := false }, 0)
  | .pwmOff, none => (b.modChan c fun x => { x with phase := .rising, command := .on, nextPwm := none, onDue := false }, 0)
  | .pwmOn, some p => b.nextPeriod c p
  | .pwmOff, some p => b.nextPeriod c p
  | .off, _ =>
    let b := b.modChan c fun x => match pwm with
      | none => { x with command := .on, queued := .none }
      | some (f, d) => { x with command := .pwm, freq := f, cmdDuty := d, queued := .none }
    (b.goOn c, 0)

/-- A PWM command with any duty: 0 is off, 1,000 is on (R176). -/
def Block.cmdPwm (b : Block) (c freq duty : Nat) : Block × Nat :=
  if duty = 0 then b.cmdOff c
  else if 1000 ≤ duty then b.cmdOn c none
  else b.cmdOn c (some (freq, duty))

/-! ## Protective turn-offs (R211, R218, R221-R225) -/

/-- A protective turn-off with its code of R211; `detail` and `nbr` are those of its record. The hold of the cause is set,
a latch as R221 and R223 lay down, and one record is raised (R551). -/
def Block.protOff (b : Block) (c code : Nat) (detail : Int) : Block :=
  let x := b.chan c
  let limit := b.cp 0x24 c
  let thermLatch := code == 4 && b.cp 0x28 c == 1
  let retryLatch := code != 5 && !thermLatch && decide (limit ≤ x.retryUsed)
  let autoOff := code == 3 && b.cp 0x38 c == 0
  let now := (b.die (c / 16)).ms
  let b := b.modChan c fun x =>
    { x with
      tripHold := x.tripHold || code == 1 || code == 2
      fuseHold := x.fuseHold || code == 3
      thermHold := x.thermHold || (code == 4 && !thermLatch) || code == 5
      nbrHold := if code == 5 then true else if code == 4 then false else x.nbrHold
      thermLatch := x.thermLatch || thermLatch
      retryLatch := x.retryLatch || retryLatch
      protLast := Fin.ofNat 6 code
      trips := satNat 0xFFFFFFFF (x.trips + 1)
      thermCount := if code == 4 || code == 5 then satNat 0xFFFFFFFF (x.thermCount + 1) else x.thermCount
      lastTripMs := if code == 1 || code == 2 then some now else x.lastTripMs
      offByProt := x.offByProt || code != 5
      command := if autoOff then .off else x.command
      flags := let f := if code == 1 || code == 2 then setFlag x.flags 3 true else x.flags
               if code == 4 || code == 5 then setFlag f 9 (code == 5) else f }
  let b := b.turnOff c (code == 1 || code == 2)
  if thermLatch then b.chanReport c 0x06 (code : Int)
  else if retryLatch then b.chanReport c 0x07 (code : Int)
  else b.chanReport c code detail

/-- Protection watches the channel: it takes part in operation, or its last turn-off still runs (R168, R211, R212). -/
def ChanSt.watched (x : ChanSt) : Bool := x.enabled || !x.phase.isOff

/-- The channel is not simply off by command: it runs, turns off, waits with its command on, or is stuck on (R211, R218). -/
def ChanSt.working (x : ChanSt) : Bool := x.watched && (!x.phase.isOff || x.command != .off || x.stuck)

/-! ## Clamp energy (R184-R190) -/

/-- Single-pulse limit in microjoule at a start temperature in 0.1 degrees (R185). -/
def pulseLimitUj (c : Nat) (start10 : Int) : Nat :=
  if start10 ≤ 850 then pulseMj c * 1000
  else if 1500 ≤ start10 then 0
  else pulseMj c * 1000 * (1500 - start10).toNat / 650

/-- The thresholds of chan.clamp.wear in millionths of an equivalent (R190). -/
def wearThresholds : List Nat := [50000000 * 1000000, 80000000 * 1000000, 100000000 * 1000000]

/-- The thresholds of chan.switch.count (R190). -/
def switchThresholds : List Nat := [10000000000, 16000000000, 20000000000]

/-- One more switching cycle (R190). -/
def Block.countSwitch (b : Block) (c : Nat) : Block :=
  let old := (b.chan c).switchCount
  let new := satNat (2 ^ 64 - 1) (old + 1)
  (b.modChan c fun x => { x with switchCount := new }).reportPassed c 0x28 old new switchThresholds

/-- The missing-freewheel check at the end of a mode-1 turn-off: bit 5 follows it, and a backstop clamp above 1 mJ is reported
every time (R182, R227; log entry 104). -/
def Block.freewheel (b : Block) (c : Nat) (missing : Bool) : Block :=
  if !(b.chan c).clampMode || !(b.chan c).enabled then b
  else
    let b := b.modChan c fun x => { x with flags := setFlag x.flags 5 missing }
    if missing then b.chanReport c 0x15 0 else b

/-- A turn-off has ended without clamping: its energy is 0, and mode 1 finds the freewheel path (R182, R184). -/
def Block.unclamped (b : Block) (c : Nat) : Block :=
  if !(b.chan c).phase.turningOff then b else (b.modChan c fun x => { x with lastUj := 0 }).freewheel c false

/-- The energy of a clamp that has ended is counted: last energy, count, wear, window, lock and the reports (R182,
R184-R188, R190). -/
def Block.countClamp (b : Block) (c energyUj : Nat) (start10 : Int) : Block :=
  let x := b.chan c
  let clamped := decide (500 ≤ energyUj)
  let addWear := if clamped then energyUj * 1000000 / (pulseMj c * 500) else 0
  let oldWear := x.wear
  let newWear := oldWear + addWear
  let bins := if clamped then updAt x.bins 0 (· + energyUj) else x.bins
  let lock : Fin 3 :=
    if x.lock ≠ 0 then x.lock
    else if clamped && decide (pulseLimitUj c start10 < energyUj) then 1
    else if clamped && decide (budgetMj c * 1000 < bins.sum) then 2 else 0
  let newly := x.lock == 0 && lock != 0
  let dropped := newly && x.queued != .none
  let b := b.modChan c fun x =>
    { x with lastUj := energyUj, clampCount := if clamped then satNat (2 ^ 64 - 1) (x.clampCount + 1) else x.clampCount,
             wear := newWear, bins := bins, lock := lock, queued := if newly then .none else x.queued }
  let b := b.freewheel c (decide (1000 < energyUj))
  let b := b.reportPassed c 0x27 oldWear newWear wearThresholds
  let b := if newly then
      (if lock = 1 then b.chanReport c 0x20 ((energyUj / 1000 : Nat) : Int)
       else b.chanReport c 0x21 ((bins.sum / 1000 : Nat) : Int)) else b
  if dropped then b.chanReport c 0x22 0 else b

/-- A turn-off has ended, by its slope or its clamp: the channel is off, or its PWM is in the off-phase, or a due on-phase
starts (R174, R191, R554). -/
def Block.turnOffEnds (b : Block) (c : Nat) : Block :=
  let x := b.chan c
  match x.phase with
  | .falling => ((b.modChan c fun x => { x with phase := .off, fastOff := false }).countSwitch c).settle c
  | .clamp => ((b.modChan c fun x => { x with phase := .off, fastOff := false }).countSwitch c).settle c
  | .pwmClamp =>
    if x.lock ≠ 0 then
      ((b.modChan c fun x => { x with phase := .off, onDue := false, nextPwm := none }).countSwitch c)
    else if x.onDue then ((b.modChan c fun x => { x with phase := .pwmOn, onDue := false }).countSwitch c)
    else (b.modChan c fun x => { x with phase := .pwmOff }).countSwitch c
  | _ => b

/-! ## Isolation (R229-R231) -/

/-- The stuck-on channels of a die. -/
def DieSt.stuckMask (d : DieSt) : BitVec 16 := BitVec.ofNat 16 (bitsOf (d.chans.map ChanSt.stuck))

/-- The die decides to open its isolation switch: every conducting channel turns off, the record is written, and which channels
are stuck on is kept for a reopening (R229-R231). -/
def Block.isolate (b : Block) (d : Nat) : Block :=
  if (b.die d).iso == .opened || (b.die d).iso == .opening then b else
  let b := (List.range 16).foldl (fun b i => b.turnOff (16 * d + i) false) b
  b.modDie d fun x => ({ x with iso := .opening, feedNext := none, isoStuck := x.stuckMask }).writeIso x.isoPolicy true

/-- The first on-commanded channel at or above a local index that is off and free to turn on. -/
def Block.nextOn (b : Block) (d i : Nat) : Option Nat :=
  (List.range 16).find? fun k =>
    decide (i ≤ k) && (let x := b.chan (16 * d + k)
      x.enabled && x.phase.isOff && x.free && (x.command != .off || x.queued != .none))

/-- The sequence of R71 for a die: the next on-commanded channel turns on, and the one after it falls due 1 ms later. -/
def Block.feedStep (b : Block) (d i : Nat) : Block :=
  match b.nextOn d i with
  | none => b.modDie d fun x => { x with feedNext := none }
  | some k =>
    let c := 16 * d + k
    let b := match (b.chan c).queued with
      | .none => b.goOn c
      | _ => b.settle c
    b.modDie d fun x => { x with feedNext := some (k + 1) }

/-! ## Fail-safe states (R76, R203) -/

/-- One channel takes its stored state on entry into fail-safe mode. A stored ON or PWM becomes its command also where a lock
refuses it, and where a turn-off still runs the channel turns on when that has ended (log entry 105). -/
def Block.takeStored (b : Block) (c : Nat) : Block :=
  let e := ((b.die (c / 16)).stored (c % 16)).plain
  let x := b.chan c
  match e.st with
  | 0 => (b.cmdOff c).1.modChan c fun y => { y with thermLatch := x.thermLatch, retryLatch := x.retryLatch,
                                                    thermHold := x.thermHold }
  | 1 =>
    let b := b.modChan c fun x => { x with queued := .none }
    match x.phase with
    | .off => (b.modChan c fun x => { x with command := .on }).settle c
    | .pwmOn => b.modChan c fun x => { x with phase := .on, command := .on, nextPwm := none }
    | .pwmOff => b.modChan c fun x => { x with phase := .rising, command := .on, nextPwm := none }
    | .pwmClamp => b.modChan c fun x => { x with phase := .falling, command := .on, nextPwm := none, onDue := false }
    | _ => b.modChan c fun x => { x with command := .on }
  | 2 => b
  | 3 =>
    let b := b.modChan c fun x => { x with queued := .none }
    match x.phase with
    | .off => (b.modChan c fun x => { x with command := .pwm, freq := e.freq, cmdDuty := e.duty }).settle c
    | .on => b.startPwm c e.freq e.duty
    | .rising => b.startPwm c e.freq e.duty
    | .pwmOn => b.modChan c fun x => { x with nextPwm := some (e.freq, e.duty) }
    | .pwmOff => b.modChan c fun x => { x with nextPwm := some (e.freq, e.duty) }
    | .pwmClamp => b.modChan c fun x => { x with nextPwm := some (e.freq, e.duty) }
    | _ => b.modChan c fun x => { x with command := .pwm, freq := e.freq, cmdDuty := e.duty }

/-- Every enabled channel of a die takes its stored state. -/
def Block.takeAllStored (b : Block) (d : Nat) : Block :=
  (List.range 16).foldl (fun b i => if (b.chan (16 * d + i)).enabled then b.takeStored (16 * d + i) else b) b

/-- The channels the die enables by itself after a logic power-up: those stored ON or PWM (R168). -/
def DieSt.enableStored (d : DieSt) : DieSt :=
  { d with chans := mapIdxFrom (fun i (x : ChanSt) =>
      { x with enabled := (d.stored i).st == 1 || (d.stored i).st == 3, phase256 := 16 * i }) 0 d.chans }

/-! ## Command frames (R192-R199, R204) -/

/-- The preferred port becomes another one; an EVENT frame says so (R199). -/
def DieSt.prefer (d : DieSt) (p : Lane) : DieSt :=
  if d.preferred = p then d else ({ d with preferred := p }).report portReport 0 p.num 0

/-- The mask of one outcome: applied (0, 3), queued (1, 2), refused. -/
def outcomeMask (outs : List (Nat × Nat)) (sel : Nat → Bool) : BitVec 16 :=
  outs.foldl (fun w e => if sel e.2 then w ||| BitVec.ofNat 16 (2 ^ e.1) else w) 0

/-- A sequenced frame is carried out by die d. The answer lists local indices with their outcomes (R171, R193). -/
def Block.carryOut (b : Block) (d : Nat) (f : DieFrame) : Block × List (Nat × Nat) :=
  let i := f.frame.idx.val
  let c := 16 * d + i
  let a := f.frame.arg
  match f.kind with
  | .set => let (b, o) := if byteAt a 0 = 0 then b.cmdOff c else b.cmdOn c none
            (b, [(i, o)])
  | .pwm => let (b, o) := (b.modChan c fun x => { x with phase256 := byteAt a 4 }).cmdPwm c (fieldAt a 0 2) (fieldAt a 2 2)
            (b, [(i, o)])
  | .multi =>
    (bitIdx 16 (fieldAt a 0 2)).foldl (fun (acc : Block × List (Nat × Nat)) k =>
      let (b, o) := if (fieldAt a 2 2).testBit k then acc.1.cmdOn (16 * d + k) none else acc.1.cmdOff (16 * d + k)
      (b, acc.2 ++ [(k, o)])) (b, [])
  | .keep => (b.modDie d fun x => { x with taken := true }, [])
  | .role => (b.modDie d fun x => x.prefer (if byteAt a 0 = 0 then .a else .b), [])
  | .unlock =>
    let o := if (b.chan c).lock = 0 then 3 else 0
    (b.modChan c fun x => { x with lock := 0 }, [(i, o)])
  | .conf =>
    let v := fieldAt a 2 4
    let b :=
      if byteAt a 0 = 0x20 then
        if byteAt a 1 = 0x01 then
          (if v = 0 then
             let b := b.modChan c fun x => { x with enabled := false, command := .off, queued := .none, ledgerSum := 0, ledgerSteps := 0,
                                                    openRun := 0, shortRun := 0, flags := setFlag (setFlag x.flags 3 false) 8 false }
             b.turnOff c false
           else
             let susp := !b.feedValid d
             b.modChan c fun x => ({ x with enabled := true } : ChanSt).suspend susp)
        else
          let b := b.modDie d fun x => { x with conf := assocSet x.conf (byteAt a 1 * 16 + i) v }
          if byteAt a 1 = 0x07 then b.modChan c fun x => { x with phase256 := v }
          else if byteAt a 1 = 0x42 then b.modChan c fun x => { x with openRun := 0, shortRun := 0 } else b
      else if byteAt a 0 = 0x28 then
        match byteAt a 1 with
        | 0x01 => b.modDie d fun x => { x with storeCfg := updAt x.storeCfg i fun e => { e with st := Fin.ofNat 4 v } }
        | 0x02 => b.modDie d fun x => { x with storeCfg := updAt x.storeCfg i fun e => { e with duty := v } }
        | 0x03 => b.modDie d fun x => { x with storeCfg := updAt x.storeCfg i fun e => { e with freq := v } }
        | 0x10 => b.modDie d fun x => { x with wdtNext := v }
        | _ => b
      else b
    (b, [])
  | .store => (b.modDie d fun x => x.writeStore x.storeCfg, [])

/-- The content of a frame, bytes 0-9 (R192). -/
def DieFrame.same (f g : DieFrame) : Bool := f.kind == g.kind && f.frame == g.frame

/-- How far a number lies above another (R195). -/
def seqDist (n l : Half) : Nat := (n - l).toNat

/-- A number is new after L (R195). -/
def seqNew (n l : Half) : Bool := decide (1 ≤ seqDist n l) && decide (seqDist n l ≤ 1024)

/-- The die acts on a frame: a gap is counted, the frame is carried out, L and the record are set, ACK goes to both ports
(R195, R196). -/
def Block.actOn (b : Block) (d : Nat) (f : DieFrame) (copy : Fin 4) : Block :=
  let now := (b.die d).ms
  let gap := (f.frame.num != (b.die d).lnum + 1) && copy != 3
  let (b, outs) := b.carryOut d f
  b.modDie d fun x =>
    let ok := outcomeMask outs (fun o => o == 0 || o == 3)
    let qd := outcomeMask outs (fun o => o == 1 || o == 2)
    let no := outcomeMask outs (fun o => o == refusedOutcome)
    let out := match outs with | [(_, o)] => o | _ => 0
    { x with lnum := f.frame.num, gaps := if gap then satNat 0xFFFFFFFF (x.gaps + 1) else x.gaps,
             acted := { f with ms := now } :: x.acted.filter (fun g => g.frame.num != f.frame.num && decide (now ≤ g.ms + 1)),
             standbyActed := if copy == 1 || copy == 2 then satNat 0xFFFFFFFF (x.standbyActed + 1) else x.standbyActed,
             toLane := x.toLane.map (· ++ [DieMsg.ack f.frame.num copy ok qd no out]) }

/-- The held copies whose numbers come before a distance from L, nearest first. -/
def DieSt.heldBelow (d : DieSt) (dist : Nat) : List DieFrame :=
  ((List.range (dist + 1)).filterMap fun k => d.held.find? fun f => seqDist f.frame.num d.lnum == k)

/-- Held copies are released in number order with a copy code. -/
def Block.releaseUpTo (b : Block) (d dist : Nat) (copy : Fin 4) : Block :=
  let fs := (b.die d).heldBelow dist
  let b := b.modDie d fun x => { x with held := x.held.filter (fun f => !fs.contains f) }
  fs.foldl (fun b f => b.actOn d f copy) b

/-- A die reports a divergence of two copies (R196, R197): source code 1, with the channel's holder named by the lanes. -/
def Block.dieDiverges (b : Block) (d : Nat) (f : DieFrame) : Block :=
  b.modDie d fun x => ({ x with divergence := satNat 0xFFFFFFFF (x.divergence + 1) }).report 19 1
    (match f.kind with | .set => 16 * d + f.frame.idx.val | .pwm => 16 * d + f.frame.idx.val
                       | .unlock => 16 * d + f.frame.idx.val | _ => noSubject) 0

/-- Every valid frame feeds the watchdog; a new timeout takes effect (R201, R202). -/
def DieSt.feed (d : DieSt) (p : Lane) : DieSt :=
  { d with lastValid := d.lastValid.set p (some d.ms), wdtMs := d.wdtNext }

/-- A late copy is compared with what was acted upon within 1 ms (R197). -/
def Block.lateCopy (b : Block) (d : Nat) (p : Lane) (f : DieFrame) : Block :=
  let x := b.die d
  match x.acted.find? (fun g => g.frame.num == f.frame.num && decide (x.ms ≤ g.ms + 1)) with
  | none => b.modDie d fun x => { x with oldDiscarded := x.oldDiscarded + 1 }
  | some g =>
    if g.same f then b
    else
      let b := b.dieDiverges d f
      if p = x.preferred then
        let (b, _) := b.carryOut d f
        b.modDie d fun x => { x with acted := x.acted.map fun h => if h.frame.num == f.frame.num then { f with ms := h.ms } else h }
      else b

/-- A die's port receives nothing: the die is without logic, or the lane has released its command ports (R26, R256). -/
def Block.portQuiet (b : Block) (d : Nat) (p : Lane) : Bool := !(b.die d).powered || (b.lane p).released

/-- A valid sequenced frame arrives at a port of a die (R196-R198, R204). -/
def Block.frameAt (b : Block) (d : Nat) (p : Lane) (k : SeqKind) (fr : LinkFrame) : Block :=
  if b.portQuiet d p then b else
  let b := b.modDie d (·.feed p)
  let x := b.die d
  let f : DieFrame := { kind := k, frame := fr, ms := x.ms }
  if x.failSafe then
    if k = .keep then
      let b := b.modDie d fun x => ({ x with failSafe := false, held := [], taken := true }).prefer p
      b.actOn d f 3
    else b
  else if !seqNew fr.num x.lnum then b.lateCopy d p f
  else if p = x.preferred then
    let b := b.releaseUpTo d (seqDist fr.num x.lnum - 1) 2
    let b := match (b.die d).held.find? (fun g => g.frame.num == fr.num) with
      | none => b
      | some g => if g.same f then b else b.dieDiverges d f
    let b := b.modDie d fun x => { x with held := x.held.filter (fun g => g.frame.num != fr.num) }
    b.actOn d f 0
  else
    let b := if 16 ≤ x.held.length then
        match x.held with
        | h :: t => (b.modDie d fun x => { x with held := t }).actOn d h 1
        | [] => b
      else b
    b.modDie d fun x => { x with held := x.held ++ [f] }

/-! ## Ottum's side of the link (R200, R261) -/

/-- The stream handle under which the numbers of management frames are kept. -/
def mgmtHandle : Nat := 1024

/-- The number that names a die's stream in a check record: stream handles and the management responses have the lower ones (R261). -/
def powerStream (d : Nat) : Nat := 1025 + d

/-- The PRID that owns a power command: that of the channel it names; 32 for a frame of more than one channel or of none (R265). -/
def Block.ownerOf (b : Block) (d : Nat) (k : SeqKind) (idx : Nat) : Nat :=
  match k with
  | .set | .pwm | .unlock => b.holderOfChan (16 * d + idx)
  | _ => 32

/-- Ottum gives a frame the next number of the die's stream and sends it, with its check records; the copies are the lanes' commands to come.
Nothing is sent to a silent die but REFRESH and READ (R518). -/
def Block.sendFrame (b : Block) (d : Nat) (k : SeqKind) (idx : Nat) (arg : List Byte) : Block :=
  if (b.link d).lost then b else
  let states := (b.die d).chans.map (chanState (b.die d))
  let f : LinkFrame := { num := (b.link d).lastNum + 1, idx := Fin.ofNat 16 idx, arg := arg }
  let b := b.modLink d fun x =>
    { x with lastNum := f.num,
             unacked := x.unacked ++ [{ num := f.num, kind := k, frame := f, doneA := false, doneB := false, asked := .both false,
                                        was := states, outcome := 0 }] }
  b.serving.foldl (fun b l => b.checkSent l (powerStream d) f.num.toNat (b.ownerOf d k idx) (f.bytes k)) b

/-- The argument bytes 4 to 9 of a CONF frame: group, member, value (R193). -/
def confArg (group member v : Nat) : List Byte := leBytes 1 group ++ leBytes 1 member ++ leBytes 4 v

/-- Ottum sends the dies the CONF frames of R168 after a KEEP: the enable of each channel and the watchdog timeout. -/
def Block.sendConf (b : Block) (d : Nat) : Block :=
  let b := (List.range 16).foldl (fun b i =>
    b.sendFrame d .conf i (confArg 0x20 0x01 (b.p 0x2001 (16 * d + i)))) b
  b.sendFrame d .conf 0 (confArg 0x28 0x10 (b.p 0x2810 (16 * d)))

/-- Ottum takes a die over: KEEP, then its CONF frames, and the counters of the parameter store (R78, R168, R190). -/
def Block.takeOver (b : Block) (d : Nat) : Block :=
  let saved := (b.link d).saved
  let b := (b.sendFrame d .keep 0 (zeroBytes 6)).sendConf d
  b.modDie d fun x =>
    { x with chans := mapIdxFrom (fun i (y : ChanSt) =>
        match saved[i]? with
        | some r => { y with clampCount := max y.clampCount r.clampCount, wear := max y.wear r.wear,
                             switchCount := max y.switchCount r.switchCount, ledger := max y.ledger r.ledger }
        | none => y) 0 x.chans }

/-- Every die is sent ROLE naming a lane's port (R199, R270, R277). -/
def Block.sendRole (b : Block) (l : Lane) : Block :=
  (List.range 4).foldl (fun b d => b.sendFrame d .role 0 (leBytes 1 l.num ++ zeroBytes 5)) b

end Sys2Proof
end

