-- ==== Sys2Proof/Machine/Fuse.lean ====
section
/-! DEFINITION. The wire-matched fuse and the wire-life ledger of a power die: wire data (R214), the 1 ms estimate (R215 to
R218), the configuration check (R219) and the ageing weight (R233). Exact rational arithmetic; the exponential of the
ledger to the resolution of log entry 9. -/

namespace Sys2Proof

/-- Wire data by cross-section: r20 in ohm/m, rth1 in K m/W, heat capacity in J/(K m) (R214). -/
def wireRow : Nat → Rat × Rat × Rat
  | 35 => (52 / 1000, 204 / 10, 287 / 100)
  | 50 => (371 / 10000, 166 / 10, 430 / 100)
  | 75 => (247 / 10000, 14, 613 / 100)
  | 100 => (185 / 10000, 126 / 10, 764 / 100)
  | 150 => (127 / 10000, 111 / 10, 103 / 10)
  | 250 => (760 / 100000, 884 / 100, 164 / 10)
  | 400 => (471 / 100000, 717 / 100, 253 / 10)
  | 600 => (314 / 100000, 617 / 100, 352 / 10)
  | 1000 => (182 / 100000, 450 / 100, 64)
  | 1600 => (116 / 100000, 379 / 100, 934 / 10)
  | _ => (743 / 1000000, 316 / 100, 138)

/-- Rated temperature of an ISO 6722-1 class 0-4 (R214). -/
def ratedTemp : Nat → Int
  | 0 => 85 | 1 => 100 | 2 => 125 | 3 => 150 | _ => 175

/-- r20, rth1 and heat capacity from the values of wire_area, r20, rth and cap (R214, R236). -/
def wireOf (area r20 rth cap : Nat) : Rat × Rat × Rat :=
  if area = 0 then ((r20 : Rat) / 1000000, (rth : Rat) / 100, (cap : Rat) / 10) else wireRow area

/-- Coupling factor at a distance in local index (R217). -/
def coupling (i j : Nat) : Rat :=
  match (if i < j then j - i else i - j) with
  | 0 => 0
  | 1 => 3 / 10
  | 2 => 1 / 10
  | _ => 2 / 100

/-- Coupled heat of channel i from the powers of the die's channels (R217). -/
def coupledHeat (i : Nat) (pwr : List Rat) : Rat := (mapIdxFrom (fun j p => coupling i j * p) 0 pwr).sum

/-- One step of the estimate (R215): the new dtw, dtn and tw. -/
def fuseStep (wire : Rat × Rat × Rat) (bundle ta i2 pc dtw dtn tw : Rat) : Rat × Rat × Rat :=
  let rth := wire.2.1 * bundle
  let tau := wire.2.2 * rth
  let r := wire.1 * (1 + 393 / 100000 * (tw - 20))
  let dtw' := dtw + (i2 * r * rth - dtw) * (1 / 1000) / tau
  let dtn' := dtn + (3 / 2 * pc - dtn) * (1 / 1000) / 2
  (dtw', dtn', ta + dtn' + dtw')

/-- Trip temperature of a channel in degrees (R218). -/
def Block.tripTemp (b : Block) (c : Nat) : Int := ratedTemp (b.cp 0x31 c) + b.cpi 0x36 c

/-- The ambient of the model (R216). -/
def Block.fuseAmbient (b : Block) (c : Nat) (substrate10 : Int) : Rat :=
  let fixed : Rat := (b.cpi 0x34 c : Rat)
  let plate : Rat := (substrate10 : Rat) / 10 + (b.cpi 0x35 c : Rat)
  if b.cp 0x33 c = 1 && decide (fixed < plate) then plate else fixed

/-- The wire of a channel as its die holds it. -/
def Block.fuseWire (b : Block) (c : Nat) : Rat × Rat × Rat :=
  wireOf (b.cp 0x30 c) (b.cp 0x39 c) (b.cp 0x3A c) (b.cp 0x3B c)

/-- The steady estimate exceeds the trip temperature less 10 K, or has no steady state (R219), for values as they would
stand in the running configuration `m`. -/
def fuseRefused (m : List (Nat × Nat)) (c : Nat) : Bool :=
  let p := fun k => pval m (0x2000 + k) c
  let wire := wireOf (p 0x30) (p 0x39) (p 0x3A) (p 0x3B)
  let rth := wire.2.1 * ((p 0x32 : Rat) / 100)
  let amp : Rat := (p 0x0B : Rat) / 10
  let ta : Rat := (pint m 0x2034 c : Rat)
  let a := amp * amp * wire.1 * rth
  let k : Rat := 393 / 100000
  let trip : Rat := ((ratedTemp (p 0x31) + pint m 0x2036 c : Int) : Rat)
  if 1 ≤ k * a then true
  else decide (trip - 10 < ta + a * (1 + k * (ta - 20)) / (1 - k * a))

/-! ## The ageing weight (R233) -/

/-- Fixed point of the exponential: 10^12. -/
def expOne : Nat := 1000000000000

/-- exp of a number of millionths at or above 0, times 10^12: Taylor terms of a 64th, then six squarings (log entry 9). -/
def expUp (micro : Nat) : Nat :=
  let x := micro * 1000000 / 64                                  -- a 64th, times 10^12
  let term := fun (acc : Nat × Nat) (n : Nat) => let t := acc.1 * x / (expOne * (n + 1)); (t, acc.2 + t)
  let y := ((List.range 12).foldl term (expOne, expOne)).2
  (List.range 6).foldl (fun y _ => y * y / expOne) y

/-- exp of a signed number of millionths. -/
def expRat (micro : Int) : Rat :=
  if 0 ≤ micro then ((expUp micro.toNat : Nat) : Rat) / expOne
  else (expOne : Rat) / ((expUp (-micro).toNat : Nat) : Rat)

/-- The weight of one step: Ea in 0.01 eV, the rated temperature and the estimate (R233). -/
def ageWeight (ea : Nat) (rated : Int) (tw : Rat) : Rat :=
  let x : Rat := 11605 * (ea : Rat) / 100 * (1 / ((rated : Rat) + 27315 / 100) - 1 / (tw + 27315 / 100))
  expRat (ratFloor (x * 1000000))

/-- The thresholds of chan.ledger.index (R233). -/
def ledgerThresholds : List Nat := [500000, 800000, 1000000]

/-! ## The 1 ms update of a die (R215-R218, R221, R229, R236) -/

/-- One channel's step with its reading. -/
def Block.fuseChannel (b : Block) (c : Nat) (substrate10 : Int) (m : ChanMeas) (pc : Rat) : Block :=
  let b := b.modChan c fun x => { x with local10 := m.local10, ma := m.ma, v10 := m.v10 }
  let x := b.chan c
  if !x.enabled then b else
  let b := b.flagTo c 7 (decide (1500 ≤ m.local10))
  let i2 : Rat := if x.phase.isOff && !x.stuck then 0 else m.i2
  let (dtw, dtn, tw) := fuseStep (b.fuseWire c) ((b.cp 0x32 c : Rat) / 100) (b.fuseAmbient c substrate10) i2 pc x.dtw x.dtn x.tw
  let trip : Rat := (b.tripTemp c : Rat)
  let w := ageWeight (b.cp 0x49 c) (ratedTemp (b.cp 0x31 c)) tw
  let b := b.modChan c fun x =>
    { x with dtw := dtw, dtn := dtn, tw := tw, ledgerSum := x.ledgerSum + w, ledgerSteps := x.ledgerSteps + 1 }
  let b := b.flagTo c 6 (decide (trip - 10 ≤ tw))
  let hot := decide (trip ≤ tw)
  let b := if hot && !x.inrush && !x.fuseHold && x.working then b.protOff c 3 (ratFloor (tw * 10)) else b
  let b := if hot && x.stuck && (b.die (c / 16)).isoPolicy == 2 then b.isolate (c / 16) else b
  if (b.chan c).fuseHold && decide (tw ≤ trip - (b.cp 0x37 c : Rat)) then
    (b.modChan c fun x => { x with fuseHold := false }).settle c
  else b

/-- The reading of a channel that has none. -/
def ChanMeas.zero : ChanMeas := { i2 := 0, pwr := 0, ma := 0, v10 := 0, local10 := 0 }

/-- The status records of the update (R234). -/
def DieSt.takeSnaps (d : DieSt) : DieSt := { d with chans := d.chans.map fun x => { x with snap := d.snapOf x } }

/-- The update of all channels of a die; its millisecond advances, and the status records are taken. -/
def Block.fuseUpdate (b : Block) (d : Nat) (substrate10 : Int) (ms : List ChanMeas) : Block :=
  if !(b.die d).powered then b else
  let b := b.modDie d fun x => { x with ms := x.ms + 1, substrate10 := substrate10 }
  let pwr := (List.range 16).map fun i => (ms.getD i ChanMeas.zero).pwr
  let b := (List.range 16).foldl (fun b i =>
    b.fuseChannel (16 * d + i) substrate10 (ms.getD i ChanMeas.zero) (coupledHeat i pwr)) b
  b.modDie d DieSt.takeSnaps

/-- The second's addition to a channel's ledger (R233). -/
def Block.ledgerChannel (b : Block) (c : Nat) : Block :=
  let x := b.chan c
  if !x.enabled || x.ledgerSteps = 0 then b.modChan c fun y => { y with ledgerSum := 0, ledgerSteps := 0 } else
  let add := x.ledgerSum / (x.ledgerSteps : Rat) * 1000000 / (3000 * 3600) + x.ledgerFrac
  let whole := ratNat add
  let new := satNat 0xFFFFFFFF (x.ledger + whole)
  let b := b.modChan c fun y =>
    { y with ledger := new, ledgerFrac := add - (whole : Rat), ledgerSum := 0, ledgerSteps := 0 }
  b.reportPassed c 0x29 x.ledger new ledgerThresholds

end Sys2Proof
end

