-- ==== Sys2Proof/Machine/Dies.lean ====
section
/-! DEFINITION. The meanings of the frames that arrive at a power die and of what happens inside it: power-up, watchdog,
switching edges, clamps, protective turn-offs, diagnostics, isolation and ledger (06, 07). -/

namespace Sys2Proof

/-- The invalid records of a die are reported when a lane takes it over (R77, R231): EV014 and the event of each of its
channels. -/
def Block.reportBadStores (b : Block) (d : Nat) : Block :=
  let one (b : Block) (cause chanCause : Nat) : Block :=
    let b := b.modDie d fun x => x.report 14 cause d 0
    (List.range 16).foldl (fun b i => b.modDie d fun x => x.report (48 + (16 * d + i)) chanCause (16 * d + i) 0) b
  let x := b.die d
  let b := if x.storeBad then one b 1 0x24 else b
  let b := if x.isoBad then one b 2 0x25 else b
  b.modDie d fun x => { x with storeBad := false, isoBad := false }

/-- The die's logic supply comes up on a source: volatile state starts anew, the estimates at ambient, NVM is kept, the stored
fail-safe states are taken as after a watchdog expiry (R75 steps 2 and 3, R76, R77, R168, R202, R206, R220, R231). -/
def Block.logicUp (b : Block) (d : Nat) (src : Fin 3) : Block :=
  let b := b.modDie d fun x =>
    { DieSt.delivered with
      powered := true, source := src, failSafe := true, store := x.store, isoBanks := x.isoBanks,
      storeBad := x.storeLane.isNone, isoBad := x.isoLane.isNone,
      iso := match x.isoLane with
        | some l => if (x.isoBanks.get l).opened then .opened else .closed
        | none => .opened,
      reverseOn := x.reverseOn }.enableStored
  let susp := !b.feedValid d
  let b := b.modDie d fun x =>
    { x with chans := mapIdxFrom (fun i (y : ChanSt) =>
        ({ y with tw := b.fuseAmbient (16 * d + i) x.substrate10 } : ChanSt).suspend susp) 0 x.chans }
  (b.takeAllStored d).modDie d DieSt.takeSnaps

/-- The first valid source of a die's logic rail in the order T30, FEED_A, FEED_B (R74). -/
def Block.logicSource? (b : Block) : Option (Fin 3) :=
  if b.mod.t30Valid then some 0
  else if b.mod.feedA.band.isValid then some 1
  else if b.mod.feedB.band.isValid then some 2
  else none

/-- The serial watchdog expires: fail-safe mode, stored states, report (R202, R203). -/
def Block.watchdog (b : Block) (d : Nat) : Block :=
  if !(b.die d).powered || (b.die d).failSafe then b else
  let b := b.modDie d fun x =>
    ({ x with failSafe := true, held := [], expiries := satNat 0xFFFFFFFF (x.expiries + 1) }).report 12 0 d 0
  b.takeAllStored d

/-- A frame that fails its CRC-16 is discarded and counted; the eighth within 100 ms reports the link fault (R31). -/
def Block.crcFail (b : Block) (d : Nat) (p : Lane) : Block :=
  if b.portQuiet d p then b else
  b.modDie d fun x =>
    let times := x.ms :: (x.crcTimes.get p).filter fun t => decide (x.ms < t + 100)
    let x := { x with crc := x.crc.upd p fun n => satNat 0xFFFFFFFF (n + 1), crcTimes := x.crcTimes.set p times }
    if times.length = 8 then x.report 11 (1 + p.num) d 8 else x

/-- Item 0x10 of READ: port activity (R269). -/
def portActivity : Nat := 0x10

/-- What a STATUS shows of the channels (R200). -/
def DieSt.views (d : DieSt) : List ChanView :=
  d.chans.map fun x => { state := chanState d x, pending := x.queued.num, refuses := x.lock != 0 || x.inLatch }

/-- A READ is answered by STATUS on its port: L, fail-safe mode, the ports that delivered a valid frame within the last 1 ms,
and the state of the channels (R193, R200, R269; log entry 53). -/
def Block.answerRead (b : Block) (d : Nat) (p : Lane) (item : Nat) : Block :=
  if b.portQuiet d p then b else
  b.modDie d fun x =>
    let x := x.feed p
    let act := fun (l : Lane) => match x.lastValid.get l with
      | some t => decide (x.ms ≤ t + 1)
      | none => false
    { x with toLane := x.toLane.upd p (· ++ [DieMsg.status item x.lnum (act .a) (act .b) x.failSafe x.views]) }

/-- A REFRESH feeds the watchdog; an interval off by more than 10 % over 64 intervals is reported once (R201, R205). -/
def Block.refreshAt (b : Block) (d : Nat) (p : Lane) (dev10 : Bool) : Block :=
  if b.portQuiet d p then b else
  b.modDie d fun x =>
    let x := x.feed p
    let run := if dev10 then x.devRun + 1 else 0
    let x := { x with devRun := run }
    if run = 64 then ({ x with wdtFault := true }).report 13 0 d 0
    else if !dev10 then { x with wdtFault := false } else x

/-- Twelve bytes arrive at a port of a die: what they spell decides what the die does with them; `dev10` says of a REFRESH that its
interval was off by more than 10 % (R31, R192-R194, R205). -/
def Block.portBytes (b : Block) (d : Nat) (p : Lane) (dev10 : Bool) (l : List Byte) : Block :=
  match portFrame l with
  | .crcWrong => b.crcFail d p
  | .refresh => b.refreshAt d p dev10
  | .seq k f => b.frameAt d p k f
  | .read item => b.answerRead d p item
  | .discarded => b

/-- A sequenced frame of a kind arrives as its bytes (R192). -/
def Block.portSeq (b : Block) (d : Nat) (p : Lane) (k : SeqKind) (f : LinkFrame) : Block := b.portBytes d p false (f.bytes k)

/-- A neighbour at distance 1 or 2 with a fast trip or short in limit within the last 100 ms (R222). -/
def Block.trippedNeighbour? (b : Block) (c : Nat) : Option Nat :=
  let d := b.die (c / 16)
  let i := c % 16
  (List.range 16).find? fun j =>
    let dist := if i < j then j - i else i - j
    decide (1 ≤ dist) && decide (dist ≤ 2) && (match (d.chan j).lastTripMs with
      | some t => decide (d.ms ≤ t + 100)
      | none => false)

/-- A diagnostic check runs on an enabled channel of a closed die (R227, R230). -/
def Block.checkRuns (b : Block) (c : Nat) : Bool := (b.chan c).enabled && (b.die (c / 16)).iso == .closed

end Sys2Proof

namespace Sys2Proof.Machine

/-- POWER_DIE_LOGIC_UP (R74, R75, R206). -/
def execPowerDieLogicUp (d : Die) (s : State) : Host.Outcome State Fault Refusal :=
  onBlock (fun b => match b.logicSource? with
    | some src => if (b.die d).powered then b else b.logicUp d src
    | none => b) s

/-- REFRESH at a die (R201, R205). -/
def execRefresh (d : Die) (port : Lane) (dev10 : Bool) (s : State) : Host.Outcome State Fault Refusal :=
  onBlock (fun b => b.portBytes d port dev10 (refreshBytes (b.link d).refreshNum)) s

/-- SET at a die (R196). -/
def execSet (d : Die) (port : Lane) (f : LinkFrame) (s : State) : Host.Outcome State Fault Refusal :=
  onBlock (fun b => b.portSeq d port .set f) s

/-- PWM at a die (R176, R196). -/
def execPwm (d : Die) (port : Lane) (f : LinkFrame) (s : State) : Host.Outcome State Fault Refusal :=
  onBlock (fun b => b.portSeq d port .pwm f) s

/-- MULTI at a die (R172, R196). -/
def execMulti (d : Die) (port : Lane) (f : LinkFrame) (s : State) : Host.Outcome State Fault Refusal :=
  onBlock (fun b => b.portSeq d port .multi f) s

/-- KEEP at a die: the take-over, with the reports of R77 and R231 (R204). -/
def execKeep (d : Die) (port : Lane) (f : LinkFrame) (s : State) : Host.Outcome State Fault Refusal :=
  onBlock (fun b =>
    let l := (b.die d).lnum
    let b' := b.portSeq d port .keep f
    if (b'.die d).lnum != l && (b'.die d).powered then b'.reportBadStores d else b') s

/-- ROLE at a die (R199). -/
def execRole (d : Die) (port : Lane) (f : LinkFrame) (s : State) : Host.Outcome State Fault Refusal :=
  onBlock (fun b => b.portSeq d port .role f) s

/-- UNLOCK at a die (R189, R193). -/
def execUnlockFrame (d : Die) (port : Lane) (f : LinkFrame) (s : State) : Host.Outcome State Fault Refusal :=
  onBlock (fun b => b.portSeq d port .unlock f) s

/-- CONF at a die (R168, R202). -/
def execConf (d : Die) (port : Lane) (f : LinkFrame) (s : State) : Host.Outcome State Fault Refusal :=
  onBlock (fun b => b.portSeq d port .conf f) s

/-- STORE at a die (R206, R207). -/
def execStore (d : Die) (port : Lane) (f : LinkFrame) (s : State) : Host.Outcome State Fault Refusal :=
  onBlock (fun b => b.portSeq d port .store f) s

/-- READ at a die (R269, R518). -/
def execRead (d : Die) (port : Lane) (item : Nat) (s : State) : Host.Outcome State Fault Refusal :=
  onBlock (fun b => b.portBytes d port false (readBytes item)) s

/-- POWER_FRAME_CRC_FAIL (R31). -/
def execPowerFrameCrcFail (d : Die) (port : Lane) (s : State) : Host.Outcome State Fault Refusal :=
  onBlock (fun b => b.crcFail d port) s

/-- PAIRING_WINDOW_END: every held copy up to the number is released in number order with copy code 1 (R196). -/
def execPairingWindowEnd (d : Die) (num : Half) (s : State) : Host.Outcome State Fault Refusal :=
  onBlock (fun b =>
    if (b.die d).held.any (fun f => f.frame.num == num) then b.releaseUpTo d (seqDist num (b.die d).lnum) 1 else b) s

/-- PREFERRED_PORT_SILENT (R199). -/
def execPreferredPortSilent (d : Die) (s : State) : Host.Outcome State Fault Refusal :=
  onBlock (fun b => if (b.die d).powered then b.modDie d fun x => x.prefer x.preferred.other else b) s

/-- WATCHDOG_EXPIRY (R202, R203). -/
def execWatchdogExpiry (d : Die) (s : State) : Host.Outcome State Fault Refusal :=
  onBlock (fun b => b.watchdog d) s

/-- SLOPE_END: turning on becomes on; a turn-off that does not clamp has ended (R174, R191). -/
def execSlopeEnd (c : Chan) (s : State) : Host.Outcome State Fault Refusal :=
  onBlock (fun b => match (b.chan c).phase with
    | .rising => b.modChan c fun x => { x with phase := .on }
    | _ => (b.unclamped c).turnOffEnds c) s

/-- INRUSH_WINDOW_END (R179, R181). -/
def execInrushWindowEnd (c : Chan) (s : State) : Host.Outcome State Fault Refusal :=
  onBlock (fun b => b.modChan c fun x => { x with inrush := false, stretched := false }) s

/-- INRUSH_EARLY_END (R181). -/
def execInrushEarlyEnd (c : Chan) (s : State) : Host.Outcome State Fault Refusal :=
  onBlock (fun b => b.modChan c fun x => { x with inrush := false, stretched := false }) s

/-- PWM_EDGE: a period's on-phase starts, or waits behind a running turn-off; an on-phase ends, or is left out (R176, R177,
R554). From the second period at a frequency on the channel is in its slot (R178). -/
def execPwmEdge (c : Chan) (onEdge : Bool) (s : State) : Host.Outcome State Fault Refusal :=
  onBlock (fun b =>
    let x := b.chan c
    let take := fun (b : Block) => (match (b.chan c).nextPwm with
      | some (f, d) =>
        let b := if f = x.freq then b.modChan c fun x => { x with inSlot := true } else b.placeSlot c f
        b.modChan c fun x => { x with freq := f, cmdDuty := d, nextPwm := none }
      | none => b.modChan c fun x => { x with inSlot := true }).setDuty c
    match x.phase, onEdge with
    | .pwmOff, true => take (b.modChan c fun x => { x with phase := .pwmOn })
    | .pwmClamp, true => take (b.modChan c fun x => { x with onDue := true })
    | .pwmOn, false =>
      let mode := b.cp 0x0A c == 1
      b.modChan c fun x => { x with phase := .pwmClamp, clampMode := mode, onDue := false }
    | .pwmClamp, false => b.modChan c fun x => { x with onDue := false }
    | _, _ => b) s

/-- CLAMP_END: the energy is counted and the turn-off has ended (R183-R191). -/
def execClampEnd (c : Chan) (energyUj : Nat) (start10 : Int) (s : State) : Host.Outcome State Fault Refusal :=
  onBlock (fun b =>
    if (b.chan c).phase.turningOff then (b.countClamp c energyUj start10).turnOffEnds c else b) s

/-- CLAMP_BIN_END: the 50 ms bin of every channel of the die ends (R186). -/
def execClampBinEnd (d : Die) (s : State) : Host.Outcome State Fault Refusal :=
  onBlock (fun b => b.modDie d fun x =>
    { x with chans := x.chans.map fun y => { y with bins := (0 :: y.bins).take 20 } }) s

/-- FAST_TRIP: armed in every state of the channel (R211, R212). -/
def execFastTrip (c : Chan) (s : State) : Host.Outcome State Fault Refusal :=
  onBlock (fun b => if (b.chan c).watched then b.protOff c 1 0 else b) s

/-- SHORT_IN_LIMIT: only inside an inrush window (R211, R213). -/
def execShortInLimit (c : Chan) (s : State) : Host.Outcome State Fault Refusal :=
  onBlock (fun b => if (b.chan c).inrush && (b.chan c).phase.drives then b.protOff c 2 0 else b) s

/-- FUSE_MODEL_UPDATE (R215-R218). -/
def execFuseModelUpdate (d : Die) (substrate10 : Int) (m : List ChanMeas) (s : State) : Host.Outcome State Fault Refusal :=
  onBlock (fun b => b.fuseUpdate d substrate10 m) s

/-- THERMAL_SHUTDOWN: neighbour-coupled or not, into hold or latch (R221, R222). -/
def execThermalShutdown (c : Chan) (s : State) : Host.Outcome State Fault Refusal :=
  onBlock (fun b =>
    if (b.chan c).working && !(b.chan c).thermHold && !(b.chan c).thermLatch then
      match b.trippedNeighbour? c with
      | some j => if (b.die (c / 16)).substrate10 < 1100 then b.protOff c 5 ((j : Nat) : Int) else b.protOff c 4 0
      | none => b.protOff c 4 0
    else b) s

/-- TRIP_HOLD_END (R223). -/
def execTripHoldEnd (c : Chan) (s : State) : Host.Outcome State Fault Refusal :=
  onBlock (fun b =>
    if (b.chan c).tripHold then (b.modChan c fun x => { x with tripHold := false }).settle c else b) s

/-- THERMAL_HOLD_END (R221, R223). -/
def execThermalHoldEnd (c : Chan) (s : State) : Host.Outcome State Fault Refusal :=
  onBlock (fun b =>
    if (b.chan c).thermHold then (b.modChan c fun x => { x with thermHold := false }).settle c else b) s

/-- RETRY_WINDOW_END: a clean span resets the counter (R223). -/
def execRetryWindowEnd (c : Chan) (s : State) : Host.Outcome State Fault Refusal :=
  onBlock (fun b =>
    if (b.chan c).inHold || (b.chan c).inLatch then b
    else b.modChan c fun x => { x with retryUsed := 0, offByProt := false }) s

/-- OPEN_LOAD_ON_CHECK: on outside inrush, or a PWM on-phase, at a valid feed (R227). -/
def execOpenLoadOnCheck (c : Chan) (f : Finding) (s : State) : Host.Outcome State Fault Refusal :=
  onBlock (fun b =>
    let x := b.chan c
    if b.checkRuns c && (x.phase == .on || x.phase == .pwmOn) && !x.inrush && b.feedValid (c / 16) then
      b.flagTo c 0 (f == .present) else b) s

/-- OFF_STATE_CHECK: open load off and short to battery on two consecutive checks (R227). -/
def execOffStateCheck (c : Chan) (open' short : Finding) (s : State) : Host.Outcome State Fault Refusal :=
  onBlock (fun b =>
    let x := b.chan c
    if b.checkRuns c && x.phase.isOff && b.cp 0x42 c == 1 && b.feedValid (c / 16) then
      let o := if open' == .present then x.openRun + 1 else 0
      let k := if short == .present then x.shortRun + 1 else 0
      let b := b.modChan c fun x => { x with openRun := o, shortRun := k }
      let b := if o = 1 then b else b.flagTo c 1 (decide (2 ≤ o))
      if k = 1 then b else b.flagTo c 2 (decide (2 ≤ k))
    else b) s

/-- STUCK_ON_CHECK: an off channel that still conducts; policy 1 opens the isolation switch, and policy 2 reopens it for a channel
that was stuck on before (R227-R230). A channel that conducts no more follows its command again. -/
def execStuckOnCheck (c : Chan) (f : Finding) (s : State) : Host.Outcome State Fault Refusal :=
  onBlock (fun b =>
    let x := b.chan c
    if x.enabled && x.phase.isOff && b.feedValid (c / 16) then
      let b := b.flagTo c 4 (f == .present)
      let d := b.die (c / 16)
      if f == .present then
        (if d.isoPolicy == 1 || (d.isoPolicy == 2 && d.isoStuck.getLsbD (c % 16)) then b.isolate (c / 16) else b)
      else if x.stuck then b.settle c else b
    else b) s

/-- NO_ON_CHECK: on outside inrush, at a feed neither lost nor reversed (R70, R227). -/
def execNoOnCheck (c : Chan) (f : Finding) (s : State) : Host.Outcome State Fault Refusal :=
  onBlock (fun b =>
    let x := b.chan c
    if b.checkRuns c && x.phase == .on && !x.inrush && !b.feedGone (c / 16) then b.flagTo c 10 (f == .present) else b) s

/-- SENSE_MISMATCH_CHECK: on, at a feed neither lost nor reversed (R70, R227). -/
def execSenseMismatchCheck (c : Chan) (f : Finding) (s : State) : Host.Outcome State Fault Refusal :=
  onBlock (fun b =>
    let x := b.chan c
    if b.checkRuns c && (x.phase == .on || x.phase == .pwmOn) && !b.feedGone (c / 16) then b.flagTo c 11 (f == .present) else b) s

/-- SHORT_GND_CLEAR: clean conduction clears bit 3 (R227). -/
def execShortGndClear (c : Chan) (s : State) : Host.Outcome State Fault Refusal :=
  onBlock (fun b => if (b.chan c).phase.drives then b.flagTo c 3 false else b) s

/-- ISOLATION_SWITCH_OPEN: the switch has turned off; every enabled channel raises its event (R229). -/
def execIsolationSwitchOpen (d : Die) (s : State) : Host.Outcome State Fault Refusal :=
  onBlock (fun b =>
    if (b.die d).iso == .opening then
      let b := b.modDie d fun x => { x with iso := .opened }
      (List.range 16).foldl (fun b i => b.chanReport (16 * d.val + i) 0x26 0) b
    else b) s

/-- ISOLATION_SWITCH_CLOSED: the on-commanded channels come back as R71 lays down (R230). -/
def execIsolationSwitchClosed (d : Die) (s : State) : Host.Outcome State Fault Refusal :=
  onBlock (fun b =>
    if (b.die d).iso == .closing then (b.modDie d fun x => { x with iso := .closed }).feedStep d 0 else b) s

/-- ISOLATION_SWITCH_FAULT: EV015 with the channel (R519). -/
def execIsolationSwitchFault (d : Die) (c : Fin 16) (s : State) : Host.Outcome State Fault Refusal :=
  onBlock (fun b =>
    if (b.die d).iso == .opened then b.modDie d fun x => x.report 15 0 d ((16 * d.val + c.val : Nat) : Int) else b) s

/-- LEDGER_UPDATE (R233). -/
def execLedgerUpdate (d : Die) (s : State) : Host.Outcome State Fault Refusal :=
  onBlock (fun b =>
    if (b.die d).powered then (List.range 16).foldl (fun b i => b.ledgerChannel (16 * d.val + i)) b else b) s

/-- COUNTER_COPY: Ottum copies the counters of every die into the parameter store of both lanes (R190, R233, R510). -/
def execCounterCopy (s : State) : Host.Outcome State Fault Refusal :=
  onBlock (fun b =>
    if b.anyServes then
      let b := (List.range 4).foldl (fun b d => b.modLink d fun x =>
        { x with saved := (b.die d).chans.map fun y =>
            { clampCount := y.clampCount, wear := y.wear, switchCount := y.switchCount, ledger := y.ledger } }) b
      b.serving.foldl (fun b l => b.modImg fun i =>
        { i with storeWrites := i.storeWrites.upd l fun n => satNat 0xFFFFFFFF (n + 1), storeOk := i.storeOk.set l true }) b
    else b) s

/-- FEED_BELOW_18_V: every running inrush window of the die lasts the class maximum (R180). -/
def execFeedBelow18V (d : Die) (s : State) : Host.Outcome State Fault Refusal :=
  onBlock (fun b => b.modDie d fun x =>
    { x with chans := x.chans.map fun y => { y with stretched := y.stretched || y.inrush } }) s

/-- THERMAL_WARNING: the local sensor crosses 150 degrees (R221, R224). -/
def execThermalWarning (c : Chan) (above : Bool) (s : State) : Host.Outcome State Fault Refusal :=
  onBlock (fun b => if (b.chan c).enabled then b.flagTo c 7 above else b) s

end Sys2Proof.Machine
end

