-- ==== Sys2Proof/Machine/ChanReq.lean ====
section
/-! DEFINITION. The mailbox commands over load channels and power dies: CHAN_SET, CHAN_PWM, CHAN_MULTI, UNLOCK, CHAN_STATUS,
DIE_ISOLATE, FAILSAFE_STORE (R168-R172, R189, R207, R229-R236). -/

namespace Sys2Proof

/-- The response buffer holds `n` bytes, or the request ends NO_RESOURCE with that length and no effect (R107). -/
def Block.needRoom (b : Block) (r : Req) (op n : Nat) (k : Block → Block) : Block :=
  if r.room < n then b.ok r op (zeroBytes n) else k b

/-- Check 7: a condition on the payload, else BAD_PARAM. -/
def Block.check7 (b : Block) (r : Req) (op : Nat) (good : Bool) (k : Block → Block) : Block :=
  if good then k b else b.reply r op .badParam

/-- Commands for a channel of this die reach it: the lanes serve the dies and the die answers (R82, R518). -/
def Block.dieServed (b : Block) (d : Nat) : Bool := b.configured && !(b.link d).lost

/-- A channel takes part in operation: enabled and its die served (R168, R518). -/
def Block.chanActive (b : Block) (c : Nat) : Bool := b.p 0x2001 c == 1 && b.dieServed (c / 16)

/-- One frame for one channel, and the request that waits for its acknowledgement (R171). -/
def Block.sendChan (b : Block) (r : Req) (op c : Nat) (k : SeqKind) (arg : List Byte) : Block :=
  let b := b.sendFrame (c / 16) k (c % 16) arg
  b.hold r op (.chan (Fin.ofNat 4 (c / 16)) (b.link (c / 16)).lastNum (Fin.ofNat 64 c)) false

/-- A response payload with an outcome byte (R171). -/
def outcomePay (o : Nat) : List Byte := leBytes 1 o ++ zeroBytes 3

/-- CHAN_SET (R170, R171). -/
def Block.runChanSet (b : Block) (r : Req) : Block :=
  let p := r.pay
  let c := byteAt p 0
  b.check7 r 0x2001 (p.length == 4 && decide (c < 64) && decide (byteAt p 1 ≤ 1) && zerosAt p 2 2) fun b =>
  b.needRoom r 0x2001 4 fun b =>
  if !b.chanActive c then b.reply r 0x2001 .notActive
  else b.sendChan r 0x2001 c .set (leBytes 1 (byteAt p 1) ++ zeroBytes 5)

/-- The PWM frequency lies in the class range (R167). -/
def freqOk (c f : Nat) : Bool := decide (25 ≤ f) && decide (f ≤ byClass c 400 2000 2000)

/-- CHAN_PWM (R170, R176); the frame carries the configured phase (R193). -/
def Block.runChanPwm (b : Block) (r : Req) : Block :=
  let p := r.pay
  let c := byteAt p 0
  let f := fieldAt p 2 2
  let d := fieldAt p 4 2
  b.check7 r 0x2002 (p.length == 8 && decide (c < 64) && byteAt p 1 == 0 && freqOk c f && decide (d ≤ 1000) && zerosAt p 6 2)
  fun b =>
  b.needRoom r 0x2002 4 fun b =>
  if !b.chanActive c then b.reply r 0x2002 .notActive
  else b.sendChan r 0x2002 c .pwm (leBytes 2 f ++ leBytes 2 d ++ leBytes 1 (b.p 0x2007 c) ++ zeroBytes 1)

/-- CHAN_MULTI: one frame per die, in die order (R170, R172). -/
def Block.runChanMulti (b : Block) (r : Req) : Block :=
  let p := r.pay
  let sel := fieldAt p 0 8
  let st := fieldAt p 8 8
  b.check7 r 0x2003 (p.length == 16) fun b =>
  b.needRoom r 0x2003 24 fun b =>
  if (bitIdx 64 sel).any (fun c => !b.chanActive c) then b.reply r 0x2003 .notActive
  else
    let ds := (List.range 4).filter fun d => (sel >>> (16 * d)) % 65536 != 0
    if ds.isEmpty then b.ok r 0x2003 (zeroBytes 24)
    else
      let b := ds.foldl (fun b d => b.sendFrame d .multi 0
        (leBytes 2 ((sel >>> (16 * d)) % 65536) ++ leBytes 2 ((st >>> (16 * d)) % 65536) ++ zeroBytes 2)) b
      b.hold r 0x2003 (.multi (ds.map fun d => (Fin.ofNat 4 d, (b.link d).lastNum)) 0 0 0) false

/-- UNLOCK: refused with the time left while the window has not recovered; otherwise the frame goes to the die, which answers
outcome 3 for a channel that is not locked (R171, R189). -/
def Block.runUnlock (b : Block) (r : Req) : Block :=
  let p := r.pay
  let c := byteAt p 0
  b.check7 r 0x2004 (p.length == 4 && decide (c < 64) && zerosAt p 1 3) fun b =>
  b.needRoom r 0x2004 4 fun b =>
  if !b.chanActive c then b.reply r 0x2004 .notActive
  else
    let x := b.chan c
    if x.lock ≠ 0 && !windowRecovered c x then
      b.finish r 0x2004 .busy (leBytes 4 (recoveryMs c (b.die (c / 16)).ms x)) .none
    else b.sendChan r 0x2004 c .unlock (zeroBytes 6)

/-- The 32 bytes of CHAN_STATUS, of the last 1 ms update of the die (R234). -/
def Block.chanStatus (b : Block) (c : Nat) : List Byte :=
  let x := (b.chan c).snap
  leBytes 1 c ++ leBytes 1 x.state ++ leBytes 1 x.cause ++ leBytes 1 x.retries ++ leBytes 2 x.flags.toNat ++ leBytes 1 x.last ++
    leBytes 1 x.lock ++ leBytes 4 (ofSigned 4 x.ma) ++ leBytes 2 (ofSigned 2 x.v10) ++ leBytes 2 (ofSigned 2 x.local10) ++
    leBytes 2 (ofSigned 2 x.tw10) ++ leBytes 2 x.window ++ leBytes 4 x.ledger ++ zeroBytes 8

/-- CHAN_STATUS; a disabled channel or one of a silent die is NOT_ACTIVE (R168, R234, R518). -/
def Block.runChanStatus (b : Block) (r : Req) : Block :=
  let p := r.pay
  b.check7 r 0x2005 (p.length == 4 && decide (byteAt p 0 < 64) && zerosAt p 1 3) fun b =>
  if !b.chanActive (byteAt p 0) then b.reply r 0x2005 .notActive else b.ok r 0x2005 (b.chanStatus (byteAt p 0))

/-- The 4 bytes of a DIE_ISOLATE response (R232). -/
def DieSt.isoPay (d : DieSt) : List Byte := leBytes 1 d.iso.num ++ leBytes 1 d.isoPolicy.val ++ leBytes 2 d.isoCount

/-- What DIE_ISOLATE does to a die at the boundary at which its response becomes visible (R114): it closes an open switch while
the feed is valid, isolates the die, or stores a policy while the bank's write count allows (R229-R231). -/
def Block.isoAct (b : Block) (d fn pol : Nat) : Block :=
  let x := b.die d
  if !x.powered then b
  else if fn = 0 then
    if x.iso == .closed || x.iso == .closing || !b.feedValid d then b
    else b.modDie d fun x => ({ x with iso := .closing }).writeIso x.isoPolicy false
  else if fn = 1 then b.isolate d
  else if 10000 ≤ x.isoCount then b
  else b.modDie d fun x => x.writeIso (Fin.ofNat 3 pol) (x.iso == .opened || x.iso == .opening)

/-- DIE_ISOLATE with the function of byte 1: 0 close, 1 open, 2 store policy (R229-R232). -/
def Block.runDieIsolate (b : Block) (r : Req) : Block :=
  let p := r.pay
  let d := byteAt p 0
  let fn := byteAt p 1
  let op := 0x2006
  b.check7 r op (p.length == 4 && decide (d < 4) && decide (fn ≤ 2) &&
      (if fn = 2 then decide (byteAt p 2 ≤ 2) else byteAt p 2 == 0) && byteAt p 3 == 0) fun b =>
  b.needRoom r op 4 fun b =>
  if !b.dieServed d || !(b.die d).powered then b.reply r op .notActive
  else
    let x := b.die d
    if fn = 0 && !(x.iso == .closed || x.iso == .closing) && !b.feedValid d then b.reply r op .notActive
    else if fn = 2 && decide (10000 ≤ x.isoCount) then b.reply r op .locked
    else b.finish r op .ok ((b.isoAct d fn (byteAt p 2)).die d).isoPay (.isolate d fn (byteAt p 2))

/-- A payload with its function byte forced: the rows of the table that name one function of an opcode. -/
def Req.withByte (r : Req) (i v : Nat) : Req := { r with payload := setAt r.payload i (BitVec.ofNat 8 v) }

/-- The configured fail-safe state of a channel: its values of group 0x28 (R210). -/
def Block.fsConfig (b : Block) (c : Nat) : FsEntry :=
  { st := Fin.ofNat 4 (b.p 0x2801 c), duty := b.p 0x2802 c, freq := b.p 0x2803 c }

/-- What FAILSAFE_STORE writes for a die: the configured states, OFF for disabled channels (R168, R207). -/
def Block.storeCfgOf (b : Block) (d : Nat) : List FsEntry :=
  (List.range 16).map fun i => if b.p 0x2001 (16 * d + i) = 1 then b.fsConfig (16 * d + i) else FsEntry.off

/-- Two fail-safe states agree: duty and frequency count for PWM alone (R206, R208). -/
def FsEntry.agrees (e f : FsEntry) : Bool := e.st == f.st && (e.st != 3 || (e.duty == f.duty && e.freq == f.freq))

/-- Ottum sends a die its configured states and STORE (R193, R207). -/
def Block.sendStore (b : Block) (d : Nat) (es : List FsEntry) : Block :=
  let b := (List.range 16).foldl (fun b i =>
    let e := es.getD i FsEntry.off
    ((b.sendFrame d .conf i (confArg 0x28 0x01 e.st.val)).sendFrame d .conf i (confArg 0x28 0x02 e.duty)).sendFrame d
      .conf i (confArg 0x28 0x03 e.freq)) b
  b.sendFrame d .store 0 (zeroBytes 6)

/-- FAILSAFE_STORE (R207). -/
def Block.runFailsafeStore (b : Block) (r : Req) : Block :=
  let p := r.pay
  let op := 0x2801
  b.check7 r op (p.length == 4 && decide (byteAt p 0 < 16) && zerosAt p 1 3) fun b =>
  b.needRoom r op 16 fun b =>
  let ds := bitIdx 4 (byteAt p 0)
  if ds.any (fun d => !b.dieServed d) then b.reply r op .notActive
  else if ds.any (fun d => decide (99999 ≤ (b.die d).storeCount)) then b.reply r op .locked
  else
    let counts := (List.range 4).map fun d => (b.die d).storeCount
    let entries := (List.range 4).map b.storeCfgOf
    let b := ds.foldl (fun b d => b.sendStore d (entries.getD d [])) b
    b.hold r op (.failsafe ds counts entries) true

/-- The four write counts in die order (R207). -/
def Block.storeCounts (b : Block) : List Byte := (List.range 4).flatMap fun d => leBytes 4 (b.die d).storeCount

/-- A die's write of the states sent to it is complete; a write that has not begun is made (R207). -/
def DieSt.storeEnds (d : DieSt) (count : Nat) (es : List FsEntry) : DieSt :=
  let d := if d.storeCount = count then { d.writeStore es with storeCfg := es } else d
  { d with storing := none }

/-- The oldest running FAILSAFE_STORE has written every selected die with the values of its take-up (R207). -/
def Block.storeWritten (b : Block) : Block :=
  match b.mail.pend.find? (fun e => match e.kind with | .failsafe .. => true | _ => false) with
  | some { req := r, kind := .failsafe ds counts entries, .. } =>
    let b := ds.foldl (fun b d => b.modDie d fun x => x.storeEnds (counts.getD d 0) (entries.getD d [])) b
    b.finishWhere (fun e => e.req == r && (match e.kind with | .failsafe .. => true | _ => false)) .ok b.storeCounts .none
  | _ => { b with dies := b.dies.map fun (x : DieSt) => { x with storing := none } }

end Sys2Proof

namespace Sys2Proof.Machine

/-- CHAN_SET (R170). -/
def execChanSet (q : Req) (s : State) : Host.Outcome State Fault Refusal :=
  onBlock (fun b => b.serve 0x2001 q fun b => b.runChanSet q) s

/-- CHAN_PWM (R170). -/
def execChanPwm (q : Req) (s : State) : Host.Outcome State Fault Refusal :=
  onBlock (fun b => b.serve 0x2002 q fun b => b.runChanPwm q) s

/-- CHAN_MULTI (R170). -/
def execChanMulti (q : Req) (s : State) : Host.Outcome State Fault Refusal :=
  onBlock (fun b => b.serve 0x2003 q fun b => b.runChanMulti q) s

/-- UNLOCK (R189). -/
def execUnlock (q : Req) (s : State) : Host.Outcome State Fault Refusal :=
  onBlock (fun b => b.serve 0x2004 q fun b => b.runUnlock q) s

/-- CHAN_STATUS (R234). -/
def execChanStatus (q : Req) (s : State) : Host.Outcome State Fault Refusal :=
  onBlock (fun b => b.serve 0x2005 q fun b => b.runChanStatus q) s

/-- DIE_ISOLATE, function open (R229, R232). -/
def execDieIsolateOpen (q : Req) (s : State) : Host.Outcome State Fault Refusal :=
  onBlock (fun b => let q := q.withByte 1 1; b.serve 0x2006 q fun b => b.runDieIsolate q) s

/-- DIE_ISOLATE, function close (R230, R232). -/
def execDieIsolateClose (q : Req) (s : State) : Host.Outcome State Fault Refusal :=
  onBlock (fun b => let q := q.withByte 1 0; b.serve 0x2006 q fun b => b.runDieIsolate q) s

/-- DIE_ISOLATE, function store policy (R231, R232). -/
def execDieIsolateStorePolicy (q : Req) (s : State) : Host.Outcome State Fault Refusal :=
  onBlock (fun b => let q := q.withByte 1 2; b.serve 0x2006 q fun b => b.runDieIsolate q) s

/-- FAILSAFE_STORE (R207). -/
def execFailsafeStore (q : Req) (s : State) : Host.Outcome State Fault Refusal :=
  onBlock (fun b => b.serve 0x2801 q fun b => b.runFailsafeStore q) s

/-- FAILSAFE_STORE_WRITTEN (R207). -/
def execFailsafeStoreWritten (s : State) : Host.Outcome State Fault Refusal :=
  onBlock (fun b => b.storeWritten) s

end Sys2Proof.Machine
end

