-- ==== Sys2Proof/Machine/Links.lean ====
section
/-! DEFINITION. Ottum's side of the power command links: acknowledgements, reports, lost frames, the poll of the dies
(R171, R199-R201, R204, R269, R518). -/

namespace Sys2Proof

/-! ## Completing what waits for an acknowledgement (R171, R172, R200, R277) -/

/-- The acknowledgement has reached every lane in service. -/
def Block.ackedBy (b : Block) (u : Unacked) : Bool :=
  (u.doneA || !b.serves .a) && (u.doneB || !b.serves .b)

/-- A pending request that waits for frame `num` of die d. -/
def Pend.waitsFor (e : Pend) (d : Nat) (num : Half) : Bool :=
  match e.kind with
  | .chan d' n _ => d'.val == d && n == num
  | .multi left _ _ _ => left.any fun x => x.1.val == d && x.2 == num
  | _ => false

/-- The request for one channel ends with its outcome; a refusal is LOCKED (R171). -/
def Block.chanDone (b : Block) (d : Nat) (num : Half) (out : Nat) : Block :=
  let sel := fun (e : Pend) => match e.kind with
    | .chan d' n _ => d'.val == d && n == num
    | _ => false
  if out = refusedOutcome then b.finishWhere sel .locked [] .none
  else b.finishWhere sel .ok (outcomePay out) .none

/-- One die of a CHAN_MULTI has been acknowledged by every lane in service; the last one ends the request (R171). -/
def Block.multiDone (b : Block) (d : Nat) (num : Half) : Block :=
  let b := b.modMail fun m => { m with pend := m.pend.map fun e =>
    match e.kind with
    | .multi left a q x => { e with kind := .multi (left.filter fun y => !(y.1.val == d && y.2 == num)) a q x }
    | _ => e }
  let ended := b.mail.pend.filter fun e => match e.kind with | .multi [] _ _ _ => true | _ => false
  let b := b.modMail fun m => { m with pend := m.pend.filter fun e => match e.kind with | .multi [] _ _ _ => false | _ => true }
  ended.foldl (fun b e => match e.kind with
    | .multi _ a q x => b.ok e.req e.opcode (leBytes 8 a.toNat ++ leBytes 8 q.toNat ++ leBytes 8 x.toNat)
    | _ => b) b

/-- The masks of one die's acknowledgement go into its CHAN_MULTI (R171). -/
def Block.multiMasks (b : Block) (d : Nat) (num : Half) (a q x : BitVec 16) : Block :=
  let up := fun (w : BitVec 16) => BitVec.ofNat 64 (w.toNat * 2 ^ (16 * d))
  b.modMail fun m => { m with pend := m.pend.map fun e =>
    if (e.waitsFor d num) = true then (match e.kind with
      | .multi left a' q' x' => { e with kind := .multi left (a' ||| up a) (q' ||| up q) (x' ||| up x) }
      | _ => e)
    else e }

/-- ROLE has been acknowledged by a die; with all dies that answer the ROLE_SET ends OK (R277). -/
def Block.roleAck (b : Block) (d : Nat) : Block :=
  let b := b.modMail fun m => { m with pend := m.pend.map fun e =>
    match e.kind with
    | .roleSet dest acks => { e with kind := .roleSet dest (acks ||| BitVec.ofNat 4 (2 ^ d)) }
    | _ => e }
  let all := fun (acks : BitVec 4) => (List.range 4).all fun k => acks.getLsbD k || (b.link k).lost
  b.finishWhere (fun e => match e.kind with
    | .roleSet dest acks => all acks && b.isActive dest
    | _ => false) .ok [] .none

/-- A sequenced frame is finished: every lane in service knows its outcome. -/
def Block.frameDone (b : Block) (d : Nat) (u : Unacked) : Block :=
  let b := b.modLink d fun x => { x with unacked := x.unacked.filter fun v => v.num != u.num }
  match u.kind with
  | .multi => b.multiDone d u.num
  | .role => b.roleAck d
  | _ => b.chanDone d u.num u.outcome

/-- Every finished frame of every die is settled: after an acknowledgement, and when a lane leaves service. -/
def Block.settleAcks (b : Block) : Block :=
  (List.range 4).foldl (fun b d =>
    ((b.link d).unacked.filter b.ackedBy).foldl (fun b u => b.frameDone d u) b) b

/-- A lane learns the outcome of frame `num`. -/
def Block.learn (b : Block) (l : Lane) (d : Nat) (num : Half) (out : Nat) (a q x : BitVec 16) : Block :=
  let b := b.modLink d fun k => { k with unacked := k.unacked.map fun u =>
    if u.num = num then
      (match l with
       | .a => { u with doneA := true, outcome := out }
       | .b => { u with doneB := true, outcome := out })
    else u }
  (b.multiMasks d num a q x).settleAcks

/-! ## Lost frames (R200) -/

/-- The outcome a channel's state shows for a command the die has acted upon without its ACK arriving: queued, refused, no change
where it was in the commanded state when the frame was sent, else applied (R171, R200; log entry 53). -/
def outcomeShown (v : ChanView) (was : Nat) (wantsOn : Bool) : Nat :=
  if v.pending ≠ 0 then (if v.state = 4 then 1 else 2)
  else if wantsOn && v.refuses then refusedOutcome
  else if wantsOn && (was == 1 || was == 3) && (v.state == 1 || v.state == 3) then 3
  else if !wantsOn && (was == 0 || was == 4) then 3
  else 0

/-- What a STATUS reply shows of one channel. -/
def viewAt (views : List ChanView) (i : Nat) : ChanView := views.getD i { state := 0, pending := 0, refuses := false }

/-- A frame that the die has acted upon, resolved from a STATUS reply: the outcomes of its channels. -/
def Block.resolved (b : Block) (l : Lane) (d : Nat) (views : List ChanView) (u : Unacked) : Block :=
  let a := u.frame.arg
  let i := u.frame.idx.val
  let shown := fun (k : Nat) (on : Bool) => outcomeShown (viewAt views k) (u.was.getD k 0) on
  match u.kind with
  | .multi =>
    let outs := (bitIdx 16 (fieldAt a 0 2)).map fun k => (k, shown k ((fieldAt a 2 2).testBit k))
    b.learn l d u.num 0 (outcomeMask outs (fun o => o == 0 || o == 3)) (outcomeMask outs (fun o => o == 1 || o == 2))
      (outcomeMask outs (· == refusedOutcome))
  | .set => b.learn l d u.num (shown i (byteAt a 0 != 0)) 0 0 0
  | .pwm => b.learn l d u.num (shown i (fieldAt a 2 2 != 0)) 0 0 0
  | _ => b.learn l d u.num 0 0 0 0

/-- Both copies of a frame were lost: what waited for it ends BUSY, and the link fault is reported (R200). -/
def Block.frameLost (b : Block) (l : Lane) (d : Nat) (u : Unacked) : Block :=
  let b := b.modLink d fun k => { k with unacked := k.unacked.filter fun v => v.num != u.num }
  let b := b.finishWhere (fun e => e.waitsFor d u.num || (match e.kind with
    | .roleSet .. => u.kind == .role
    | .failsafe ds _ _ => (u.kind == .store || u.kind == .conf) && ds.contains d
    | _ => false)) .busy [] .none
  b.raise l 11 3 d (u.num.toNat : Int)

/-- The frames for which the lane has sent READ, against the L of the reply (R200). -/
def Block.statusFor (b : Block) (l : Lane) (d : Nat) (num : Half) (views : List ChanView) : Block :=
  ((b.link d).unacked.filter fun u => u.asked.get l).foldl (fun b u =>
    if seqNew u.num num then b.frameLost l d u else b.resolved l d views u) b

/-- No ACK within 100 us: the lane sends READ, and the STATUS decides; a frame asked for before whose reply did not come counts as
the other lane saw it acknowledged, or is lost (R200). -/
def Block.ackTimeout (b : Block) (l : Lane) (d : Nat) (num : Half) : Block :=
  match (b.link d).unacked.find? (fun u => u.num == num) with
  | none => b
  | some u =>
    if u.asked.get l then (if u.doneA || u.doneB then b.learn l d num u.outcome 0 0 0 else b.frameLost l d u)
    else b.modLink d fun k =>
      { k with reads := k.reads.upd l (· + 1),
               unacked := k.unacked.map fun v => if v.num == num then { v with asked := v.asked.set l true } else v }

/-! ## Frames from a die -/

/-- The first message of a kind that waits at a lane's port of a die, and the die without it. -/
def DieSt.popMsg (x : DieSt) (l : Lane) (sel : DieMsg → Bool) : Option DieMsg × DieSt :=
  match (x.toLane.get l).find? sel with
  | some m => (some m, { x with toLane := x.toLane.upd l fun q => q.eraseP sel })
  | none => (none, x)

/-- A reply has come: the poll starts anew. -/
def Block.replied (b : Block) (l : Lane) (d : Nat) : Block := b.modLink d fun x => { x with missed := x.missed.set l 0 }

/-- A KEEP is on its way to the die. -/
def DieLink.keeping (x : DieLink) : Bool := x.unacked.any fun u => u.kind == .keep

/-- A die in fail-safe mode is taken over by KEEP, unless a KEEP is under way (R204). -/
def Block.regain (b : Block) (d : Nat) : Block :=
  if b.configured && !(b.link d).keeping then b.takeOver d else b

/-- The lane takes an ACK (R200). -/
def Block.takeAck (b : Block) (l : Lane) (d : Nat) : Block :=
  let sel := fun m => match m with | DieMsg.ack .. => true | _ => false
  match (b.die d).popMsg l sel with
  | (some (.ack num _ a q x out), y) =>
    let b := ((b.modDie d fun _ => y).replied l d).learn l d num out a q x
    b.modLink d fun k => { k with lost := false, shown := none }
  | _ => b

/-- The lane takes a STATUS: the die answers again, a die in fail-safe mode is taken over, and a port-activity reply tells
whether the active lane's port is active (R204, R269, R518). -/
def Block.takeStatus (b : Block) (l : Lane) (d : Nat) : Block :=
  let sel := fun m => match m with | DieMsg.status .. => true | _ => false
  match (b.die d).popMsg l sel with
  | (some (.status item num pa pb fs views), y) =>
    let b := ((b.modDie d fun _ => y).replied l d).statusFor l d num views
    let b := if fs && b.serves l then
        (b.modLink d fun k => { k with lost := false, shown := none }).regain d
      else b.modLink d fun k => { k with lost := false, shown := none }
    if item = portActivity && (b.link d).silentReport.get l then
      let far := match l.other with | .a => pa | .b => pb
      let b := b.modLink d fun k => { k with silentReport := k.silentReport.set l false }
      if far then b.modLane l fun x => { x with diesSayActive := true } else b
    else b
  | _ => b

/-- The lane takes an EVENT frame: the report becomes an event, a divergence (R265) or, for the preferred port, nothing
more; a watchdog expiry leads to the take-over (R204). -/
def Block.takeEvent (b : Block) (l : Lane) (d : Nat) : Block :=
  let sel := fun m => match m with | DieMsg.event _ => true | _ => false
  match (b.die d).popMsg l sel with
  | (some (.event r), y) =>
    let b := b.modDie d fun _ => y
    if r.ev = portReport then b
    else if r.ev = 19 then (if b.act = l then b.diverge 1 (b.holderOfChan r.subject) else b)
    else
      let b := b.raise l r.ev r.cause r.subject r.detail
      if r.ev = 12 && b.serves l then b.regain d else b
  | _ => b

/-! ## Silent dies (R518) -/

/-- The 10 ms poll: READ is sent; two reads without a reply in every lane in service make the die silent, and the frames whose
fate its STATUS was to tell are lost (R200, R518). -/
def Block.pollDie (b : Block) (l : Lane) (d : Nat) : Block :=
  if !b.serves l then b else
  let k := b.link d
  let gone := fun (x : Lane) => !b.serves x || decide (2 ≤ k.missed.get x)
  let newly := !k.lost && gone .a && gone .b
  let b := if newly then (k.unacked.filter fun u => u.asked.a || u.asked.b).foldl (fun b u => b.frameLost l d u) b else b
  let b := b.modLink d fun x =>
    { x with lost := x.lost || newly, shown := if newly then some (b.die d) else x.shown, missed := x.missed.upd l (· + 1), reads := x.reads.upd l (· + 1) }
  if newly then b.raiseAll 10 0 d 0 else b

end Sys2Proof

namespace Sys2Proof.Machine

/-- ACK (R200). -/
def execAck (l : Lane) (d : Die) (s : State) : Host.Outcome State Fault Refusal :=
  onBlock (fun b => b.takeAck l d) s

/-- STATUS (R269, R518). -/
def execStatus (l : Lane) (d : Die) (s : State) : Host.Outcome State Fault Refusal :=
  onBlock (fun b => b.takeStatus l d) s

/-- EVENT (R193). -/
def execEvent (l : Lane) (d : Die) (s : State) : Host.Outcome State Fault Refusal :=
  onBlock (fun b => b.takeEvent l d) s

/-- ACK_TIMEOUT (R200). -/
def execAckTimeout (l : Lane) (d : Die) (num : Half) (s : State) : Host.Outcome State Fault Refusal :=
  onBlock (fun b => b.ackTimeout l d num) s

/-- REFRESH_DUE: a lane in service sends REFRESH; on factory defaults the command ports stay silent (R82, R201). -/
def execRefreshDue (l : Lane) (d : Die) (s : State) : Host.Outcome State Fault Refusal :=
  onBlock (fun b =>
    if b.serves l && b.configured then
      b.modLink d fun x => { x with refreshes := x.refreshes.upd l (· + 1), refreshNum := x.lastNum }
    else b) s

/-- DIE_POLL_DUE (R518). -/
def execDiePollDue (l : Lane) (d : Die) (s : State) : Host.Outcome State Fault Refusal :=
  onBlock (fun b => if b.configured then b.pollDie l d else b) s

end Sys2Proof.Machine
end

