-- ==== Sys2Proof/Machine/Lanes.lean ====
section
/-! DEFINITION. Lanes: leaving service, lane faults, handover and failover, restarts, the bridge link and debug
(09_lanes_and_seamless_redundancy.md, 10_lockstep_pairs.md). -/

namespace Sys2Proof

/-! ## Rates (R147) -/

/-- The tokens of a partition one microsecond later (R147). -/
def Block.fillRates (b : Block) (p : Nat) (x : Rates) : Rates :=
  { x with mailTok := satNat (b.p 0x1009 p * 1000000) (x.mailTok + b.p 0x1008 p),
           cipherTok := satNat (b.p 0x100B p * 8192) (x.cipherTok + b.p 0x100A p),
           bridgeTok := satNat (b.p 0x100D p * 8192) (x.bridgeTok + b.p 0x100C p) }

/-- The buckets of every partition full, as they stand when a lane takes control: R147 gives no first level (log entry 7). -/
def Block.fullBuckets (b : Block) : Block :=
  b.modPart fun x => { x with rates := mapIdxFrom (fun p (r : Rates) =>
    { r with mailTok := b.p 0x1009 p * 1000000, cipherTok := b.p 0x100B p * 8192, bridgeTok := b.p 0x100D p * 8192 }) 0 x.rates }

/-! ## Leaving service -/

/-- What a lane keeps over a reset: its embedded flash, the always-on domain, and what its last start recorded. -/
def LaneSt.reset (x : LaneSt) : LaneSt :=
  { LaneSt.off with
    interval := x.interval, startCause := x.startCause, defaults := x.defaults, cfgState := x.cfgState,
    repairing := x.repairing, rolling := x.rolling, injectResult := x.injectResult, broken := x.broken,
    lockFaults := x.lockFaults, faultEpochs := x.faultEpochs, heldByFaults := x.heldByFaults, hotHeld := x.hotHeld,
    localFault := x.localFault, aonCause := x.aonCause, haltRecord := x.haltRecord, image := x.image,
    staging := x.staging, xspiVcc := x.xspiVcc, device := x.device, log := x.log, logTotal := x.logTotal,
    logDropped := x.logDropped, eccCorrected := x.eccCorrected, temps := x.temps, wakeAck := x.wakeAck,
    asleep := x.asleep, domFirst := x.domFirst, domSources := x.domSources, domFlags := x.domFlags,
    glitchPresent := x.glitchPresent, intrusionPresent := x.intrusionPresent, latchedTamper := x.latchedTamper,
    aonMiss := x.aonMiss, aonFault := x.aonFault, tamperCode := x.tamperCode,
    ring := { RingNode.fresh with delays := x.ring.delays } }

/-- A lane that leaves service without a reset keeps no stream state and sends nothing: its CAN queues, its ring node and its
switch core start anew (R256, R261). -/
def LaneSt.quiet (x : LaneSt) : LaneSt :=
  { x with
    can := x.can.map fun (c : CanCtl) => { c with tx := [], recent := [] }
    ring := { RingNode.fresh with
              cfg := x.ring.cfg, delays := x.ring.delays,
              st := match x.ring.st with | .off => .off | .passive => .passive | .asleep => .asleep | _ => .listening }
    sw := { SwitchSt.fresh with
            links := x.sw.links, stats := x.sw.stats, rxPn := x.sw.rxPn, leaked := x.sw.leaked }
    checks := [], farChecks := [], own := [], far := [], toFar := [], closeDue := none, expects := false }

/-- The pairs of a lane stop. -/
def LaneSt.stopPairs (x : LaneSt) : LaneSt := { x with pairs := x.pairs.map fun p => { p with running := false } }

/-- A lane leaves state 4: window accesses of the other lane in progress end in an access fault, its prefetched lines go, and
a lock on the leaving lane's memory ends (R428, R433, R436). -/
def Block.windowEnds (b : Block) (l : Lane) : Block :=
  let n := ((b.lane l.other).pairs.map fun p => p.lines.length).sum
  let b := b.modLane l.other fun x => { x with pairs := x.pairs.map fun p =>
    { p with lines := [], result := if p.result = .sent then .fault else p.result } }
  b.modBridge fun r =>
    { r with reads := .both [], uncollected := .both [],
             prefDiscards := if b.act = l.other then satNat 0xFFFFFFFF (r.prefDiscards + n) else r.prefDiscards,
             token := match r.token with
               | some (k, p, a) => if k = l then some (k, p, a) else none
               | none => none }

/-- A mailbox window when a lane leaves service: what the other lane took up and the leaving one was to carry out is taken
up again; what the leaving lane carried out still waits for the other lane (R98, R113). -/
def WinAgreed.peerLeft (w : WinAgreed) (gone : Lane) : WinAgreed :=
  let stay := w.lanes.get gone.other
  let taken := match stay.copies.find? fun c => !c.2.1 with
    | some (i, _) => i
    | none => stay.taken
  { w with lanes := ((w.lanes.set gone.other { stay with taken := taken, copies := [] }).upd gone fun x =>
      { x with copies := x.copies.filter fun c => c.2.1 }) }

/-- A lane leaves state 4 or any other state for 0, 2 or 3 (R256): its role ends, what waited for it alone is settled, and
EV018 tells of leaving state 4. A deferral of its restart is used up when it resets (R90). A lane that was taking the mirrored state
from it is held (log entry 124). -/
def Block.leave (b : Block) (l : Lane) (st : Nat) : Block :=
  let was := b.serves l
  let b := b.modLane l fun x =>
    if st = 0 then x.reset else ({ x with st := st, resyncStage := 0 } : LaneSt).quiet.stopPairs
  let b := if was then b.raiseAll 18 2 l.num st else b
  let b := b.modMod fun m =>
    { m with active := if m.active = some l then none else m.active,
             handTo := if m.handTo = some l then none else m.handTo,
             deferLeft := if st = 0 then m.deferLeft.set l 0 else m.deferLeft }
  let b := b.modLane l fun x => { x with released := true, wetFull := false }
  let b := b.modLane l.other fun x => { x with wetFull := x.st == 4, expects := false }
  let b := if was then b.modLane l.other fun x => if x.st = 3 then { x with st := 2, resyncStage := 0 } else x else b
  let b := if was then b.windowEnds l else b
  let b := if was then b.modMail fun m =>
      { m with gov := m.gov.peerLeft l, parts := m.parts.map fun w => w.peerLeft l } else b
  let b := b.finishWhere (fun e => match e.kind with | .roleSet dest _ => dest == l | _ => false) .notActive [] .none
  b.settleAcks

/-- A lane that restarts leaves service with its cause of the next start (R92). -/
def Block.restart (b : Block) (l : Lane) (cause : Nat) : Block :=
  let b := b.modLane l fun x => { x with startCause := cause, rolling := true, restartWaits := false }
  b.leave l 0

/-- The active role passes to a lane at the next boundary (R92 steps 1 and 2). -/
def Block.handOver (b : Block) (l : Lane) (fail : Bool) (cause : Nat) : Block :=
  b.modMod fun m => { m with handTo := some l, handFail := fail, handCause := cause }

/-- A restart begins: a standby restarts at once; the active lane asks for the handover first and restarts when it is
standby (R91, R92). -/
def Block.beginRestart (b : Block) (l : Lane) : Block :=
  if b.isActive l then
    (b.modLane l fun x => { x with rolling := true, restartWaits := false }).handOver l.other false 0
  else b.restart l 2

/-! ## Lane faults (R268, R292, R514, R520) -/

/-- The event of a LANE_DOWN cause (R292, R514). For cause 0x0C the die is the compute die unless the network die is hot. -/
def Block.laneDownEvent (b : Block) (by' : Lane) (l : Lane) (cause pair : Nat) : Block :=
  match cause with
  | 0x01 => b.raise by' (32 + pair) 1 l.num pair
  | 0x02 => b.raise by' (32 + pair) 2 l.num pair
  | 0x03 => b.raise by' 39 3 l.num pair
  | 0x05 => b.raise by' 39 5 l.num pair
  | 0x04 => b.raise by' 40 4 l.num pair
  | 0x06 => b.raise by' 41 (b.lane l).injectResult l.num pair
  | 0x0C =>
    let t := (b.lane l).temps
    if t.1 < t.2 then b.raise by' 9 3 (6 + l.num) t.2 else b.raise by' 9 3 (4 + l.num) t.1
  | 0x0E => b.raise by' 31 0x0E l.num 0
  | c => b.raise by' 24 c l.num 0

/-- A lane that loses its start while its image copy may be under way keeps the blocks copied so far: how many the moment of
the loss decides, a free value (R498). -/
def Block.breakCopy (b : Block) (l : Lane) : Block :=
  let x := b.lane l
  if x.st != 1 || !x.staging.copying then b else
  let (n, b) := b.drawNat
  let blocks := (x.staging.declared + 65535) / 65536
  let k := n % (blocks + 1)
  b.modLane l fun x =>
    if k = blocks then { x with staging := { x.staging with copying := false } }
    else { x with staging := { x.staging with st := .accepted, journal := k, copying := false },
                  image := { x.image with valid := false } }

/-- A lane detects a fault: the cause is recorded, the lane resets; the third fault within an hour keeps it in reset until
LANE_RESTART, a cold start or a wake (R268, R292, R520). -/
def Block.laneFault (b : Block) (l : Lane) (cause pair : Nat) : Block :=
  if (b.lane l).st = 0 then b else
  let b := b.breakCopy l
  let now := b.mod.epoch
  let old := (b.lane l).faultEpochs.filter fun e => decide (now < e + epochsPerHour)
  let times := if b.serves l then now :: old else old
  let held := decide (3 ≤ times.length)
  let lock := decide (1 ≤ cause) && decide (cause ≤ 6)
  let b := b.modMod fun m =>
    { m with laneDownLast := l.num * 32768 + cause % 256,
             lockLast := if lock then l.num * 32768 + (pair % 8) * 256 + cause else m.lockLast }
  let b := b.modLane l fun x =>
    { x with lockFaults := if lock then satNat 0xFFFFFFFF (x.lockFaults + 1) else x.lockFaults,
             aonCause := some (cause, pair), startCause := 3, localFault := some now, faultEpochs := times,
             heldByFaults := x.heldByFaults || held, hotHeld := x.hotHeld || cause == 0x0C }
  let known := (b.lane l.other).expects
  let b := (b.leave l 0).modLane l.other fun x => { x with expects := known }
  let b := if held then b.modLane l fun x => { x with rolling := false } else b
  if held then b.raise l.other 24 cause l.num 3 else b

/-- A lane receives LANE_DOWN: it raises the event, and a standby in state 4 takes the active role at its next boundary when
the other lane was active (R268, R292). -/
def Block.laneDown (b : Block) (l : Lane) (cause pair : Nat) : Block :=
  let b := (b.laneDownEvent l l.other cause pair).modLane l fun x => { x with expects := false, missedClose := false }
  if b.serves l && !b.isActive l then b.handOver l true cause else b

/-! ## The bridge link (R30, R33, R276) -/

/-- The bridge link has failed: the active lane goes on alone, and a lane beside it that runs, in service or returning, restarts
(R33). -/
def Block.bridgeFail (b : Block) : Block :=
  if b.bridge.link = 0 then b else
  let b := b.raiseAll 43 1 noSubject 0
  let b := b.modBridge fun r => { r with link := 0, failures := satNat 65535 (r.failures + 1) }
  match b.mod.active with
  | some l => if 2 ≤ (b.lane l.other).st then b.restart l.other 2 else b
  | none => b

/-- The flits sent again within 1 ms of a count of time words, with one more (R30). -/
def resentAgain (now : Nat) (l : List Nat) : List Nat := now :: l.filter fun t => decide (now < t + 1000)

/-- The lane sees its peer silent (R269): the active lane goes on alone with the peer in state 2; a standby asks the dies. -/
def Block.peerSilent (b : Block) (l : Lane) : Block :=
  if !b.serves l then b else
  let b := b.modLane l fun x => { x with expects := false }
  if b.isActive l then (if b.serves l.other then b.leave l.other 2 else b)
  else
    let b := b.modLane l fun x => { x with missedClose := true, diesSayActive := false }
    (List.range 4).foldl (fun b d => b.modLink d fun x =>
      { x with silentReport := x.silentReport.set l true, reads := x.reads.upd l (· + 1) }) b

/-! ## Items of the far lane (R258, R264, R297) -/

/-- The far lane's check record against the own one, which may still be to come; a difference names the owner of the item (R264,
R265). -/
def Block.checkAgainst (b : Block) (l : Lane) (stream num : Nat) (crc : Word) : Block :=
  match (b.lane l).checks.find? (fun c => c.1 == stream && c.2.1 == num) with
  | some (_, _, own, prid) => if own = crc then b else b.diverge 3 prid
  | none => b.modLane l fun x => { x with farChecks := (stream, num, crc) :: x.farChecks.take 255 }

/-- The items of an epoch that a lane has from its peer. -/
def LaneSt.farOf (x : LaneSt) (k : Nat) : List Item := x.far.filter fun it => it.epoch == k

/-- A close record takes effect once every item that it counts has arrived (R258, R259). -/
def LaneSt.closes (x : LaneSt) : LaneSt :=
  match x.closeDue with
  | some (k, n) => if n ≤ (x.farOf k).length then { x with closeSeen := some k, closeDue := none } else x
  | none => x

/-- The far lane's hash of a region against the own one (R297). -/
def Block.hashAgainst (b : Block) (l : Lane) (epoch region : Nat) (h : DWord) : Block :=
  match (b.lane l).hashes.find? (fun c => c.1 == region && c.2.1 == epoch) with
  | some (_, _, own) =>
    let b := b.modLane l fun x => { x with laneCompares := satNat 0xFFFFFFFF (x.laneCompares + 1) }
    if own = h then b else b.diverge 4 region
  | none => b

/-- An item arrives over the bridge (R258): it waits for delivery, or is compared. An event or an alarm that the far lane
has raised is in the module's list already and is added only when it is new. -/
def Block.itemFrom (b : Block) (l : Lane) (it : Item) : Block :=
  let b := b.modLane l.other fun x => { x with toFar := x.toFar.erase it }
  if (b.lane l).st < 2 then b else
  match it.body with
  | .close n => b.modLane l fun x => ({ x with closeDue := some (it.epoch, n) } : LaneSt).closes
  | .check s n c => b.checkAgainst l s n c
  | .hash r h => b.hashAgainst l it.epoch r h
  | .event r =>
    if b.ev.items.any (fun x => x.ev == r.ev && x.cause == r.cause && x.subject == r.subject && x.epoch == r.epoch) then b
    else b.modEv fun v => { v with items := v.items ++ [r] }
  | .tamper i => b.modKeys fun k => { k with pendingAlarm := match k.pendingAlarm with
      | some (j, e) => some (i || j, e)
      | none => some (i, it.epoch) }
  | _ => b.modLane l fun x => ({ x with far := x.far ++ [it] } : LaneSt).closes

/-! ## Debug (R298-R301) -/

/-- The pairs of a lane break: bits, events (R299, R301). -/
def Block.breakPairs (b : Block) (l : Lane) (mask : BitVec 7) : Block :=
  let new := (bitIdx 7 mask.toNat).filter fun k => !(b.lane l).broken.getLsbD k
  let b := b.modLane l fun x => { x with broken := x.broken ||| mask }
  new.foldl (fun b (k : Nat) => b.raise l 42 0 l.num k) b

/-- DEBUG_ENABLE (R299). -/
def Block.runDebugEnable (b : Block) (life : Lifecycle) (r : Req) : Block :=
  let p := r.pay
  let ls := byteAt p 0
  let ps := byteAt p 1
  b.check7 r 0x8021 (p.length == 4 && decide (1 ≤ ls) && decide (ls ≤ 3) && decide (1 ≤ ps) && decide (ps < 128) && zerosAt p 2 2)
  fun b =>
  if life == .blank || life == .retired || (life == .production && ps.testBit 6) then b.reply r 0x8021 .locked
  else if (ls.testBit 0 && !b.serves .a) || (ls.testBit 1 && !b.serves .b) then b.reply r 0x8021 .notActive
  else b.finish r 0x8021 .ok [] (.debug (BitVec.ofNat 2 ls) (BitVec.ofNat 7 ps))

/-! ## Roles and restarts (R277, R278, R280, R281) -/

/-- The lane that a one-byte lane field names. -/
def laneOf (n : Nat) : Lane := if n = 0 then .a else .b

/-- ROLE_SET (R277). -/
def Block.runRoleSet (b : Block) (r : Req) : Block :=
  let p := r.pay
  b.check7 r 0x8030 (p.length == 4 && decide (byteAt p 0 ≤ 1) && zerosAt p 1 3) fun b =>
  let dest := laneOf (byteAt p 0)
  if !b.serves dest then b.reply r 0x8030 .notActive
  else if !b.settled || b.activating then b.reply r 0x8030 .busy
  else if b.isActive dest then b.ok r 0x8030 []
  else (b.handOver dest false 0).hold r 0x8030 (.roleSet dest 0) false

/-- LANE_RESTART (R278, R520 case 4): a lane held after three faults is released by it. -/
def Block.runLaneRestart (b : Block) (r : Req) : Block :=
  let p := r.pay
  b.check7 r 0x8031 (p.length == 4 && decide (byteAt p 0 ≤ 1) && zerosAt p 1 3) fun b =>
  let l := laneOf (byteAt p 0)
  if !b.serves l.other then b.reply r 0x8031 .notActive
  else if !b.settled || b.activating then b.reply r 0x8031 .busy
  else
    let b := b.modLane l fun x => { x with heldByFaults := false, faultEpochs := [] }
    (b.beginRestart l).hold r 0x8031 (.laneRestart l) true

/-- The running update's request, if there is one. -/
def Block.activation (b : Block) : Option Pend :=
  b.mail.pend.find? fun e => match e.kind with | .updActivate .. => true | _ => false

/-- The versions of both lanes' images, as MODULE_INFO reports them (R120, R280). -/
def Block.versions (b : Block) : List Byte :=
  leBytes 4 (b.lane .a).image.version.toNat ++ leBytes 4 (b.lane .b).image.version.toNat

/-- The kind of the running update is replaced. -/
def Block.setActivation (b : Block) (k : PendKind) : Block :=
  b.modMail fun m => { m with pend := m.pend.map fun e =>
    match e.kind with | .updActivate .. => { e with kind := k } | _ => e }

/-- The sequence of R281 goes on: the next selected lane restarts on its staged image, or the update ends. A lane that is
active hands over first. -/
def Block.activateNext (b : Block) : Block :=
  match b.activation with
  | some { kind := .updActivate sel back origin _ la lb, .. } =>
    let standby := b.act.other
    let left := fun (l : Lane) => match l with | .a => la | .b => lb
    let next : Option Lane := if left standby then some standby else if left b.act then some b.act else none
    match next with
    | some l =>
      let b := b.setActivation (.updActivate sel back origin (some l) (la && l != .a) (lb && l != .b))
      b.beginRestart l
    | none =>
      let b := if back && b.act != origin && b.serves origin then b.handOver origin false 0 else b
      b.finishWhere (fun e => match e.kind with | .updActivate .. => true | _ => false) .ok b.versions .none
  | _ => b

/-- A level differs by more than one from another (R271, R279, R280). -/
def levelsApart (a c : Nat) : Bool := decide (a + 1 < c) || decide (c + 1 < a)

/-- UPDATE_ACTIVATE (R280). The staged image's level stands in its image header, bytes given by `level`. -/
def Block.runUpdateActivate (b : Block) (level : LaneSt → Nat) (r : Req) : Block :=
  let p := r.pay
  let op := 0x8004
  let n := byteAt p 0
  let sel : List Lane := (if n.testBit 0 then [Lane.a] else []) ++ (if n.testBit 1 then [Lane.b] else [])
  b.check7 r op (p.length == 4 && decide (1 ≤ n) && decide (n ≤ 3) && decide (byteAt p 1 ≤ 1) && zerosAt p 2 2) fun b =>
  b.needRoom r op 8 fun b =>
  if sel.any (fun l => (b.lane l).staging.st != .accepted) then b.reply r op .badCheck
  else if sel.any (fun l => [Lane.a, Lane.b].any fun k => levelsApart (level (b.lane l)) (b.lane k).image.level) then
    b.reply r op .denied
  else if (match sel with
    | [l] => !b.serves l.other
    | _ => !b.bothServe) then b.reply r op .notActive
  else if !b.settled || b.activating then b.reply r op .busy
  else
    let b := b.hold r op (.updActivate (BitVec.ofNat 2 n) (byteAt p 1 == 1) b.act none (n.testBit 0) (n.testBit 1)) true
    b.activateNext

/-- A lane has entered state 4: its front ends supply the wetting current, half each while both lanes serve (R240), and what
waited for it goes on (R91, R278, R281). -/
def Block.inService (b : Block) (l : Lane) : Block :=
  let b := b.modLane l fun x => { x with rolling := false, overdue := false, released := false, since := b.mod.epoch }
  let two := b.bothServe
  let b := b.modLanes fun x => { x with expects := two && x.st == 4 }
  let alone := !b.bothServe
  let b := b.modLanes fun x => { x with wetFull := alone && x.st == 4 }
  let b := b.finishWhere (fun e => match e.kind with | .laneRestart k => k == l | _ => false) .ok [] .none
  let b := match b.activation with
    | some { kind := .updActivate _ _ _ (some c) _ _, .. } => if c = l then b.activateNext else b
    | _ => b
  if !b.activating && (b.lane l.other).restartWaits && b.serves l.other then b.beginRestart l.other else b

/-- 2 s have passed since the reset of a lane that an update restarted: the sequence stops (R281). -/
def Block.activateStops (b : Block) : Block :=
  match b.activation with
  | some { kind := .updActivate _ _ _ (some c) _ _, .. } =>
    if b.serves c then b
    else b.finishWhere (fun e => match e.kind with | .updActivate .. => true | _ => false) .notActive [] .none
  | _ => b

/-- A rolling restart falls due: it begins, or waits while the other lane is out of service or an update runs (R89, R91,
R281). -/
def Block.restartFallsDue (b : Block) (l : Lane) : Block :=
  if !b.serves l || (b.lane l).rolling then b
  else if b.serves l.other && !b.activating && b.settled then b.beginRestart l
  else
    let b := b.modLane l fun x => { x with restartWaits := true, overdue := true }
    b.raiseAll 21 0 l.num 0

end Sys2Proof

namespace Sys2Proof.Machine

/-- LANE_FAULT (R268, R514). -/
def execLaneFault (l : Lane) (cause : Nat) (s : State) : Host.Outcome State Fault Refusal :=
  onBlock (fun b => b.laneFault l cause 0) s

/-- LOCKSTEP_MISMATCH: cause codes 0x01 to 0x04 of a pair whose lockstep is not broken (R290, R292, R301). -/
def execLockstepMismatch (l : Lane) (pair : LockPair) (cause : Fin 4) (s : State) : Host.Outcome State Fault Refusal :=
  onBlock (fun b => if (b.lane l).broken.getLsbD pair.val then b else b.laneFault l (cause.val + 1) pair.val) s

/-- COMPARATOR_TIMEOUT: a verdict is late, cause 0x03, or the checker is silent, cause 0x05 (R291, R292). -/
def execComparatorTimeout (l : Lane) (pair : LockPair) (silent : Bool) (s : State) : Host.Outcome State Fault Refusal :=
  onBlock (fun b =>
    if (b.lane l).broken.getLsbD pair.val then b else b.laneFault l (if silent then 5 else 3) pair.val) s

/-- DEBUG_ENABLE (R299). -/
def execDebugEnable (q : Req) (s : State) : Host.Outcome State Fault Refusal :=
  onBlock (fun b => b.serve 0x8021 q fun b => b.runDebugEnable s.otp.lifecycle q) s

/-- LANE_DOWN_RECEIVED (R268). -/
def execLaneDownReceived (l : Lane) (cause : Nat) (pair : Nat) (s : State) : Host.Outcome State Fault Refusal :=
  onBlock (fun b => if (b.lane l).st < 2 then b else b.laneDown l cause pair) s

/-- TIME_WORD_TIMEOUT: lane fault 0x09 (R39). -/
def execTimeWordTimeout (l : Lane) (s : State) : Host.Outcome State Fault Refusal :=
  onBlock (fun b => b.laneFault l 0x09 0) s

/-- LINK_FLIT_ERROR: the flit is sent again; the second failure of one flit, or more than 16 flits within 1 ms, fails the
link: a lane link is lane fault 0x08, the bridge link fails as R33 lays down (R30). Each lane counts the bridge's flits in its own time words. -/
def execLinkFlitError (k : FlitLink) (again : Bool) (s : State) : Host.Outcome State Fault Refusal :=
  onBlock (fun b =>
    let lane := fun (l : Lane) =>
      let ts := resentAgain (b.lane l).timeWords (b.lane l).resent
      if again || decide (16 < ts.length) then b.laneFault l 0x08 0 else b.modLane l fun x => { x with resent := ts }
    match k with
    | .laneA => lane .a
    | .laneB => lane .b
    | .bridge =>
      let b := b.modLanes fun x => { x with bridgeResent := resentAgain x.timeWords x.bridgeResent }
      let b := b.modBridge fun r => { r with retries := satNat 0xFFFFFFFF (r.retries + 1) }
      if again || decide (16 < (b.lane .a).bridgeResent.length) || decide (16 < (b.lane .b).bridgeResent.length) then b.bridgeFail
      else b) s

/-- BRIDGE_LINK_HEALTHY (R276, R441). -/
def execBridgeLinkHealthy (s : State) : Host.Outcome State Fault Refusal :=
  onBlock (fun b =>
    if b.bridge.link = 1 then b
    else ((b.modBridge fun r => { r with link := 1 }).modLanes fun x => { x with bridgeResent := [] }).raiseAll 43 2 noSubject 0) s

/-- AGREEMENT_ITEM_RECEIVED (R258, R264, R297). -/
def execAgreementItemReceived (l : Lane) (item : Item) (s : State) : Host.Outcome State Fault Refusal :=
  onBlock (fun b => b.itemFrom l item) s

/-- PORT_ACTIVITY_TIMEOUT: the standby lane takes the active role at its next boundary, or treats the silence as a failure of
the bridge link (R269). -/
def execPortActivityTimeout (l : Lane) (s : State) : Host.Outcome State Fault Refusal :=
  onBlock (fun b =>
    let x := b.lane l
    if !x.missedClose then b else
    let b := b.modLane l fun x => { x with missedClose := false, diesSayActive := false }
    let b := (List.range 4).foldl (fun b d => b.modLink d fun k => { k with silentReport := k.silentReport.set l false }) b
    if !b.serves l || b.isActive l then b
    else if x.diesSayActive then b.bridgeFail
    else
      let b := if b.serves l.other then b.leave l.other 2 else b
      b.handOver l true 0) s

/-- COMMAND_PORT_RETURN: the active lane names its own port again (R275). -/
def execCommandPortReturn (d : Die) (s : State) : Host.Outcome State Fault Refusal :=
  onBlock (fun b =>
    if b.configured && (b.die d).preferred != b.act then b.sendFrame d .role 0 (leBytes 1 b.act.num ++ zeroBytes 5)
    else b) s

/-- RESTART_DUE (R89-R91). -/
def execRestartDue (l : Lane) (s : State) : Host.Outcome State Fault Refusal :=
  onBlock (fun b => b.restartFallsDue l) s

/-- ROLE_SET (R277). -/
def execRoleSet (q : Req) (s : State) : Host.Outcome State Fault Refusal :=
  onBlock (fun b => b.serve 0x8030 q fun b => b.runRoleSet q) s

/-- LANE_RESTART (R278). -/
def execLaneRestart (q : Req) (s : State) : Host.Outcome State Fault Refusal :=
  onBlock (fun b => b.serve 0x8031 q fun b => b.runLaneRestart q) s

/-- ACTIVATE_TIMEOUT (R281). -/
def execActivateTimeout (s : State) : Host.Outcome State Fault Refusal :=
  onBlock (fun b => b.activateStops) s

end Sys2Proof.Machine
end

