-- ==== Sys2Proof/Machine/Lockstep.lean ====
section
/-! DEFINITION. The cores of a pair: retirement, the delay FIFO and the comparator (R284-R292), the state hash (R295, R296), budgets
(R144, R145), interrupts and the custom CSRs (R128, R145, R160, R161); and the weighted round robin of R148. -/

namespace Sys2Proof

/-! ## Weighted round robin (R148, R485) -/

/-- The credit that one round gives a participant of weight 1, in bits (log entry 115). -/
def schedQuantum : Int := 512

/-- The rounds after which a participant of weight `w` has credit. -/
def roundsFor (credit : Int) (w : Nat) : Nat := if 0 < credit then 0 else ((1 - credit + schedQuantum * w - 1) / (schedQuantum * w)).toNat

/-- The participant whose turn it is among those with work waiting: the next in cyclic order that has credit, after as many rounds
as it takes that one has; one without work keeps no credit. -/
def Sched.pick (s : Sched) (w : Nat → Nat) (waiting : List Nat) : Option (Nat × Sched) :=
  match waiting with
  | [] => none
  | p :: t =>
    let need := fun (q : Nat) => roundsFor (s.credit.getD q 0) (w q)
    let k := t.foldl (fun k q => min k (need q)) (need p)
    let credit := mapIdxFrom (fun q c => if waiting.contains q then c + schedQuantum * w q * k else 0) 0 s.credit
    let order := ((List.range 32).map fun i => (s.turn + i) % 32).filter waiting.contains
    (order.find? fun q => decide (0 < credit.getD q 0)).map fun q => (q, { credit := credit, turn := q })

/-- A participant has been served with an amount of work, in bits; the turn passes when its credit is used up. -/
def Sched.charge (s : Sched) (p n : Nat) : Sched :=
  let left := s.credit.getD p 0 - n
  { credit := setAt s.credit p left, turn := if 0 < left then p else (p + 1) % 32 }

/-! ## Cores and tokens (R283-R288) -/

/-- The number of a token kind. -/
def TokenKind.code : TokenKind → Nat
  | .ordinary => 0 | .trap => 1 | .halt => 2

/-- The bits of a token, in the order of the table of R286. -/
def Token.bits (t : Token) : Nat :=
  t.kind.code + 2 ^ 4 * (t.cause.toNat + 2 ^ 8 * (t.fetch.toNat + 2 ^ 32 * (t.load.toNat + 2 ^ 64 * (b2n t.scOk +
    2 * (t.csrIn.toNat + 2 ^ 64 * (t.out.toNat + 2 ^ 128 * t.sweep.toNat))))))

/-- A byte has an odd number of ones. -/
def oddByte (v : Nat) : Bool := (bitIdx 8 v).length % 2 == 1

/-- The even-parity bits of 39 bytes. -/
def parityOf (v : Nat) : BitVec 39 := BitVec.ofNat 39 (bitsOf ((List.range 39).map fun i => oddByte (v / 2 ^ (8 * i) % 256)))

/-- A token as the main core writes it, with its parity. -/
def Token.sealed (t : Token) : Token := { t with parity := parityOf t.bits }

/-- The token of an instruction that loads nothing and asks nothing of the fabric. -/
def Token.plain (a : CoreArch) (virt : Bool) (guest : Option (Fin 32)) : Token :=
  { kind := .ordinary, cause := 0, fetch := Config.fetched a, load := 0, scOk := false, csrIn := 0, out := 0, sweep := 0, parity := 0,
    virt := virt, guest := guest }

/-- The debug-halt mark (R300). -/
def Token.halting (t : Token) : Token := ({ t with kind := .halt, fetch := 0 } : Token).sealed

/-- A core retires the instruction of a token; instructions with virtualisation mode on are charged to hgprid (R144, R157). -/
def CoreSt.step (c : CoreSt) (t : Token) : CoreSt :=
  if t.kind = .halt then c else
  let g := c.hgprid.val
  { arch := Config.executed c.arch t.fetch t.load t.scOk t.csrIn, hgprid := t.guest.getD c.hgprid, instret := c.instret + 1,
    budget := if t.virt && g != 0 then setAt c.budget g (c.budget.getD g 0 - 1) else c.budget }

/-- What the comparator sees of a core's retirement: program counter, privilege mode, hgprid and the fabric request (R288). -/
def CoreSt.shows (c : CoreSt) (t : Token) : DWord × CoreMode × Fin 32 × List Byte :=
  let n := c.step t
  (n.arch.pc, n.arch.mode, n.hgprid, Config.request c.arch t.fetch)

/-- The comparator's verdict: equal for cores that stood alike, and for cores that show the same. -/
def verdictEq (chk main : CoreSt) (t : Token) : Bool := decide (chk = main) || decide (chk.shows t = main.shows t)

/-- The checker takes the oldest token and retires its instruction: the pair after it, and a cause code of R292 when the parity is
wrong or the comparison fails. -/
def PairSt.takes (p : PairSt) : PairSt × Option Nat :=
  match p.fifo with
  | [] => (p, none)
  | (t, was) :: rest =>
    ({ p with chk := p.chk.step t, fifo := rest },
      if t.parity ≠ parityOf t.bits then some 4 else if verdictEq p.chk was t then none else some 1)

/-- The checker takes every token that waits: 0.1 us have passed without a retirement (R284). -/
def PairSt.drain (p : PairSt) : PairSt × Option Nat :=
  p.fifo.foldl (fun acc _ => let (q, f) := acc.1.takes; (q, acc.2.or f)) (p, none)

/-- The main core retires an instruction: with two tokens in the FIFO the checker takes one first (R284, R285). -/
def PairSt.retire (p : PairSt) (t : Token) : PairSt × Option Nat :=
  let (p, f) := if 2 ≤ p.fifo.length then p.takes else (p, none)
  ({ p with main := p.main.step t, fifo := p.fifo ++ [(t.sealed, p.main)] }, f)

/-- A pair whose lockstep is broken: its main core runs alone (R300). -/
def PairSt.alone (p : PairSt) (t : Token) : PairSt := { p with main := p.main.step t }

/-- A pair of a lane by its number: AP0 to AP5, or SVP (R292). -/
def LaneSt.lockPair (x : LaneSt) (k : Nat) : PairSt := if k = 6 then x.svp else x.pair k

/-- A pair of a lane changed. -/
def LaneSt.modLockPair (x : LaneSt) (k : Nat) (f : PairSt → PairSt) : LaneSt :=
  if k = 6 then { x with svp := f x.svp } else x.modPair k f

/-- A fault that the comparator or the FIFO reports is a lane fault (R292). -/
def Block.pairFault (b : Block) (l : Lane) (k : Nat) : Option Nat → Block
  | some c => b.laneFault l c k
  | none => b

/-- The checker of an unbroken pair catches up (R284). -/
def Block.drainPair (b : Block) (l : Lane) (k : Nat) : Block :=
  if (b.lane l).broken.getLsbD k then b else
  let (p, f) := ((b.lane l).lockPair k).drain
  (b.modLane l fun x => x.modLockPair k fun _ => p).pairFault l k f

/-- A core as it is started: a0 holds the pair number, a1 the address of the boot information, every other register 0 (R157). -/
def CoreSt.started (pc pair info : Nat) (budget : List Nat) : CoreSt :=
  { CoreSt.fresh with
    arch := { CoreArch.fresh with
      x := setAt (setAt CoreArch.fresh.x 10 (BitVec.ofNat 64 pair)) 11 (BitVec.ofNat 64 info), pc := BitVec.ofNat 64 pc },
    budget := budget }

/-! ## Budgets (R144, R145) -/

/-- Instructions of a budget period. -/
def budgetPeriod : Nat := 2 ^ 20

/-- The budgets of a new period: 16,384 instructions per unit of the pair's core share. -/
def Block.newBudget (b : Block) (pair : Nat) : List Nat :=
  (List.range 32).map fun p => if p = 0 then 0 else (b.slice p).cores.getD pair 0 * 16384

/-- The budget interrupt of a guest on a pair is raised and counted, as the active lane sees it. -/
def Block.budgetTrap (b : Block) (l : Lane) (k g : Nat) : Block :=
  let b := b.modLane l fun x => x.modPair k fun y => { y with budgetIrq := true }
  if b.act = l then b.modViol g fun v => { v with budgetTraps := satNat 0xFFFFFFFF (v.budgetTraps + 1) } else b

/-- After an instruction of a guest: the interrupt when its budget has reached 0, and once more for a guest that has entered with none
left. -/
def Block.charged (b : Block) (l : Lane) (k g : Nat) (virt : Bool) : Block :=
  let p := (b.lane l).pair k
  if virt && g != 0 && p.budget.getD g 0 == 0 && !p.budgetIrq then b.budgetTrap l k g else b

/-- Both cores of a pair after the instructions that a command stands for, the checker having caught up: what the budgets and the
retirement count become; an unbroken pair's cores keep step. -/
def PairSt.both (p : PairSt) (f : CoreSt → CoreSt) : PairSt := { p with main := f p.main, chk := f p.chk }

/-- A budget period of a pair ends: the instructions up to the next multiple of 2^20 have retired, and every PRID receives its new
budget (R144). -/
def Block.periodEnds (b : Block) (l : Lane) (k : Nat) : Block :=
  let b := b.drainPair l k
  b.modLane l fun x => x.modPair k fun p =>
    { p.both (fun c => { c with instret := (c.instret / budgetPeriod + 1) * budgetPeriod, budget := b.newBudget k }) with
      budgetIrq := false }

/-- A guest spends what is left of its budget on a pair (R145). -/
def Block.budgetSpent (b : Block) (l : Lane) (k g : Nat) : Block :=
  let b := b.drainPair l k
  let b := b.modLane l fun x => x.modPair k fun p => p.both fun c =>
    { c with instret := c.instret + c.budget.getD g 0, budget := setAt c.budget g 0 }
  b.budgetTrap l k g

/-! ## Retirement -/

/-- An instruction of a pair retires. One whose output is held leaves only with the comparison, so its checker has caught up. -/
def Block.retires (b : Block) (l : Lane) (k : Nat) (t : Token) (held : Bool) : Block :=
  let p := (b.lane l).pair k
  let g := p.hgprid.val
  if (b.lane l).broken.getLsbD k then (b.modLane l fun x => x.modPair k fun p => p.alone t).charged l k g t.virt
  else
    let (q, f) := p.retire t
    let b := ((b.modLane l fun x => x.modPair k fun _ => q).charged l k g t.virt).pairFault l k f
    if held && f.isNone then b.drainPair l k else b

/-- The comparison that a held output waits for would come out equal (R287, R290). -/
def Block.outputEqual (b : Block) (l : Lane) (k : Nat) (t : Token) : Bool :=
  let p := (b.lane l).pair k
  (b.lane l).broken.getLsbD k || (p.drain.2.isNone && verdictEq p.drain.1.chk p.main t)

/-- The request of an access as its token carries it (R286): 64 bits of address, 16 of size, 8 each of kind and PRID. -/
def tokenOut (addr size kind prid : Nat) : BitVec 128 := BitVec.ofNat 128 (addr + 2 ^ 64 * (size + 2 ^ 16 * (kind + 2 ^ 8 * prid)))

/-- The token of an access of a pair, as it is before its load has returned. -/
def Block.accToken (b : Block) (l : Lane) (k : Nat) (virt : Bool) (addr size kind : Nat) : Token :=
  let p := (b.lane l).pair k
  { Token.plain p.main.arch virt none with out := tokenOut addr size kind (if virt then p.hgprid.val else 0) }

/-- An access of a pair that has ended retires its instruction, with the value it returned. One that has faulted, stalled or waits
retires none. -/
def Block.accRetires (b : Block) (l : Lane) (k : Nat) (t : Token) (held : Bool) : Block :=
  match ((b.lane l).pair k).result with
  | .done d => b.retires l k { t with load := BitVec.ofNat 64 (leNat d), scOk := true } held
  | .scFailed => b.retires l k t held
  | _ => b

/-- An access goes through its pair, which the hold of a cut stops (R273): a held output leaves when the comparison is equal, and a mismatch in its place is a lane fault
(R287, R292). -/
def Block.throughPair (b : Block) (m : MemSt) (l : Lane) (k : Nat) (t : Token) (held : Bool) (act : Block × MemSt) :
    Block × MemSt :=
  if (b.lane l).st < 4 then act
  else if b.pairsHeld then (b, m)
  else if held && !b.outputEqual l k t then (b.laneFault l 1 k, m)
  else (act.1.accRetires l k t held, act.2)

/-! ## State hash (R295, R296) -/

/-- The bytes of a segment of a core's state. -/
def CoreSt.segment (c : CoreSt) (n : Nat) : List Byte :=
  let lines := fun (l : List CacheLine) (s : Nat) => (l.filter fun y => y.index % 32 == s).flatMap fun y =>
    leBytes 8 y.tag ++ leBytes 1 (b2n y.dirty) ++ y.data
  let words := fun (l : List DWord) => l.flatMap fun v => leBytes 8 v.toNat
  if n = 1 then words (c.arch.x.drop 1)
  else if n = 2 then words c.arch.f ++ leBytes 4 c.arch.fcsr.toNat
  else if n = 3 then leBytes 8 c.arch.pc.toNat ++ leBytes 1 (match c.arch.mode with | .u => 0 | .vu => 1 | .vs => 2 | .hs => 3) ++
    leBytes 1 c.hgprid.val ++ c.arch.csrs.flatMap fun e => leBytes 2 e.1 ++ leBytes 8 e.2.toNat
  else if n < 36 then lines c.arch.dcache (n - 4)
  else lines c.arch.icache (n - 36)

/-- The hashes of two cores agree in every segment of their pair: SVP has segments 1 and 3 alone. -/
def hashesEqual (k : Nat) (c d : CoreSt) : Bool :=
  decide (c = d) || (if k = 6 then [1, 3] else (List.range 67).map (· + 1)).all fun n => crc64 (c.segment n) == crc64 (d.segment n)

/-- A sweep period of a lane ends: every segment of every unbroken pair has been hashed, each core at the same instruction. -/
def Block.sweep (b : Block) (l : Lane) : Block :=
  let bad := (List.range 7).find? fun k =>
    let p := ((b.lane l).lockPair k).drain.1
    !(b.lane l).broken.getLsbD k && !hashesEqual k p.main p.chk
  let b := b.modLane l fun x => { x with pairPeriods := satNat 0xFFFFFFFF (x.pairPeriods + 1) }
  match bad with
  | some k => b.laneFault l 2 k
  | none => (List.range 7).foldl (fun b k => b.drainPair l k) b

/-! ## Interrupts and CSRs (R128, R145, R152, R160, R161) -/

/-- A partition interrupt is routed to a pair. -/
def Block.routed (b : Block) (p k : Nat) : Bool := (b.p 0x1021 p).testBit k

/-- The interrupt pending in a pair that its main core takes, if there is one. -/
def PairSt.takesIrq (p : PairSt) : Bool :=
  (p.seip && Config.takes p.main.arch 9) || (p.hgeip != 0 && Config.takes p.main.arch 12) ||
    (p.budgetIrq && Config.takes p.main.arch 24)

/-- The partition interrupts reach the pairs of their routes; one that a pair takes abandons an access stalled by a freeze, which
ends in an access fault (R152, R160). -/
def Block.interrupts (b : Block) : Block :=
  let irq := b.part.irq
  b.modLanes fun x => if x.st < 4 then x else { x with pairs := mapIdxFrom (fun k (p : PairSt) =>
    let g := BitVec.ofNat 32 (bitsOf ((List.range 32).map fun q => q != 0 && irq.getLsbD q && b.routed q k))
    let p := { p with seip := irq.getLsbD 0 && b.routed 0 k, hgeip := g }
    if p.stalled.isSome && p.takesIrq then { p with stalled := none, result := .fault } else p) 0 x.pairs }

/-- The lowest partition whose interrupt is pending and routed to a pair, with bit 5 set: hgclaim (R161). -/
def Block.claim (b : Block) (k : Nat) : Nat :=
  match (List.range 32).find? fun p => b.part.irq.getLsbD p && b.routed p k with
  | some p => 32 + p
  | none => 0

/-- What a read of a custom CSR of a pair gives: in HS mode hgprid (0x6C0), hgbudget (0xEC0) or hgclaim (0xEC1), in the other modes
the exception of R128 (R145, R161). -/
def Block.csrRead (b : Block) (l : Lane) (k : Nat) (mode : CoreMode) (csr : Nat) : Option AccResult :=
  let p := (b.lane l).pair k
  let v : Option Nat := match csr with
    | 0x6C0 => some p.hgprid.val
    | 0xEC0 => some (p.budget.getD p.hgprid.val 0)
    | 0xEC1 => some (b.claim k)
    | _ => none
  v.map fun n => match mode with
    | .hs => .done (leBytes 8 n)
    | .u => .illegalInstr
    | _ => .virtualInstr

end Sys2Proof

namespace Sys2Proof.Machine

/-- SWEEP_PERIOD (R296). -/
def execSweepPeriod (l : Lane) (s : State) : Host.Outcome State Fault Refusal :=
  onBlock (fun b => if 2 ≤ (b.lane l).st then b.sweep l else b) s

/-- DEBUG_HALT_REQUEST: only a broken pair is a target (R298, R300). -/
def execDebugHaltRequest (l : Lane) (pair : LockPair) (s : State) : Host.Outcome State Fault Refusal :=
  onBlock (fun b =>
    if (b.lane l).broken.getLsbD pair.val && s.otp.lifecycle != .blank && s.otp.lifecycle != .retired then
      b.modLane l fun x => ({ x with haltRecord := true } : LaneSt).modLockPair pair.val fun p =>
        { p with haltMark := true, fifo := p.fifo ++ [((Token.plain p.main.arch false none).halting, p.main)] }
    else b) s

end Sys2Proof.Machine
end

