-- ==== Sys2Proof/Machine/Slices.lean ====
section
/-! DEFINITION. Partitions and slices: resource records and what they do to a slice, SLICE_CREATE, SLICE_GROW, SLICE_QUERY,
THAW, guest PRIDs, budgets and rate windows (05_partitions.md). -/

namespace Sys2Proof

/-! ## Records against slices (R131-R134) -/

/-- Two records of one request name the same object, granule or quota (R137 case 1). -/
def ResRec.clash (r q : ResRec) : Bool :=
  r.kind == q.kind &&
  match r.kind with
  | 0x05 => true
  | 0x06 => overlap r.first r.value q.first q.value
  | 0x07 => overlap r.first r.value q.first q.value
  | 0x08 => r.first == q.first && r.value &&& q.value != 0
  | 0x09 => overlap r.first r.value q.first q.value
  | 0x0A => overlap r.first r.value q.first q.value
  | 0x0B => r.first == q.first
  | _ => r.value &&& q.value != 0

/-- Some two records of the list clash. -/
def anyClash : List ResRec → Bool
  | [] => false
  | r :: t => t.any r.clash || anyClash t

/-- A record of an object kind overlaps what the slice holds. -/
def Slice.overlaps (s : Slice) (r : ResRec) : Bool :=
  match r.kind with
  | 0x01 => s.chans.toNat &&& r.value != 0
  | 0x02 => s.inputs.toNat &&& r.value != 0
  | 0x03 => s.buses.toNat &&& r.value != 0
  | 0x04 => s.queues.toNat &&& r.value != 0
  | 0x06 => s.slots.any fun x => overlap x.1 x.2 r.first r.value
  | 0x07 => s.ctxs.any fun x => overlap x.1 x.2 r.first r.value
  | 0x08 => (s.events.getD (r.first / 64) 0).toNat &&& r.value != 0
  | 0x09 => s.sram.any fun x => overlap x.base x.len r.first r.value
  | 0x0A => s.storage.any fun x => overlap x.base x.len r.first r.value
  | _ => false

/-- A range joins a list of memory ranges. -/
def MemRange.of (r : ResRec) : MemRange := { base := r.first, len := r.value, shared := r.shared }

/-- A record's resources join a slice; quotas add (R137). -/
def Slice.add (s : Slice) (r : ResRec) : Slice :=
  let v := BitVec.ofNat 64 r.value
  match r.kind with
  | 0x01 => { s with chans := s.chans ||| v }
  | 0x02 => { s with inputs := s.inputs ||| v }
  | 0x03 => { s with buses := s.buses ||| v }
  | 0x04 => { s with queues := s.queues ||| v }
  | 0x05 => { s with quota := s.quota + r.value }
  | 0x06 => { s with slots := s.slots ++ [(r.first, r.value)] }
  | 0x07 => { s with ctxs := s.ctxs ++ [(r.first, r.value)] }
  | 0x08 => { s with events := updAt s.events (r.first / 64) (· ||| v) }
  | 0x09 => { s with sram := s.sram ++ [MemRange.of r] }
  | 0x0A => { s with storage := s.storage ++ [MemRange.of r] }
  | 0x0B => { s with cores := updAt s.cores r.first (· + r.value) }
  | _ => s

/-- What remains of a range when another is taken out of it. -/
def cutRange (a n c m : Nat) : List (Nat × Nat) :=
  if !overlap a n c m then [(a, n)]
  else (if a < c then [(a, c - a)] else []) ++ (if c + m < a + n then [(c + m, a + n - (c + m))] else [])

/-- A list of number ranges without the members of a range. -/
def cutCounts (l : List (Nat × Nat)) (c m : Nat) : List (Nat × Nat) := l.flatMap fun x => cutRange x.1 x.2 c m

/-- A list of memory ranges without the bytes of a range. -/
def cutMem (l : List MemRange) (c m : Nat) : List MemRange :=
  l.flatMap fun x => (cutRange x.base x.len c m).map fun y => { base := y.1, len := y.2, shared := x.shared }

/-- A record's resources leave a slice; quotas subtract (R137). -/
def Slice.remove (s : Slice) (r : ResRec) : Slice :=
  let v := ~~~ (BitVec.ofNat 64 r.value)
  match r.kind with
  | 0x01 => { s with chans := s.chans &&& v }
  | 0x02 => { s with inputs := s.inputs &&& v }
  | 0x03 => { s with buses := s.buses &&& v }
  | 0x04 => { s with queues := s.queues &&& v }
  | 0x05 => { s with quota := s.quota - r.value }
  | 0x06 => { s with slots := cutCounts s.slots r.first r.value }
  | 0x07 => { s with ctxs := cutCounts s.ctxs r.first r.value }
  | 0x08 => { s with events := updAt s.events (r.first / 64) (· &&& v) }
  | 0x09 => { s with sram := cutMem s.sram r.first r.value }
  | 0x0A => { s with storage := cutMem s.storage r.first r.value }
  | 0x0B => { s with cores := updAt s.cores r.first (· - r.value) }
  | _ => s

/-- The slice holds all that a record names (R140). -/
def Slice.holdsRec (s : Slice) (r : ResRec) : Bool :=
  let all := fun (w : Nat) => r.value &&& w == r.value
  match r.kind with
  | 0x01 => all s.chans.toNat
  | 0x02 => all s.inputs.toNat
  | 0x03 => all s.buses.toNat
  | 0x04 => all s.queues.toNat
  | 0x05 => decide (r.value ≤ s.quota)
  | 0x06 => (List.range r.value).all fun i => inCounts s.slots (r.first + i)
  | 0x07 => (List.range r.value).all fun i => inCounts s.ctxs (r.first + i)
  | 0x08 => all (s.events.getD (r.first / 64) 0).toNat
  | 0x09 => s.holdsSram r.first r.value
  | 0x0A => s.holdsStorage r.first r.value
  | 0x0B => decide (r.value ≤ s.cores.getD r.first 0)
  | _ => false

/-- The records of a slice in kind order (R552). -/
def Slice.recs (s : Slice) : List ResRec :=
  let one := fun (k v : Nat) => if v = 0 then [] else [({ kind := k, shared := false, move := false, first := 0, value := v } : ResRec)]
  let many := fun (k : Nat) (l : List (Nat × Nat)) =>
    l.map fun x => ({ kind := k, shared := false, move := false, first := x.1, value := x.2 } : ResRec)
  let mem := fun (k : Nat) (l : List MemRange) =>
    l.map fun x => ({ kind := k, shared := x.shared, move := false, first := x.base, value := x.len } : ResRec)
  one 0x01 s.chans.toNat ++ one 0x02 s.inputs.toNat ++ one 0x03 s.buses.toNat ++ one 0x04 s.queues.toNat ++
    one 0x05 s.quota ++ many 0x06 s.slots ++ many 0x07 s.ctxs ++
    (many 0x08 (mapIdxFrom (fun i (w : BitVec 64) => (64 * i, w.toNat)) 0 s.events)).filter (·.value != 0) ++
    mem 0x09 s.sram ++ mem 0x0A s.storage ++
    (many 0x0B (mapIdxFrom (fun i (u : Nat) => (i, u)) 0 s.cores)).filter (·.value != 0)

/-- The slices after an accepted create or grow: a moved range leaves PRID 0 at the same boundary (R134, R137). -/
def applySlice (ss : List Slice) (p : Nat) (create : Bool) (recs : List ResRec) : List Slice :=
  let ss := if create then setAt ss p { Slice.empty with phase := .running } else ss
  let ss := updAt ss p fun s => recs.foldl Slice.add s
  updAt ss 0 fun s => (recs.filter (·.move)).foldl Slice.remove s

/-- The slices as they will stand when every response completed so far has become visible. -/
def Block.ahead (b : Block) : List Slice :=
  b.mail.done.foldl (fun ss a => match a.effect with
    | .slice p create recs => applySlice ss p.val create recs
    | _ => ss) b.part.slices

/-- The PRIDs other than one. -/
def others (p : Nat) : List Nat := (List.range 32).filter (· != p)

/-- A shared range enters its first slice from the pool, every further one with the same base and length; a moved range is
not shared (R133, R134). -/
def sharedOk (ss : List Slice) (r : ResRec) : Bool :=
  !r.shared || (!r.move && ss.all fun s => s.sram.all fun x =>
    !x.shared || !overlap x.base x.len r.first r.value || (x.base == r.first && x.len == r.value))

/-- PRID 0 holds a range alone and without flag [0] (R134). -/
def movable (ss : List Slice) (r : ResRec) : Bool :=
  let own := (ss.getD 0 Slice.empty).sram.filter fun x => !x.shared
  ({ Slice.empty with sram := own } : Slice).holdsSram r.first r.value

/-- The status of a create or grow (R137): the first condition that any record meets. A record without flag [0] on a range that
others hold as shared is NO_RESOURCE, and a granule that the slice itself has released and that is still being zeroed BUSY (log entries
125, 126). -/
def sliceStatus (ss : List Slice) (drains : List (Nat × Drain)) (busy : List Nat) (p : Nat) (recs : List ResRec) : Status :=
  let me := ss.getD p Slice.empty
  let oth := (others p).map fun q => ss.getD q Slice.empty
  let sumOf := fun (f : Slice → Nat) => (ss.map f).sum
  if anyClash recs then .badParam
  else if recs.any (fun r => me.overlaps r || (r.move && (p == 0 || !movable ss r)) || !sharedOk ss r || (r.kind == 0x0B && p == 0))
  then .badParam
  else if recs.any (fun r => match r.kind with
    | 0x01 => oth.any (·.overlaps r)
    | 0x04 => oth.any (·.overlaps r)
    | 0x05 => decide (24576 < sumOf (·.quota) + r.value)
    | 0x06 => oth.any (·.overlaps r)
    | 0x07 => oth.any (·.overlaps r)
    | 0x09 => !r.move && oth.any fun s => s.sram.any fun x =>
        overlap x.base x.len r.first r.value && !(x.shared && r.shared)
    | 0x0B => decide (64 < sumOf (fun s => s.cores.getD r.first 0) + r.value)
    | _ => false) then .noResource
  else if recs.any (fun r => (drains.any fun d => d.1 != p && d.2.recs.any fun q =>
      q.clash r && !([0x02, 0x03, 0x05, 0x08, 0x0A, 0x0B].contains r.kind)) ||
      (r.kind == 0x09 && (granulesOf r.first r.value).any busy.contains)) then .busy
  else .ok

/-! ## Slice commands -/

/-- The head and the records of a slice command payload are well formed (R136). -/
def slicePayOk (l : List Byte) (moveOk : Bool) : Bool :=
  let n := fieldAt l 4 2
  decide (byteAt l 0 < 32) && zerosAt l 1 3 && zerosAt l 6 2 && decide (1 ≤ n) && decide (n ≤ 255) &&
    l.length == 8 + 16 * n && (List.range n).all fun i => resRecOk l (8 + 16 * i) moveOk

/-- A head without records (R136). -/
def headOk (l : List Byte) (maxPrid : Nat) : Bool :=
  l.length == 8 && decide (byteAt l 0 ≤ maxPrid) && zerosAt l 1 7

/-- The granules that are not free for a new holder: zeroing or draining. -/
def Block.busyGranules (b : Block) : List Nat := b.part.zeroing ++ b.part.draining

/-- The teardown of a PRID is running, or taken up and awaiting its boundary. -/
def Block.tearing (b : Block) (p : Nat) : Bool :=
  (b.slice p).phase == .tearing || b.part.drains.any fun d => d.1 == p && d.2.destroy

/-- A create of a PRID is decided on the slices as they stand (R137). -/
def Block.decideCreate (b : Block) (r : Req) (p : Nat) (recs : List ResRec) : Block :=
  let st := sliceStatus b.ahead b.part.drains b.busyGranules p recs
  if st = .ok then b.finish r 0x1001 .ok [] (.slice (Fin.ofNat 32 p) true recs) else b.reply r 0x1001 st

/-- SLICE_CREATE (R137, R138). -/
def Block.runSliceCreate (b : Block) (r : Req) : Block :=
  let l := r.pay
  let p := byteAt l 0
  b.check7 r 0x1001 (slicePayOk l true && p != 0) fun b =>
  let recs := resRecs l (fieldAt l 4 2)
  if b.tearing p then b.hold r 0x1001 (.create (Fin.ofNat 32 p) recs) true
  else if (b.ahead.getD p Slice.empty).phase != .none then b.reply r 0x1001 .badParam
  else b.decideCreate r p recs

/-- SLICE_GROW (R137, R138). -/
def Block.runSliceGrow (b : Block) (r : Req) : Block :=
  let l := r.pay
  let p := byteAt l 0
  b.check7 r 0x1002 (slicePayOk l true) fun b =>
  let recs := resRecs l (fieldAt l 4 2)
  if (b.ahead.getD p Slice.empty).phase == .none || b.tearing p then b.reply r 0x1002 .badParam
  else
    let st := sliceStatus b.ahead b.part.drains b.busyGranules p recs
    if st = .ok then b.finish r 0x1002 .ok [] (.slice (Fin.ofNat 32 p) false recs) else b.reply r 0x1002 st

/-- part.state (R166): a pending creation shows before the teardown it waits for, a freeze before a drain. -/
def Block.partState (b : Block) (p : Nat) : Nat :=
  if b.mail.pend.any (fun e => match e.kind with | .create q _ => q.val == p | _ => false) then 5
  else match (b.slice p).phase with
  | .none => 0
  | .tearing => 4
  | .creating => 5
  | .running => if (b.slice p).frozen then 2 else 1
  | .shrinking => if (b.slice p).frozen then 2 else 3

/-- The runs of numbers below `n` that satisfy a test, as first and count. -/
def runsOf (f : Nat → Bool) (n : Nat) : List (Nat × Nat) :=
  ((List.range n).foldl (fun (acc : List (Nat × Nat)) i =>
    if f i then (match acc with
      | (s, c) :: t => if s + c = i then (s, c + 1) :: t else (i, 1) :: (s, c) :: t
      | [] => [(i, 1)])
    else acc) []).reverse

/-- A granule is free: no slice holds it and it is neither draining nor being zeroed. -/
def Block.granuleFree (b : Block) (g : Nat) : Bool :=
  !(b.part.slices.any fun s => s.sram.any fun x => decide (x.base ≤ g * granule) && decide (g * granule < x.base + x.len)) &&
    !b.busyGranules.contains g

/-- The free pool as records (R552). -/
def Block.freePool (b : Block) : List ResRec :=
  let ss := b.part.slices
  let mk := fun (k f v : Nat) => ({ kind := k, shared := false, move := false, first := f, value := v } : ResRec)
  let union := fun (f : Slice → BitVec 64) => (ss.foldl (fun w s => w ||| f s) (0 : BitVec 64)).toNat
  let left := fun (full v : Nat) => full - v
  ([mk 1 0 (left (2 ^ 64 - 1) (union (·.chans))), mk 2 0 (2 ^ 48 - 1), mk 3 0 (2 ^ 12 - 1),
    mk 4 0 (left (2 ^ 56 - 1) (union (·.queues))), mk 5 0 (24576 - (ss.map (·.quota)).sum)] ++
   (runsOf (fun i => !ss.any fun s => inCounts s.slots i) 240).map (fun x => mk 6 x.1 x.2) ++
   (runsOf (fun i => !ss.any fun s => inCounts s.ctxs i) 240).map (fun x => mk 7 x.1 x.2) ++
   [0, 64, 128, 192].map (fun f => mk 8 f (2 ^ 64 - 1)) ++
   (runsOf b.granuleFree 768).map (fun x => mk 9 (x.1 * granule) (x.2 * granule)) ++
   [mk 0x0A 0 storageSize] ++
   (List.range 6).map (fun i => mk 0x0B i (64 - (ss.map fun s => s.cores.getD i 0).sum))).filter fun r => r.value != 0

/-- The head and records of a SLICE_QUERY response (R552). -/
def queryPay (prid st : Nat) (recs : List ResRec) : List Byte :=
  leBytes 1 prid ++ leBytes 1 st ++ zeroBytes 2 ++ leBytes 2 recs.length ++ zeroBytes 2 ++ recs.flatMap ResRec.bytes

/-- SLICE_QUERY (R552). -/
def Block.runSliceQuery (b : Block) (r : Req) : Block :=
  let l := r.pay
  let p := byteAt l 0
  b.check7 r 0x1005 (headOk l 32) fun b =>
    if p = 32 then b.ok r 0x1005 (queryPay 32 0 b.freePool)
    else b.ok r 0x1005 (queryPay p (b.partState p) (b.slice p).recs)

/-- THAW (R153); releasing a frozen PRID raises EV029 with cause 0 (R534). -/
def Block.runThaw (b : Block) (r : Req) : Block :=
  let l := r.pay
  b.check7 r 0x1006 (headOk l 31) fun b => b.finish r 0x1006 .ok [] (.thaw (Fin.ofNat 32 (byteAt l 0)))

/-- The thaw takes effect: accesses that stalled are abandoned with an access fault (R152, R153). -/
def Block.thawNow (b : Block) (p : Nat) : Block :=
  if !(b.slice p).frozen then b else
  let b := b.modSlice p fun s => { s with frozen := false }
  let b := b.modRates p fun x => { x with mailOver := 0, cipherOver := 0, bridgeOver := 0 }
  let b := b.modLanes fun l => { l with pairs := l.pairs.map fun x =>
    match x.stalled with
    | some (_, q) => if q = p then { x with stalled := none, result := .fault } else x
    | none => x }
  b.raiseAll 29 0 p (toSigned 4 ((b.viol p).addr % 2 ^ 32))

/-- A created or grown slice takes its resources at the boundary; a new slice starts with fresh windows and no violation (R137, R138,
R166). -/
def Block.sliceNow (b : Block) (p : Nat) (create : Bool) (recs : List ResRec) : Block :=
  let b := b.modPart fun s => { s with slices := applySlice s.slices p create recs }
  if create then
    let b := b.modMail fun m => { m with parts := setAt m.parts p (WinAgreed.fresh 4) }
    let b := b.modEv fun e => { e with queues := setAt e.queues p EventQ.fresh }
    b.modViol p fun v => { Violations.fresh with budgetTraps := v.budgetTraps }
  else b

/-! ## Guests and budgets (R128, R129, R144, R145) -/

/-- A counter of the bridge, which is the active lane's own (R442). -/
def Block.brCount (b : Block) (l : Lane) (f : BridgeSt → BridgeSt) : Block := if b.act = l then b.modBridge f else b

/-- Prefetched lines of a pair are discarded unused and counted (R433). -/
def Block.dropLines (b : Block) (l : Lane) (pair : Nat) (sel : PrefLine → Bool) : Block :=
  let n := (((b.lane l).pair pair).lines.filter sel).length
  if n = 0 then b
  else (b.modLane l fun x => x.modPair pair fun p => { p with lines := p.lines.filter fun y => !sel y }).brCount l fun r =>
    { r with prefDiscards := satNat 0xFFFFFFFF (r.prefDiscards + n) }

/-- A write of hgprid: from HS mode fetched lines and kept units go, and the pending budget interrupt, which was the former guest's
(R129, R433, R480; log entry 117); from another mode the exception of R128. -/
def PairSt.setGuest (x : PairSt) (mode : CoreMode) : PairSt :=
  match mode with
  | .hs => { x with lines := [], units := [], result := .none, budgetIrq := false }
  | .u => { x with result := .illegalInstr }
  | _ => { x with result := .virtualInstr }

/-- The token of the instruction that writes hgprid. -/
def Block.guestToken (b : Block) (l : Lane) (k : Nat) (v : DWord) : Token :=
  Token.plain ((b.lane l).pair k).main.arch false (some (Fin.ofNat 32 v.toNat))

/-! ## Rate windows (R147, R150) -/

/-- One partition's window closes: windows over the limit are counted, the eleventh in a row is a violation (R150). -/
def Block.closeWindow (b : Block) (p : Nat) : Block :=
  let x := b.rates p
  let mail := decide (4 * b.p 0x1008 p + 1000 * b.p 0x1009 p < 1000 * x.mailWork)
  let ciph := decide (4000 * b.p 0x100A p + b.p 0x100B p * 8192 < x.cipherWork)
  let brdg := decide (4000 * b.p 0x100C p + b.p 0x100D p * 8192 < x.bridgeWork)
  let run := fun (o : Bool) (n : Nat) => if o then n + 1 else 0
  let b := b.modRates p fun x =>
    { x with mailWork := 0, cipherWork := 0, bridgeWork := 0, mailOver := run mail x.mailOver,
             cipherOver := run ciph x.cipherOver, bridgeOver := run brdg x.bridgeOver }
  let hit := fun (n cause : Nat) (b : Block) => if n = 11 then b.violate p cause 0 else b
  if (b.slice p).phase == .none then b
  else hit (b.rates p).bridgeOver 6 (hit (b.rates p).cipherOver 5 (hit (b.rates p).mailOver 4 b))

end Sys2Proof

namespace Sys2Proof.Machine

/-- SLICE_CREATE (R137, R138). -/
def execSliceCreate (q : Req) (s : State) : Host.Outcome State Fault Refusal :=
  onBlock (fun b => b.serve 0x1001 q fun b => b.runSliceCreate q) s

/-- SLICE_GROW (R137). -/
def execSliceGrow (q : Req) (s : State) : Host.Outcome State Fault Refusal :=
  onBlock (fun b => b.serve 0x1002 q fun b => b.runSliceGrow q) s

/-- SLICE_QUERY (R552). -/
def execSliceQuery (q : Req) (s : State) : Host.Outcome State Fault Refusal :=
  onBlock (fun b => b.serve 0x1005 q fun b => b.runSliceQuery q) s

/-- THAW (R153). -/
def execThaw (q : Req) (s : State) : Host.Outcome State Fault Refusal :=
  onBlock (fun b => b.serve 0x1006 q fun b => b.runThaw q) s

/-- HGPRID_WRITE (R128, R129). -/
def execHgpridWrite (l : Lane) (pair : Pair) (mode : CoreMode) (v : DWord) (s : State) :
    Host.Outcome State Fault Refusal :=
  onBlock (fun b =>
    if b.pairsHeld then b else
    let t := b.guestToken l pair.val v
    let b := if mode = .hs then b.dropLines l pair.val (fun _ => true) else b
    let b := b.modLane l fun x => x.modPair pair fun y => y.setGuest mode
    if mode = .hs then b.retires l pair.val t false else b) s

/-- RATE_WINDOW_END: each partition's 1 ms window closes (R150). -/
def execRateWindowEnd (s : State) : Host.Outcome State Fault Refusal :=
  onBlock (fun b => if b.anyServes then (List.range 32).foldl Block.closeWindow b else b) s

/-- BUDGET_PERIOD: the pair has retired the last instruction of a period of 2^20 (R144; log entry 117). -/
def execBudgetPeriod (l : Lane) (pair : Pair) (s : State) : Host.Outcome State Fault Refusal :=
  onBlock (fun b => b.periodEnds l pair.val) s

/-- BUDGET_EXHAUSTED: the guest in hgprid has spent its last unit (R145; log entry 117). -/
def execBudgetExhausted (l : Lane) (pair : Pair) (s : State) : Host.Outcome State Fault Refusal :=
  onBlock (fun b =>
    let g := ((b.lane l).pair pair).hgprid.val
    if g = 0 then b else b.budgetSpent l pair.val g) s

end Sys2Proof.Machine
end

