-- ==== Sys2Proof/Machine/Inputs.lean ====
section
/-! DEFINITION. Multi-function inputs: classification and debounce in each lane, edge timers, the agreed value and its flags,
INPUT_READ, and the configuration checks (08_inputs.md). -/

namespace Sys2Proof

/-! ## One lane's front end (R242-R244) -/

/-- The classification of a pin voltage: state, low fault, high fault (R243). -/
def Block.classify (b : Block) (i : Nat) (old : Bool) (mv : Nat) : Bool × Bool × Bool :=
  let low := decide (mv < b.p 0x3005 i)
  let high := decide (b.p 0x3008 i < mv)
  let st := if low || high then old
            else if mv < b.p 0x3006 i then false
            else if b.p 0x3007 i < mv then true else old
  (st, low, high)

/-- A classification passes the debounce: at once the first time, without a debounce time and in mode 4; else when every scan
of the time has shown it (R242). -/
def FrontEnd.debounce (x : FrontEnd) (c : Bool × Bool × Bool) (scans : Nat) : FrontEnd :=
  if x.first || scans == 0 then
    { x with state := c.1, low := c.2.1, high := c.2.2, candState := c.1, candLow := c.2.1, candHigh := c.2.2, run := 0,
             first := false }
  else if c.1 == x.state && c.2.1 == x.low && c.2.2 == x.high then
    { x with candState := c.1, candLow := c.2.1, candHigh := c.2.2, run := 0 }
  else
    let run := if c.1 == x.candState && c.2.1 == x.candLow && c.2.2 == x.candHigh then x.run + 1 else 1
    if scans ≤ run then
      { x with state := c.1, low := c.2.1, high := c.2.2, candState := c.1, candLow := c.2.1, candHigh := c.2.2, run := 0 }
    else { x with candState := c.1, candLow := c.2.1, candHigh := c.2.2, run := run }

/-- A sample that has no value yet. -/
def Sample.zero : Sample :=
  { value := 0, volt := 0, duty := 0, state := false, lowF := false, highF := false, age := 0 }

/-- A scan of one input: classification of the pin voltage, conversion from 0 to 36,000 mV, refresh (R242, R243, R245). In
mode 4 the value comes from the edge timer. -/
def Block.scanInput (b : Block) (l : Lane) (i : Nat) (mv : Int) : Block :=
  let mode := b.p 0x3001 i
  if mode = 0 || (b.lane l).st = 0 then b else
  let v := (clampInt 0 36000 mv).toNat
  let scans := if mode = 4 then 0 else 40 * b.p 0x3004 i
  let now := (b.lane l).timeWords
  b.modLane l fun x => x.modFront i fun f =>
    let f := f.debounce (b.classify i f.state mv.toNat) scans
    if mode = 4 then
      { f with sample := f.sample.map fun s =>
          { s with volt := (v + 5) / 10, state := f.state, lowF := f.low, highF := f.high || f.fast } }
    else
      { f with sample := some { value := v, volt := (v + 5) / 10, duty := 0, state := f.state, lowF := f.low, highF := f.high,
                                age := 0 },
               stamp := now }

/-- An edge timer's refresh: period and high time in units of 40 ns; a period of 0 is no complete period yet (R244). The value stays
in the range of R254 (log entry 119). -/
def Block.edgePeriod (b : Block) (l : Lane) (i period high : Nat) : Block :=
  if b.p 0x3001 i != 4 || (b.lane l).st = 0 || period = 0 then b else
  let now := (b.lane l).timeWords
  b.modLane l fun x => x.modFront i fun f =>
    let fast := decide (period < 1250)
    let s := f.sample.getD Sample.zero
    { f with fast := fast, stamp := now,
             sample := some { s with value := ((min 2000000 (2500000000 / period) : Nat) : Int),
                                     duty := min 1000 (1000 * high / period), state := f.state, lowF := f.low, highF := f.high || fast } }

/-- No rising edge for 2.5 s: 0 Hz and 0 duty (R244). -/
def Block.edgeNone (b : Block) (l : Lane) (i : Nat) : Block :=
  if b.p 0x3001 i != 4 || (b.lane l).st = 0 then b else
  let now := (b.lane l).timeWords
  b.modLane l fun x => x.modFront i fun f =>
    let s := f.sample.getD Sample.zero
    { f with fast := false, stamp := now,
             sample := some { s with value := 0, duty := 0, state := f.state, lowF := f.low, highF := f.high } }

/-- A lane's sample of an input, with its age. -/
def Block.agedSample (b : Block) (l : Lane) (i : Nat) : Option Sample :=
  let f := (b.lane l).front i
  f.sample.map fun s => { s with age := (b.lane l).timeWords - f.stamp }

/-- A sample has been refreshed within in.age.limit (R245). -/
def Block.freshSample (b : Block) (i : Nat) (s : Sample) : Bool := decide (s.age ≤ 1000 * b.p 0x3009 i)

/-- At a boundary each lane in service tags its samples with the epoch that ends (R258). -/
def Block.tagSamples (b : Block) (l : Lane) : Block :=
  if !b.serves l then b else
  b.modLane l fun x => { x with fronts := mapIdxFrom (fun i (f : FrontEnd) => { f with tagged := b.agedSample l i }) 0 x.fronts }

/-! ## The agreed value (R245-R249) -/

/-- Two fresh samples disagree (R247). -/
def Block.disagree (b : Block) (i : Nat) (a c : Sample) : Bool :=
  let tol := b.p 0x300A i
  let gap := (a.value - c.value).natAbs
  a.state != c.state || a.lowF != c.lowF || a.highF != c.highF ||
    (if b.p 0x3001 i = 4 then decide (tol * a.value.natAbs < 1000 * gap) else decide (tol < gap))

/-- The timings of agreement and disagreement after one comparison (R247): the flag, the count and whether it was set now. -/
def InputSt.compare (x : InputSt) (bad : Bool) (n : Nat) : InputSt × Bool :=
  let x := if bad then { x with disRun := x.disRun + 1, agrRun := 0 } else { x with agrRun := x.agrRun + 1, disRun := 0 }
  let was := x.flags.getLsbD 5
  if bad && !was && decide (n < x.disRun) then
    ({ x with flags := setFlag x.flags 5 true, disCount := satNat 0xFFFFFFFF (x.disCount + 1) }, true)
  else if !bad && was && decide (n < x.agrRun) then ({ x with flags := setFlag x.flags 5 false }, false)
  else (x, false)

/-- The agreed value of an input is formed from the active lane's own and far sample of the delivered epoch, and its events
are raised (R245-R249). `two`: both lanes are in service. -/
def Block.deliverInput (b : Block) (i : Nat) (own far : Option Sample) (two : Bool) (epoch : Nat) : Block :=
  if b.p 0x3001 i = 0 then b else
  let x := b.input i
  let old := x.flags
  let a := own.filter (b.freshSample i)
  let c := if two then far.filter (b.freshSample i) else none
  let pick : Option Sample := match a with
    | some s => some s
    | none => c
  let stale := if two then a.isNone || c.isNone else a.isNone
  let void := pick.isNone
  let fl := setFlag (setFlag (setFlag x.flags 3 stale) 4 void) 6 (!two)
  let x := match pick with
    | some s => { x with value := s.value, volt := s.volt, duty := s.duty,
                         flags := setFlag (setFlag (setFlag fl 0 s.state) 1 s.lowF) 2 s.highF }
    | none => { x with flags := fl }
  let (x, disagreed) := match a, c with
    | some s, some t => x.compare (b.disagree i s t) (20 * b.p 0x300B i)
    | _, _ => (x, false)
  let changed := match x.hist with
    | (_, v, u, d, f) :: _ => !(v == x.value && u == x.volt && d == x.duty && f == x.flags)
    | [] => true
  let x := if changed then { x with hist := (epoch, x.value, x.volt, x.duty, x.flags) :: x.hist } else x
  let b := b.modInput i fun _ => x
  let rose := fun (k : Nat) => x.flags.getLsbD k && !old.getLsbD k
  let ev := fun (cause : Nat) (go : Bool) (b : Block) => if go then b.raiseAll (112 + i) cause i x.value else b
  ev 0 (b.p 0x300D i == 1 && x.flags.getLsbD 0 != old.getLsbD 0)
    (ev 5 disagreed (ev 4 (rose 4) (ev 3 (rose 3) (ev 2 (rose 2) (ev 1 (rose 1) b)))))

/-- The agreed values of the epoch that stamped a doorbell (R250). -/
def InputSt.atEpoch (x : InputSt) (e : Nat) : Int × Nat × Nat × BitVec 16 :=
  match x.hist.find? fun h => decide (h.1 ≤ e) with
  | some (_, v, u, d, f) => (v, u, d, f)
  | none => (x.value, x.volt, x.duty, x.flags)

/-- The 12-byte record of INPUT_READ (R250). -/
def Block.inputRec (b : Block) (i stamp : Nat) : List Byte :=
  let (v, u, d, f) := (b.input i).atEpoch stamp
  leBytes 1 i ++ leBytes 1 (b.p 0x3001 i) ++ leBytes 2 f.toNat ++ leBytes 4 (ofSigned 4 v) ++ leBytes 2 u ++ leBytes 2 d

/-- INPUT_READ (R238, R250). -/
def Block.runInputRead (b : Block) (r : Req) : Block :=
  let p := r.pay
  b.check7 r 0x3001 (p.length == 8 && zerosAt p 6 2) fun b =>
  let sel := bitIdx 48 (fieldAt p 0 8)
  b.needRoom r 0x3001 (12 * sel.length) fun b =>
  if sel.any (fun i => b.p 0x3001 i == 0) then b.reply r 0x3001 .notActive
  else b.ok r 0x3001 (sel.flatMap fun i => b.inputRec i r.stamp)

/-! ## Configuration (R239, R241, R243, R252) -/

/-- The inputs of a configuration obey their rules, checked as a whole. -/
def inputsStatus (m : List (Nat × Nat)) : Status :=
  let p := fun (id i : Nat) => pval m id i
  let ins := List.range 48
  let one := fun (i : Nat) =>
    let mode := p 0x3001 i
    !((mode == 2 || mode == 3) && p 0x3002 i == 0) &&
    !(mode == 4 && decide (2 ≤ p 0x3003 i)) &&
    decide (p 0x3005 i ≤ p 0x3006 i) && decide (p 0x3006 i < p 0x3007 i) && decide (p 0x3007 i ≤ p 0x3008 i) &&
    !(p 0x300C i == 1 && (mode == 0 || mode == 4))
  let wakes := (ins.filter fun i => p 0x300C i == 1).length
  let sum := (ins.map fun i => if p 0x3001 i = 0 then 0 else p 0x3002 i).sum
  if !ins.all one || decide (8 < wakes) then .badParam
  else if 240 < sum then .noResource
  else .ok

/-- A change of in.mode lets the first classification of the input pass at once in both lanes (R242). -/
def Block.modeChanged (b : Block) (i : Nat) : Block :=
  b.modLanes fun x => x.modFront i fun f => { FrontEnd.fresh with stamp := f.stamp }

end Sys2Proof

namespace Sys2Proof.Machine

/-- INPUT_READ (R250). -/
def execInputRead (q : Req) (s : State) : Host.Outcome State Fault Refusal :=
  onBlock (fun b => b.serve 0x3001 q fun b => b.runInputRead q) s

/-- INPUT_SCAN (R242). -/
def execInputScan (l : Lane) (i : Input) (mv : Int) (s : State) : Host.Outcome State Fault Refusal :=
  onBlock (fun b => b.scanInput l i mv) s

/-- EDGE_TIMER_PERIOD (R244). -/
def execEdgeTimerPeriod (l : Lane) (i : Input) (period high : Nat) (s : State) : Host.Outcome State Fault Refusal :=
  onBlock (fun b => b.edgePeriod l i period high) s

/-- EDGE_TIMEOUT (R244). -/
def execEdgeTimeout (l : Lane) (i : Input) (s : State) : Host.Outcome State Fault Refusal :=
  onBlock (fun b => b.edgeNone l i) s

end Sys2Proof.Machine
end

