-- ==== Sys2Proof/Machine/SwCore.lean ====
section
/-! DEFINITION. The switch core's shared operations: frames as bytes, the buffer and its pools, classification, policing,
IEEE 802.1CB recovery, random early drop, admission and multicast references (12_switch_core.md). -/

namespace Sys2Proof

/-! ## Frames as bytes -/

/-- A VLAN tag's bytes. -/
def vlanBytes (vid : Option Nat) (dei : Bool) : List Byte :=
  match vid with
  | some v => beBytes 2 0x8100 ++ beBytes 2 (v % 4096 + 4096 * b2n dei)
  | none => []

/-- An R-tag's bytes (R376). -/
def rtagBytes (t : Option Half) : List Byte :=
  match t with
  | some n => beBytes 2 0xF1C1 ++ zeroBytes 2 ++ beBytes 2 n.toNat
  | none => []

/-- A frame from destination address to the last data byte, padded or cut to its length without FCS. -/
def EthFrame.bytes (f : EthFrame) : List Byte :=
  let raw := beBytes 6 f.dst ++ beBytes 6 f.src ++ vlanBytes f.vid f.dei ++ rtagBytes f.rtag ++ beBytes 2 f.etype ++ f.data
  let n := f.len - 4
  raw.take n ++ zeroBytes (n - raw.length)

/-- The frame that bytes without FCS spell. -/
def EthFrame.ofBytes (l : List Byte) : EthFrame :=
  let be := fun (o n : Nat) => beNat (bytesAt l o n)
  let tagged := be 12 2 == 0x8100
  let o := if tagged then 16 else 12
  let cb := be o 2 == 0xF1C1
  let o2 := if cb then o + 6 else o
  { dst := be 0 6, src := be 6 6, vid := if tagged then some (be 14 2 % 4096) else none,
    dei := tagged && (be 14 2).testBit 12, rtag := if cb then some (BitVec.ofNat 16 (be (o + 4) 2)) else none,
    etype := be o2 2, len := l.length + 4, data := l.drop (o2 + 2) }

/-! ## Buffer and pools (R352) -/

/-- Cells of 128 bytes a frame occupies. -/
def cellsOf (len : Nat) : Nat := (len + 127) / 128

/-- The frame with an id. -/
def SwitchSt.frame? (x : SwitchSt) (id : Nat) : Option SwFrame := x.frames.find? fun f => f.id == id

/-- Cells of a list of frame ids. -/
def SwitchSt.cells (x : SwitchSt) (ids : List Nat) : Nat :=
  (ids.map fun i => match x.frame? i with
    | some f => cellsOf f.frame.len
    | none => 0).sum

/-- One queue of a physical port. -/
def SwitchSt.queue (x : SwitchSt) (port q : Nat) : List Nat := (x.queues.getD port []).getD q []

/-- One queue changed. -/
def SwitchSt.modQueue (x : SwitchSt) (port q : Nat) (f : List Nat → List Nat) : SwitchSt :=
  { x with queues := updAt x.queues port fun qs => updAt qs q f }

/-- The receive queues of a virtual port changed. -/
def SwitchSt.modVpRx (x : SwitchSt) (p q : Nat) (f : List Nat → List Nat) : SwitchSt :=
  { x with vpRx := updAt x.vpRx p fun qs => updAt qs q f }

/-- Statistics of a port changed. -/
def SwitchSt.modStats (x : SwitchSt) (port : Nat) (f : PortStats → PortStats) : SwitchSt :=
  { x with stats := updAt x.stats port f }

/-- A frame id is still referred to. -/
def SwitchSt.referred (x : SwitchSt) (id : Nat) : Bool :=
  x.queues.any (fun qs => qs.any (·.contains id)) || x.residue.any (fun r => r.any (·.1 == id)) ||
    x.vpRx.any (fun qs => qs.any (·.contains id))

/-- Frames whose last reference is gone return their cells to the deck (R371). -/
def SwitchSt.gc (x : SwitchSt) : SwitchSt := { x with frames := x.frames.filter fun f => x.referred f.id }

/-- Cells of all frames in the buffer. -/
def SwitchSt.linked (x : SwitchSt) : Nat := (x.frames.map fun f => cellsOf f.frame.len).sum

/-- Free cells: what is neither linked nor lost (R374). -/
def SwitchSt.free (x : SwitchSt) : Nat := 32768 - x.linked - x.lostCells

/-- Cells counted against the common reserve (R352). -/
def SwitchSt.reserve (x : SwitchSt) : Nat :=
  ((x.frames.filter fun f => f.sender.isNone && !x.vpRx.any (fun qs => qs.any (·.contains f.id))).map
    fun f => cellsOf f.frame.len).sum

/-- Cells counted against a partition's quota: frames bound for its virtual port and frames it sent (R352). -/
def SwitchSt.quotaUsed (x : SwitchSt) (p : Nat) : Nat :=
  ((x.frames.filter fun f =>
    (match f.sender with | some s => s.val == p | none => false) || (x.vpRx.getD p []).any (·.contains f.id)).map
      fun f => cellsOf f.frame.len).sum

/-! ## Entries (R360-R362) -/

/-- The valid entry of an index. -/
def NetTables.entry? (n : NetTables) (i : Nat) : Option SwEntry := (n.entries.find? fun e => e.1 == i).map (·.2)

/-- The present generation of an index. -/
def NetTables.gen (n : NetTables) (i : Nat) : Nat := assocD 0 n.gens i

/-- The generation before another (R363). -/
def genBefore (g : Nat) : Nat := if g = 0 then 65534 else g - 1

/-- The generation of an index that frames are classified under: a change counts from its cut on (R364). -/
def NetTables.inForce (n : NetTables) (i : Nat) : Nat :=
  if n.cuts.any fun c => c.1 == i then genBefore (n.gen i) else n.gen i

/-- The entry of an index at a generation: the one in force, or the one before it (R363). -/
def NetTables.entryAt (n : NetTables) (i g : Nat) : Option SwEntry :=
  if g = n.inForce i then n.entry? i
  else match n.prev.find? fun e => e.1 == i with
    | some (_, true, e) => some e
    | _ => none

/-- Cells of items of the lane that wait for agreement, bound for a virtual port. -/
def LaneSt.boundFor (l : LaneSt) (n : NetTables) (p : Nat) : Nat :=
  (l.own.map fun it => match it.body with
    | .eth i g _ f => (match n.entryAt i g with
      | some e => if e.dests.getLsbD (7 + p) then cellsOf f.len else 0
      | none => 0)
    | _ => 0).sum

/-- An entry enters the table in index order; one that is not valid leaves it. -/
def entryPut : List (Nat × SwEntry) → Nat → SwEntry → List (Nat × SwEntry)
  | [], i, e => if e.valid then [(i, e)] else []
  | (j, x) :: t, i, e =>
    if i < j then (if e.valid then (i, e) :: (j, x) :: t else (j, x) :: t)
    else if i = j then (if e.valid then (i, e) :: t else t)
    else (j, x) :: entryPut t i e

/-- The 32 bytes of an entry are well formed and what they say (R361). -/
def swEntryOf (l : List Byte) : SwEntry :=
  let v := fieldAt l 12 2
  { mac := beNat (bytesAt l 0 6), macMask := beNat (bytesAt l 6 6), vidMatch := v.testBit 15, vid := v % 4096,
    srcPort := byteAt l 14, valid := (byteAt l 15).testBit 7, pridMatch := (byteAt l 15).testBit 6, prid := byteAt l 15 % 32,
    dests := BitVec.ofNat 39 (fieldAt l 16 8), queue := byteAt l 24 / 32, life := byteAt l 24 % 4, slot := byteAt l 25,
    policer := byteAt l 26, police := (byteAt l 27).testBit 7, action := (byteAt l 27 / 32) % 4, handle := fieldAt l 28 2 }

/-- The res fields and ranges of an entry's bytes (R361). -/
def swEntryBytesOk (l : List Byte) : Bool :=
  let v := fieldAt l 12 2
  let e := swEntryOf l
  decide ((v / 4096) % 8 = 0) && !(byteAt l 15).testBit 5 && decide (fieldAt l 16 8 < 2 ^ 39) && decide ((byteAt l 24 / 4) % 8 = 0) &&
    decide (byteAt l 27 % 32 = 0) && decide (fieldAt l 28 2 < 1024) && zerosAt l 30 2 &&
    (e.srcPort == 255 || decide (e.srcPort ≤ 38)) && (!e.vidMatch || (decide (1 ≤ e.vid) && decide (e.vid ≤ 4094)))

/-- A source port field names a virtual port. -/
def isVirtual (p : Nat) : Bool := decide (7 ≤ p) && decide (p ≤ 38)

/-- The entry has a virtual destination. -/
def SwEntry.toVirtual (e : SwEntry) : Bool := (List.range 32).any fun p => e.dests.getLsbD (7 + p)

/-- The entry sends to a ring port. -/
def SwEntry.toRing (e : SwEntry) : Bool := e.dests.getLsbD 1 || e.dests.getLsbD 2

/-- The own node owns a slot in a hand: a static slot, or a polled slot its poll table names the node for (R307, R308). -/
def Hand.ownsSlot (h : Hand) (node slot : Nat) : Bool :=
  match h.slots[slot]? with
  | some s =>
    if s.polled then
      let k := ((h.slots.take slot).filter (·.polled)).length
      h.polls.any fun row => row.getD k 255 == node
    else s.owner == node
  | none => false

/-- A slot whose list the own node holds in the hand in force (R338, R373). -/
def Block.slotHeld (b : Block) (l : Lane) (slot : Nat) : Bool :=
  (b.net.hands.getD (b.lane l).ring.hand.val { slots := [], polls := [] }).ownsSlot (b.lane l).ring.cfg.node slot

/-- A slot carries a frame of a length, FCS included: in the hand in force, or in any hand when that one does not give the slot
to the own node (R307, R362, R373). -/
def Block.slotCarries (b : Block) (l : Lane) (slot len : Nat) : Bool :=
  let fits := fun (h : Hand) => match h.slots[slot]? with
    | some s => decide (len ≤ 16 * s.frame)
    | none => false
  if b.slotHeld l slot then fits (b.net.hands.getD (b.lane l).ring.hand.val { slots := [], polls := [] })
  else b.net.hands.any fits

/-- The rules of R362 for an entry at an index, against the entries that will stand. -/
def Block.entryRules (b : Block) (i : Nat) (e : SwEntry) : Bool :=
  let all := b.net.cuts.foldl (fun t c => entryPut t c.1 c.2) b.net.entries
  !(isVirtual e.srcPort && e.toVirtual && e.action != 1) &&
  (e.action != 1 || (isVirtual e.srcPort && e.pridMatch)) &&
  !(e.action == 1 && all.any fun x => x.1 != i && x.2.action == 1 && x.2.handle == e.handle) &&
  (if e.queue == 7 && e.toRing then
    decide (e.slot < 64) && b.net.hands.any fun h => h.ownsSlot (b.p 0x4002 0) e.slot
   else e.slot == 255)

/-- The entry matches a frame of a source port and sender (R360, R361). -/
def SwEntry.hits (e : SwEntry) (port : Nat) (sender : Option Nat) (vid : Nat) (f : EthFrame) : Bool :=
  e.valid && ((f.dst ^^^ e.mac) &&& e.macMask) == 0 && (!e.vidMatch || vid == e.vid) &&
    (e.srcPort == 255 || e.srcPort == port) &&
    (!e.pridMatch || sender == some e.prid)

/-- The first valid entry in index order that matches. -/
def classifyIn (t : List (Nat × SwEntry)) (port : Nat) (sender : Option Nat) (vid : Nat) (f : EthFrame) :
    Option (Nat × SwEntry) := t.find? fun e => e.2.hits port sender vid f

/-- A lane has yet to take descriptors of a virtual port that lie before the latest cut (R364). -/
def Block.behindCut (b : Block) (l : Lane) (p : Nat) : Bool :=
  decide ((b.lane l).sw.txHead.getD p 0 < (b.lane l).sw.cut.getD p 0)

/-- The table a lane classifies a virtual port's next descriptor with: behind the cut it is the one before it (R364). -/
def Block.tableFor (b : Block) (l : Lane) (p : Nat) : List (Nat × SwEntry) :=
  if b.behindCut l p then
    (b.net.prev.filter fun e => b.net.lastCut.contains e.1).foldl (fun t e => entryPut t e.1 { e.2.2 with valid := e.2.1 })
      b.net.entries
  else b.net.entries

/-- The generation that a frame of a source port is classified under in a lane (R363, R364). -/
def Block.genFor (b : Block) (l : Lane) (src i : Nat) : Nat :=
  if isVirtual src && b.behindCut l (src - 7) && b.net.lastCut.contains i then genBefore (b.net.inForce i) else b.net.inForce i

/-! ## Events of a port (R381) -/

/-- A switch event, at its first occurrence and then at most once per second per port. -/
def Block.swEvent (b : Block) (l : Lane) (ev port : Nat) (detail : Int) : Block :=
  b.raiseLimited (0x100000 + 0x10000 * l.num + 0x100 * (ev % 256) + port) l ev 0
    (if ev = 194 ∨ ev = 197 ∨ ev = 198 ∨ ev = 199 then noSubject else port) detail

/-- A count of a port's statistics rises, and its event is raised with the frames concerned. -/
def Block.swCount (b : Block) (l : Lane) (port ev : Nat) (f : PortStats → PortStats) : Block :=
  (b.modLane l fun x => x.modSw fun s => s.modStats port f).swEvent l ev port 1

/-! ## Policing (R366, R367) -/

/-- The 16 bytes of a policer. -/
def Block.policer (b : Block) (i : Nat) : List Byte :=
  bytesAt (pbytes b.params (0x4880 + i / 16) 0 256) (16 * (i % 16)) 16

/-- The colour of a frame and the buckets after it: 0 green, 1 yellow, 2 red. Tokens stand in 1/160 byte, a rate of 1 kbit/s
brings one of them each epoch. -/
def trTcm (r : List Byte) (len : Nat) (dei : Bool) (c p : Nat) : Nat × Nat × Nat :=
  let need := len * 160
  if p < need then (2, c, p)
  else if c < need || (dei && (byteAt r 11).testBit 0) then (1, c, p - need)
  else (0, c - need, p - need)

/-- The frame passes its policer in a lane: colour and the lane's buckets (R366). A disabled policer leaves it green. -/
def Block.police (b : Block) (l : Lane) (i len : Nat) (dei : Bool) : Nat × Block :=
  let r := b.policer i
  if !(byteAt r 11).testBit 2 then (0, b) else
  let sw := (b.lane l).sw
  let full := (fieldAt r 8 3 * 160, fieldAt r 12 3 * 160)
  let (c, p, at') := match sw.buckets.find? (fun x => x.1 == i) with
    | some (_, c, p, e) => (c, p, e)
    | none => (full.1, full.2, b.mod.epoch)
  let span := b.mod.epoch - at'
  let c := satNat full.1 (c + span * fieldAt r 0 4)
  let p := satNat full.2 (p + span * fieldAt r 4 4)
  let (k, c, p) := trTcm r len dei c p
  (k, b.modLane l fun x => x.modSw fun s => { s with buckets := assocSet s.buckets i (c, p, b.mod.epoch) })

/-! ## IEEE 802.1CB (R376) -/

/-- Vector sequence recovery of one stream handle: whether the number is accepted, the state after it, and whether it lay
outside the history. -/
def Recov.accept (r : Recov) (n hist : Nat) : Bool × Recov × Bool :=
  let ahead := (n + 65536 - r.top) % 65536
  let behind := (r.top + 65536 - n) % 65536
  if ahead = 0 then (false, r, false)
  else if ahead < hist then
    (true, { r with top := n, hist := (r.top :: r.hist).filter fun m => decide ((n + 65536 - m) % 65536 < hist) }, false)
  else if behind < hist then
    if r.hist.contains n then (false, r, false) else (true, { r with hist := n :: r.hist }, false)
  else (false, r, true)

/-- A sequence number against a list of recoveries; the first number of a handle is accepted. -/
def recovTake (l : List Recov) (handle n hist : Nat) : Bool × List Recov × Bool :=
  match l.find? fun r => r.handle == handle with
  | none => (true, { handle := handle, top := n, hist := [] } :: l, false)
  | some r =>
    let (ok, r', out) := r.accept n hist
    (ok, r' :: l.filter (fun x => x.handle != handle), out)

/-! ## Admission (R352, R353, R368, R371) -/

/-- The port is down for admission: its link is down after the hold, it is disabled, or its MACsec transmit has stopped for
longer than the hold (R373, R377). -/
def Block.portDown (b : Block) (l : Lane) (port : Nat) : Bool :=
  let sw := (b.lane l).sw
  b.p 0x4801 port == 0 || sw.links.getD port .down == .down || (port == 0 && sw.txStopped && sw.txFlushed)

/-- The hard limit of a queue in cells (R353). -/
def Block.queueLimit (b : Block) (port q : Nat) : Nat := fieldAt (pbytes b.params 0x4811 port 16) (2 * q) 2

/-- The drop probability of a profile at an average occupancy, in millionths (R368). -/
def redProb (min max pmax : Nat) (a : Rat) : Nat :=
  if a < (min : Rat) then 0
  else if (max : Rat) ≤ a then 1000000
  else ratNat ((pmax : Rat) * 10000 * (a - min) / ((max : Rat) - min))

/-- Random early drop for one frame at a queue: whether it is dropped, and the block with the new average. The draw is a free
value (R368; log entry 3). -/
def Block.red (b : Block) (l : Lane) (port q colour : Nat) : Bool × Block :=
  let sw := (b.lane l).sw
  let limit := b.queueLimit port q
  let occ : Rat := 100 * ((sw.cells (sw.queue port q) : Nat) : Rat) / (limit : Rat)
  let old := (sw.avg.getD port []).getD q 0
  let a : Rat := old + (occ - old) / ((2 ^ b.p 0x4831 0 : Nat) : Rat)
  let prof := bytesAt (pbytes b.params 0x4812 port 96) (12 * q + 4 * colour) 4
  let pr := redProb (byteAt prof 0) (byteAt prof 1) (byteAt prof 2) a
  let b := b.modLane l fun x => x.modSw fun s => { s with avg := updAt s.avg port fun v => setAt v q a }
  if pr = 0 then (false, b)
  else if 1000000 ≤ pr then (true, b)
  else (decide (Config.freeDraw b.free % 1000000 < pr), { b with free := b.free + 1 })

/-- A reference is offered to a queue; `many`: the frame has several destinations. The answer says whether it was taken. -/
def Block.offer (b : Block) (l : Lane) (id port q len colour : Nat) (many : Bool) : Block :=
  if b.portDown l port then
    b.modLane l fun x => x.modSw fun s => s.modStats port fun t => { t with hold := t.hold + 1 }
  else
    let (drop, b) := b.red l port q colour
    if drop then b.modLane l fun x => x.modSw fun s => s.modStats port fun t => { t with red := t.red + 1 }
    else
      let sw := (b.lane l).sw
      if sw.cells (sw.queue port q) + cellsOf len ≤ b.queueLimit port q then
        b.modLane l fun x => x.modSw fun s => s.modQueue port q (· ++ [id])
      else if !many then
        b.modLane l fun x => x.modSw fun s => s.modStats port fun t => { t with queue := t.queue + 1 }
      else if (sw.residue.getD port []).length < 64 then
        b.modLane l fun x => x.modSw fun s => { s with residue := updAt s.residue port (· ++ [(id, q)]) }
      else b.swCount l port 196 fun t => { t with mcast := t.mcast + 1 }

/-- The physical destinations of an entry, both ring ports counting as the one that a slot selects (R362). -/
def SwEntry.physical (e : SwEntry) : List Nat :=
  let all := (List.range 7).filter fun p => e.dests.getLsbD p
  if e.queue = 7 && all.contains 1 && all.contains 2 then all.filter (· != 2) else all

/-- A frame with its entry is admitted to its physical destinations (R352, R353, R371). -/
def Block.enqueue (b : Block) (l : Lane) (index : Nat) (e : SwEntry) (src : Nat) (sender : Option Prid) (f : EthFrame)
    (colour : Nat) (ports : List Nat) : Block :=
  if ports.isEmpty then b else
  let sw := (b.lane l).sw
  let tooLarge := fun (p : Nat) => decide (b.p 0x4804 p < f.len) ||
    (e.queue == 7 && (p == 1 || p == 2) && !b.slotCarries l e.slot f.len)
  let b := (ports.filter tooLarge).foldl (fun b p => b.swCount l p 205 fun t => { t with errs := t.errs + 1 }) b
  let ports := ports.filter fun p => !tooLarge p
  let room := if sender.isSome then true else decide (sw.reserve + cellsOf f.len ≤ 8192)
  if ports.isEmpty then b
  else if !room then b.swCount l src 194 fun t => { t with queue := t.queue + 1 }
  else
    let life := fieldAt (pbytes b.params 0x4830 0 8) (2 * e.life) 2
    let fr : SwFrame := { id := sw.nextId, index := index, gen := b.genFor l src index, src := Fin.ofNat 39 src, sender := sender,
                          frame := f, born := b.mod.epoch, life := life, slot := e.slot,
                          handle := f.rtag.map fun n => (e.handle, n.toNat), colour := Fin.ofNat 3 colour }
    let b := b.modLane l fun x => x.modSw fun s => { s with frames := s.frames ++ [fr], nextId := s.nextId + 1 }
    let b := ports.foldl (fun b p => b.offer l fr.id p e.queue f.len colour (decide (1 < ports.length))) b
    b.modLane l fun x => x.modSw SwitchSt.gc

/-- A frame has outlived its lifetime (R372). -/
def Block.aged (b : Block) (f : SwFrame) : Bool := decide (f.born + f.life * epochsPerMs < b.mod.epoch)

/-- References waiting on a residue list enter their queue in arrival order once it has room; one that has reached its lifetime
while waiting is dropped (R371). -/
def Block.fromResidue (b : Block) (l : Lane) (port : Nat) : Block :=
  ((b.lane l).sw.residue.getD port []).foldl (fun b r =>
    let sw := (b.lane l).sw
    if ((sw.frame? r.1).map b.aged).getD false then
      (b.modLane l fun x => x.modSw fun s => { s with residue := updAt s.residue port (·.erase r) }).swCount l port 196
        fun t => { t with mcast := t.mcast + 1 }
    else if sw.cells (sw.queue port r.2) + sw.cells [r.1] ≤ b.queueLimit port r.2 then
      b.modLane l fun x => x.modSw fun s =>
        ({ s with residue := updAt s.residue port (·.erase r) } : SwitchSt).modQueue port r.2 (· ++ [r.1])
    else b) b

end Sys2Proof
end

