-- ==== Sys2Proof/Machine/Switch.lean ====
section
/-! DEFINITION. The switch core's commands: ingress, virtual ports, egress, links, audits, entries, statistics and MACsec
(12_switch_core.md). -/

namespace Sys2Proof

/-! ## MACsec on the uplink (R377-R379, R476) -/

/-- The base of the module's MAC addresses (R351). -/
def macBase : Nat := Config.macBlock * 64

/-- The MAC address of a lane's physical port (R351). -/
def portMac (l : Lane) (port : Nat) : Nat := macBase + 8 * l.num + port

/-- The number of a SA's slot and context (R379). -/
def saSlot (k : Nat) : Nat := 242 + k

/-- The first packet number a suite cannot use. -/
def Block.pnLimit (b : Block) : Nat := if b.p 0x4841 0 < 2 then 2 ^ 32 else 2 ^ 64

/-- The receive SC whose SCI a SecTAG carries. -/
def Block.scOf? (b : Block) (t : SecTag) : Option Nat :=
  let scis := pbytes b.params 0x4843 0 32
  (List.range 4).find? fun c => beNat (bytesAt scis (8 * c) 8) == t.sci.toNat

/-- The SA of a receive SC that is installed with an association number: its index 2-9. -/
def Block.saOf? (b : Block) (c : Nat) (an : Fin 4) : Option Nat :=
  [2 + 2 * c, 3 + 2 * c].find? fun k => match b.net.sas[k]? with
    | some s => s.installed && s.an == an
    | none => false

/-- The ICV of a frame under a SA's key: initialisation vector of SCI and packet number, the header and SecTAG as additional
data. -/
def icvOf (key : List Byte) (t : SecTag) (f : EthFrame) : List Byte :=
  let sec := beBytes 2 0x88E5 ++ leBytes 1 (0x2C + t.an.val) ++ zeroBytes 1 ++ beBytes 4 (t.pn % 2 ^ 32) ++ beBytes 8 t.sci.toNat
  Config.gcmTag key (beBytes 8 t.sci.toNat ++ beBytes 4 (t.pn % 2 ^ 32)) (beBytes 6 f.dst ++ beBytes 6 f.src ++ sec)
    (vlanBytes f.vid f.dei ++ rtagBytes f.rtag ++ beBytes 2 f.etype ++ f.data)

/-- Verification and replay protection of a frame that arrives on UPL (R377): whether it passes, and the block after it. -/
def Block.macsecIn (b : Block) (l : Lane) (sec : Option SecTag) (f : EthFrame) : Bool × Block :=
  if b.p 0x4840 0 = 0 then (true, b) else
  match sec with
  | none => (f.etype == 0x888E, b)
  | some t =>
    match (b.scOf? t).bind fun c => b.saOf? c t.an with
    | none => (false, b)
    | some k =>
      if (b.slot (saSlot k)).type == 0 then (false, b) else
      let lowest := (b.lane l).sw.rxPn.getD (k - 2) 0
      if t.pn < lowest || t.icv != icvOf (b.slot (saSlot k)).material t f then (false, b)
      else
        let low := max lowest (t.pn + 1 - b.p 0x4842 0)
        (true, b.modLane l fun x => x.modSw fun s => { s with rxPn := setAt s.rxPn (k - 2) low })

/-- The transmit SA in use. -/
def Block.txSa? (b : Block) : Option Nat := [0, 1].find? fun k => match b.net.sas[k]? with
  | some s => s.installed && s.inUse
  | none => false

/-- A lane takes one packet number; an empty block is renewed from the context (R476). Without a number, the other installed
transmit SA becomes current at the next boundary, or transmit stops (R377, R379). -/
def Block.macsecOut (b : Block) (l : Lane) : Bool × Block :=
  if b.p 0x4840 0 = 0 then (true, b) else
  let stop := fun (b : Block) =>
    (b.modLane l fun x => x.modSw fun s => { s with txStopped := true, txFlushed := s.txStopped && s.txFlushed }).swEvent l 203 0 1
  match b.txSa? with
  | none => (false, stop b)
  | some k =>
    if (b.slot (saSlot k)).type == 0 then (false, stop b) else
    let sw := (b.lane l).sw
    let use := fun (b : Block) (pn left : Nat) =>
      b.modLane l fun x => x.modSw fun s => { s with nextPn := pn + 1, blockLeft := left - 1, txStopped := false, txFlushed := false }
    if 0 < sw.blockLeft then (true, use b sw.nextPn sw.blockLeft)
    else
      let c := b.ctx (saSlot k)
      if b.pnLimit < c.counter + 65536 then
        match b.net.sas[1 - k]? with
        | some s => if s.installed then (false, b.modNet fun n => { n with saSwap := true }) else (false, stop b)
        | none => (false, stop b)
      else
        let next := c.counter + 65536
        let warn := !c.warned && decide (b.pnLimit - next < b.p 0x7847 0)
        let b := b.modCtx (saSlot k) fun y => { y with counter := next, warned := y.warned || warn }
        let b := if warn then b.raiseAll 247 3 (saSlot k) 0 else b
        (true, use b c.counter 65536)

/-- A SA that a MACSEC_SA payload names: its index 0-9 (R378, R379). -/
def saIndex (n : Nat) : Nat := if n.testBit 1 then 2 + 2 * ((n / 4) % 4) + n % 2 else n % 2

/-- MACSEC_SA (R378, R379). -/
def Block.runMacsecSa (b : Block) (r : Req) : Block :=
  let p := r.pay
  let op := 0x4804
  let fn := byteAt p 0
  let n := byteAt p 1
  let k := saIndex n
  let pn := fieldAt p 4 8
  b.check7 r op (p.length == 16 && decide (fn ≤ 2) && decide (n < 16) && (n.testBit 1 || decide (n < 4)) &&
      decide (byteAt p 2 < 4) && byteAt p 3 == 0 && zerosAt p 12 4 &&
      (fn == 0 || (byteAt p 2 == 0 && pn == 0)) && (fn != 1 || !n.testBit 1)) fun b =>
  let sa := b.net.sas.getD k { installed := false, inUse := false, an := 0, pn := 0 }
  if fn = 0 then
    let slot := b.slot (saSlot k)
    let want := if b.p 0x4841 0 % 2 = 0 then 1 else 2
    let other := b.net.sas.getD (if k % 2 = 0 then k + 1 else k - 1) { installed := false, inUse := false, an := 0, pn := 0 }
    if slot.type != want || !slot.uses.getLsbD 2 || (decide (k < 2) && pn == 0) ||
        (other.installed && other.an.val == byteAt p 2) then b.reply r op .badParam
    else if k < 2 && sa.inUse then b.reply r op .busy
    else b.finish r op .ok [] (.saInstall (Fin.ofNat 10 k) (Fin.ofNat 4 (byteAt p 2)) pn)
  else if fn = 1 then
    if !sa.installed then b.reply r op .badParam
    else if sa.inUse then b.ok r op []
    else b.finish r op .ok [] (.saCurrent (Fin.ofNat 2 k))
  else if k < 2 && sa.inUse then b.reply r op .busy
  else b.finish r op .ok [] (.saRetire (Fin.ofNat 10 k))

/-- A transmit SA is current from now on; both lanes begin a fresh block (R379, R476). -/
def Block.saUse (b : Block) (k : Nat) : Block :=
  let b := b.modNet fun n => { n with saSwap := false, sas := mapIdxFrom (fun i (s : Sa) =>
    if i < 2 then { s with inUse := i == k } else s) 0 n.sas }
  b.modLanes fun x => x.modSw fun s => { s with blockLeft := 0, txStopped := false, txFlushed := false }

/-- A SA is installed at the boundary (R379). -/
def Block.saInstallNow (b : Block) (k : Nat) (an : Fin 4) (pn : Nat) : Block :=
  let first := k < 2 && b.txSa?.isNone
  let b := b.modNet fun n => { n with sas := updAt n.sas k fun s => { s with installed := true, an := an, pn := pn } }
  if k < 2 then
    let b := b.modCtx (saSlot k) fun c => { c with slot := saSlot k, counter := pn, warned := false }
    if first || (b.lane .a).sw.txStopped || (b.lane .b).sw.txStopped then b.saUse k else b
  else
    (b.modCtx (saSlot k) fun c => { c with slot := saSlot k }).modLanes fun x =>
      x.modSw fun s => { s with rxPn := setAt s.rxPn (k - 2) pn }

/-- A SA's binding is removed (R379). -/
def Block.saRetireNow (b : Block) (k : Nat) : Block :=
  b.modNet fun n => { n with sas := updAt n.sas k fun s => { s with installed := false, inUse := false } }

/-! ## Ingress (R360) -/

/-- A classified frame passes policing and IEEE 802.1CB and goes to its destinations: as an agreement item toward virtual
ports, into the queues of physical ports (R360, R366, R376). -/
def Block.forward (b : Block) (l : Lane) (i : Nat) (e : SwEntry) (src : Nat) (sender : Option Prid) (f : EthFrame)
    (ports : List Nat) : Block :=
  let (colour, b) := if e.police then b.police l e.policer f.len f.dei else (0, b)
  let mark := (byteAt (b.policer e.policer) 11).testBit 1
  if colour = 2 && !mark then b.swCount l src 193 fun t => { t with policer := t.policer + 1 } else
  let f := if colour = 2 then { f with dei := true } else f
  let sw := (b.lane l).sw
  let (f, b) := if e.action = 1 then
      let n := assocD 0 sw.seqNum e.handle
      ({ f with rtag := some (BitVec.ofNat 16 n), len := f.len + 6 },
        b.modLane l fun x => x.modSw fun s => { s with seqNum := assocSet s.seqNum e.handle ((n + 1) % 65536) })
    else (f, b)
  let (pass, b) := match f.rtag with
    | some n =>
      if 2 ≤ e.action && !ports.isEmpty then
        let (ok, rs, out) := recovTake (b.lane l).sw.recov e.handle n.toNat (b.p 0x4836 0)
        let b := b.modLane l fun x => x.modSw fun s => { s with recov := rs }
        (ok, if out then b.swEvent l 201 src e.handle else b)
      else (true, b)
    | none => (true, b)
  let b := if e.toVirtual then
      b.takesIn l (.eth i (b.genFor l src i) src f)
    else b
  let g := if e.action = 2 && f.rtag.isSome then { f with rtag := none, len := f.len - 6 } else f
  if pass then b.enqueue l i e src sender g colour ports else b

/-- A frame from a physical port, past MACsec, is classified and forwarded (R360, R361). -/
def Block.switchIn (b : Block) (l : Lane) (port : Nat) (f : EthFrame) : Block :=
  match classifyIn b.net.entries port none (f.vid.getD (b.p 0x4805 port)) f with
  | none => b.swCount l port 200 fun t => { t with noEntry := t.noEntry + 1 }
  | some (i, e) => b.forward l i e port none f e.physical

/-- The length of a management frame from destination address to FCS, with SecTAG, SCI and ICV where it is secured (R123). -/
def MgmtFrame.len (f : MgmtFrame) : Nat :=
  12 + (if f.secTag then 32 else 0) + (if f.vlan.isSome then 4 else 0) + (if f.rtag.isSome then 6 else 0) + 2 + f.body.length + 4

/-- The management prefix addresses this module: version, kind and identity, in network order (R123). -/
def MgmtFrame.forMe (f : MgmtFrame) (identity : DWord) : Bool :=
  byteAt f.body 0 == 1 && byteAt f.body 1 == 1 && beNat (bytesAt f.body 4 8) == identity.toNat

/-- Items that bear the same R-tag are copies of one. -/
def onceByTag : List (Option Half) → Nat
  | [] => 0
  | none :: t => onceByTag t + 1
  | some n :: t => if t.contains (some n) then onceByTag t else onceByTag t + 1

/-- Management requests in flight: delivered and without a visible final response, or taken in and not yet delivered; the copies
of one request on both uplinks count once (R124, R125). -/
def Block.mgmtInFlight (b : Block) : Nat :=
  let tags := [Lane.a, Lane.b].flatMap fun l => (b.lane l).own.filterMap fun it => match it.body with
    | .mgmt f => some f.rtag
    | _ => none
  (b.mail.pend.filter fun e => e.req.path == .mgmt).length + (b.mail.waiting.filter fun e => e.req.path == .mgmt).length +
    (b.mail.done.filter fun a => a.path == .mgmt && a.status.final).length + b.mail.mgQueue.length +
    (b.mail.recent.map fun e => (e.askers.filter fun q => q.path == .mgmt).length).sum + onceByTag tags

/-- A frame of EtherType 0x88B5 is discarded and counted (R124). -/
def Block.mgmtDrop (b : Block) : Block := b.modMail fun m => { m with mgDrop := (m.mgDrop + 1) % 2 ^ 32 }

/-- A management frame at an uplink of a lane in service: discarded and counted, or taken in for agreement (R124, R126). A frame
longer than 4,200 bytes is discarded as well (R123; log entry 111). -/
def Block.mgmtIn (b : Block) (identity : DWord) (l : Lane) (f : MgmtFrame) : Block :=
  if !b.serves l then b else
  let channel := if f.secTag then f.scOk && f.verified else (b.lane l).defaults
  if channel && f.forMe identity && decide (f.len ≤ 4200) && decide (b.mgmtInFlight < 16) then
    (b.modMail fun m => { m with mgRx := (m.mgRx + 1) % 2 ^ 32 }).takesIn l (.mgmt f)
  else b.mgmtDrop

/-- A frame of EtherType 0x88B5 as the switch core hands it to Ottum. -/
def EthFrame.mgmt (f : EthFrame) (sec : Option SecTag) (scOk verified : Bool) : MgmtFrame :=
  { dst := f.dst, src := f.src, secTag := sec.isSome, scOk := scOk, verified := verified,
    vlan := f.vid.map fun v => BitVec.ofNat 16 (v + 4096 * b2n f.dei), rtag := f.rtag, body := f.data }

/-- A frame arrives at a physical port of a lane in service (R349, R360). Frames of EtherType 0x88B5 are Ottum's: on UPL it takes
them under the management secure channel, receive SC 0; on another port they did not arrive under it (R124, R377). -/
def Block.frameIn (b : Block) (identity : DWord) (l : Lane) (port : Nat) (sec : Option SecTag) (f : EthFrame) : Block :=
  if !b.serves l || b.p 0x4801 port == 0 || (b.lane l).sw.links.getD port .down != .up then b else
  let b := b.modLane l fun x => x.modSw fun s => s.modStats port fun t => { t with rxF := t.rxF + 1, rxB := t.rxB + f.len }
  if b.p 0x4804 port < f.len then b.swCount l port 205 fun t => { t with errs := t.errs + 1 }
  else
    let (ok, b) := if port = 0 then b.macsecIn l sec f else (true, b)
    if f.etype = 0x88B5 then
      if port ≠ 0 then b.mgmtDrop
      else
        let sc0 := match sec with
          | some t => b.p 0x4840 0 == 1 && b.scOf? t == some 0
          | none => false
        let b := if ok || sec.isNone then b else b.swCount l port 202 fun t => { t with errs := t.errs + 1 }
        b.mgmtIn identity l (f.mgmt sec sc0 ok)
    else if ok then b.switchIn l port f else b.swCount l port 202 fun t => { t with errs := t.errs + 1 }

/-! ## Virtual ports (R355-R359) -/

/-- The largest frame a virtual port's receive buffer holds (R356). -/
def Block.rxBuffer (b : Block) : Nat :=
  let m := ((List.range 7).map fun p => b.p 0x4804 p).foldl max 0
  if m ≤ 2048 then 2048 else (m + 127) / 128 * 128

/-- A frame of a virtual port goes on by its entry; a physical port whose queue the slice does not hold is left out, and a frame
with no destination left is dropped (R354). -/
def Block.vpForward (b : Block) (l : Lane) (p : Prid) (i : Nat) (e : SwEntry) (f : EthFrame) : Block :=
  let b := b.modLane l fun x => x.modSw fun w => w.modStats (7 + p.val) fun t =>
    { t with rxF := t.rxF + 1, rxB := t.rxB + f.len }
  let held := e.physical.filter fun q => (b.slice p).queues.getLsbD (8 * q + e.queue)
  let b := if held.length < e.physical.length then
      b.swCount l (7 + p.val) 200 fun t => { t with noEntry := t.noEntry + 1 }
    else b
  if held.isEmpty && !e.physical.isEmpty && !e.toVirtual then b else b.forward l i e (7 + p.val) (some p) f held

/-- What the switch core finds at the head of a transmit ring: nothing that it can take now, a descriptor or a buffer outside the
slice, one to return unsent, or a frame of a length. -/
inductive VpHead where
  | idle
  | outside (addr : Nat)
  | wrong
  | frame (len : Nat) (dest : Option (Nat × SwEntry)) (f : EthFrame)
  deriving DecidableEq, Repr

/-- The head of a partition's transmit ring in a lane; a full quota holds the frame there (R355-R357). -/
def Block.vpHead (b : Block) (m : MemSt) (l : Lane) (p : Nat) : VpHead :=
  let s := b.slice p
  let base := b.p 0x4820 (7 + p)
  if !b.serves l || base = 0 || s.phase == .none || s.frozen then .idle else
  let at' := base + 16 * ((b.lane l).sw.txHead.getD p 0 % b.p 0x4821 (7 + p))
  if !s.holdsSram at' 16 then .outside at' else
  let d := m.read l at' 16
  if !(byteAt d 11).testBit 7 then .idle else
  let len := fieldAt d 8 2
  let addr := fieldAt d 0 8
  if len < 60 || byteAt d 10 != 0 || byteAt d 11 % 128 != 0 || !zerosAt d 12 4 then .wrong
  else if !s.holdsSram addr len then .outside addr
  else
    let f := EthFrame.ofBytes (m.read l addr len)
    match classifyIn (b.tableFor l p) (7 + p) (some p) (f.vid.getD 1) f with
    | none => .frame len none f
    | some (i, e) =>
      let widest := (e.physical.map fun q => b.p 0x4804 q).foldl max (if e.toVirtual then b.rxBuffer else 0)
      if widest < len then .wrong
      else if s.quota < (b.lane l).sw.quotaUsed p + (b.lane l).boundFor b.net p + cellsOf f.len then .idle
      else .frame len (some (i, e)) f

/-- The descriptor at the head goes back to the partition. -/
def Block.vpTaken (b : Block) (m : MemSt) (l : Lane) (p : Nat) : Block × MemSt :=
  let head := (b.lane l).sw.txHead.getD p 0
  let at' := b.p 0x4820 (7 + p) + 16 * (head % b.p 0x4821 (7 + p))
  (b.modLane l fun x => x.modSw fun w => { w with txHead := setAt w.txHead p (head + 1) },
   m.write l (at' + 11) [BitVec.ofNat 8 (byteAt (m.read l at' 16) 11 % 128)])

/-- Among the virtual ports with a frame to take it is a partition's turn, by part.weight.switch (R148). -/
def Block.vpTurn (b : Block) (m : MemSt) (l : Lane) (p : Nat) : Option Sched :=
  let ready := (List.range 32).filter fun q => match b.vpHead m l q with | .frame .. => true | _ => false
  ((b.lane l).vpSched.pick (fun q => b.p 0x1003 q) ready).bind fun x => if x.1 = p then some x.2 else none

/-- The switch core takes the descriptor at the head of a transmit ring; a frame, when it is the virtual port's turn (R148, R357). -/
def Block.vpTransmit (b : Block) (m : MemSt) (l : Lane) (p : Prid) : Block × MemSt :=
  match b.vpHead m l p with
  | .idle => (b, m)
  | .outside a => (if b.drainsRange p a 1 then b else b.gateViolation l p 1 a, m)
  | .wrong => (b.swCount l (7 + p.val) 204 fun t => { t with errs := t.errs + 1 }).vpTaken m l p
  | .frame len dest f =>
    match b.vpTurn m l p with
    | none => (b, m)
    | some sch =>
      let b := b.modLane l fun x => { x with vpSched := sch.charge p (8 * len) }
      match dest with
      | none => (b.swCount l (7 + p.val) 200 fun t => { t with noEntry := t.noEntry + 1 }).vpTaken m l p
      | some (i, e) => (b.vpForward l p i e f).vpTaken m l p

/-- A frame that agreement delivers enters the receive queues of its virtual ports, in both lanes in service; the active lane
decides a quota drop (R352, R358). -/
def Block.deliverEth (b : Block) (i g : Nat) (f : EthFrame) (src : Nat) : Block :=
  match b.net.entryAt i g with
  | none => b
  | some e =>
    let fr := if e.action = 2 && f.rtag.isSome then { f with rtag := none, len := f.len - 6 } else f
    let act := b.act
    (List.range 32).foldl (fun b p =>
      if !e.dests.getLsbD (7 + p) then b
      else if (b.slice p).quota < (b.lane act).sw.quotaUsed p + cellsOf fr.len then
        b.swCount act (7 + p) 195 fun t => { t with queue := t.queue + 1 }
      else
        let life := fieldAt (pbytes b.params 0x4830 0 8) (2 * e.life) 2
        b.mirrored.foldl (fun b l => b.modLane l fun x => x.modSw fun s =>
          let x : SwFrame := { id := s.nextId, index := i, gen := g, src := Fin.ofNat 39 src, sender := none,
                                frame := fr, born := b.mod.epoch, life := life, slot := e.slot,
                                handle := f.rtag.map fun n => (e.handle, n.toNat), colour := 0 }
          ({ s with frames := s.frames ++ [x], nextId := s.nextId + 1 } : SwitchSt).modVpRx p e.queue (· ++ [x.id])) b) b

/-- The receive descriptors of a partition that software has handed over in a lane, counted from the ring's head (R358). -/
def Block.rxReady (b : Block) (m : MemSt) (l : Lane) (p : Nat) : Nat :=
  let base := b.p 0x4822 (7 + p)
  let count := b.p 0x4823 (7 + p)
  let head := (b.lane l).sw.rxHead.getD p 0
  if base = 0 then 0 else
  ((List.range count).takeWhile fun k =>
    (byteAt (m.read l (base + 16 * ((head + k) % count)) 16) 11).testBit 7).length

/-- One frame is written into the next receive buffer of a lane; one whose descriptor or buffer lies outside the slice waits, a
violation that the active lane decides (R355, R356, R359). -/
def Block.vpWrite (b : Block) (m : MemSt) (l : Lane) (p : Nat) (f : SwFrame) (q : Nat) : Block × MemSt :=
  let base := b.p 0x4822 (7 + p)
  let count := b.p 0x4823 (7 + p)
  let head := (b.lane l).sw.rxHead.getD p 0
  let at' := base + 16 * (head % count)
  let buf := fieldAt (m.read l at' 16) 0 8
  let bytes := f.frame.bytes
  if !(b.slice p).holdsSram at' 16 || !(b.slice p).holdsSram buf bytes.length then
    (if b.drainsRange p buf 1 then b else b.gateViolation l p 1 (if (b.slice p).holdsSram at' 16 then buf else at'), m)
  else
    let b := b.modLane l fun x => x.modSw fun s =>
      (({ s with rxHead := setAt s.rxHead p (head + 1) } : SwitchSt).modVpRx p q (·.erase f.id)).gc.modStats (7 + p) fun t =>
        { t with txF := t.txF + 1, txB := t.txB + f.frame.len }
    (b, (m.write l buf bytes).write l (at' + 8)
      (leBytes 2 bytes.length ++ leBytes 1 f.src.val ++ leBytes 1 (64 * b2n f.handle.isSome + 8 * q) ++
        leBytes 4 (b.mod.epoch % 2 ^ 32)))

/-- The frames waiting for a virtual port in a lane with their queues, in the order of R259. -/
def SwitchSt.waitingFor (s : SwitchSt) (p : Nat) : List (SwFrame × Nat) :=
  let all := (mapIdxFrom (fun q (ids : List Nat) => ids.filterMap fun i => (s.frame? i).map fun f => (f, q)) 0
    (s.vpRx.getD p [])).flatten
  s.frames.filterMap fun f => all.find? fun x => x.1.id == f.id

/-- Of the waiting frames, those that `n` buffers hold: the highest queues first, earliest first within a queue; their order
is kept (R358). -/
def chosen (l : List (SwFrame × Nat)) (n : Nat) : List (SwFrame × Nat) :=
  let ranked := ((List.range 8).reverse.flatMap fun q => l.filter fun x => x.2 == q).take n
  l.filter fun x => ranked.contains x

/-- The frames of one virtual port go into the buffers of the lanes in service; aged ones are dropped (R358, R359, R372). -/
def Block.vpDeliver (b : Block) (m : MemSt) (p : Nat) : Block × MemSt :=
  if (b.slice p).phase == .none || (b.slice p).frozen then (b, m) else
  let act := b.act
  let old := ((b.lane act).sw.waitingFor p).filter fun x => b.aged x.1
  let b := if old.isEmpty then b else
    (b.swEvent act 192 (7 + p) old.length).mirrored.foldl (fun b l => b.modLane l fun x => x.modSw fun s =>
      (({ s with vpRx := updAt s.vpRx p fun qs => qs.map fun ids => ids.filter fun i =>
          match s.frame? i with
          | some f => !b.aged f
          | none => false } : SwitchSt).gc).modStats (7 + p) fun t => { t with life := t.life + old.length }) b
  let n := b.rxReady m act p
  b.mirrored.foldl (fun (acc : Block × MemSt) l =>
    let (b, m) := acc
    let k := min n (b.rxReady m l p)
    (chosen ((b.lane l).sw.waitingFor p) k).foldl (fun (acc : Block × MemSt) x => acc.1.vpWrite acc.2 l p x.1 x.2) (b, m)) (b, m)

/-- What stands for the stream handle of an entry without an R-tag action: each such entry is a stream of its own, after those with a
handle (log entry 120). -/
def unhandled (entry : Nat) : Nat := 2048 + entry

/-- The Ethernet rows of a delivery (R259 rows 3 and 4): streams by handle and number, first copies only; then the frames
without an R-tag, Lane A's before Lane B's. Items come with the lane that took them in. -/
def Block.ethOrder (b : Block) (items : List (Lane × (Nat × Nat × Nat) × EthFrame)) :
    List ((Nat × Nat × Nat) × EthFrame) × List Recov :=
  let handle := fun (x : Nat × Nat × Nat) => (b.net.entryAt x.1 x.2.1).map fun e => if e.action = 0 then unhandled x.1 else e.handle
  let keyed := items.filterMap fun x => match handle x.2.1, x.2.2.rtag with
    | some h, some n => some (h, n.toNat, x.2.1, x.2.2)
    | _, _ => none
  let plain := items.filter fun x => (handle x.2.1).isNone || x.2.2.rtag.isNone
  let le := fun (x y : Nat × Nat × (Nat × Nat × Nat) × EthFrame) => decide (x.1 < y.1) || (x.1 == y.1 && decide (x.2.1 ≤ y.2.1))
  let sorted := sortBy le keyed
  let step := fun (acc : List ((Nat × Nat × Nat) × EthFrame) × List Recov) (x : Nat × Nat × (Nat × Nat × Nat) × EthFrame) =>
    let (ok, rs, _) := recovTake acc.2 x.1 x.2.1 (b.p 0x4836 0)
    (if ok then acc.1 ++ [(x.2.2.1, x.2.2.2)] else acc.1, rs)
  let (tagged, rs) := sorted.foldl step ([], b.net.recov)
  let side := fun (l : Lane) => (plain.filter fun x => x.1 == l).map fun x => x.2
  (tagged ++ side .a ++ side .b, rs)

/-! ## Egress (R369, R372, R373) -/

/-- The weight of a queue (R369). -/
def Block.queueWeight (b : Block) (port q : Nat) : Nat := byteAt (pbytes b.params 0x4810 port 8) q

/-- The length of the frame at the head of a queue. -/
def SwitchSt.headLen (s : SwitchSt) (port q : Nat) : Nat :=
  match (s.queue port q).head?.bind s.frame? with
  | some f => f.frame.len
  | none => 0

/-- The queue that a port serves next and the credits after it: strict queues first, then deficit round robin with quanta of
weight times 128 bytes, the highest number first (R369). -/
def Block.pickQueue (b : Block) (l : Lane) (port : Nat) : Option (Nat × List Nat) :=
  let s := (b.lane l).sw
  let qs := (List.range (if port = 1 ∨ port = 2 then 7 else 8)).reverse.filter fun q => !(s.queue port q).isEmpty
  let def' := s.deficit.getD port []
  match qs.find? fun q => b.queueWeight port q == 0 with
  | some q => some (q, def')
  | none =>
    let quantum := fun (q : Nat) => b.queueWeight port q * 128
    let rounds := fun (q : Nat) => (s.headLen port q - def'.getD q 0 + quantum q - 1) / quantum q
    match qs with
    | [] => none
    | q0 :: t =>
      let k := t.foldl (fun k q => min k (rounds q)) (rounds q0)
      let def' := mapIdxFrom (fun q (d : Nat) => if qs.contains q then d + k * quantum q else 0) 0 def'
      match qs.find? fun q => decide (s.headLen port q ≤ def'.getD q 0) with
      | some q => some (q, setAt def' q (def'.getD q 0 - s.headLen port q))
      | none => none

/-- One reference leaves a queue: the frame is sent, or dropped for its age; the next residue enters (R371, R372). -/
def Block.takeHead (b : Block) (l : Lane) (port q : Nat) (f : SwFrame) (send : Bool) : Block :=
  let b := b.modLane l fun x => x.modSw fun s => (s.modQueue port q (·.erase f.id)).modStats port fun t =>
    if send then { t with txF := t.txF + 1, txB := t.txB + f.frame.len } else { t with life := t.life + 1 }
  let b := if send then (match f.handle with
      | some (h, n) => b.checkSent l h n (if f.src.val < 7 then 32 else f.src.val - 7) f.frame.bytes
      | none => b)
    else b.swEvent l 192 port 1
  (b.fromResidue l port).modLane l fun x => x.modSw SwitchSt.gc

/-- Every reference that waits at a port is flushed; `sel` picks frames (R373). -/
def Block.flushPort (b : Block) (l : Lane) (port : Nat) (sel : SwFrame → Bool) : Block :=
  let s := (b.lane l).sw
  let gone := fun (i : Nat) => match s.frame? i with
    | some f => sel f
    | none => true
  let n := ((s.queues.getD port []).map fun ids => (ids.filter gone).length).sum +
    ((s.residue.getD port []).filter fun r => gone r.1).length
  if n = 0 then b else
  let b := b.modLane l fun x => x.modSw fun s =>
    (({ s with queues := updAt s.queues port fun qs => qs.map fun ids => ids.filter fun i => !gone i,
               residue := updAt s.residue port fun r => r.filter fun y => !gone y.1 } : SwitchSt).gc).modStats port
      fun t => { t with hold := t.hold + n }
  b.swEvent l 191 port n

/-- A port's scheduler serves its next frame, or drops an aged one (R369, R372). -/
def Block.egress (b : Block) (l : Lane) (port : Nat) : Block :=
  let s := (b.lane l).sw
  if !b.serves l || s.links.getD port .down != .up || b.p 0x4801 port == 0 then b else
  match b.pickQueue l port with
  | none => b
  | some (q, def') =>
    match (s.queue port q).head?.bind s.frame? with
    | none => b
    | some f =>
      if b.aged f then b.takeHead l port q f false
      else
        let (ok, b) := if port = 0 then b.macsecOut l else (true, b)
        if ok then
          (b.modLane l fun x => x.modSw fun s => { s with deficit := updAt s.deficit port fun _ => def' }).takeHead l port q f true
        else if (b.lane l).sw.txStopped && b.p 0x4803 port == 0 then
          (b.modLane l fun x => x.modSw fun w => { w with txFlushed := true }).flushPort l port (fun _ => true)
        else b

/-! ## Entries (R363-R365) -/

/-- An entry change is taken up: generation and pending request (R363). -/
def Block.runEntry (b : Block) (r : Req) (op : Nat) (e : Option SwEntry) : Block :=
  let p := r.pay
  let i := fieldAt p 0 2
  let want := fieldAt p 2 2
  let g := b.net.gen i
  if want != 0xFFFF && want != g then b.reply r op .staleGeneration
  else
    let g' := if g = 65534 then 0 else g + 1
    let entry := match e with
      | some e => e
      | none => { (b.net.entry? i).getD (swEntryOf (zeroBytes 32)) with valid := false }
    let b := b.modNet fun n => { n with gens := assocSet n.gens i g', cuts := n.cuts ++ [(i, entry)] }
    b.hold r op (.swEntry i g' false false) true

/-- SWITCH_ENTRY_SET (R362, R363). -/
def Block.runEntrySet (b : Block) (r : Req) : Block :=
  let p := r.pay
  let e := bytesAt p 4 32
  b.check7 r 0x4801 (p.length == 36 && decide (fieldAt p 0 2 < 4096) && swEntryBytesOk e) fun b =>
  b.needRoom r 0x4801 4 fun b =>
  if (swEntryOf e).valid && !b.entryRules (fieldAt p 0 2) (swEntryOf e) then b.reply r 0x4801 .badParam
  else b.runEntry r 0x4801 (some (swEntryOf e))

/-- SWITCH_ENTRY_DEL (R363). -/
def Block.runEntryDel (b : Block) (r : Req) : Block :=
  let p := r.pay
  b.check7 r 0x4802 (p.length == 4 && decide (fieldAt p 0 2 < 4096)) fun b =>
  b.needRoom r 0x4802 4 fun b => b.runEntry r 0x4802 none

/-- The boundary E: the changed entries take effect; each virtual port's cut is the larger count of the two lanes (R364). -/
def Block.cutEntries (b : Block) : Block :=
  if b.net.cuts.isEmpty then b else
  let cut := (List.range 32).map fun p =>
    (b.serving.map fun l => (b.lane l).sw.txHead.getD p 0).foldl max 0
  let b := b.modNet fun n =>
    { n with prev := (n.cuts.map fun c => match n.entry? c.1 with
                 | some e => (c.1, true, e)
                 | none => (c.1, false, c.2)) ++ n.prev.filter fun e => !n.cuts.any fun c => c.1 == e.1,
             lastCut := n.cuts.map (·.1),
             entries := n.cuts.foldl (fun t c => entryPut t c.1 c.2) n.entries, cuts := [] }
  b.modLanes fun x => x.modSw fun s => { s with cut := cut }

/-- A lane has no frame of an older generation of an index left, nor one that waits for agreement (R365). -/
def LaneSt.drained (x : LaneSt) (index gen : Nat) : Bool :=
  x.sw.frames.all (fun f => f.index != index || f.gen == gen) && x.own.all fun it => match it.body with
    | .eth i g _ _ => i != index || g == gen
    | _ => true

/-- The change of an entry completes in a lane; complete in every lane in service, the request ends (R365). -/
def Block.entryDrained (b : Block) (l : Lane) (index : Nat) : Block :=
  if b.net.cuts.any (fun c => c.1 == index) || !(b.lane l).drained index (b.net.gen index) then b else
  let b := b.modMail fun m => { m with pend := m.pend.map fun e => match e.kind with
    | .swEntry i g da db => if i = index then { e with kind := .swEntry i g (da || l == .a) (db || l == .b) } else e
    | _ => e }
  b.finishWhere (fun e => match e.kind with
    | .swEntry i _ da db => i == index && (da || !b.serves .a) && (db || !b.serves .b)
    | _ => false) .ok (leBytes 2 (b.net.gen index) ++ zeroBytes 2) .none

/-- PORT_STATS: the active lane's counts (R380). -/
def Block.runPortStats (b : Block) (r : Req) : Block :=
  let p := r.pay
  b.check7 r 0x4803 (p.length == 4 && decide (byteAt p 0 ≤ 38) && zerosAt p 1 3) fun b =>
  let t := (b.lane b.act).sw.stats.getD (byteAt p 0) PortStats.zero
  b.ok r 0x4803 (([t.rxF, t.rxB, t.txF, t.txB].flatMap fun n => leBytes 8 (satNat (2 ^ 64 - 1) n)) ++
    ([t.noEntry, t.policer, t.red, t.queue, t.life, t.hold, t.mcast, t.errs].flatMap fun n => leBytes 4 (satNat 0xFFFFFFFF n)))

/-- The link state of a port in a lane. -/
def Block.setLink (b : Block) (l : Lane) (port : Nat) (st : LinkSt) : Block :=
  b.modLane l fun x => x.modSw fun s => { s with links := setAt s.links port st }

end Sys2Proof

namespace Sys2Proof.Machine

/-- SWITCH_ENTRY_SET (R363). -/
def execSwitchEntrySet (q : Req) (s : State) : Host.Outcome State Fault Refusal :=
  onBlock (fun b => b.serve 0x4801 q fun b => b.runEntrySet q) s

/-- SWITCH_ENTRY_DEL (R363). -/
def execSwitchEntryDel (q : Req) (s : State) : Host.Outcome State Fault Refusal :=
  onBlock (fun b => b.serve 0x4802 q fun b => b.runEntryDel q) s

/-- GENERATION_DRAINED (R365). -/
def execGenerationDrained (l : Lane) (index : Fin 4096) (s : State) : Host.Outcome State Fault Refusal :=
  onBlock (fun b => b.entryDrained l index) s

/-- PORT_STATS (R380). -/
def execPortStats (q : Req) (s : State) : Host.Outcome State Fault Refusal :=
  onBlock (fun b => b.serve 0x4803 q fun b => b.runPortStats q) s

/-- MACSEC_SA, function install (R379). -/
def execMacsecSaInstall (q : Req) (s : State) : Host.Outcome State Fault Refusal :=
  onBlock (fun b => let q := q.withByte 0 0; b.serve 0x4804 q fun b => b.runMacsecSa q) s

/-- MACSEC_SA, function make current (R379). -/
def execMacsecSaMakeCurrent (q : Req) (s : State) : Host.Outcome State Fault Refusal :=
  onBlock (fun b => let q := q.withByte 0 1; b.serve 0x4804 q fun b => b.runMacsecSa q) s

/-- MACSEC_SA, function retire (R379). -/
def execMacsecSaRetire (q : Req) (s : State) : Host.Outcome State Fault Refusal :=
  onBlock (fun b => let q := q.withByte 0 2; b.serve 0x4804 q fun b => b.runMacsecSa q) s

/-- FRAME_INGRESS (R360). -/
def execFrameIngress (l : Lane) (port : PhyPort) (sec : Option SecTag) (f : EthFrame) (s : State) :
    Host.Outcome State Fault Refusal :=
  onBlock (fun b => b.frameIn s.otp.identity l port sec f) s

/-- VP_TRANSMIT_DESCRIPTOR (R357). -/
def execVpTransmitDescriptor (l : Lane) (p : Prid) (s : State) : Host.Outcome State Fault Refusal :=
  let (b, m) := s.b.vpTransmit s.mem l p
  .next ((s.withBlock b).withMem m)

/-- EGRESS_TRANSMIT (R369). -/
def execEgressTransmit (l : Lane) (port : PhyPort) (s : State) : Host.Outcome State Fault Refusal :=
  onBlock (fun b => b.egress l port) s

/-- PORT_LINK_DOWN: the hold starts; a hold of 0 flushes at once (R373). -/
def execPortLinkDown (l : Lane) (port : PhyPort) (s : State) : Host.Outcome State Fault Refusal :=
  onBlock (fun b =>
    if (b.lane l).sw.links.getD port .down != .up then b else
    let b := b.raise l (184 + port.val) 2 port 0
    if b.p 0x4803 port = 0 then (b.setLink l port .down).flushPort l port (fun _ => true)
    else b.setLink l port .hold) s

/-- PORT_LINK_UP (R373). -/
def execPortLinkUp (l : Lane) (port : PhyPort) (s : State) : Host.Outcome State Fault Refusal :=
  onBlock (fun b =>
    if (b.lane l).sw.links.getD port .down == .up || b.p 0x4801 port == 0 || !b.serves l then b
    else (b.setLink l port .up).raise l (184 + port.val) 1 port 0) s

/-- PORT_HOLD_EXPIRY: every frame is flushed; on a ring port whose link is up, the slot lists of slots the hand in force no
longer gives the node (R338, R373). -/
def execPortHoldExpiry (l : Lane) (port : PhyPort) (s : State) : Host.Outcome State Fault Refusal :=
  onBlock (fun b =>
    match (b.lane l).sw.links.getD port .down with
    | .hold => (b.setLink l port .down).flushPort l port (fun _ => true)
    | .up =>
      if (b.lane l).sw.txStopped && port.val = 0 then
        (b.modLane l fun x => x.modSw fun w => { w with txFlushed := true }).flushPort l port (fun _ => true)
      else if port.val = 1 ∨ port.val = 2 then b.flushPort l port (fun f => decide (f.slot < 64) && !b.slotHeld l f.slot)
      else b
    | .down => b) s

/-- DECK_COUNT: two audits with a mismatch raise EV197 and start the reclaim sweep (R374). -/
def execDeckCount (l : Lane) (free linked inFlight : Nat) (s : State) : Host.Outcome State Fault Refusal :=
  onBlock (fun b =>
    if !b.serves l then b else
    let sum := free + linked + inFlight
    if sum = 32768 then b.modLane l fun x => x.modSw fun w => { w with mismatch := 0 }
    else
      let n := (b.lane l).sw.mismatch + 1
      let b := b.modLane l fun x => x.modSw fun w =>
        { w with mismatch := n, lostCells := 32768 - sum,
                 sweeping := w.sweeping || (decide (2 ≤ n) && b.p 0x4832 0 == 1) }
      if 2 ≤ n then b.swEvent l 197 255 0 else b) s

/-- RECLAIM_SWEEP_END (R375). -/
def execReclaimSweepEnd (l : Lane) (returned : Nat) (s : State) : Host.Outcome State Fault Refusal :=
  onBlock (fun b =>
    if !(b.lane l).sw.sweeping then b else
    let b := b.modLane l fun x => x.modSw fun w =>
      { w with sweeping := false, mismatch := 0, lostCells := 0, leaked := satNat 0xFFFFFFFF (w.leaked + returned) }
    b.swEvent l 198 255 (returned : Int)) s

/-- SEQUENCE_RECOVERY_RESET (R376). -/
def execSequenceRecoveryReset (l : Lane) (handle : Fin 1024) (s : State) : Host.Outcome State Fault Refusal :=
  onBlock (fun b =>
    if (b.lane l).sw.recov.any (fun r => r.handle == handle.val) then
      (b.modLane l fun x => x.modSw fun w => { w with recov := w.recov.filter fun r => r.handle != handle.val }).swEvent l 201
        255 (handle.val : Int)
    else b) s

/-- MACSEC_RX_WAIT_EXPIRY: the waiting frame is dropped and counted (R485). -/
def execMacsecRxWaitExpiry (l : Lane) (s : State) : Host.Outcome State Fault Refusal :=
  onBlock (fun b =>
    if b.serves l && b.p 0x4840 0 == 1 then
      { b with cipher := { b.cipher with drops := satNat 0xFFFFFFFF (b.cipher.drops + 1) } }
    else b) s

end Sys2Proof.Machine
end

