-- ==== Sys2Proof/Machine/Wake.lean ====
section
/-! DEFINITION. Wake requests and what the networks share of them: the module's NM frames, the end of a sleep sequence,
confirmation of a wake and the nodes that keep a network awake (14_network_sleep_and_wake.md R405-R424). -/

namespace Sys2Proof

/-! ## CAN transmission that Ottum and partitions share (R389, R391, R399) -/

/-- can.mode of a bus. -/
def Block.canMode (b : Block) (i : Nat) : Nat := b.p 0x5001 i

/-- can.err of a controller: receive counter above transmit counter (R404). -/
def CanCtl.err (c : CanCtl) : Nat := (satNat 128 c.rxErr) * 256 + satNat 255 c.txErr

/-- An event of a bus by one lane: cause `cause` of its transmit or state table, at most one record per second; a transmit
record carries the frames concerned since the record before (R403). -/
def Block.canEv (b : Block) (l : Lane) (i : Nat) (state : Bool) (cause n : Nat) : Block :=
  let ev := 208 + 2 * i + b2n state
  let key := 0x200000 + 0x10000 * l.num + 32 * i + 16 * b2n state + cause
  let k := 16 * l.num + cause
  let since := assocD 0 (b.bus i).counts k + n
  let due := match b.ev.lastSec.find? (fun e => e.1 == key) with
    | some (_, e) => decide (e + epochsPerSec ≤ b.mod.epoch)
    | none => true
  if !due then (if state then b else b.modBus i fun c => { c with counts := assocSet c.counts k since })
  else
    let detail : Int := if state then ((b.lane l).ctl i).err else since
    let b := if state then b else b.modBus i fun c => { c with counts := assocSet c.counts k 0 }
    (b.raise l ev cause i detail).modEv fun v => { v with lastSec := assocSet v.lastSec key b.mod.epoch }

/-- A lane's controller takes a frame into its queue; in bus-off the frame is discarded and counted (R399). -/
def Block.canQueue (b : Block) (l : Lane) (i : Nat) (t : CanTx) : Block :=
  if ((b.lane l).ctl i).busOff then
    (b.modLane l fun x => x.modCtl i fun c => { c with dropped := satNat 0xFFFFFFFF (c.dropped + 1) }).canEv l i false 2 1
  else b.modLane l fun x => x.modCtl i fun c => { c with tx := c.tx ++ [t] }

/-! ## NM frames (R411, R412) -/

/-- A bus takes part in network management: in nw.nm.buses and in mode 2 (R407). -/
def Block.nmBus (b : Block) (i : Nat) : Bool := (b.p 0x5810 0).testBit i && b.canMode i == 2

/-- The buses of network management. -/
def Block.nmBuses (b : Block) : List Nat := (List.range 12).filter b.nmBus

/-- The module's NM frame. -/
def Block.nmFrame (b : Block) (keep commit : Bool) : CanFrame :=
  let id := b.p 0x5813 0
  { ident := id % 2 ^ 29, ide := id.testBit 31, fdf := false, brs := false, esi := false, rtr := false, dlc := 8,
    data := setAt (setAt (zeroBytes 8) (b.p 0x5815 0) (BitVec.ofNat 8 (b.p 0x5814 0))) (b.p 0x5816 0)
      (BitVec.ofNat 8 (b2n keep + 2 * b2n commit)) }

/-- An NM frame: its identifier matches the base under the mask, and so does its identifier kind. -/
def Block.isNm (b : Block) (f : CanFrame) : Bool :=
  let base := b.p 0x5811 0
  f.ide == base.testBit 31 && ((f.ident ^^^ base) &&& (b.p 0x5812 0)) % 2 ^ 29 == 0

/-- Ottum in each lane in service queues the module's NM frame on a bus. -/
def Block.nmSend (b : Block) (i : Nat) (keep commit : Bool) : Block :=
  b.serving.foldl (fun b l =>
    b.canQueue l i { frame := b.nmFrame keep commit, tries := 0, prid := none, final := commit }) b

/-! ## Keep-awake (R420, R421) -/

/-- A node has been heard keeping a network awake; a gap longer than `gap` epochs starts it anew. -/
def Block.heardAwake (b : Block) (network node gap : Nat) : Block :=
  let now := b.mod.epoch
  let fresh : AwakeRun := { network := network, node := node, start := b.mod.round, epoch0 := now, last := now }
  b.modNw fun n =>
    match n.awake.find? fun r => r.network == network && r.node == node with
    | some r =>
      let r' := if r.last + gap < now then fresh else { r with last := now }
      { n with awake := n.awake.map fun x => if x.network = network ∧ x.node = node then r' else x }
    | none => { n with awake := n.awake ++ [fresh] }

/-- An entry of the log stops: its duration stands (R420). -/
def AwakeEntry.stop (e : AwakeEntry) (now : Nat) : AwakeEntry :=
  if e.running then { e with running := false, seconds := (now - e.epoch0) / epochsPerSec } else e

/-- A node no longer keeps a network awake. -/
def Block.awakeEnds (b : Block) (network node : Nat) : Block :=
  b.modNw fun n =>
    { n with awake := n.awake.filter fun r => !(r.network == network && r.node == node),
             log := n.log.map fun e => if e.network = network ∧ e.node = node then e.stop b.mod.epoch else e }

/-- No other node has been heard keeping an NM bus awake for nw.nm.timeout (R412). -/
def Block.busReady (b : Block) (i : Nat) : Bool :=
  b.nw.awake.all fun r => r.network != i || decide (r.last + b.p 0x5818 0 * epochsPerMs ≤ b.mod.epoch)

/-! ## Ring states (R348) -/

/-- The state a node takes when it is not in a ring: off, passive or listening (R304, R347). -/
def Block.ringIdle (b : Block) (l : Lane) : RingState :=
  if b.p 0x4001 0 = 0 then .off
  else if b.p 0x4001 0 = 1 ∨ (b.lane l).ring.cfg.node = 255 then .passive else .listening

/-- The subject by which an event names a ring: 12 ring A, 13 ring B. -/
def ringNetwork (l : Lane) : Nat := 12 + l.num

/-! ## Wake requests (R413-R415, R419) -/

/-- State 1 is entered: SLEEP_REQUEST taken up, or a false wake (R419, R422). -/
def Block.sleepBegins (b : Block) : Block :=
  let now := b.mod.epoch
  let b := (b.modNw fun n =>
    { n with state := 1, latched := none,
             awake := n.awake.map fun r => { r with start := b.mod.round, epoch0 := now } }).raiseAll 232 0 noSubject 0
  let b : Block := { b with
    inputs := b.inputs.map fun i => { i with atRequest := i.flags.getLsbD 0 },
    can := b.can.map fun c => { c with committed := false, finalSent := false } }
  b.modLanes fun x => x.modRing fun r => { r with sleepBid := true, sleepCommit := false }

/-- A wake request ends a sleep sequence: uncommitted networks cancel, committed ones are woken. A ring in its last round still bids
sleep and is left at that round's end (R410, R414). -/
def Block.sleepEnds (b : Block) (src detail : Nat) : Block :=
  let b := b.modNw fun n =>
    { n with state := 0, log := n.log.map fun e => e.stop b.mod.epoch }
  let b := b.raiseAll 233 src noSubject detail
  let b := b.finishWhere (fun e => match e.kind with | .sleep => true | _ => false) .busy
    [BitVec.ofNat 8 src, BitVec.ofNat 8 detail, 0, 0] .none
  let idle := b.ringIdle
  let wake := fun (l : Lane) (x : LaneSt) => x.modRing fun r =>
    if r.st = .asleep then { r with st := idle l, sleepBid := false, sleepCommit := false, beaconSeen := false }
    else if r.sleepCommit ∧ r.callKind = .sleep then r
    else { r with sleepBid := false, sleepCommit := false }
  let b := (b.modLane .a (wake .a)).modLane .b (wake .b)
  let b := b.nmBuses.foldl (fun b i => b.nmSend i true false) b
  { b with can := b.can.map fun c => { c with committed := false, finalSent := false } }

/-- A wake request is taken in: in state 1 it ends the sleep sequence, in state 2 it is latched (R413-R415). -/
def Block.wakeRequest (b : Block) (src detail : Nat) : Block :=
  match b.nw.state with
  | 1 => b.sleepEnds src detail
  | 2 => b.modNw fun n => { n with latched := match n.latched with | some x => some x | none => some (src, detail) }
  | _ => b

/-- A condition that confirms the last wake (R419). -/
def Block.confirmWake (b : Block) : Block := b.modNw fun n => { n with confirmed := true }

end Sys2Proof
end

