-- ==== Sys2Proof/Machine/Ring.lean ====
section
/-! DEFINITION. The Belfry node of a lane: rounds, slots, the Keep, Dealer, clock synchronisation, Calls, healing
(11_belfry_ring.md), and the ring's sleep (14_network_sleep_and_wake.md R407-R410). -/

namespace Sys2Proof

/-! ## Frames (R310, R313) -/

/-- A frame with another version or a wrong FCS is discarded: neither taken in nor repeated (R310, R313). -/
def RingWire.good (w : RingWire) : Bool := w.version == 1 && w.fcsOk

/-- The destination address of control frames, 03-42-45-4C-00-00 (R313). -/
def ringControlMac : Nat := 0x0342454C0000

/-- The Ethernet part of a frame that leaves a ring port: a frame that carries one keeps its addresses, a control frame has
R313's destination and the port's own MAC address (R313, R351). -/
def ringWire (l : Lane) (port : Nat) (carried : Option EthFrame) : RingWire :=
  match carried with
  | some e => { dst := e.dst, src := e.src, version := 1, fcsOk := true }
  | none => { dst := ringControlMac, src := portMac l port, version := 1, fcsOk := true }

/-! ## The node -/

/-- RGE stands in the `a` place of a pair of values per ring port, RGW in the `b` place. -/
def RingPort.side : RingPort → Lane
  | .rge => .a
  | .rgw => .b

/-- The switch port of a ring port (R349). -/
def RingPort.num : RingPort → Nat
  | .rge => 1
  | .rgw => 2

/-- A lane's node. -/
def Block.ring (b : Block) (l : Lane) : RingNode := (b.lane l).ring

/-- A lane's node changed. -/
def Block.modNode (b : Block) (l : Lane) (f : RingNode → RingNode) : Block := b.modLane l fun x => x.modRing f

/-- A ring event: its detail is the low 32 bits of the round number (R534). -/
def Block.ringEv (b : Block) (l : Lane) (ev cause subject : Nat) : Block :=
  b.raise l ev cause subject (toSigned 4 ((b.ring l).round % 2 ^ 32))

/-- The node is synchronised, a cold-starting node from its own clock (R325, R326). -/
def RingNode.running (r : RingNode) : Bool := r.st == .synchronised || r.st == .coldStarting

/-- The node may originate: synchronised and not shut by the Keep (R316, R317). -/
def RingNode.originates (r : RingNode) : Bool := r.running && !r.keepShut

/-- The node takes frames of the ring in and follows its rounds: it integrates, is synchronised or passive (R326, R347). -/
def RingNode.follows (r : RingNode) : Bool := r.running || r.st == .integrating || r.st == .passive

/-- The node is a Dealer candidate (R304). -/
def RingNode.candidate (r : RingNode) : Bool := decide (r.cfg.rank ≤ 15)

/-- The node's number as a bit. -/
def nodeBit (n : Nat) : BitVec 16 := if n < 16 then BitVec.ofNat 16 (2 ^ n) else 0

/-- The node's own bit. -/
def RingNode.own (r : RingNode) : BitVec 16 := nodeBit r.cfg.node

/-- The hand in force at a lane's node. -/
def Block.handOf (b : Block) (l : Lane) : Hand := b.net.hands.getD (b.ring l).hand.val { slots := [], polls := [] }

/-- Leaving synchronisation: the Keep closes and the node rejoins, or turns passive (R326, R332). -/
def Block.leaveSync (b : Block) (l : Lane) (dest : RingState) : Block :=
  let was := (b.ring l).running
  let b := b.modNode l fun r =>
    { r with st := dest, iAmDealer := false, goodRounds := 0, goodRate := false, zeroRounds := 0, overLimit := 0,
             devs := [], devsPrev := [], callKind := .none, callState := .none, sent := [], beacon := none }
  if was then b.ringEv l 160 2 255 else b

/-- Entering synchronisation (R326). -/
def Block.enterSync (b : Block) (l : Lane) : Block :=
  (b.modNode l fun r => { r with st := .synchronised }).ringEv l 160 1 255

/-! ## RING_BID (R339) -/

/-- The hand of a pending bid is in force in the lanes in service, or the lane is out of service: the request ends OK. -/
def Block.settleBids (b : Block) : Block :=
  let b := b.modMail fun m => { m with pend := m.pend.map fun e => match e.kind with
    | .ringBid h da db => { e with kind := .ringBid h (da || (b.ring .a).hand == h) (db || (b.ring .b).hand == h) }
    | _ => e }
  b.finishWhere (fun e => match e.kind with
    | .ringBid _ da db => (da || !b.serves .a) && (db || !b.serves .b)
    | _ => false) .ok [] .none

/-- Every pending bid ends BUSY. -/
def Block.dropBids (b : Block) : Block :=
  b.finishWhere (fun e => match e.kind with | .ringBid .. => true | _ => false) .busy [] .none

/-- A RING_BID request waits for its hand in a lane (R339). -/
def Block.bidWaits (b : Block) (l : Lane) : Bool :=
  b.mail.pend.any fun e => match e.kind with
    | .ringBid _ da db => match l with
      | .a => !da
      | .b => !db
    | _ => false

/-- RING_BID. -/
def Block.runRingBid (b : Block) (r : Req) : Block :=
  let p := r.pay
  b.check7 r 0x4001 (p.length == 4 && decide (byteAt p 0 < 8) && decide (byteAt p 1 < 2) && zerosAt p 2 2) fun b =>
  let h := Fin.ofNat 8 (byteAt p 0)
  let called := fun (l : Lane) => (b.ring l).callKind == .hand && (b.ring l).callState == .confirmed
  if !(b.p 0x400D 0).testBit r.path.prid then b.reply r 0x4001 .denied
  else if !(b.ring b.act).running then b.reply r 0x4001 .notActive
  else if byteAt p 1 = 1 then
    let clear := fun (l : Lane) (b' : Block) =>
      b'.modNode l fun n => { n with ownBid := if called l && n.ownBid == some n.callTarget then n.ownBid else none }
    (clear .b (clear .a b)).ok r 0x4001 []
  else if b.serving.all fun l => (b.ring l).hand == h then b.ok r 0x4001 []
  else
    let b := (b.dropBids).modLanes fun x => x.modRing fun n => { n with ownBid := if n.hand = h then none else some h }
    (b.hold r 0x4001 (.ringBid h false false) true).settleBids

/-! ## Sending (R311, R314, R316) -/

/-- A frame that the node puts on the wire: it is recorded as sent in the round. -/
def Block.ringSend (b : Block) (l : Lane) (f : RingFrame) : Block := b.modNode l fun r => { r with sent := f :: r.sent }

/-- The port of a direction. -/
def dirPort (west : Bool) : RingPort := if west then .rgw else .rge

/-- The other ring port. -/
def RingPort.other : RingPort → RingPort
  | .rge => .rgw
  | .rgw => .rge

/-- A ring port's link is up in the lane's switch core. -/
def Block.ringUp (b : Block) (l : Lane) (p : RingPort) : Bool := (b.lane l).sw.links.getD p.num .down == .up

/-- An own frame is sent in a direction (R314). -/
def Block.sendOwn (b : Block) (l : Lane) (f : RingFrame) : Block :=
  let q := dirPort f.west
  let on := fun (p : RingPort) (f : RingFrame) => { f with wire := ringWire l p.num f.carried }
  if !(b.ring l).looped.get q.side then b.ringSend l (on q f)
  else
    let b := if b.ringUp l q then b.ringSend l { on q f with feed := true } else b
    b.ringSend l (on q.other { f with wrap := 1, west := !f.west })

/-- The header of an own frame in a slot (R310). -/
def RingNode.header (r : RingNode) (kind : Fin 16) (slot : Nat) (west : Bool) : RingFrame :=
  { wire := { dst := ringControlMac, src := 0, version := 1, fcsOk := true }, kind := kind, origin := Fin.ofNat 16 r.cfg.node, wrap := 0, west := west, feed := false, hops := 0,
    claim := r.st == .synchronised && r.candidate && !r.iAmDealer && r.dealer.isSome && decide (r.cfg.rank < r.dealerRank),
    slot := slot, round := BitVec.ofNat 32 r.round, depart := 0, corr := 0, bid := r.ownBid,
    ack := r.callKind != .none && r.callState == .announced && r.callRound == r.round, healthy := false,
    sleepBid := r.sleepBid, deviation := 0, carried := none }

/-- The first frame of a slot list that is not aged out; aged ones in front of it are dropped (R369, R372). -/
def Block.slotHead (b : Block) (l : Lane) (port slot : Nat) : List Nat → Block × Option SwFrame
  | [] => (b, none)
  | id :: t =>
    match (b.lane l).sw.frame? id with
    | none => b.slotHead l port slot t
    | some f =>
      if f.slot != slot then b.slotHead l port slot t
      else if b.aged f then (b.takeHead l port 7 f false).slotHead l port slot t
      else (b.takeHead l port 7 f true, some f)

/-- The head of the slot list of either ring port is sent (R369). -/
def Block.slotFrame (b : Block) (l : Lane) (slot : Nat) : Block × Option EthFrame :=
  match b.slotHead l 1 slot ((b.lane l).sw.queue 1 7) with
  | (b, some f) => (b, some f.frame)
  | (b, none) =>
    let (b, f) := b.slotHead l 2 slot ((b.lane l).sw.queue 2 7)
    (b, f.map (·.frame))

/-- What a static frame tells of its origin: alive, bid, acknowledgement, sleep bid, claim (R321, R323, R335, R336). -/
def RingNode.tells (r : RingNode) (f : RingFrame) : RingNode :=
  let o := nodeBit f.origin.val
  { r with aliveNow := r.aliveNow ||| o,
           bids := match f.bid with
             | some h => (f.origin.val, h) :: r.bids
             | none => r.bids,
           acks := if f.ack then r.acks ||| o else r.acks,
           noSleepBid := if f.sleepBid then r.noSleepBid else r.noSleepBid ||| o,
           claims := if f.claim && !r.claims.contains f.origin.val then r.claims ++ [f.origin.val] else r.claims }

/-- The node sends its static frame in a slot it owns: data when the slot list holds a frame, else null (R311). -/
def Block.sendStatic (b : Block) (l : Lane) (slot : Nat) : Block :=
  match (b.handOf l).slots[slot]? with
  | none => b
  | some s =>
    let r := b.ring l
    if !r.originates || s.polled || s.owner != r.cfg.node then b else
    let (b, c) := b.slotFrame l slot
    let f := { r.header (if c.isSome then 1 else 2) slot s.west with carried := c }
    (b.modNode l fun n => n.tells f).sendOwn l f

/-- The node sends its polled frame (R320). -/
def Block.sendPolled (b : Block) (l : Lane) (slot : Nat) : Block :=
  match (b.handOf l).slots[slot]? with
  | none => b
  | some s =>
    let r := b.ring l
    if !r.originates || !s.polled then b else
    let (b, c) := b.slotFrame l slot
    (b.modNode l fun n => { n with polledSlots := slot :: n.polledSlots }).sendOwn l
      { r.header (if c.isSome then 4 else 5) slot s.west with carried := c }

/-- The node that the poll table row of a round names for a polled slot; 255 none (R308). -/
def Hand.polledNode (h : Hand) (round slot : Nat) : Nat :=
  let k := ((h.slots.take slot).filter (·.polled)).length
  (h.polls.getD (round % h.polls.length) []).getD k 255

/-- The Dealer polls (R319). A poll that names the Dealer itself is answered by its own polled frame. -/
def Block.poll (b : Block) (l : Lane) (slot : Nat) : Block :=
  match (b.handOf l).slots[slot]? with
  | none => b
  | some s =>
    let r := b.ring l
    let n := (b.handOf l).polledNode r.round slot
    if !r.originates || !r.iAmDealer || !s.polled || n == 255 then b
    else
      let b := b.sendOwn l (r.header 3 slot s.west)
      if n = r.cfg.node then b.sendPolled l slot else b

/-! ## Taking in (R315, R328) -/

/-- A frame that a ring carried enters the switch core. -/
def Block.ringIn (b : Block) (l : Lane) (port : RingPort) (f : EthFrame) : Block :=
  if !b.serves l then b else
  (b.modLane l fun x => x.modSw fun s => s.modStats port.num fun t =>
    { t with rxF := t.rxF + 1, rxB := t.rxB + f.len }).switchIn l port.num f

/-- The synchronisation slot of a node in a hand. -/
def Hand.syncSlot (h : Hand) (node slot : Nat) : Bool :=
  match h.slots[slot]? with
  | some s => s.sync && !s.polled && s.owner == node
  | none => false

/-- A static frame from another node tells whether its node keeps the ring awake (R419, R420). -/
def Block.sleepWatch (b : Block) (l : Lane) (f : RingFrame) : Block :=
  if f.sleepBid then b.awakeEnds (ringNetwork l) f.origin.val
  else (b.confirmWake).heardAwake (ringNetwork l) f.origin.val (2 * (b.ring l).cfg.length / 50000 + 1)

/-- take_in of R315: the first arrival of each origin, round and slot counts. -/
def Block.takeIn (b : Block) (l : Lane) (port : RingPort) (f : RingFrame) : Block :=
  let r := b.ring l
  let key := (f.origin.val, f.round.toNat, f.slot)
  if !r.follows || r.seen.contains key then b else
  let b := b.modNode l fun n => { n with seen := key :: n.seen }
  let stat := f.kind == 1 || f.kind == 2
  let b := if stat then (b.modNode l fun n => n.tells f).sleepWatch l f else b
  let b := if stat && (b.handOf l).syncSlot f.origin.val f.slot && r.cfg.mask.getLsbD f.origin.val then
      b.modNode l fun n =>
        { n with devs := n.devs ++ [(f.origin.val, f.deviation - f.depart - f.corr - n.delays.get port.side)] }
    else b
  match f.carried with
  | some e => if f.kind == 1 || f.kind == 4 then b.ringIn l port e else b
  | none => b

/-- A slot frame is passed on: hop and wrap limits, looped ports (R314). -/
def Block.repeatFrame (b : Block) (l : Lane) (port : RingPort) (f : RingFrame) : Block :=
  let r := b.ring l
  if 32 ≤ f.hops then b.ringEv l 178 0 255
  else
    let (res, b) := b.drawNat
    let f := { f with hops := f.hops + 1, corr := f.corr + r.delays.get port.side + res }
    let q := port.other
    if !r.looped.get q.side then b.ringSend l f
    else if f.wrap.val = 2 then b.ringEv l 178 0 255
    else
      let b := if b.ringUp l q then b.ringSend l { f with feed := true } else b
      b.ringSend l { f with wrap := f.wrap + 1, west := !f.west }

/-- A frame from another node, or line energy, at a port of a ring past its commit point is a wake request (R413). -/
def Block.ringWakes (b : Block) (l : Lane) : Block :=
  if (b.ring l).sleepCommit || (b.ring l).st == .asleep then b.wakeRequest 5 l.num else b

/-- A slot frame arrives at a ring port (R314). -/
def Block.slotArrives (b : Block) (l : Lane) (port : RingPort) (f : RingFrame) : Block :=
  if !f.wire.good then b else
  let r := b.ring l
  let own := f.origin.val == r.cfg.node
  let b := if own then b else b.ringWakes l
  let repeats := r.running || r.st == .passive
  if !r.follows || decide (5 < f.kind.val) || f.wrap.val == 3 then b
  else if f.feed then b.takeIn l port f
  else if own then
    if !r.sent.any fun x => x.slot == f.slot && x.origin == f.origin && x.kind == f.kind then b.ringEv l 180 0 f.slot
    else if f.wrap.val = 1 then b.repeatFrame l port f
    else b
  else
    let b := b.takeIn l port f
    if repeats then b.repeatFrame l port f else b

/-- An open-window frame arrives (R311, R344, R346): a link check, or a carried frame that the switch core takes in or that
waits for the other port. -/
def Block.openArrives (b : Block) (l : Lane) (port : RingPort) (f : RingFrame) : Block :=
  if !f.wire.good then b else
  let r := b.ring l
  let b := if f.origin.val == r.cfg.node then b else b.ringWakes l
  if !r.follows then b
  else if f.kind = 7 then b.modNode l fun n => { n with peerNow := n.peerNow.set port.side f.healthy }
  else if f.kind = 6 then
    match f.carried with
    | none => b
    | some e =>
      if (classifyIn b.net.entries port.num none (e.vid.getD (b.p 0x4805 port.num)) e).isSome then b.ringIn l port e
      else
        let q := port.other.side
        if (b.ring l).openTransit.get q + e.len ≤ 65536 then
          b.modNode l fun n => { n with openTransit := n.openTransit.upd q (· + e.len) }
        else b.ringEv l 179 0 255
  else b

/-! ## Rounds (R319, R321, R323-R325, R335, R336, R340) -/

/-- What a sleep Call does at the start of a round: the commit point at round N + 1, sleep listening at round N + 2, or the
rejoining of a node that a wake request has reached (R340, R407, R414). -/
def Block.sleepRound (b : Block) (l : Lane) : Block :=
  let r := b.ring l
  if r.callKind != .sleep || r.callState != .confirmed then b
  else if r.round = r.callRound + 1 then
    if r.sleepBid || r.st == .passive then
      (b.modNode l fun n => { n with sleepCommit := true }).raise l 234 0 (ringNetwork l) 0
    else b
  else if r.callRound + 2 ≤ r.round then
    let asleep := b.nw.state == 1 || b.nw.state == 2
    let b := b.leaveSync l (if asleep then .asleep else b.ringIdle l)
    b.modNode l fun n =>
      { n with sleepCommit := n.sleepCommit && asleep, sleepBid := n.sleepBid && asleep, beaconSeen := n.beaconSeen && asleep }
  else b

/-- A confirmed hand Call puts its hand in force at the boundary between N + 1 and N + 2; a withdrawn one ends there (R336). -/
def Block.handRound (b : Block) (l : Lane) : Block :=
  let r := b.ring l
  if r.callKind == .none || r.round < r.callRound + 2 then b
  else if r.callState == .confirmed && r.callKind == .hand then
    (b.modNode l fun n =>
      { n with hand := n.callTarget, callKind := .none, callState := .none,
               ownBid := if n.ownBid = some n.callTarget then none else n.ownBid }).ringEv l 172 0 r.callTarget.val
  else b.modNode l fun n => { n with callKind := .none, callState := .none }

/-- The claimant whose claims arrived in two consecutive rounds, while no Call runs (R323). -/
def RingNode.claimant (r : RingNode) : Option Nat :=
  if r.callKind == .none then r.claims.find? fun c => r.claimsPrev.contains c else none

/-- The Call the Dealer announces at the start of a round (R335, R409): kind and target. -/
def RingNode.callFor (r : RingNode) (bids : List (Nat × Fin 8)) (noBid : BitVec 16) : CallKind × Fin 8 :=
  let others := bids.filter fun x => x.2 != r.hand
  match others with
  | x :: t =>
    let low := t.foldl (fun y z => if z.1 < y.1 then z else y) x
    (.hand, low.2)
  | [] => if bids.isEmpty && noBid == 0 && r.sleepBid && decide (r.noCallBefore ≤ r.round) then (.sleep, 0) else (.none, 0)

/-- The Dealer announces a Call with its beacon when none runs. -/
def Block.announce (b : Block) (l : Lane) (bids : List (Nat × Fin 8)) (noBid : BitVec 16) : Block :=
  let r := b.ring l
  if !r.originates || !r.iAmDealer || r.callKind != .none then b
  else
    match r.callFor bids noBid with
    | (.none, _) => b
    | (k, h) => b.modNode l fun n => { n with callKind := k, callState := .announced, callTarget := h, callRound := n.round }

/-- The beacon of a node in the Dealer role (R312). -/
def Block.beaconOf (b : Block) (l : Lane) : Beacon :=
  let r := b.ring l
  { wire := ringWire l (dirPort false).num none, round := r.round, dealer := Fin.ofNat 16 r.cfg.node, rank := r.cfg.rank, hand := r.hand,
    callKind := r.callKind, callState := r.callState, target := r.callTarget, callRound := BitVec.ofNat 32 r.callRound,
    crc := b.net.handsCrc }

/-- The Dealer sends the beacon of the present round (R316, R319). -/
def Block.sendBeacon (b : Block) (l : Lane) : Block :=
  if (b.ring l).originates && (b.ring l).iAmDealer then
    let c := b.beaconOf l
    b.modNode l fun n => { n with beacon := some c }
  else b

/-- A round begins at a lane's node. -/
def Block.roundBegins (b : Block) (l : Lane) : Block :=
  let r := b.ring l
  if !r.follows then b else
  let b := if r.iAmDealer && r.dealer != some (Fin.ofNat 16 r.cfg.node) then
      b.ringEv l 164 0 (match r.dealer with | some d => d.val | none => 255)
    else b
  let b := b.modNode l fun n =>
    { n with round := n.round + 1, startEpoch := b.mod.epoch, silent := if n.gotBeacon || n.iAmDealer then 0 else n.silent + 1,
             gotBeacon := false,
             aliveLast := n.aliveNow ||| n.alivePrev, alivePrev := n.aliveNow, aliveNow := 0, acks := 0, noSleepBid := 0,
             bids := [], claims := [], claimsPrev := if n.callKind == .none then n.claims else [], seen := [], devs := [],
             cutThisRound := false, polledSlots := [], peerHealthy := n.peerNow, peerNow := .both false, sent := [],
             beacon := none,
             dealer := match n.claimant with
               | some c => some (Fin.ofNat 16 c)
               | none => n.dealer }
  let b := b.modNode l fun n =>
    { n with iAmDealer := n.running && n.dealer == some (Fin.ofNat 16 n.cfg.node),
             dealerRank := if n.dealer == some (Fin.ofNat 16 n.cfg.node) then n.cfg.rank else n.dealerRank }
  let b := if (b.ring l).st == .coldStarting && decide (4 ≤ (b.ring l).round) then b.enterSync l else b
  let b := ((b.sleepRound l).handRound l).settleBids
  (b.announce l r.bids r.noSleepBid).sendBeacon l

/-- The Call field of a beacon (R312, R336): an announcement is recorded; a stated outcome is compared with the own finding,
or taken from the beacon by a node that has none. -/
def Block.beaconCall (b : Block) (l : Lane) (c : Beacon) : Block :=
  let r := b.ring l
  let n := c.callRound.toNat
  match c.callState with
  | .none => b
  | .announced =>
    b.modNode l fun x => { x with callKind := c.callKind, callState := .announced, callTarget := c.target, callRound := c.round }
  | out =>
    if r.running && r.callRound % 2 ^ 32 == n && r.callKind == c.callKind && (r.callState == .confirmed || r.callState == .withdrawn) then
      if r.callState == out then b else (b.leaveSync l (b.ringIdle l)).ringEv l 174 2 255
    else if c.callKind == .none then b
    else b.modNode l fun x =>
      { x with callKind := c.callKind, callState := out, callTarget := c.target, callRound := c.round - 1 }

/-- A beacon is taken in (R319, R324-R326). -/
def Block.beaconIn (b : Block) (l : Lane) (c : Beacon) : Block :=
  if !c.wire.good then b else
  let b := b.ringWakes l
  let r := b.ring l
  if r.st == .off || r.st == .asleep then b
  else if c.crc != b.net.handsCrc then
    let first := r.st != .passive || !r.beaconSeen
    let b := (b.leaveSync l .passive).modNode l fun n => { n with beaconSeen := true, lastBeacon := b.mod.epoch }
    if first then b.ringEv l 174 1 255 else b
  else if r.running && r.iAmDealer && !decide (c.rank < r.cfg.rank) then b
  else
    let take := fun (n : RingNode) =>
      { n with round := c.round, hand := c.hand, dealer := some c.dealer, dealerRank := c.rank, gotBeacon := true,
               beaconSeen := true, silent := 0, lastBeacon := b.mod.epoch }
    let joins := r.st == .listening || r.st == .coldStarting
    let b := b.modNode l fun n =>
      if joins then
        { take n with st := .integrating, startEpoch := b.mod.epoch, iAmDealer := false, goodRounds := 0, goodRate := false,
                      devs := [], devsPrev := [], callKind := .none, callState := .none }
      else take n
    b.beaconCall l c

/-- Two consecutive silent rounds have passed: a Dealer candidate takes the role and sends the beacon of this round (R321). -/
def Block.dealerGone (b : Block) (l : Lane) : Block :=
  let r := b.ring l
  if !r.originates || r.iAmDealer || r.silent < 2 then b
  else if r.candidate then
    ((b.modNode l fun n =>
      { n with dealer := some (Fin.ofNat 16 n.cfg.node), dealerRank := n.cfg.rank, iAmDealer := true, silent := 0 }).ringEv l
      164 0 r.cfg.node).sendBeacon l
  else b.modNode l fun n => { n with dealer := none, dealerRank := 255 }

/-- ring.dealer.grace rounds without a beacon: every node stops originating and listens again (R322). -/
def Block.graceOver (b : Block) (l : Lane) : Block :=
  let r := b.ring l
  if !(r.running || r.st == .integrating) || r.iAmDealer || decide (r.silent < b.p 0x4005 0) then b
  else
    ((b.leaveSync l (b.ringIdle l)).modNode l fun n =>
      { n with dealer := none, dealerRank := 255, beaconSeen := false, silent := 0 }).ringEv l 165 0 255

/-- A Dealer candidate that has heard no beacon cold-starts its ring (R325). -/
def Block.ringColdStart (b : Block) (l : Lane) : Block :=
  let r := b.ring l
  if r.st != .listening || r.beaconSeen || !r.candidate || !(b.lane l).ready then b
  else
    ((b.modNode l fun n =>
      { n with st := .coldStarting, round := 0, hand := Fin.ofNat 8 (b.p 0x400C 0), dealer := some (Fin.ofNat 16 n.cfg.node),
               dealerRank := n.cfg.rank, iAmDealer := true, startEpoch := b.mod.epoch, silent := 0 }).ringEv l 176 0 255).sendBeacon l

/-! ## The clock (R328-R332) -/

/-- How many values the average discards at each end (R329). -/
def ftaCut (n : Nat) : Nat := if n ≤ 3 then 0 else if n ≤ 6 then 1 else 2

/-- The values the average keeps, ascending (R329). -/
def ftaKept (l : List Int) : List Int :=
  let s := sortBy (fun x y => decide (x ≤ y)) l
  (s.drop (ftaCut l.length)).take (l.length - 2 * ftaCut l.length)

/-- The mean of the kept values (R329); 0 for none. -/
def ftaMean (l : List Int) : Rat :=
  let k := ftaKept l
  if k.isEmpty then 0 else (k.sum : Rat) / (k.length : Rat)

/-- A rational rounded to the nearest whole number, halves upward. -/
def nearest (q : Rat) : Int := (q + 1 / 2).floor

/-- Both values of the nodes present in both rounds of a rate pair, as drifts (R331). -/
def rateDiffs (prev now : List (Nat × Int)) (c : Int) : List Int :=
  now.filterMap fun x => (prev.find? fun y => y.1 == x.1).map fun y => x.2 - y.2 - c

/-- The deviations of a round with the node's own value when it is a synchronisation node (R328). -/
def RingNode.values (r : RingNode) : List (Nat × Int) :=
  (if r.cfg.mask.getLsbD r.cfg.node && decide (r.cfg.node < 16) then [(r.cfg.node, 0)] else []) ++
    r.devs.filter fun d => r.cfg.mask.getLsbD d.1 && d.1 != r.cfg.node

/-- The rate correction at the end of an odd round: the total stays within 500 ppm, reaching it raises EV163 (R331). -/
def Block.rateStep (b : Block) (l : Lane) (vals : List (Nat × Int)) : Block :=
  let r := b.ring l
  let ds := rateDiffs r.devsPrev vals r.corrPrev
  if r.round % 2 = 0 || ds.isEmpty then b
  else
    let raw := r.rate - nearest (ftaMean ds * 1000000000 / (r.cfg.length : Rat))
    let new := clampInt (-500000) 500000 raw
    let b := b.modNode l fun n => { n with rate := new }
    if raw ≤ -500000 ∨ 500000 ≤ raw then b.ringEv l 163 0 255 else b

/-- The averages at the end of the last slot (R329-R332); an integrating node counts its good rounds (R326). -/
def Block.average (b : Block) (l : Lane) : Block :=
  let r := b.ring l
  let vals := r.values
  let n := vals.length
  let lim : Int := b.p 0x400B 0
  let alone := vals.all fun v => v.1 == r.cfg.node
  let b := if n < 4 && !r.few then b.ringEv l 161 0 255 else b
  let fta := if alone then 0 else nearest (ftaMean (vals.map (·.2)))
  let beyond := decide (lim < fta) || decide (fta < -lim)
  let corr := -(clampInt (-lim) lim fta)
  let kept := ftaKept (vals.map (·.2))
  let b := if beyond then b.ringEv l 162 0 255 else b
  let b := b.rateStep l vals
  let rateRound := r.round % 2 == 1 && !(rateDiffs r.devsPrev vals r.corrPrev).isEmpty
  let good := n != 0 && decide (-(r.cfg.pi : Int) ≤ fta) && decide (fta ≤ r.cfg.pi)
  let b := b.modNode l fun x =>
    { x with syncN := n, few := decide (n < 4), pendingCorr := corr,
             spread := if n = 0 then x.spread else satNat 65535 (kept.getLastD 0 - kept.headD 0).toNat,
             zeroRounds := if n = 0 then x.zeroRounds + 1 else 0,
             overLimit := if beyond then x.overLimit + 1 else 0,
             goodRounds := if good then x.goodRounds + 1 else 0,
             goodRate := good && (x.goodRate || rateRound),
             devsPrev := if r.round % 2 = 0 then vals else [],
             corrPrev := if r.round % 2 = 0 then corr else x.corrPrev }
  let r := b.ring l
  if r.running && (decide (2 ≤ r.zeroRounds) || decide (2 ≤ r.overLimit)) then b.leaveSync l (b.ringIdle l)
  else if r.st == .integrating && decide (2 ≤ r.goodRounds) && r.goodRate && (b.lane l).ready then b.enterSync l
  else b

/-- The node finds the outcome of the Call announced in this round (R336). -/
def Block.findCall (b : Block) (l : Lane) : Block :=
  let r := b.ring l
  if !(r.running || r.st == .passive) || r.callKind == .none || r.callState != .announced || r.callRound != r.round then b
  else if r.aliveLast &&& ~~~ r.acks == 0 then b.modNode l fun n => { n with callState := .confirmed }
  else
    (b.modNode l fun n =>
      { n with callState := .withdrawn, withdrawn := satNat 0xFFFFFFFF (n.withdrawn + 1) }).ringEv l 173 0 r.callTarget.val

/-- A sleep is cancelled when a node alive in round N sent a static frame with sleep bid 0 in round N + 1 (R410). -/
def Block.findAwake (b : Block) (l : Lane) : Block :=
  let r := b.ring l
  if r.callKind == .sleep && r.callState == .confirmed && r.round == r.callRound + 1 && r.noSleepBid &&& r.aliveLast != 0 then
    b.modNode l fun n =>
      { n with callKind := .none, callState := .none, sleepCommit := false, sleepBid := n.sleepBid && b.nw.state == 1,
               noCallBefore := r.callRound + 3 }
  else b

/-- The polls for the own node that did not arrive in the round (R320). -/
def Block.missedPolls (b : Block) (l : Lane) : Block :=
  let r := b.ring l
  let h := b.handOf l
  if !r.running then b else
  ((List.range h.slots.length).filter fun k => match h.slots[k]? with
    | some s => s.polled && h.polledNode r.round k == r.cfg.node && !r.polledSlots.contains k
    | none => false).foldl (fun b k =>
      (b.modNode l fun n => { n with pollsMissed := satNat 0xFFFFFFFF (n.pollsMissed + 1) }).ringEv l 175 0 k) b

/-- The end of the last slot. -/
def Block.slotsOver (b : Block) (l : Lane) : Block :=
  if !(b.ring l).follows then b
  else ((((b.findCall l).findAwake l).missedPolls l).average l)

/-- The end of the guard: the offset correction is one step (R330), the open-window buffers have drained, and a loop-back whose
link is healthy on both sides reverts (R344). -/
def Block.guardOver (b : Block) (l : Lane) : Block :=
  if !(b.ring l).follows then b else
  let b := b.modNode l fun n => { n with offset := n.pendingCorr, pendingCorr := 0, openTransit := .both 0 }
  [RingPort.rge, RingPort.rgw].foldl (fun b p =>
    let r := b.ring l
    if r.looped.get p.side && r.healthy.get p.side && r.peerHealthy.get p.side then
      (b.modNode l fun n => { n with looped := n.looped.set p.side false, broken := n.broken.set p.side false }).ringEv l 171 0 255
    else b) b

/-! ## Links and the Keep (R317, R318, R327, R341) -/

/-- The median of measured delays (R327). -/
def median (l : List Nat) : Nat :=
  let s := sortBy (fun x y => decide (x ≤ y)) l
  (s.getD ((l.length - 1) / 2) 0 + s.getD (l.length / 2) 0) / 2

/-- The link delays are measured; a change of more than 50 ns makes the node rejoin (R327). -/
def Block.delaysMeasured (b : Block) (l : Lane) (rge rgw : List Nat) : Block :=
  let r := b.ring l
  if !r.follows then b else
  let upd := fun (old : Nat) (m : List Nat) => if m.isEmpty then old else median m
  let e := upd r.delays.a rge
  let w := upd r.delays.b rgw
  let far := fun (x y : Nat) => decide (x + 50 < y) || decide (y + 50 < x)
  let b := b.modNode l fun n => { n with delays := ⟨e, w⟩ }
  if far r.delays.a e || far r.delays.b w then
    let b := b.ringEv l 177 0 255
    if r.running then b.leaveSync l (b.ringIdle l) else b
  else b

/-- The Keep blocks a transmission; the third within a second shuts origination (R317). -/
def Block.keepBlocks (b : Block) (l : Lane) : Block :=
  let now := b.mod.epoch
  let times := now :: (b.ring l).blockedRecent.filter fun t => decide (now < t + epochsPerSec)
  let b := (b.modNode l fun n =>
    { n with blocked := satNat 0xFFFFFFFF (n.blocked + 1), blockedRecent := times }).ringEv l 166 0 255
  if times.length < 3 || (b.ring l).keepShut then b
  else
    let b := (b.modNode l fun n => { n with keepShut := true }).ringEv l 167 0 255
    if b.serves l && b.serves l.other then b.beginRestart l else b.leaveSync l .passive

/-- A link is declared broken: the port is looped back (R341, R342). -/
def Block.ringBreaks (b : Block) (l : Lane) (p : RingPort) : Block :=
  let r := b.ring l
  if r.st == .off || r.st == .asleep then b
  else
    let b := if r.broken.get p.side then b else b.ringEv l (168 + p.num) 0 255
    b.modNode l fun n =>
      { n with broken := n.broken.set p.side true, looped := n.looped.set p.side true, healthy := n.healthy.set p.side false }

end Sys2Proof

namespace Sys2Proof.Machine

/-- RING_BID (R339). -/
def execRingBid (q : Req) (s : State) : Host.Outcome State Fault Refusal :=
  onBlock (fun b => b.serve 0x4001 q fun b => b.runRingBid q) s

/-- RING_BID_TIMEOUT: the bid is cleared and the request ends BUSY, the request of a withdrawn bid as well (R339). -/
def execRingBidTimeout (l : Lane) (s : State) : Host.Outcome State Fault Refusal :=
  onBlock (fun b =>
    if (b.ring l).ownBid.isSome || b.bidWaits l then
      (b.modLanes fun x => x.modRing fun n => { n with ownBid := none }).dropBids
    else b) s

/-- ROUND_START (R319, R336). -/
def execRoundStart (l : Lane) (s : State) : Host.Outcome State Fault Refusal := onBlock (fun b => b.roundBegins l) s

/-- BEACON_RECEIVED (R319). -/
def execBeaconReceived (l : Lane) (c : Beacon) (s : State) : Host.Outcome State Fault Refusal :=
  onBlock (fun b => b.beaconIn l c) s

/-- OWN_SLOT_START (R311, R316). -/
def execOwnSlotStart (l : Lane) (slot : Fin 64) (s : State) : Host.Outcome State Fault Refusal :=
  onBlock (fun b => b.sendStatic l slot) s

/-- POLLED_SLOT_START (R319). -/
def execPolledSlotStart (l : Lane) (slot : Fin 64) (s : State) : Host.Outcome State Fault Refusal :=
  onBlock (fun b => b.poll l slot) s

/-- POLL_RECEIVED: a valid poll names the own node, this slot and this round (R316, R320). -/
def execPollReceived (l : Lane) (w : RingWire) (slot : Fin 64) (poll : Poll) (s : State) :
    Host.Outcome State Fault Refusal :=
  onBlock (fun b =>
    if w.good = true ∧ poll.node = (b.ring l).cfg.node ∧ poll.round.toNat = (b.ring l).round % 2 ^ 32 then b.sendPolled l slot else b) s

/-- SLOT_FRAME_RECEIVED (R314). -/
def execSlotFrameReceived (l : Lane) (port : RingPort) (f : RingFrame) (s : State) : Host.Outcome State Fault Refusal :=
  onBlock (fun b => b.slotArrives l port f) s

/-- OPEN_WINDOW_FRAME (R311). -/
def execOpenWindowFrame (l : Lane) (port : RingPort) (f : RingFrame) (s : State) : Host.Outcome State Fault Refusal :=
  onBlock (fun b => b.openArrives l port f) s

/-- DELAY_MEASUREMENT_DUE (R327). -/
def execDelayMeasurementDue (l : Lane) (rge rgw : List Nat) (s : State) : Host.Outcome State Fault Refusal :=
  onBlock (fun b => b.delaysMeasured l rge rgw) s

/-- SLOTS_END (R329, R336, R410). -/
def execSlotsEnd (l : Lane) (s : State) : Host.Outcome State Fault Refusal := onBlock (fun b => b.slotsOver l) s

/-- GUARD_END (R330, R344). -/
def execGuardEnd (l : Lane) (s : State) : Host.Outcome State Fault Refusal := onBlock (fun b => b.guardOver l) s

/-- DEALER_SILENT (R321). -/
def execDealerSilent (l : Lane) (s : State) : Host.Outcome State Fault Refusal := onBlock (fun b => b.dealerGone l) s

/-- RING_GRACE_EXPIRED (R322). -/
def execRingGraceExpired (l : Lane) (s : State) : Host.Outcome State Fault Refusal := onBlock (fun b => b.graceOver l) s

/-- COLD_START (R325). -/
def execColdStart (l : Lane) (s : State) : Host.Outcome State Fault Refusal := onBlock (fun b => b.ringColdStart l) s

/-- KEEP_BLOCK (R317). -/
def execKeepBlock (l : Lane) (_port : RingPort) (s : State) : Host.Outcome State Fault Refusal :=
  onBlock (fun b => if (b.ring l).st == .off then b else b.keepBlocks l) s

/-- REPEAT_CUT: counted, EV168 at most once per round (R318). -/
def execRepeatCut (l : Lane) (_port : RingPort) (s : State) : Host.Outcome State Fault Refusal :=
  onBlock (fun b =>
    if (b.ring l).st == .off then b else
    let first := !(b.ring l).cutThisRound
    let b := b.modNode l fun n => { n with cut := satNat 0xFFFFFFFF (n.cut + 1), cutThisRound := true }
    if first then b.ringEv l 168 0 255 else b) s

/-- RING_LINK_BREAK (R341, R342). -/
def execRingLinkBreak (l : Lane) (port : RingPort) (s : State) : Host.Outcome State Fault Refusal :=
  onBlock (fun b => b.ringBreaks l port) s

/-- LINK_HEALTHY: the node sets healthy in its link check on the port (R344). -/
def execLinkHealthy (l : Lane) (port : RingPort) (s : State) : Host.Outcome State Fault Refusal :=
  onBlock (fun b =>
    if (b.ring l).st == .off || (b.ring l).st == .asleep then b
    else b.modNode l fun n => { n with healthy := n.healthy.set port.side true }) s

/-- RING_LINE_ENERGY: on a committed ring a wake request (R413). -/
def execRingLineEnergy (l : Lane) (_port : RingPort) (s : State) : Host.Outcome State Fault Refusal :=
  onBlock (fun b => b.ringWakes l) s

end Sys2Proof.Machine
end

