-- ==== Sys2Proof/Machine/Can.lean ====
section
/-! DEFINITION. The CAN FD buses: bit timing rules, sending, two copies on one bus, filters and receive queues, errors and
bus-off (13_can_fd.md). -/

namespace Sys2Proof

/-! ## Configuration (R385, R411) -/

/-- The bit timing of a bus in a configuration obeys R385. -/
def canTimingOk (m : List (Nat × Nat)) (i : Nat) : Bool :=
  let p := fun (id : Nat) => pval m id i
  let qn := 1 + p 0x5004 + p 0x5005
  let qd := 1 + p 0x5008 + p 0x5009
  let brp := p 0x5003
  brp == p 0x5007 &&
  decide (125 * brp * qn ≤ 80000) && decide (80000 ≤ 1000 * brp * qn) &&
  decide (1000 * brp * qd ≤ 80000) && decide (80000 ≤ 8000 * brp * qd) && decide (qd ≤ qn) &&
  decide (p 0x5006 ≤ min (p 0x5004) (p 0x5005)) && decide (p 0x500A ≤ min (p 0x5008) (p 0x5009)) &&
  decide (60 * qn ≤ 100 * (1 + p 0x5004)) && decide (100 * (1 + p 0x5004) ≤ 90 * qn) &&
  decide (60 * qd ≤ 100 * (1 + p 0x5008)) && decide (100 * (1 + p 0x5008) ≤ 85 * qd)

/-- The network-management settings of a configuration obey R411. -/
def nmSettingsOk (m : List (Nat × Nat)) : Bool :=
  let p := fun (id : Nat) => pval m id 0
  (p 0x5813).testBit 31 == (p 0x5811).testBit 31 && ((p 0x5813 ^^^ p 0x5811) &&& p 0x5812) % 2 ^ 29 == 0 &&
    decide (3 * p 0x5817 ≤ p 0x5818)

/-- The buses of a configuration obey their rules. -/
def canStatus (m : List (Nat × Nat)) : Status :=
  if ((List.range 12).all (canTimingOk m)) && nmSettingsOk m then .ok else .badParam

/-! ## Frames -/

/-- The data length of a DLC under ISO 11898-1. -/
def dlcLen (dlc : Nat) : Nat := if dlc ≤ 8 then dlc else [12, 16, 20, 24, 32, 48, 64].getD (dlc - 9) 64

/-- The arbitration field as a number: the lowest is sent first (R391). -/
def CanFrame.arb (f : CanFrame) : Nat :=
  if f.ide then (f.ident / 2 ^ 18) * 2 ^ 20 + 2 ^ 19 + f.ident % 2 ^ 18 else f.ident * 2 ^ 20

/-- Two frames are copies of each other (R395). -/
def CanFrame.same (f g : CanFrame) : Bool :=
  f.ident == g.ident && f.ide == g.ide && f.fdf == g.fdf && f.brs == g.brs && f.dlc == g.dlc && f.data == g.data

/-- The frame a controller sends next: lowest arbitration field, first admitted (R391). -/
def CanCtl.next (c : CanCtl) : Option CanTx :=
  match c.tx with
  | [] => none
  | x :: t => some (t.foldl (fun best y => if y.frame.arb < best.frame.arb then y else best) x)

/-- The queue without one frame. -/
def dropFirst (x : CanTx) : List CanTx → List CanTx
  | [] => []
  | y :: t => if y = x then t else y :: dropFirst x t

/-- The queue with one frame replaced. -/
def replaceFirst (x z : CanTx) : List CanTx → List CanTx
  | [] => []
  | y :: t => if y = x then z :: t else y :: replaceFirst x z t

/-! ## Message authentication (R390, R469) -/

/-- The key of a context of mode CMAC whose slot holds a key with a use bit. -/
def Block.cmacKey (b : Block) (ctx useBit : Nat) : Option (List Byte) :=
  let c := b.ctx ctx
  let k := b.slot c.slot
  if c.mode = 2 ∧ k.type ≠ 0 ∧ k.uses.getLsbD useBit then some k.material else none

/-- The first bytes of the CMAC over the identifier and the data before the MAC. -/
def canMac (key : List Byte) (ident : Nat) (ide : Bool) (data : List Byte) (n : Nat) : List Byte :=
  (Config.cmac key (leBytes 4 (ident + (if ide then 2 ^ 31 else 0)) ++ data.take (data.length - n))).take n

/-! ## Sending (R388, R389) -/

/-- The frame of a CAN_SEND payload. -/
def canFrameOf (p : List Byte) : CanFrame :=
  { ident := fieldAt p 4 4, ide := (byteAt p 1).testBit 0, fdf := (byteAt p 1).testBit 1, brs := (byteAt p 1).testBit 2,
    esi := false, rtr := false, dlc := byteAt p 2, data := p.drop 12 }

/-- Check 7 of CAN_SEND (R388); can.fd = 0 allows no FD frame (R404). -/
def Block.canSendOk (b : Block) (p : List Byte) : Bool :=
  let f := canFrameOf p
  let n := byteAt p 3
  let len := dlcLen f.dlc
  decide (12 ≤ p.length) && decide (byteAt p 0 < 12) && decide (byteAt p 1 < 8) && decide (f.dlc ≤ 15) &&
    (f.fdf || (decide (f.dlc ≤ 8) && !f.brs)) && decide (f.ident < 2 ^ 29) && (f.ide || decide (f.ident ≤ 0x7FF)) &&
    [0, 4, 8, 12, 16].contains n && decide (n ≤ len) && (n != 0 || zerosAt p 8 2) && zerosAt p 10 2 &&
    decide (p.length = 12 + len) && zerosAt p (12 + len - n) n && (!f.fdf || b.p 0x5002 (byteAt p 0) == 1)

/-- The standby lane makes room for a frame it must take: at 64 frames its oldest pending frame is discarded (R389). -/
def Block.canRoom (b : Block) (l : Lane) (i : Nat) : Block :=
  if ((b.lane l).ctl i).tx.length < 64 then b
  else
    ((b.modLane l fun x => x.modCtl i fun c => { c with tx := c.tx.drop 1 }).modBus i fun u =>
      { u with standbyDiscard := satNat 0xFFFFFFFF (u.standbyDiscard + 1) }).canEv l i false 4 1

/-- CAN_SEND. -/
def Block.runCanSend (b : Block) (r : Req) : Block :=
  let p := r.pay
  b.check7 r 0x5001 (b.canSendOk p) fun b =>
  let i := byteAt p 0
  let f := canFrameOf p
  let n := byteAt p 3
  let key := if n = 0 then some [] else b.cmacKey (fieldAt p 8 2) 3
  if b.canMode i != 2 then b.reply r 0x5001 .notActive
  else match key with
  | none => b.reply r 0x5001 .badParam
  | some key =>
    let f := if n = 0 then f
      else { f with data := f.data.take (f.data.length - n) ++ canMac key f.ident f.ide f.data n }
    let t : CanTx := { frame := f, tries := 0, prid := some (Fin.ofNat 32 r.path.prid), final := false }
    if ((b.lane b.act).ctl i).tx.length < b.p 0x5011 i then
      let b := b.canQueue b.act i t
      let b := match b.standby? with
        | some l => (b.canRoom l i).canQueue l i t
        | none => b
      b.ok r 0x5001 []
    else
      let b := match b.standby? with
        | some l => (b.modBus i fun u =>
            { u with standbyDiscard := satNat 0xFFFFFFFF (u.standbyDiscard + 1) }).canEv l i false 4 1
        | none => b
      b.reply r 0x5001 .noResource

/-- A change of can.mode from 2 discards every pending frame of the bus (R384). -/
def Block.canModeLeft (b : Block) (i : Nat) : Block :=
  [Lane.a, Lane.b].foldl (fun b l =>
    let n := ((b.lane l).ctl i).tx.length
    if n = 0 then b
    else (b.modLane l fun x => x.modCtl i fun c =>
      { c with tx := [], dropped := satNat 0xFFFFFFFF (c.dropped + n) }).canEv l i false 3 n) b

/-! ## Filters and receive queues (R396-R398) -/

/-- A frame matches a filter. -/
def CanFilter.hits (x : CanFilter) (f : CanFrame) : Bool :=
  (if f.fdf then x.fd else x.classical) && x.ide == f.ide && (f.ident ^^^ x.ident) &&& x.mask == 0

/-- The filters of a bus with one set or removed. -/
def setFilter (l : List (Nat × Nat × CanFilter)) (p i : Nat) (f : Option CanFilter) : List (Nat × Nat × CanFilter) :=
  let rest := l.filter fun e => !(e.1 == p && e.2.1 == i)
  match f with
  | some f => rest ++ [(p, i, f)]
  | none => rest

/-- A filter setting takes effect (R396). -/
def Block.canFilterNow (b : Block) (p : Nat) (bus i : Nat) (f : Option CanFilter) : Block :=
  b.modBus bus fun u => { u with filters := setFilter u.filters p i f }

/-- The filters of a bus once the completed requests have taken effect. -/
def Block.filtersAhead (b : Block) (bus : Nat) : List (Nat × Nat × CanFilter) :=
  b.mail.done.foldl (fun l a => match a.effect with
    | .canFilter p u i f => if u.val = bus then setFilter l p.val i f else l
    | _ => l) (b.bus bus).filters

/-- The filter of a CAN_FILTER_SET payload. -/
def canFilterOf (p : List Byte) : CanFilter :=
  { fd := (byteAt p 2).testBit 3, classical := (byteAt p 2).testBit 2, ide := (byteAt p 2).testBit 1, maclen := byteAt p 3,
    ident := fieldAt p 4 4, mask := fieldAt p 8 4, ctx := fieldAt p 12 2 }

/-- CAN_FILTER_SET. -/
def Block.runCanFilter (b : Block) (r : Req) : Block :=
  let p := r.pay
  let f := canFilterOf p
  b.check7 r 0x5003 (p.length == 16 && decide (byteAt p 0 < 12) && decide (byteAt p 1 < 16) && decide (byteAt p 2 < 16) &&
      [0, 4, 8, 12, 16].contains f.maclen && decide (f.ident < 2 ^ 29) && decide (f.mask < 2 ^ 29) &&
      (f.maclen != 0 || f.ctx == 0) && zerosAt p 14 2 && (f.ide || decide (f.ident ≤ 0x7FF))) fun b =>
  let bus := byteAt p 0
  let valid := (byteAt p 2).testBit 0
  let new := setFilter (b.filtersAhead bus) r.path.prid (byteAt p 1) (if valid then some f else none)
  if valid && decide (128 < new.length) then b.reply r 0x5003 .noResource
  else b.finish r 0x5003 .ok []
    (.canFilter (Fin.ofNat 32 r.path.prid) (Fin.ofNat 12 bus) (byteAt p 1) (if valid then some f else none))

/-- Verification of a frame by the first of the matching filters that asks for it. -/
def Block.canVerify (b : Block) (fs : List CanFilter) (f : CanFrame) : Option Bool :=
  (fs.find? fun x => x.maclen != 0).map fun x =>
    match b.cmacKey x.ctx 4 with
    | some key => decide (x.maclen ≤ f.data.length) &&
        f.data.drop (f.data.length - x.maclen) == canMac key f.ident f.ide f.data x.maclen
    | none => false

/-- A delivered frame enters the receive queue of every partition that holds the bus and has a matching filter (R396, R397). -/
def Block.canDeliver (b : Block) (i : Nat) (f : CanFrame) : Block :=
  let u := b.bus i
  let hits := u.filters.filter fun e => e.2.2.hits f && (b.slice e.1).buses.getLsbD i
  let prids := (List.range 32).filter fun p => hits.any fun e => e.1 == p
  let b := b.modBus i fun u => { u with rxFrames := u.rxFrames + 1 }
  prids.foldl (fun b p =>
    let mine := sortBy (fun x y => decide (x.2.1 ≤ y.2.1)) (hits.filter fun e => e.1 == p)
    let r : CanRx := { frame := f, filter := (mine.map (·.2.1)).headD 0, mac := b.canVerify (mine.map (·.2.2)) f, epoch := b.mod.epoch }
    b.modBus i fun u =>
      match u.queues.find? fun q => q.1 == p with
      | none => { u with queues := u.queues ++ [(p, [r], 0)] }
      | some _ => { u with queues := u.queues.map fun q =>
          if q.1 != p then q
          else if q.2.1.length < 64 then (p, q.2.1 ++ [r], q.2.2) else (p, q.2.1, satNat 65535 (q.2.2 + 1)) }) b

/-- A controller's receive list of an epoch does not count: it was bus-off in it, or had not yet come back (R259, R275). -/
def CanCtl.outIn (c : CanCtl) (k : Nat) : Bool := decide (c.offFrom ≤ k) && (c.busOff || decide (k < c.countsFrom))

/-- The agreed list of a bus (R259 row 2): `own` and `far` are the active lane's and the standby lane's receive lists. -/
def Block.canAgree (b : Block) (i : Nat) (act sby : List CanFrame) (actOff two : Bool) : Block :=
  if !two then act.foldl (fun b f => b.canDeliver i f) b
  else if actOff then sby.foldl (fun b f => b.canDeliver i f) b
  else
    let eq := fun (x y : CanFrame) => x.ident == y.ident && x.dlc == y.dlc && x.data == y.data
    let diff := (sby.length - act.length) + ((List.zipWith eq act sby).filter fun e => !e).length
    let b := b.modMod fun m => { m with canRxDiff := satNat 0xFFFFFFFF (m.canRxDiff + diff) }
    act.foldl (fun b f => b.canDeliver i f) b

/-- One record of CAN_READ (R398). -/
def CanRx.bytes (x : CanRx) : List Byte :=
  let f := x.frame
  let flags := b2n f.ide + 2 * b2n f.fdf + 4 * b2n f.brs + 8 * b2n f.esi + 16 * b2n f.rtr + 32 * b2n (x.mac == some true) +
    64 * b2n (x.mac == some false)
  leBytes 4 f.ident ++ leBytes 1 flags ++ leBytes 1 f.dlc ++ leBytes 1 f.data.length ++ leBytes 1 x.filter ++ f.data ++
    zeroBytes ((4 - f.data.length % 4) % 4)

/-- CAN_READ. -/
def Block.runCanRead (b : Block) (r : Req) : Block :=
  let p := r.pay
  b.check7 r 0x5002 (p.length == 4 && decide (byteAt p 0 < 12) && decide (1 ≤ byteAt p 1) && decide (byteAt p 1 ≤ 56) &&
      zerosAt p 2 2) fun b =>
  let i := byteAt p 0
  b.needRoom r 0x5002 (8 + 72 * byteAt p 1) fun b =>
  if b.canMode i == 0 then b.reply r 0x5002 .notActive
  else
    let (q, drops) := match (b.bus i).queues.find? fun q => q.1 == r.path.prid with
      | some q => (q.2.1, q.2.2)
      | none => ([], 0)
    let ready := q.filter fun x => decide (x.epoch ≤ r.stamp)
    let out := ready.take (byteAt p 1)
    let b := b.modBus i fun u => { u with queues := u.queues.map fun e =>
      if e.1 = r.path.prid then (e.1, q.drop out.length, 0) else e }
    b.ok r 0x5002 (leBytes 2 out.length ++ leBytes 2 (ready.length - out.length) ++ leBytes 2 drops ++ zeroBytes 2 ++
      out.flatMap CanRx.bytes)

/-! ## A controller at work (R391-R395, R399) -/

/-- Error passive under ISO 11898-1. -/
def CanCtl.isPassive (c : CanCtl) : Bool := decide (127 < c.txErr) || decide (127 < c.rxErr)

/-- The error counters change; error passive entered or left is a state event (R399, R403). -/
def Block.canErrs (b : Block) (l : Lane) (i tec rec : Nat) : Block :=
  let c := (b.lane l).ctl i
  let c' := { c with txErr := satNat 255 tec, rxErr := satNat 128 rec }
  let b := b.modLane l fun x => x.modCtl i fun _ => { c' with passive := c'.isPassive }
  if c'.isPassive && !c.passive then b.canEv l i true 1 0
  else if !c'.isPassive && c.passive then b.canEv l i true 2 0
  else b

/-- A controller that takes part in bus traffic: normal mode, not in bus-off, in a lane in service (R26, R256). -/
def Block.canWorks (b : Block) (l : Lane) (i : Nat) : Bool :=
  b.serves l && b.canMode i == 2 && !((b.lane l).ctl i).busOff

/-- A good frame lowers the receive error counter; above 127 ISO 11898-1 allows any value of 119 to 127. -/
def Block.canRxGood (b : Block) (l : Lane) (i : Nat) : Block :=
  let c := (b.lane l).ctl i
  if c.rxErr = 0 then b
  else if 127 < c.rxErr then
    let (n, b) := b.drawNat
    b.canErrs l i c.txErr (119 + n % 9)
  else b.canErrs l i c.txErr (c.rxErr - 1)

/-- What an NM frame of another node tells (R412, R419, R420). -/
def Block.nmHeard (b : Block) (i : Nat) (f : CanFrame) : Block :=
  if !b.nmBus i || !b.isNm f then b
  else
    let node := byteAt f.data (b.p 0x5815 0)
    if (byteAt f.data (b.p 0x5816 0)).testBit 0 then (b.confirmWake).heardAwake i node (b.p 0x5818 0 * epochsPerMs)
    else b.awakeEnds i node

/-- A frame reaches a controller: an echo is left out and counted, else the frame enters the lane's receive list when a filter
of the bus matches (R395, R396). A frame on a committed bus is a wake request (R413). -/
def Block.canArrives (b : Block) (l : Lane) (i : Nat) (f : CanFrame) : Block :=
  let c := (b.lane l).ctl i
  if (b.lane l).st < 2 || b.canMode i == 0 || c.busOff then b else
  let b := if b.canMode i == 2 then b.canRxGood l i else b
  let now := b.mod.epoch
  let echo := c.tx.any (fun t => t.frame.same f) || c.recent.any fun e => e.1.same f && decide (now ≤ e.2 + 10 * epochsPerMs)
  if echo then b.modLane l fun x => x.modCtl i fun c => { c with echo := satNat 0xFFFFFFFF (c.echo + 1) }
  else
    let b := if b.nmBus i && (b.bus i).committed then b.wakeRequest 1 i else b
    let b := b.nmHeard i f
    if ((b.bus i).filters.any fun e => e.2.2.hits f) && decide (c.countsFrom ≤ now) then
      b.takesIn l (.can (Fin.ofNat 12 i) f)
    else b

/-- The data bit rate exceeds 1 Mbit/s (R387). -/
def Block.fastData (b : Block) (i : Nat) : Bool := decide (b.p 0x5007 i * (1 + b.p 0x5008 i + b.p 0x5009 i) < 80)

/-- The loop delay that an FD frame with BRS shows: a measured number, clamped with its offset at 127 (R387). -/
def Block.canMeasure (b : Block) (l : Lane) (i : Nat) (f : CanFrame) : Block :=
  let mode := b.p 0x500B i
  if !(f.fdf && f.brs) || !(mode == 2 || (mode == 1 && b.fastData i)) then b
  else
    let (n, b) := b.drawNat
    let v := n % 128
    if v + b.p 0x500C i ≤ 127 then b.modLane l fun x => x.modCtl i fun c => { c with tdc := v }
    else
      let was := ((b.lane l).ctl i).clamped
      let b := b.modLane l fun x => x.modCtl i fun c => { c with tdc := 0xFF, clamped := true }
      if was then b else b.canEv l i true 6 0

/-- A network passes its commit point (R407, R423). -/
def Block.busCommits (b : Block) (i : Nat) : Block :=
  if (b.bus i).committed then b
  else (b.modBus i fun u => { u with committed := true }).raiseAll 234 0 i 0

/-- A controller finishes sending a frame (R391, R395, R412). -/
def Block.canSent (b : Block) (l : Lane) (i : Nat) : Block :=
  let c := (b.lane l).ctl i
  if !b.canWorks l i then b else
  match c.next with
  | none => b
  | some t =>
    let now := b.mod.epoch
    let b := b.modLane l fun x => x.modCtl i fun c =>
      { c with tx := dropFirst t c.tx, frames := c.frames + 1,
               recent := (t.frame, now) :: c.recent.filter fun e => decide (now ≤ e.2 + 10 * epochsPerMs) }
    let b := if 0 < c.txErr then b.canErrs l i (c.txErr - 1) c.rxErr else b
    let b := b.canMeasure l i t.frame
    if t.final && b.nw.state == 1 then b.busCommits i else b

/-- A try fails: arbitration lost or an error while sending; at can.tx.retry tries the frame is dropped (R392). -/
def Block.canTryFails (b : Block) (l : Lane) (i : Nat) (error : Bool) : Block :=
  let c := (b.lane l).ctl i
  if !b.canWorks l i then b else
  match c.next with
  | none => b
  | some t =>
    let b := if error then b.canErrs l i (c.txErr + 8) c.rxErr else b
    if t.tries + 1 < b.p 0x5010 i then
      b.modLane l fun x => x.modCtl i fun c =>
        { c with tx := replaceFirst t { t with tries := t.tries + 1 } c.tx }
    else
      (b.modLane l fun x => x.modCtl i fun c =>
        { c with tx := dropFirst t c.tx, dropped := satNat 0xFFFFFFFF (c.dropped + 1) }).canEv l i false 1 1

/-- A controller enters bus-off: every pending frame is discarded (R399). -/
def Block.canBusOff (b : Block) (l : Lane) (i : Nat) : Block :=
  if !b.canWorks l i then b else
  let n := ((b.lane l).ctl i).tx.length
  let b := (b.modLane l fun x => x.modCtl i fun c =>
    { c with tx := [], busOff := true, offFrom := b.mod.epoch, txErr := 255, passive := false, busOffs := satNat 0xFFFFFFFF (c.busOffs + 1),
             dropped := satNat 0xFFFFFFFF (c.dropped + n) }).canEv l i true 3 0
  if n = 0 then b else b.canEv l i false 2 n

/-- Bus-off ends (R399). -/
def Block.canRecovers (b : Block) (l : Lane) (i : Nat) : Block :=
  if !((b.lane l).ctl i).busOff then b
  else (b.modLane l fun x => x.modCtl i fun c =>
    { c with busOff := false, txErr := 0, rxErr := 0, passive := false, countsFrom := b.mod.epoch + 1 }).canEv l i true 4 0

end Sys2Proof

namespace Sys2Proof.Machine

/-- CAN_SEND (R388-R390). -/
def execCanSend (q : Req) (s : State) : Host.Outcome State Fault Refusal :=
  onBlock (fun b => b.serve 0x5001 q fun b => b.runCanSend q) s

/-- CAN_READ (R398). -/
def execCanRead (q : Req) (s : State) : Host.Outcome State Fault Refusal :=
  onBlock (fun b => b.serve 0x5002 q fun b => b.runCanRead q) s

/-- CAN_FILTER_SET (R396). -/
def execCanFilterSet (q : Req) (s : State) : Host.Outcome State Fault Refusal :=
  onBlock (fun b => b.serve 0x5003 q fun b => b.runCanFilter q) s

/-- CAN_FRAME_RECEIVED (R395, R396). -/
def execCanFrameReceived (l : Lane) (i : Bus) (f : CanFrame) (s : State) : Host.Outcome State Fault Refusal :=
  onBlock (fun b => b.canArrives l i f) s

/-- CAN_FRAME_SENT (R391). -/
def execCanFrameSent (l : Lane) (i : Bus) (s : State) : Host.Outcome State Fault Refusal := onBlock (fun b => b.canSent l i) s

/-- CAN_TRY_FAILED (R392). -/
def execCanTryFailed (l : Lane) (i : Bus) (error : Bool) (s : State) : Host.Outcome State Fault Refusal :=
  onBlock (fun b => b.canTryFails l i error) s

/-- BUS_OFF (R399). -/
def execBusOff (l : Lane) (i : Bus) (s : State) : Host.Outcome State Fault Refusal := onBlock (fun b => b.canBusOff l i) s

/-- BUS_OFF_RECOVERY (R399). -/
def execBusOffRecovery (l : Lane) (i : Bus) (s : State) : Host.Outcome State Fault Refusal := onBlock (fun b => b.canRecovers l i) s

/-- DOMINANT_TIMEOUT: a state event of the bus (R401, R403). -/
def execDominantTimeout (l : Lane) (i : Bus) (s : State) : Host.Outcome State Fault Refusal :=
  onBlock (fun b => if (b.lane l).st < 2 || b.canMode i == 0 then b else b.canEv l i true 5 0) s

/-- CAN_BUS_ERROR: the error counters after a bus error (R399). -/
def execCanBusError (l : Lane) (i : Bus) (tec rec : Nat) (s : State) : Host.Outcome State Fault Refusal :=
  onBlock (fun b => if b.canWorks l i then b.canErrs l i tec rec else b) s

end Sys2Proof.Machine
end

