-- ==== Sys2Proof/Machine/Sleep.lean ====
section
/-! DEFINITION. Network sleep and wake: commit of the module, power-down, wake sources, acknowledge, false wake, keep-awake
log, SLEEP_REQUEST and WAKE_HOLD (14_network_sleep_and_wake.md; R86, R88, R252, R253). -/

namespace Sys2Proof

/-! ## Going to sleep (R86, R407, R408) -/

/-- A ring of enable 1, or one whose node cannot join, commits after 1 s without a beacon (R407). -/
def Block.silentRing (b : Block) (l : Lane) : Block :=
  let r := b.ring l
  if b.serves l && r.st == .passive && !r.sleepCommit && decide (r.lastBeacon + epochsPerSec ≤ b.mod.epoch) then
    (b.modNode l fun n => { n with sleepCommit := true }).raise l 234 0 (ringNetwork l) 0
  else b

/-- Every network that takes part has passed its commit point (R407, R408). -/
def Block.netsCommitted (b : Block) : Bool :=
  (b.serving.all fun l => b.p 0x4001 0 == 0 || (b.ring l).sleepCommit || (b.ring l).st == .asleep) &&
    b.nmBuses.all fun i => (b.bus i).committed

/-- The buses that commit with the module: mode 1, or mode 2 outside nw.nm.buses (R407). -/
def Block.restBuses (b : Block) : List Nat := (List.range 12).filter fun i => b.canMode i != 0 && !b.nmBus i

/-- Ottum commands every channel off with one MULTI frame to each die the lanes serve, and the 200 ms of each die begin (R86). -/
def Block.allChannelsOff (b : Block) : Block :=
  let b := { b with dies := b.dies.map fun (x : DieSt) => { x with offSince := some x.ms } }
  if !b.configured then b
  else (List.range 4).foldl (fun b d => b.sendFrame d .multi 0 (leBytes 2 0xFFFF ++ zeroBytes 4)) b

/-- The module commits at a boundary of state 1: state 2, channels off, SLEEP_REQUEST ends OK; each domain records the agreed
state bit of the wake inputs and takes their thresholds as its comparator levels (R252, R408, R422). -/
def Block.moduleCommits (b : Block) : Block :=
  let b := if b.nw.state = 1 then (b.silentRing .a).silentRing .b else b
  if b.nw.state != 1 || !b.netsCommitted then b
  else
    let b := b.restBuses.foldl (fun b i => b.raiseAll 234 0 i 0) b
    let b := b.modNw fun n => { n with state := 2, latched := none, log := n.log.map fun e => e.stop b.mod.epoch }
    let b := { b with inputs := mapIdxFrom (fun i (x : InputSt) =>
      { x with atSleep := x.flags.getLsbD 0, wakeLow := b.p 0x3006 i, wakeHigh := b.p 0x3007 i, wakeRun := .both 0 }) 0 b.inputs }
    (b.allChannelsOff).finishWhere (fun e => match e.kind with | .sleep => true | _ => false) .ok [] .none

/-- A wake-enabled input (R252). -/
def Block.wakeInput (b : Block) (i : Nat) : Bool := b.p 0x300C i == 1

/-- After a delivery: a wake-enabled input that differs from its state at SLEEP_REQUEST is a wake request, one that differs
from its state at the last sleep entry confirms a wake (R413, R419). -/
def Block.inputWakes (b : Block) : Block :=
  (List.range 48).foldl (fun b i =>
    if !b.wakeInput i then b
    else
      let st := (b.input i).flags.getLsbD 0
      let b := if st != (b.input i).atSleep then b.confirmWake else b
      if st != (b.input i).atRequest && (b.nw.state == 1 || b.nw.state == 2) then b.wakeRequest 3 i else b) b

/-- A bank whose write is running when the logic rail goes keeps what the write has left in it (R206; log entry 106). -/
def DieSt.torn (x : DieSt) : PerLane FsBank :=
  match x.storing with
  | some l => x.store.set l { bytes := (Config.tornRecord x.storeCount).toList }
  | none => x.store

/-- What a die keeps without its logic rail, the drive of a reversed feed among it (R73, R206, R220, R231). -/
def DieSt.down (x : DieSt) : DieSt :=
  { DieSt.delivered with store := x.torn, isoBanks := x.isoBanks, reverseOn := x.reverseOn }

/-- A die's rail may go off: all 16 channels are off with no clamp running, or 200 ms have passed since the command (R86). -/
def DieSt.mayGoDown (x : DieSt) : Bool :=
  !x.powered || x.chans.all (fun y => y.phase.isOff && !y.stuck) || (match x.offSince with
    | some t => decide (t + 200 ≤ x.ms)
    | none => false)

/-- The lanes are off and start next with a cause; a lane held by its faults is held no longer (R88, R520). Outside sleep the
module is then starting (R405). -/
def Block.lanesOff (b : Block) (cause : Nat) : Block :=
  let b := (b.breakCopy .a).breakCopy .b
  let b := b.modLanes fun x =>
    { x.reset with startCause := cause, rolling := false, heldByFaults := false, faultEpochs := [], asleep := false }
  let b := b.modMod fun m => { m with active := none, handTo := none, provision := false }
  b.modNw fun n => { n with state := if n.state = 3 then 3 else 4 }

/-- A domain records a wake source: the first one and every further one (R417). -/
def LaneSt.detect (x : LaneSt) (code detail flags : Nat) : LaneSt :=
  { x with domFirst := match x.domFirst with
             | some f => some f
             | none => some (code, detail),
           domSources := x.domSources ||| 2 ^ (code - 1), domFlags := x.domFlags ||| flags }

/-- A lane that its domain has switched off for wake detection: off, nothing detected yet (R405, R418). -/
def LaneSt.sleeps (x : LaneSt) : LaneSt :=
  { x with asleep := true, domFirst := none, domSources := 0, domFlags := 0, xspiVcc := false }

/-- A lane that its domain wakes: it may start, and the domain waits for its acknowledgement (R406, R418). -/
def LaneSt.woken (x : LaneSt) : LaneSt := { x with asleep := false, wakeAck := false, startCause := 1 }

/-- A domain wakes the module, with its own lane alone while the wake-coordination link has failed; the time in state 3 is the
real-time counter's (R25, R406, R417, R418). -/
def Block.wakes (b : Block) (dom : Lane) : Block :=
  let (ms, b) := if b.nw.state = 3 then b.drawNat else (0, b)
  let b := if b.nw.state = 3 then
      b.modNw fun n => { n with state := 4, confirmed := false, sleepMs := ms % 2 ^ 64 } else b
  if b.nw.linkFailed then b.modLane dom LaneSt.woken else b.modLanes LaneSt.woken

/-- The lanes, the dies' logic rails and INH go off, and wake detection runs: state 3 (R85, R405, R418). -/
def Block.sleepNow (b : Block) : Block :=
  let b := (b.lanesOff 1).modLanes LaneSt.sleeps
  ({ b with dies := b.dies.map DieSt.down }).modNw fun n => { n with state := 3, latched := none }

/-- INH, the high-side output to T30: on in states 0, 1, 2 and 4 and off in state 3; below 3.0 V nothing drives it (R51, R64, R85,
R406). -/
def Block.inh (b : Block) : Bool := b.nw.state != 3 && decide (3000 ≤ b.mod.t30)

/-- Power-down ends in state 3 once every die's rail may go; a latched request starts the module at once, latched in both domains
(R86, R415). -/
def Block.poweredDown (b : Block) : Block :=
  if b.nw.state != 2 || !b.dies.all DieSt.mayGoDown then b
  else match b.nw.latched with
    | none => b.sleepNow
    | some (src, detail) => (((b.sleepNow.modLanes fun x => x.detect src detail 1).wakes .a).wakes .b)

/-! ## Waking (R416-R419) -/

/-- A wake source is enabled for a domain (R416); the code, the detail and the flags of its record (R417). -/
def Block.wakeCode (b : Block) (dom : Lane) : WakeSrc → Option (Nat × Nat × Nat)
  | .busPattern i =>
    let m := byteAt (pbytes b.params 0x5803 0 12) i
    if m = 1 ∨ (m = 2 ∧ dom = .b ∧ (b.lane .a).aonFault) then some (1, i.val, 0) else none
  | .busFrame i full => if byteAt (pbytes b.params 0x5803 0 12) i = 2 ∧ dom = .a then some (1, i.val, 2 + 4 * b2n full) else none
  | .pin => some (2, 0, 0)
  | .input i => if b.wakeInput i then some (3, i.val, 0) else none
  | .timer => if b.p 0x5806 0 = 0 then none else some (4, 0, 0)
  | .ring l => if (b.p 0x5805 0).testBit l.num then some (5, l.num, 0) else none

/-- An always-on domain detects a source: in state 3 the module starts, a domain that alone keeps its lane off wakes that lane, up
to take-over further sources are recorded; while the lanes still run it is a wake request (R413, R415-R418). -/
def Block.wakeDetected (b : Block) (dom : Lane) (src : WakeSrc) : Block :=
  match b.wakeCode dom src with
  | none => b
  | some (code, detail, flags) =>
    if (b.lane dom).asleep && b.nw.state != 3 then (b.modLane dom fun x => x.detect code detail flags).wakes dom
    else match b.nw.state with
    | 3 => (b.modLane dom fun x => x.detect code detail flags).wakes dom
    | 4 => b.modLane dom fun x => x.detect code detail flags
    | 2 => b.wakeRequest code detail
    | 1 =>
      if code = 2 ∨ code = 4 then b.wakeRequest code detail
      else if code = 5 then b.ringWakes (laneOf detail) else b
    | _ => b

/-- What a domain's comparator makes of a wake input's voltage: 0 below in.th.low, 1 above in.th.high, between them as at its last
check (R243, R252). -/
def InputSt.wakeLevel (x : InputSt) (dom : Lane) (mv : Int) : Bool :=
  if mv < x.wakeLow then false else if (x.wakeHigh : Int) < mv then true else x.atSleep != (x.wakeRun.get dom != 0)

/-- Two consecutive checks that find a wake input at another level than at sleep entry wake the module; a domain that has failed
makes none, and the other checks alone (R253). -/
def Block.wakeInputChecked (b : Block) (dom : Lane) (i : Nat) (mv : Int) : Block :=
  if !(b.nw.state == 3 || (b.lane dom).asleep) || !b.wakeInput i || (b.lane dom).aonFault then b
  else if (b.input i).wakeLevel dom mv = (b.input i).atSleep then b.modInput i fun x => { x with wakeRun := x.wakeRun.set dom 0 }
  else if (b.input i).wakeRun.get dom = 0 then b.modInput i fun x => { x with wakeRun := x.wakeRun.set dom 1 }
  else (b.modInput i fun x => { x with wakeRun := x.wakeRun.set dom 2 }).wakeDetected dom (.input (Fin.ofNat 48 i))

/-- No lane has taken control in time: the module returns to sleep (R418). -/
def Block.backToSleep (b : Block) : Block :=
  b.sleepNow.modNw fun n => { n with ackFailed := satNat 0xFFFFFFFF (n.ackFailed + 1), ackFailedNew := true }

/-- nw.wake.ack_time has passed at a domain: with no acknowledgement in either domain the module returns to sleep; while the
wake-coordination link has failed the domain switches off its own lane, and the rest once both have (R418). In life-cycle
state BLANK the return is not made. -/
def Block.wakeAckLate (b : Block) (life : Lifecycle) (dom : Lane) : Block :=
  if life = .blank then b
  else if !b.nw.linkFailed then
    if b.nw.state = 4 && !(b.lane .a).wakeAck && !(b.lane .b).wakeAck then b.backToSleep else b
  else if b.nw.state = 3 || (b.lane dom).wakeAck || (b.lane dom).asleep then b
  else
    let b := (b.leave dom 0).modLane dom LaneSt.sleeps
    if (b.lane dom.other).asleep then b.backToSleep else b

/-- The record of the wake at take-over: the active lane's domain, else the other one (R417). -/
def Block.wakeRecord (b : Block) (l : Lane) : Block :=
  let k := if (b.lane l).domFirst.isSome then l else l.other
  match (b.lane k).domFirst with
  | none => b
  | some (code, detail) =>
    let x := b.lane k
    let flags := x.domFlags + 8 * b2n (b.lane .a).domFirst.isSome + 16 * b2n (b.lane .b).domFirst.isSome
    let b := b.modNw fun n =>
      { n with wakeSource := code,
               record := [BitVec.ofNat 8 code, BitVec.ofNat 8 detail, BitVec.ofNat 8 flags, 0] ++ leBytes 4 x.domSources ++
                 leBytes 8 n.sleepMs }
    let b := { b with inputs := b.inputs.map fun (i : InputSt) => { i with flags := i.flags &&& 0xFF7F } }
    let b := if code = 3 then b.modInput detail fun i => { i with flags := i.flags ||| 0x80 } else b
    (b.raise l 238 code (if code = 3 then detail else noSubject) 0).modLanes fun x =>
      { x with domFirst := none, domSources := 0, domFlags := 0 }

/-- A lane that has reached step 9 acknowledges to its own domain, which passes it on while the wake-coordination link works
(R418). -/
def Block.acknowledges (b : Block) (l : Lane) : Block :=
  let b := b.modLane l fun x => { x with wakeAck := true }
  if b.nw.linkFailed then b else b.modLane l.other fun x => { x with wakeAck := true }

/-- A lane takes control: state 4 passes to state 0, with the record of the wake (R406, R417, R418). -/
def Block.wakeTaken (b : Block) (l : Lane) : Block :=
  if b.nw.state != 4 then b
  else
    let b := (b.modNw fun n => { n with state := 0, latched := none, wakeSource := 0 }).wakeRecord l
    let b := if b.nw.wakeSource = 0 then b.confirmWake else b
    if b.nw.ackFailedNew then
      (b.raise l 237 0 noSubject b.nw.ackFailed).modNw fun n => { n with ackFailedNew := false }
    else b

/-- No confirming condition within nw.wake.no_traffic: the wake is false and state 1 is entered (R419). -/
def Block.falseWake (b : Block) : Block :=
  if b.nw.state != 0 || b.nw.confirmed || !b.anyServes then b
  else
    let src := b.nw.wakeSource
    ((b.modNw fun n =>
      { n with falseCount := satNat 0xFFFFFFFF (n.falseCount + 1), confirmed := true }).raiseAll 236 0 noSubject src).sleepBegins

/-! ## Keep-awake log (R420, R421) -/

/-- A node passes the threshold: an entry is written, the oldest of 16 overwritten. -/
def Block.keepsAwake (b : Block) (network node : Nat) : Block :=
  if b.nw.state != 1 then b
  else match b.nw.awake.find? fun r => r.network == network && r.node == node with
  | none => b
  | some r =>
    let e : AwakeEntry := { network := network, node := node, running := true, start := r.start, epoch0 := r.epoch0,
                            seconds := (b.mod.epoch - r.epoch0) / epochsPerSec }
    (b.modNw fun n => { n with log := (e :: n.log).take 16 }).raiseAll 235 0 network node

/-- The 16 bytes of an entry at an epoch. -/
def AwakeEntry.bytes (e : AwakeEntry) (now : Nat) : List Byte :=
  [BitVec.ofNat 8 e.network, BitVec.ofNat 8 e.node, BitVec.ofNat 8 (b2n e.running), 0] ++
    leBytes 4 (if e.running then (now - e.epoch0) / epochsPerSec else e.seconds) ++ leBytes 8 e.start

/-! ## Commands (R422, R423) -/

/-- SLEEP_REQUEST, both functions. -/
def Block.runSleep (b : Block) (r : Req) : Block :=
  let p := r.pay
  b.check7 r 0x5801 (p.length == 4 && decide (byteAt p 0 < 2) && zerosAt p 1 3) fun b =>
  if byteAt p 0 = 1 then (b.wakeRequest 7 0).ok r 0x5801 []
  else if b.nw.state = 1 ∨ b.nw.state = 2 ∨ b.nw.holds ≠ 0 then b.reply r 0x5801 .busy
  else (b.hold r 0x5801 .sleep true).sleepBegins

/-- WAKE_HOLD. -/
def Block.runWakeHold (b : Block) (r : Req) : Block :=
  let p := r.pay
  let bit : BitVec 32 := BitVec.ofNat 32 (2 ^ r.path.prid)
  b.check7 r 0x5802 (p.length == 4 && decide (byteAt p 0 < 2) && zerosAt p 1 3) fun b =>
  if byteAt p 0 = 1 then
    (((b.modNw fun n => { n with holds := n.holds ||| bit }).confirmWake).wakeRequest 6 r.path.prid).ok r 0x5802 []
  else (b.modNw fun n => { n with holds := n.holds &&& ~~~ bit }).ok r 0x5802 []

end Sys2Proof

namespace Sys2Proof.Machine

/-- SLEEP_REQUEST (R422). -/
def execSleepRequest (q : Req) (s : State) : Host.Outcome State Fault Refusal :=
  onBlock (fun b => b.serve 0x5801 (q.withByte 0 0) fun b => b.runSleep (q.withByte 0 0)) s

/-- SLEEP_CANCEL: the same opcode with function 1 (R422). -/
def execSleepCancel (q : Req) (s : State) : Host.Outcome State Fault Refusal :=
  onBlock (fun b => b.serve 0x5801 (q.withByte 0 1) fun b => b.runSleep (q.withByte 0 1)) s

/-- WAKE_HOLD (R423). -/
def execWakeHold (q : Req) (s : State) : Host.Outcome State Fault Refusal :=
  onBlock (fun b => b.serve 0x5802 q fun b => b.runWakeHold q) s

/-- WAKE_INPUT_CHECK (R253). -/
def execWakeInputCheck (dom : Lane) (i : Input) (mv : Int) (s : State) : Host.Outcome State Fault Refusal :=
  onBlock (fun b => b.wakeInputChecked dom i mv) s

/-- NM_CYCLE: the module's NM frame on each NM bus that has not committed (R411, R412). -/
def execNmCycle (s : State) : Host.Outcome State Fault Refusal :=
  onBlock (fun b =>
    if 2 ≤ b.nw.state then b
    else b.nmBuses.foldl (fun b i =>
      if (b.bus i).committed || (b.bus i).finalSent then b else b.nmSend i (b.nw.state == 0) false) b) s

/-- NM_TIMEOUT: the final NM frame, or the commit without it (R412). -/
def execNmTimeout (i : Bus) (s : State) : Host.Outcome State Fault Refusal :=
  onBlock (fun b =>
    if b.nw.state != 1 || !b.nmBus i || (b.bus i).committed then b
    else if (b.bus i).finalSent then (b.serving.foldl (fun b l => b.canEv l i false 5 1) b).busCommits i
    else if b.busReady i then (b.modBus i fun u => { u with finalSent := true }).nmSend i false true
    else b) s

/-- POWER_DOWN_COMPLETE (R86, R415). -/
def execPowerDownComplete (s : State) : Host.Outcome State Fault Refusal := onBlock (fun b => b.poweredDown) s

/-- WAKE_SOURCE (R416, R417). -/
def execWakeSource (dom : Lane) (src : WakeSrc) (s : State) : Host.Outcome State Fault Refusal :=
  onBlock (fun b => b.wakeDetected dom src) s

/-- WAKE_PIN: a wake request while running, and a confirmation of the last wake (R413, R419). -/
def execWakePin (s : State) : Host.Outcome State Fault Refusal := onBlock (fun b => (b.confirmWake).wakeRequest 2 0) s

/-- WAKE_ACK_TIMEOUT (R418). -/
def execWakeAckTimeout (dom : Lane) (s : State) : Host.Outcome State Fault Refusal :=
  onBlock (fun b => b.wakeAckLate s.otp.lifecycle dom) s

/-- NO_TRAFFIC_TIMEOUT (R419). -/
def execNoTrafficTimeout (s : State) : Host.Outcome State Fault Refusal := onBlock (fun b => b.falseWake) s

/-- KEEPAWAKE_THRESHOLD (R420). -/
def execKeepawakeThreshold (network : Fin 14) (node : Nat) (s : State) : Host.Outcome State Fault Refusal :=
  onBlock (fun b => b.keepsAwake network node) s

/-- WAKE_COORDINATION_LINK_FAIL (R418). -/
def execWakeCoordinationLinkFail (s : State) : Host.Outcome State Fault Refusal :=
  onBlock (fun b => b.modNw fun n => { n with linkFailed := true }) s

end Sys2Proof.Machine
end

