-- ==== Sys2Proof/Machine/Bridge.lean ====
section
/-! DEFINITION. The cross-lane bridge: accesses through the window, range marks, prefetch, exclusive sequences and buffer modes
(15_cross_lane_bridge.md), and what the partition gate does with an access it refuses (R35, R149, R151, R553). -/

namespace Sys2Proof

/-! ## The gate (R35, R129, R130, R149, R151, R152) -/

/-- The PRID of a pair's access (R129). -/
def Block.accPrid (b : Block) (l : Lane) (pair : Nat) (virt : Bool) : Nat :=
  if virt then ((b.lane l).pair pair).hgprid.val else 0

/-- What the last access of a pair ended in. -/
def Block.setResult (b : Block) (l : Lane) (pair : Nat) (r : AccResult) : Block :=
  b.modLane l fun x => x.modPair pair fun p => { p with result := r, waits := none }

/-- An access that the gate refuses: an access fault at the issuing core, and a violation unless the PRID has no slice. -/
def Block.gateRefuses (b : Block) (l : Lane) (pair p cause addr : Nat) : Block :=
  let b := b.setResult l pair .fault
  if (b.slice p).phase == .none then b else b.gateViolation l p cause addr

/-- An access of a frozen PRID that map and slice permit stalls at the gate, with the PRID that it carries (R129, R152, R553). -/
def Block.gateStalls (b : Block) (l : Lane) (pair prid : Nat) (a : Access) : Block :=
  b.modLane l fun x => x.modPair pair fun p => { p with result := .stalled, stalled := some (a, prid) }

/-! ## Range marks and prefetch (R430-R433) -/

/-- First address of the bridge window. -/
def bridgeBase : Nat := 0x50000000

/-- BRIDGE_RANGE_MARK. -/
def Block.runMark (b : Block) (r : Req) : Block :=
  let p := r.pay
  let base := fieldAt p 4 4
  let len := fieldAt p 8 4
  let valid := (byteAt p 1).testBit 0
  b.check7 r 0x6001 (p.length == 12 && decide (byteAt p 0 < 16) && decide (byteAt p 1 < 4) && zerosAt p 2 2 &&
    (if valid then base % granule == 0 && decide (base < sramSize) && len % granule == 0 && decide (granule ≤ len) &&
        decide (base + len ≤ sramSize)
     else base == 0 && len == 0)) fun b =>
  b.finish r 0x6001 .ok [] (.mark ((byteAt p 1).testBit 1) (byteAt p 0) base len)

/-- A mark takes effect (R430). -/
def Block.markNow (b : Block) (consume : Bool) (entry base len : Nat) : Block :=
  b.modBridge fun r =>
    if consume then { r with consumeMarks := setAt r.consumeMarks entry (base, len) }
    else { r with prefetchMarks := setAt r.prefetchMarks entry (base, len) }

/-- An offset lies in a valid entry of a table of marks. -/
def inMarks (l : List (Nat × Nat)) (a : Nat) : Bool := l.any fun m => decide (m.1 ≤ a) && decide (a < m.1 + m.2)

/-- A read at the far memory port: its bytes, and zeros in place of those in a consume range (R431, R435). -/
def MemSt.farRead (m : MemSt) (far : Lane) (marks : List (Nat × Nat)) (a n : Nat) : List Byte × MemSt :=
  (m.read far a n, ((List.range n).filter fun i => inMarks marks (a + i)).foldl (fun m i => m.write far (a + i) [0]) m)

/-- The addresses of the lines that a read in a prefetch entry fetches: its own line, then whole lines up to the depth beyond
its end, inside the entry, the 4 KiB page and the slice (R432). -/
def Block.prefetchLines (b : Block) (p a n : Nat) : List Nat :=
  match b.bridge.prefetchMarks.find? fun m => decide (m.1 ≤ a) && decide (a < m.1 + m.2) with
  | none => []
  | some m =>
    let l0 := a / 64 * 64
    let last := a + n + b.p 0x6003 0
    ((List.range 6).map fun k => l0 + 64 * k).takeWhile fun x =>
      (x == l0 || decide (x + 64 ≤ last)) && decide (x + 64 ≤ m.1 + m.2) && x / 4096 == a / 4096 && (b.slice p).holdsSram x 64

/-- The lines of a prefetch as they are fetched at the far port. -/
def MemSt.fetchLines (m : MemSt) (far : Lane) (marks : List (Nat × Nat)) : List Nat → List PrefLine × MemSt
  | [] => ([], m)
  | x :: t =>
    let (d, m) := m.farRead far marks x 64
    let (ls, m) := MemSt.fetchLines m far marks t
    ({ addr := x, data := d } :: ls, m)

/-- Lines enter a pair's buffer of eight; the oldest go (R433). -/
def Block.holdLines (b : Block) (l : Lane) (pair : Nat) (ls : List PrefLine) : Block :=
  let old := ((b.lane l).pair pair).lines.filter fun y => !(ls.any fun x => x.addr == y.addr)
  let all := old ++ ls
  let gone := all.length - 8
  let b := b.modLane l fun x => x.modPair pair fun p => { p with lines := all.drop gone }
  if gone = 0 then b else b.brCount l fun r => { r with prefDiscards := satNat 0xFFFFFFFF (r.prefDiscards + gone) }

/-- A held line that a read lies wholly inside. -/
def Block.heldLine (b : Block) (l : Lane) (pair a n : Nat) : Option (List Byte) :=
  (((b.lane l).pair pair).lines.find? fun y => decide (y.addr ≤ a) && decide (a + n ≤ y.addr + y.data.length)).map fun y =>
    bytesAt y.data (a - y.addr) n

/-! ## Buffers (R438-R440) -/

/-- A pair may issue one more read: its own limit and a free completion entry of the lane. -/
def Block.readRoom (b : Block) (l : Lane) (pair : Nat) : Bool :=
  let rs := b.bridge.reads.get l
  let timer := b.bridge.modeInForce == 1
  let mine := (rs.filter fun r => r.pair.val == pair).length
  decide (mine < (if timer then 16 else 4)) &&
    decide (rs.length + (b.bridge.uncollected.get l).length < (if timer then 96 else 32))

/-- The line of an offset at a lane's memory is locked (R436). -/
def Block.lineLocked (b : Block) (mem : Lane) (a : Nat) : Bool :=
  match b.bridge.token with
  | some (k, _, line) => k.other == mem && line == a / 64
  | none => false

/-- Window traffic of a lane. -/
def Block.traffic (b : Block) (l : Lane) (n : Nat) : Block :=
  b.modBridge fun r => { r with traffic := r.traffic.upd l (· + 8 * n) }

/-- The mean over 10 ms, of the larger direction, in 0.01 Gbit/s (R442). -/
def Block.bridgeRate (b : Block) : Block :=
  if b.mod.epoch % 200 != 0 then b
  else b.modBridge fun r => { r with rate := satNat 65535 (max r.traffic.a r.traffic.b / 100000), traffic := .both 0 }

/-- Work of a partition on the bridge is counted once, when it is first presented (R150). -/
def Block.bridgeWork (b : Block) (l : Lane) (pair : Nat) (w : BridgeWait) : Block :=
  if b.act = l && ((b.lane l).pair pair).waits != some w then
    b.modRates w.prid fun x => { x with bridgeWork := x.bridgeWork + 8 * w.size }
  else b

/-- An access that has been performed has taken its tokens (R147); one that waits has taken none. -/
def Block.bridgeServed (b : Block) (l : Lane) (pair : Nat) (w : BridgeWait) : Block :=
  if ((b.lane l).pair pair).result = .waits then b.modLane l fun x => x.modPair pair fun p => { p with waits := some w }
  else if b.act = l then b.modRates w.prid fun x => { x with bridgeTok := x.bridgeTok - 8 * w.size }
  else b

/-- The access as the gate holds it when it stalls. -/
def bridgeAcc (virt : Bool) (op : BridgeOp) (a n : Nat) : Access :=
  { pair := none, dma := 0, virt := virt, kind := match op with | .read => .read | .lr => .read | _ => .write,
    addr := bridgeBase + a, size := n,
    data := match op with | .write d => d | .sc d => d | .amo _ d => d | _ => [] }

/-! ## Accesses (R427-R436) -/

/-- What an AMO of `n` bytes leaves in memory (R436; log entry 98). -/
def AmoOp.result (o : AmoOp) (n old arg : Nat) : Nat :=
  match o with
  | .swap => arg
  | .add => (old + arg) % 2 ^ (8 * n)
  | .xor => old ^^^ arg
  | .and => old &&& arg
  | .or => old ||| arg
  | .min => if toSigned n old ≤ toSigned n arg then old else arg
  | .max => if toSigned n old ≤ toSigned n arg then arg else old
  | .minu => Nat.min old arg
  | .maxu => Nat.max old arg

/-- An access that has passed the gate is performed at the far memory port. -/
def Block.bridgePerform (b : Block) (m : MemSt) (l : Lane) (pair p : Nat) (op : BridgeOp) (a n : Nat) : Block × MemSt :=
  let far := l.other
  let mine := fun (x : PrefLine) => decide (x.addr < a + n) && decide (a < x.addr + x.data.length)
  let pr : Pair := Fin.ofNat 6 pair
  match op with
  | .read =>
    match b.heldLine l pair a n with
    | some d => ((b.brCount l fun r => { r with hits := satNat 0xFFFFFFFF (r.hits + 1) }).setResult l pair (.done d), m)
    | none =>
      if b.lineLocked far a || !b.readRoom l pair then (b.setResult l pair .waits, m)
      else
        let (d, m) := m.farRead far b.bridge.consumeMarks a n
        let (ls, m) := m.fetchLines far b.bridge.consumeMarks (b.prefetchLines p a n)
        let rd : BridgeRead := { pair := pr, prid := Fin.ofNat 32 p, addr := a, data := d, lines := ls, abandoned := false }
        let b := (b.modBridge fun r => { r with reads := r.reads.upd l (· ++ [rd]) }).traffic far (n + 64 * ls.length)
        (b.setResult l pair .sent, m)
  | .write d =>
    if b.lineLocked far a then (b.setResult l pair .waits, m)
    else (((b.dropLines l pair mine).traffic l n).setResult l pair (.done []), m.write far a (d.take n))
  | .lr =>
    if b.bridge.token.isSome then (b.setResult l pair .waits, m)
    else
      let b := (b.dropLines l pair fun _ => true).modBridge fun r =>
        { r with token := some (l, pr, a / 64), grants := satNat 0xFFFFFFFF (r.grants + 1) }
      ((b.traffic far n).setResult l pair (.done (m.read far a n)), m)
  | .sc d =>
    if b.bridge.token = some (l, pr, a / 64) then
      (((((b.modBridge fun r => { r with token := none }).dropLines l pair mine).traffic l n).setResult l pair (.done [])),
        m.write far a (d.take n))
    else (b.setResult l pair .scFailed, m)
  | .amo o d =>
    if b.bridge.token.isSome then (b.setResult l pair .waits, m)
    else
      let b := (b.dropLines l pair fun _ => true).modBridge fun r => { r with grants := satNat 0xFFFFFFFF (r.grants + 1) }
      let old := m.read far a n
      ((b.traffic l n).setResult l pair (.done old), m.write far a (leBytes n (o.result n (leNat old) (leNat (d.take n)))))

/-- A core's access through the bridge window: alignment, slice, freeze, the far lane, pacing (R427, R428, R147). -/
def Block.bridgeAccess (b : Block) (m : MemSt) (l : Lane) (pair : Nat) (virt : Bool) (op : BridgeOp) (a n : Nat) :
    Block × MemSt :=
  let p := b.accPrid l pair virt
  if (b.lane l).st < 4 then (b, m)
  else if !(n == 1 || n == 2 || n == 4 || n == 8) || a % n != 0 then (b.setResult l pair .misaligned, m)
  else if b.drainsRange p a n then (b.setResult l pair .fault, m)
  else if (b.slice p).phase == .none || !(b.slice p).holdsSram a n then (b.gateRefuses l pair p 1 (bridgeBase + a), m)
  else if (b.slice p).frozen then (b.gateStalls l pair p (bridgeAcc virt op a n), m)
  else if !b.serves l.other then (b.setResult l pair .fault, m)
  else
    let w : BridgeWait := { prid := p, virt := virt, op := op, addr := a, size := n }
    let b := b.bridgeWork l pair w
    let (b, m) := if (b.rates p).bridgeTok < 8 * n then (b.setResult l pair .waits, m) else b.bridgePerform m l pair p op a n
    (b.bridgeServed l pair w, m)

/-- The token of a read whose completion has arrived. -/
def Block.readToken (b : Block) (l : Lane) (r : BridgeRead) : Token :=
  { Token.plain ((b.lane l).pair r.pair.val).main.arch (r.prid != 0) none with
    out := tokenOut (bridgeBase + r.addr) r.data.length 0 r.prid.val }

/-- A completion reaches the requester: its core takes it, with the prefetched lines; an abandoned one is discarded, in timer
mode held until it is collected or timed out (R438, R440). -/
def Block.completes (b : Block) (l : Lane) (pair : Nat) (collected : Bool) : Block :=
  match (b.bridge.reads.get l).find? fun r => r.pair.val == pair with
  | none => b
  | some r =>
    let b := b.modBridge fun x => { x with reads := x.reads.upd l (·.erase r) }
    if collected && !r.abandoned then
      let b := (b.setResult l pair (.done r.data)).holdLines l pair r.lines
      b.accRetires l pair (b.readToken l r) false
    else if b.bridge.modeInForce = 1 then b.modBridge fun x => { x with uncollected := x.uncollected.upd l (· ++ [r]) }
    else b

/-- The pair must hold an access back until its comparison: all but the reads outside every consume range (R287, R431). -/
def Block.bridgeHeld (b : Block) (op : BridgeOp) (a n : Nat) : Bool :=
  match op with
  | .read => (List.range n).any fun i => inMarks b.bridge.consumeMarks (a + i)
  | _ => true

/-- The number that stands for an operation in a token's request field. -/
def BridgeOp.code : BridgeOp → Nat
  | .read => 0 | .write _ => 1 | .lr => 2 | .sc _ => 3 | .amo .. => 4

/-- A pair's access through the bridge window, with its retirement (R284-R288). -/
def Block.bridgeThrough (b : Block) (m : MemSt) (l : Lane) (k : Nat) (virt : Bool) (op : BridgeOp) (a n : Nat) : Block × MemSt :=
  b.throughPair m l k (b.accToken l k virt (bridgeBase + a) n op.code) (b.bridgeHeld op a n) (b.bridgeAccess m l k virt op a n)

/-- The accesses of a lane that wait at the bridge: pair and access (R147). -/
def Block.bridgeWaiting (b : Block) (l : Lane) : List (Nat × BridgeWait) :=
  (List.range 6).filterMap fun k => ((b.lane l).pair k).waits.map fun w => (k, w)

/-- One turn of the bridge: of the partitions whose waiting access has its tokens, the one whose turn it is by part.weight.bridge
is served (R148, R426). -/
def Block.bridgeTurn (b : Block) (m : MemSt) (l : Lane) (tried : List Nat) : Block × MemSt × List Nat :=
  let ready := (b.bridgeWaiting l).filter fun e => !tried.contains e.1 && decide (8 * e.2.size ≤ (b.rates e.2.prid).bridgeTok)
  match (b.lane l).brSched.pick (fun p => b.p 0x1004 p) (ready.map fun e => e.2.prid) with
  | none => (b, m, tried)
  | some (p, sch) =>
    match ready.find? fun e => e.2.prid == p with
    | none => (b, m, tried)
    | some (k, w) =>
      let b := b.modLane l fun x => { x with brSched := sch }
      let (b, m) := b.bridgeThrough m l k w.virt w.op w.addr w.size
      let served := ((b.lane l).pair k).waits.isNone
      (if served then b.modLane l fun x => { x with brSched := x.brSched.charge p (8 * w.size) } else b, m, k :: tried)

/-- The accesses that wait at a lane's end of the bridge, each tried once. -/
def Block.bridgeTurns (b : Block) (m : MemSt) (l : Lane) : Block × MemSt :=
  let (b, m, _) := (List.range 6).foldl (fun (acc : Block × MemSt × List Nat) _ => acc.1.bridgeTurn acc.2.1 l acc.2.2) (b, m, [])
  (b, m)

/-- EV044, at most once per second (R436, R440). -/
def Block.bridgeEvent (b : Block) (l : Lane) (cause : Nat) : Block := b.raiseLimited (0x300000 + cause) l 44 cause noSubject 0

/-- What a freeze does to a partition's bridge accesses: outstanding reads are abandoned, prefetched lines go (R152, R433). -/
def Block.bridgeFreezes (b : Block) (p : Nat) : Block :=
  let mark := fun (r : BridgeRead) => if r.prid.val = p then { r with abandoned := true } else r
  let b := b.modBridge fun r => { r with reads := r.reads.map fun l => l.map mark }
  [Lane.a, Lane.b].foldl (fun b l => (List.range 6).foldl (fun b k =>
    if ((b.lane l).pair k).hgprid.val = p || p == 0 then b.dropLines l k (fun _ => true) else b) b) b

end Sys2Proof

namespace Sys2Proof.Machine

/-- BRIDGE_RANGE_MARK (R430). -/
def execBridgeRangeMark (q : Req) (s : State) : Host.Outcome State Fault Refusal :=
  onBlock (fun b => b.serve 0x6001 q fun b => b.runMark q) s

/-- BRIDGE_WINDOW_ACCESS (R427-R436). -/
def execBridgeWindowAccess (l : Lane) (pair : Pair) (virt : Bool) (op : BridgeOp) (offset size : Nat) (s : State) :
    Host.Outcome State Fault Refusal :=
  let (b, m) := s.b.bridgeThrough s.mem l pair.val virt op offset size
  .next ((s.withBlock b).withMem m)

/-- PREFETCH_LIFE_EXPIRY: the oldest held line goes (R433). -/
def execPrefetchLifeExpiry (l : Lane) (pair : Pair) (s : State) : Host.Outcome State Fault Refusal :=
  onBlock (fun b =>
    match ((b.lane l).pair pair.val).lines with
    | [] => b
    | x :: _ => b.dropLines l pair.val fun y => y.addr == x.addr) s

/-- BRIDGE_COMPLETION (R438, R440). -/
def execBridgeCompletion (l : Lane) (pair : Pair) (collected : Bool) (s : State) : Host.Outcome State Fault Refusal :=
  onBlock (fun b => b.completes l pair.val collected) s

/-- LOCK_EXPIRY: the far port releases a lock held for 2 us (R436). -/
def execLockExpiry (s : State) : Host.Outcome State Fault Refusal :=
  onBlock (fun b =>
    match b.bridge.token with
    | none => b
    | some (k, _, _) =>
      (b.modBridge fun r => { r with token := none, expired := satNat 0xFFFFFFFF (r.expired + 1) }).bridgeEvent k.other 1) s

/-- COMPLETION_TIMEOUT: the oldest uncollected completion of a lane is discarded (R440). -/
def execCompletionTimeout (l : Lane) (s : State) : Host.Outcome State Fault Refusal :=
  onBlock (fun b =>
    match b.bridge.uncollected.get l with
    | [] => b
    | _ :: t =>
      ((b.modBridge fun r => { r with uncollected := r.uncollected.set l t }).brCount l fun r =>
        { r with discards := satNat 0xFFFFFFFF (r.discards + 1) }).bridgeEvent l 2) s

/-- FENCE: every earlier bridge write has been performed at the far port, so it completes; ordering reads it discards the
pair's prefetched lines (R429, R433). -/
def execFence (l : Lane) (pair : Pair) (virt : Bool) (order : FenceOrder) (s : State) : Host.Outcome State Fault Refusal :=
  onBlock (fun b =>
    if b.pairsHeld then b else
    let b := if order.reads then b.dropLines l pair.val (fun _ => true) else b
    let b := if order.writes then b.setResult l pair.val (.done []) else b
    b.retires l pair.val (Token.plain ((b.lane l).pair pair.val).main.arch virt none) false) s

end Sys2Proof.Machine
end

