-- ==== Sys2Proof/Machine/Keys.lean ====
section
/-! DEFINITION. The key store: tree, blobs, loading, importing, replacing, evicting and destroying keys, life-cycle
transitions and the tamper alarm (16_key_store.md). -/

namespace Sys2Proof

/-! ## The tree (R443-R447) -/

/-- A node's generation. -/
def KeySt.gen (k : KeySt) (n : Nat) : Half := k.gens.getD n 0

/-- The platform root: the Spire derived with the life-cycle code (R444). -/
def KeySt.platformRoot (k : KeySt) : List Byte := Config.kdf Config.spire [1] (leBytes 2 (k.gen 1).toNat ++ leBytes 1 k.life.num)

/-- The tenant root, or the test root from an all-zero key (R444, R445). -/
def KeySt.tenantRoot (k : KeySt) : List Byte :=
  Config.kdf (if k.testRoot then zeroBytes 32 else Config.spire) [2]
    (leBytes 2 (k.gen 2).toNat ++ [if k.testRoot then 0xFF else 0])

/-- The key of a node that blobs hang under: 3 to 5 under the platform root, 8 to 40 under the tenant root. -/
def KeySt.nodeKey (k : KeySt) (n : Nat) : List Byte :=
  Config.kdf (if n < 8 then k.platformRoot else k.tenantRoot) (leBytes 1 n) (leBytes 2 (k.gen n).toNat ++ [0])

/-- The private import key of slot 255 (R450). -/
def KeySt.importKey (k : KeySt) : List Byte := Config.kdf k.platformRoot [0x7E] []

/-- key.import.pub: zero in RETIRED (R468). -/
def KeySt.importPub (k : KeySt) : List Byte := if k.life = .retired then zeroBytes 96 else Config.p384Pub k.importKey

/-- A parent node of blobs. -/
def blobParent (n : Nat) : Bool := n == 3 || n == 4 || n == 5 || (decide (8 ≤ n) && decide (n ≤ 40))

/-- A node of the tenant class: under node 2. -/
def tenantNode (n : Nat) : Bool := decide (8 ≤ n) && decide (n ≤ 40)

/-! ## Blobs (R448, R449) -/

/-- Key material bytes by type. -/
def keyLen : Nat → Nat
  | 1 => 16 | 2 => 32 | 3 => 32 | 4 => 64 | 5 => 96 | _ => 0

/-- The key check value: the first four bytes as a little-endian word. -/
def kcvOf (type : Nat) (key : List Byte) : Word :=
  BitVec.ofNat 32 (leNat ((if type = 5 then Config.sha384 key else Config.cmac key []).take 4))

/-- The first 16 bytes of a blob are well formed, and the owner is the one its parent node belongs to. -/
def blobHeadOk (l : List Byte) : Bool :=
  let n := byteAt l 2
  let o := byteAt l 9
  byteAt l 0 == 1 && decide (1 ≤ byteAt l 1) && decide (byteAt l 1 ≤ 5) && blobParent n && decide (byteAt l 3 < 2) &&
    decide (byteAt l 8 < 128) && zerosAt l 10 2 &&
    (if n < 8 then o == 0xFF else if n = 40 then o == 0xFE else o == n - 8) && (decide (8 ≤ n) || fieldAt l 6 2 == 0)

/-- The key a blob header describes, with its material. -/
def keyOf (l : List Byte) (material : List Byte) : KeySlot :=
  { type := byteAt l 1, uses := BitVec.ofNat 8 (byteAt l 8), owner := byteAt l 9, node := byteAt l 2,
    kcv := BitVec.ofNat 32 (fieldAt l 12 4), gen := BitVec.ofNat 16 (fieldAt l 4 2), material := material, replacing := false,
    ackOnly := false }

/-- The blob of a key under its header (R449). -/
def KeySt.wrap (k : KeySt) (head key : List Byte) : List Byte :=
  let pk := k.nodeKey (byteAt head 2)
  let iv := (Config.cmac (Config.kdf pk [0x7F] [0]) (head ++ key)).take 12
  let ct := Config.gcmText pk iv key
  head ++ iv ++ zeroBytes 4 ++ ct ++ Config.gcmTag pk iv head ct

/-- The key material a blob carries when it authenticates and its KCV is right (R449, R454 check 8.5). -/
def KeySt.unwrap (k : KeySt) (l : List Byte) : Option (List Byte) :=
  let pk := k.nodeKey (byteAt l 2)
  let head := l.take 16
  let iv := bytesAt l 16 12
  let ct := bytesAt l 32 (l.length - 48)
  let key := Config.gcmText pk iv ct
  if Config.gcmTag pk iv head ct == l.drop (l.length - 16) && kcvOf (byteAt l 1) key == BitVec.ofNat 32 (fieldAt l 12 4)
  then some key else none

/-- The key material of an import: header, ephemeral key, IV, material and tag (R452, R453). -/
def KeySt.import (k : KeySt) (l : List Byte) : Option (List Byte) :=
  let head := l.take 16
  let kek := (Config.kdf (Config.ecdh k.importKey (bytesAt l 16 96)) [0x7D] (leBytes 8 Config.identity.toNat)).take 32
  let iv := bytesAt l 112 12
  let ct := bytesAt l 124 (l.length - 140)
  let key := Config.gcmText kek iv ct
  if Config.gcmTag kek iv head ct == l.drop (l.length - 16) && kcvOf (byteAt l 1) key == BitVec.ofNat 32 (fieldAt l 12 4)
  then some key else none

/-! ## KEY_LOAD and KEY_REPLACE (R452-R456) -/

/-- The bytes behind the 8-byte head of a key request. -/
def keyBody (p : List Byte) : List Byte := p.drop 8

/-- Check 7 of KEY_LOAD and KEY_REPLACE. -/
def keyPayOk (p : List Byte) : Bool :=
  let l := keyBody p
  decide (24 ≤ p.length) && decide (fieldAt p 0 2 ≤ 254) && decide (byteAt p 2 < 2) && zerosAt p 3 1 &&
    fieldAt p 4 4 == l.length && blobHeadOk l &&
    (if byteAt p 2 = 0 then l.length == 48 + keyLen (byteAt l 1) && zerosAt l 28 4
     else l.length == 140 + keyLen (byteAt l 1))

/-- The owner a slot's key must name: the slice that holds it, the platform for Ottum's slots. -/
def Block.slotOwner? (b : Block) (i : Nat) : Option Nat :=
  if 240 ≤ i then some 0xFF
  else (List.range 32).find? fun p => (b.slice p).phase != .none && inCounts (b.slice p).slots i

/-- The slots a KEY_LOAD or KEY_REPLACE may name (R450). -/
def slotAllows (replace : Bool) (i : Nat) : Bool :=
  decide (i < 240) || (decide (242 ≤ i) && decide (i ≤ 251)) || (replace && decide (i ≤ 253))

/-- Check 8.1: the owner of the blob is the slot's holder, shared keys excepted. -/
def Block.ownerFits (b : Block) (i owner : Nat) : Bool :=
  match b.slotOwner? i with
  | some p => owner == p || (decide (i < 240) && owner == 0xFE)
  | none => false

/-- Check 8.2: loads are blocked, the life-cycle state forbids, the tree is not unlocked, or the test bit is wrong. -/
def Block.keyLocked (b : Block) (l : List Byte) : Bool :=
  let k := b.keys
  let tenant := tenantNode (byteAt l 2)
  k.blocked || k.life == .retired || k.state == 4 || (k.state == 3) || (tenant && k.life == .blank) ||
    ((byteAt l 3).testBit 0 != (tenant && k.testRoot))

/-- Check 8.3: a glitch-class alarm stands. -/
def Block.keyGlitch (b : Block) : Bool := b.keys.state == 1 || b.keys.state == 2 || b.keys.pendingAlarm.isSome

/-- Check 8.4: the generations of the blob are not the table's. -/
def Block.keyStale (b : Block) (l : List Byte) : Bool :=
  let n := byteAt l 2
  fieldAt l 4 2 != (b.keys.gen n).toNat || (tenantNode n && fieldAt l 6 2 != (b.keys.gen 2).toNat)

/-- A slot is occupied, the loads completed and not yet in effect included. -/
def Block.slotOccupied (b : Block) (i : Nat) : Bool :=
  (b.slot i).type != 0 || b.mail.done.any fun a => match a.effect with | .keyLoad s _ => s == i | _ => false

/-- The response payload of a key request: the slot, and for an import the new blob (R455). -/
def keyReply (slot : Nat) (blob : List Byte) : List Byte := leBytes 2 slot ++ zeroBytes 2 ++ blob

/-- KEY_LOAD and KEY_REPLACE: the checks 8.1 to 8.7 in their order, then the load, or the operation that goes on. -/
def Block.runKey (b : Block) (r : Req) (op : Nat) (replace : Bool) : Block :=
  let p := r.pay
  let i := fieldAt p 0 2
  let form1 := byteAt p 2 == 1
  let l := keyBody p
  b.check7 r op (keyPayOk p) fun b =>
  b.needRoom r op (4 + if form1 then 48 + keyLen (byteAt l 1) else 0) fun b =>
  if !slotAllows replace i then b.reply r op .denied
  else if !b.ownerFits i (byteAt l 9) then (b.reply r op .denied).nameViolation r 0
  else if b.keyLocked l then b.reply r op .locked
  else if b.keyGlitch then b.reply r op .tamperAbort
  else if b.keyStale l then b.reply r op .staleGeneration
  else match (if form1 then b.keys.import l else b.keys.unwrap l) with
  | none =>
    let b := if replace then b.raiseAll 244 1 i 0 else b
    b.reply r op .badCheck
  | some key =>
    let k := keyOf l key
    let blob := if form1 then b.keys.wrap (l.take 16) key else []
    if !replace then
      if b.slotOccupied i then b.reply r op .busy
      else if form1 then b.hold r op (.keyImport i k blob) true
      else b.finish r op .ok (keyReply i []) (.keyLoad i k)
    else
      let old := b.slot i
      if 4 ≤ b.keys.shadows then b.reply r op .busy
      else if old.type = 0 ∨ old.type ≠ k.type ∨ old.owner ≠ k.owner ∨ old.uses ≠ k.uses then b.reply r op .badParam
      else
        let b := (b.modKeys fun s => { s with shadows := s.shadows + 1 }).modSlot i fun s => { s with replacing := true }
        b.hold r op (.keyReplace i k blob false) true

/-- A key takes its slot (R455); Ottum keeps the blob of its own slots (R450). -/
def Block.keyNow (b : Block) (i : Nat) (k : KeySlot) : Block :=
  let b := b.modSlot i fun _ => k
  if i = 240 ∨ i = 241 ∨ i = 252 ∨ i = 253 then
    b.modKeys fun s => { s with blobs := (i, s.life.num, k) :: s.blobs.filter fun e => e.1 != i }
  else b

/-- A replacement is over: its shadow register is free and the slot no longer replacing (R457). -/
def Block.shadowFree (b : Block) (i : Nat) : Block :=
  (b.modKeys fun s => { s with shadows := s.shadows - 1 }).modSlot i fun s => { s with replacing := false }

/-- The pending key operation on a slot finishes: an import completes, a replacement has unwrapped and self-tested (R453,
R456). -/
def Block.keyDone (b : Block) (i : Nat) : Block :=
  match b.mail.pend.find? fun e => match e.kind with
    | .keyImport s _ _ => s == i
    | .keyReplace s _ _ ok => s == i && !ok
    | _ => false with
  | none => b
  | some e =>
    match e.kind with
    | .keyImport _ k blob =>
      b.finishWhere (fun x => x.req == e.req && x.kind == e.kind) .ok (keyReply i blob) (.keyLoad i k)
    | .keyReplace _ k blob _ =>
      if Config.selfTestOk k.material then
        b.modMail fun m => { m with pend := m.pend.map fun x =>
          if x.req == e.req && x.kind == e.kind then { x with kind := .keyReplace i k blob true } else x }
      else
        ((b.shadowFree i).raiseAll 244 2 i 0).finishWhere (fun x => x.req == e.req && x.kind == e.kind) .badCheck [] .none
    | _ => b

/-- The boundary at which replacements swap: every one whose self-test has passed (R456). -/
def Block.keySwaps (b : Block) : Block :=
  b.mail.pend.foldl (fun b e => match e.kind with
    | .keyReplace i k blob true =>
      ((b.shadowFree i).keyNow i k).finishWhere (fun x => x.req == e.req && x.kind == e.kind) .ok (keyReply i blob) .none
    | _ => b) b

/-! ## Eviction and destruction (R458, R459) -/

/-- KEY_EVICT. -/
def Block.runEvict (b : Block) (r : Req) : Block :=
  let p := r.pay
  b.check7 r 0x7004 (p.length == 4 && decide (fieldAt p 0 2 ≤ 255) && zerosAt p 2 2) fun b =>
  if 254 ≤ fieldAt p 0 2 then b.reply r 0x7004 .denied
  else if b.keys.life == .retired then b.reply r 0x7004 .locked
  else b.finish r 0x7004 .ok [] (.keyEvict (fieldAt p 0 2))

/-- A slot is wiped. -/
def Block.evictNow (b : Block) (i : Nat) : Block := b.modSlot i fun _ => KeySlot.empty

/-- KEY_DESTROY: `left` is whether the OTP destroy counter is not exhausted; the generation advances at once. -/
def Block.runDestroy (b : Block) (left : Bool) (r : Req) : Block :=
  let p := r.pay
  let n := byteAt p 0
  b.check7 r 0x7003 (p.length == 4 && zerosAt p 1 3) fun b =>
  b.needRoom r 0x7003 4 fun b =>
  if !(n == 2 || tenantNode n) then b.reply r 0x7003 .denied
  else if b.keys.life == .retired || !left then b.reply r 0x7003 .locked
  else
    let g := b.keys.gen n + 1
    (b.modKeys fun k => { k with gens := setAt k.gens n g }).finish r 0x7003 .ok (leBytes 2 g.toNat ++ zeroBytes 2) (.keyDestroy n)

/-- A key lies under a node that is destroyed. -/
def underNode (n : Nat) (k : KeySlot) : Bool := k.type != 0 && (k.node == n || (n == 2 && tenantNode k.node))

/-- The boundary of a destruction: the slots under the node are evicted, operations on their keys end STALE_GENERATION with
their output wiped (R459, R486 case 4). -/
def Block.destroyNow (b : Block) (n : Nat) : Block :=
  let ctxUses := fun (c : Nat) => underNode n (b.slot (b.ctx c).slot)
  let uses := fun (e : Pend) => match e.kind with
    | .cipher c _ _ _ => ctxUses c
    | .keyImport _ k _ => underNode n k
    | .keyReplace _ k _ _ => underNode n k
    | _ => false
  let shadows := b.mail.pend.filterMap fun e => match e.kind with
    | .keyReplace i k _ _ => if underNode n k then some i else none
    | _ => none
  let b := (shadows.foldl Block.shadowFree b).finishWhere uses .staleGeneration [] .none
  let b := b.modKeys fun k => { k with slots := k.slots.map fun s => if underNode n s then KeySlot.empty else s }
  b.raiseAll 243 0 n 0

/-- The test root takes the real root's place: every slot under node 2 is evicted (R445). -/
def Block.testRootNow (b : Block) : Block :=
  if b.keys.testRoot then b
  else b.modKeys fun k =>
    { k with testRoot := true, slots := k.slots.map fun s => if underNode 2 s then KeySlot.empty else s }

/-! ## Unlock and the alarm (R447, R450, R463-R466) -/

/-- Ottum loads a slot of its own from its blob, when the blob was made in the present life-cycle state (R446, R450). -/
def Block.ownLoad (b : Block) (i : Nat) (ack : Bool) : Block :=
  match b.keys.blobs.find? fun e => e.1 == i && e.2.1 == b.keys.life.num with
  | some e => b.modSlot i fun _ => { e.2.2 with ackOnly := ack }
  | none => b

/-- Slots 254 and 255: the verification key of the state and the import key (R450). -/
def Block.ownKeys (b : Block) : Block :=
  let fw := Config.firmwareKey b.keys.life.num
  let ik := b.keys.importKey
  let b := b.modSlot 254 fun _ => { KeySlot.empty with type := 5, uses := 0x20, owner := 0xFF, node := 5, kcv := kcvOf 5 fw, material := fw }
  b.modSlot 255 fun _ => { KeySlot.empty with type := 5, uses := 0, owner := 0xFF, node := 5, material := ik }

/-- Key unlock at step 8: the generation table is accepted, then Ottum's slots are loaded (R447, R450). -/
def Block.unlockKeys (b : Block) : Block :=
  if b.keys.life == .retired then b
  else if !Config.genTableOk then
    (b.modKeys fun k => { k with state := 4, tableOk := false }).raiseAll 244 3 noSubject 0
  else
    let b := b.modKeys fun k => { k with state := 0, tableOk := true, unlocked := true, blocked := false }
    ([240, 241, 252, 253].foldl (fun b i => b.ownLoad i false) b).ownKeys

/-- The cause code of a monitor and whether it is intrusion-class (R463, R468). -/
def TamperKind.code : TamperKind → Nat
  | .rail => 1 | .temperature => 2 | .mesh => 3 | .loop => 4

/-- The lid mesh and the enclosure loop are intrusion-class. -/
def TamperKind.intrusion : TamperKind → Bool
  | .rail => false | .temperature => false | .mesh => true | .loop => true

/-- A start with an alarm present: key unlock is skipped (R464). -/
def Block.unlockSkipped (b : Block) (intrusion : Bool) : Block :=
  let b := b.modKeys fun k => { k with state := if intrusion then 3 else 2, unlocked := false, blocked := intrusion }
  let b := if intrusion then b.ownLoad 240 true else b
  b.raiseAll 245 (if intrusion then 2 else 1) noSubject 0

/-- A monitor detects an alarm: counted, key service is suspended, its effects wait for the boundary of R463. In sleep the
domain latches it with its class (R88, R464). -/
def Block.tamper (b : Block) (l : Lane) (k : TamperKind) : Block :=
  let i := k.intrusion
  let b := b.modKeys fun s => { s with alarms := satNat 0xFFFFFFFF (s.alarms + 1), cause := k.code }
  let b := b.modLane l fun x =>
    { x with glitchPresent := x.glitchPresent || !i, intrusionPresent := x.intrusionPresent || i, tamperCode := k.code }
  if b.nw.state = 3 then
    b.modLane l fun x => { x with latchedTamper := some (i || x.latchedTamper == some true) }
  else b.modKeys fun s =>
    { s with pendingAlarm := match s.pendingAlarm with
        | some (j, e) => some (i || j, e)
        | none => some (i, b.mod.epoch) }

/-- Key operations whose response is not visible end TAMPER_ABORT and change no slot (R457, R463). -/
def Block.keysAbort (b : Block) : Block :=
  let shadows := b.mail.pend.filterMap fun e => match e.kind with | .keyReplace i _ _ _ => some i | _ => none
  let b := shadows.foldl Block.shadowFree b
  let b := b.finishWhere (fun e => match e.kind with | .keyImport .. => true | .keyReplace .. => true | _ => false) .tamperAbort [] .none
  b.modMail fun m => { m with done := m.done.map fun a =>
    if (a.opcode = 0x7001 ∨ a.opcode = 0x7002) ∧ a.status = .ok then
      { a with status := .tamperAbort, payload := [], length := 0, effect := .none }
    else a }

/-- The boundary of R463: both lanes apply an alarm detected no later than the epoch before the one that ends (R464). -/
def Block.alarmNow (b : Block) : Block :=
  match b.keys.pendingAlarm with
  | none => b
  | some (intrusion, e) =>
    if b.mod.epoch ≤ e then b
    else
      let b := (b.keysAbort).modKeys fun k => { k with pendingAlarm := none }
      if intrusion then
        let b := b.finishWhere (fun x => match x.kind with | .cipher .. => true | _ => false) .tamperAbort [] .none
        let b := b.modKeys fun k =>
          { k with blocked := true, state := 3, slots := mapIdxFrom (fun i s => if i < 254 then KeySlot.empty else s) 0 k.slots }
        (b.ownLoad 240 true).raiseAll 241 b.keys.cause noSubject 0
      else
        (b.modKeys fun k => { k with state := if k.state = 0 then 1 else k.state }).raiseAll 240 b.keys.cause noSubject 0

/-- The glitch condition has been clear for 1 s in both lanes: service resumes, an unlock that was skipped runs (R464). -/
def Block.glitchOver (b : Block) : Block :=
  let b := b.modLanes fun x => { x with glitchPresent := false }
  match b.keys.state with
  | 1 => (b.modKeys fun k => { k with state := 0 }).raiseAll 242 1 noSubject 0
  | 2 => (b.unlockKeys).raiseAll 242 1 noSubject 0
  | _ => b

/-- TAMPER_ACK at its boundary (R114, R466): no intrusion-class condition stands any more; loads are unblocked, Ottum's slots are
loaded again, and EV242 tells of it. A glitch that still stands suspends the service. -/
def Block.ackNow (b : Block) : Block :=
  let b := b.modLanes fun x => { x with intrusionPresent := false }
  if !b.keys.blocked then b
  else
    let b := if b.keys.unlocked then
        [240, 241, 252, 253].foldl (fun b i => b.ownLoad i false)
          (b.modKeys fun k => { k with blocked := false, state := 0 })
      else (b.modKeys fun k => { k with blocked := false }).unlockKeys
    let glitch := (b.lane .a).glitchPresent || (b.lane .b).glitchPresent
    let b := if glitch && b.keys.state == 0 then b.modKeys fun k => { k with state := 1 } else b
    b.raiseAll 242 2 noSubject 0

/-- TAMPER_ACK. Whether a condition that a monitor has seen is still present is no command: it is a free value. -/
def Block.runTamperAck (b : Block) (r : Req) : Block :=
  let p := r.pay
  b.check7 r 0x7005 (p.length == 4 && byteAt p 0 == 1 && zerosAt p 1 3) fun b =>
  let seen := (b.lane .a).intrusionPresent || (b.lane .b).intrusionPresent
  let (n, b) := if seen then b.drawNat else (0, b)
  if n % 2 = 1 then b.reply r 0x7005 .locked
  else b.finish r 0x7005 .ok [] .tamperAck

/-! ## Life cycle (R460, R461) -/

/-- The transitions that are allowed. -/
def lifeStep : Lifecycle → Nat → Bool
  | .blank, 1 => true | .blank, 2 => true
  | .development, 2 => true | .development, 3 => true | .development, 4 => true
  | .production, 3 => true | .production, 4 => true
  | .fieldReturn, 4 => true
  | _, _ => false

/-- LIFECYCLE_SET. -/
def Block.runLifecycle (b : Block) (r : Req) : Block :=
  let p := r.pay
  b.check7 r 0x8020 (p.length == 4 && decide (byteAt p 0 ≤ 4) && zerosAt p 1 3) fun b =>
  if lifeStep b.keys.life (byteAt p 0) then b.hold r 0x8020 (.lifecycle (byteAt p 0)) true else b.reply r 0x8020 .locked

/-- The life-cycle state that a pending LIFECYCLE_SET writes. -/
def Block.lifeTarget (b : Block) : Option Lifecycle :=
  b.mail.pend.findSome? fun e => match e.kind with | .lifecycle t => lifecycleOf? t | _ => none

/-- Both writes are complete: a transition to RETIRED has written OFF into every store; the final OK follows (R461). -/
def Block.lifeWritten (b : Block) : Block :=
  match b.lifeTarget with
  | none => b
  | some t =>
    let b := if t = .retired then
        { b with dies := b.dies.map fun d => { d.writeStore (List.replicate 16 FsEntry.off) with storing := none } }
      else b
    b.finishWhere (fun e => match e.kind with | .lifecycle _ => true | _ => false) .ok [] .lifeRestart

/-- The response is visible: every slot is wiped and both lanes restart together (R461). -/
def Block.lifeRestarts (b : Block) : Block :=
  let b := b.modKeys fun k => { k with slots := k.slots.map fun _ => KeySlot.empty, unlocked := false }
  b.lanesOff 0

end Sys2Proof

namespace Sys2Proof.Machine

/-- KEY_LOAD (R452-R455). -/
def execKeyLoad (q : Req) (s : State) : Host.Outcome State Fault Refusal :=
  onBlock (fun b => b.serve 0x7001 q fun b => b.runKey q 0x7001 false) s

/-- KEY_REPLACE (R456). -/
def execKeyReplace (q : Req) (s : State) : Host.Outcome State Fault Refusal :=
  onBlock (fun b => b.serve 0x7002 q fun b => b.runKey q 0x7002 true) s

/-- KEY_DESTROY: a destruction advances the OTP destroy counter (R447, R459). -/
def execKeyDestroy (q : Req) (s : State) : Host.Outcome State Fault Refusal :=
  let b := s.b.serve 0x7003 q fun b => b.runDestroy (decide (s.otp.destroyed < 1024)) q
  let n := if b.keys.gens = s.b.keys.gens then s.otp.destroyed else s.otp.destroyed + 1
  .next ((s.withBlock b).withOtp { s.otp with destroyed := n })

/-- KEY_EVICT (R458). -/
def execKeyEvict (q : Req) (s : State) : Host.Outcome State Fault Refusal :=
  onBlock (fun b => b.serve 0x7004 q fun b => b.runEvict q) s

/-- TAMPER_ACK (R466). -/
def execTamperAck (q : Req) (s : State) : Host.Outcome State Fault Refusal :=
  onBlock (fun b => b.serve 0x7005 q fun b => b.runTamperAck q) s

/-- KEY_OPERATION_DONE (R455, R456). -/
def execKeyOperationDone (slot : Fin 255) (s : State) : Host.Outcome State Fault Refusal := onBlock (fun b => b.keyDone slot) s

/-- LIFECYCLE_SET (R460). -/
def execLifecycleSet (q : Req) (s : State) : Host.Outcome State Fault Refusal :=
  onBlock (fun b => b.serve 0x8020 q fun b => b.runLifecycle q) s

/-- LIFECYCLE_WRITTEN: the new state stands in OTP (R461). -/
def execLifecycleWritten (s : State) : Host.Outcome State Fault Refusal :=
  let otp := match s.b.lifeTarget with
    | some t => { s.otp with lifecycle := t }
    | none => s.otp
  .next ((s.withBlock s.b.lifeWritten).withOtp otp)

/-- TAMPER_ALARM (R463). -/
def execTamperAlarm (l : Lane) (k : TamperKind) (s : State) : Host.Outcome State Fault Refusal := onBlock (fun b => b.tamper l k) s

/-- GLITCH_CLEAR (R464). -/
def execGlitchClear (s : State) : Host.Outcome State Fault Refusal := onBlock (fun b => b.glitchOver) s

end Sys2Proof.Machine
end

