-- ==== Sys2Proof/Machine/Cipher.lean ====
section
/-! DEFINITION. The cipher engine: contexts, counters, GCM and CMAC operations, external storage through XTS
(17_cipher_engine.md). -/

namespace Sys2Proof

/-! ## Contexts (R469-R473) -/

/-- The key in a slot fits a mode (R469). -/
def modeFits (mode : Nat) (k : KeySlot) : Bool :=
  match mode with
  | 1 => (k.type == 1 || k.type == 2) && k.uses.getLsbD 1
  | 2 => (k.type == 1 || k.type == 2) && (k.uses.getLsbD 3 || k.uses.getLsbD 4)
  | 3 => (k.type == 3 || k.type == 4) && k.uses.getLsbD 0
  | _ => false

/-- The context of a 48-byte record (R471). -/
def ctxOfBytes (l : List Byte) : CipherCtx :=
  { CipherCtx.empty with
    mode := byteAt l 0, slot := fieldAt l 4 2, fixedIv := fieldAt l 6 2, width := byteAt l 8, counter := fieldAt l 16 8,
    offset := fieldAt l 24 4, length := fieldAt l 28 4 }

/-- The 48-byte record of a context. -/
def CipherCtx.bytes (c : CipherCtx) : List Byte :=
  leBytes 1 c.mode ++ zeroBytes 3 ++ leBytes 2 c.slot ++ leBytes 2 c.fixedIv ++ leBytes 1 c.width ++ zeroBytes 7 ++
    leBytes 8 c.counter ++ leBytes 4 c.offset ++ leBytes 4 c.length ++ leBytes 4 c.kcv.toNat ++ zeroBytes 12

/-- Check 7 of CIPHER_CTX_SET (R471). -/
def ctxBytesOk (l : List Byte) : Bool :=
  let c := ctxOfBytes l
  decide (c.mode ≤ 3) && zerosAt l 1 3 && decide (c.slot ≤ 239) && zerosAt l 9 7 && zerosAt l 32 16 &&
    (if c.mode = 1 then decide (16 ≤ c.width) && decide (c.width ≤ 64) else c.width == 0 && c.counter == 0 && c.fixedIv == 0) &&
    (if c.mode = 3 then c.offset % granule == 0 && c.length % granule == 0 && decide (granule ≤ c.length) &&
        decide (c.offset + c.length ≤ storageSize)
     else c.offset == 0 && c.length == 0)

/-- The slice that holds a context. -/
def Block.ctxHolder? (b : Block) (c : Nat) : Option Nat :=
  (List.range 32).find? fun p => (b.slice p).phase != .none && inCounts (b.slice p).ctxs c

/-- A context as it stands once the completed requests have taken effect; before the boundary its counter may still advance. -/
def Block.ctxAhead (b : Block) (i : Nat) : CipherCtx :=
  b.mail.done.foldl (fun c a => match a.effect with
    | .ctxSet j r => if j = i then c.setTo r else c
    | .ctxFree j => if j = i then c.freed else c
    | _ => c) (b.ctx i)

/-- The range of an XTS context overlaps another one's (R472 check 8.5). -/
def Block.xtsClash (b : Block) (i : Nat) (c : CipherCtx) : Bool :=
  (List.range 240).any fun j => j != i && (b.ctxAhead j).mode == 3 &&
    overlap c.offset c.length (b.ctxAhead j).offset (b.ctxAhead j).length

/-- Check 8.6: the counter fits its width and is not set back under the same key (R472). -/
def counterOk (old new : CipherCtx) (kcv : Word) : Bool :=
  (new.mode != 1 || decide (new.counter < 2 ^ new.width)) && !(decide (new.counter < old.counter) && kcv == old.kcv)

/-- CIPHER_CTX_SET. -/
def Block.runCtxSet (b : Block) (r : Req) : Block :=
  let p := r.pay
  let i := fieldAt p 0 2
  let l := bytesAt p 4 48
  let c := ctxOfBytes l
  b.check7 r 0x7801 (p.length == 52 && decide (i ≤ 255) && zerosAt p 2 2 && ctxBytesOk l) fun b =>
  b.needRoom r 0x7801 48 fun b =>
  let k := b.slot c.slot
  let old := b.ctxAhead i
  if 240 ≤ i then b.reply r 0x7801 .denied
  else match b.ctxHolder? i with
  | none => (b.reply r 0x7801 .denied).nameViolation r 0
  | some h =>
    if !inCounts (b.slice h).slots c.slot then (b.reply r 0x7801 .denied).nameViolation r 0
    else if c.mode == 3 && !r.path.isGov then b.reply r 0x7801 .denied
    else if k.type == 0 || (c.mode != 0 && !modeFits c.mode k) then b.reply r 0x7801 .badParam
    else if c.mode == 3 && (b.xtsClash i c || !(b.slice h).holdsStorage c.offset c.length) then b.reply r 0x7801 .badParam
    else if !counterOk old c k.kcv then b.reply r 0x7801 .badParam
    else
      let new := { c with kcv := k.kcv, ops := old.ops, tagFails := old.tagFails }
      b.finish r 0x7801 .ok new.bytes (.ctxSet i new)

/-- CIPHER_CTX_FREE (R473). -/
def Block.runCtxFree (b : Block) (r : Req) : Block :=
  let p := r.pay
  b.check7 r 0x7803 (p.length == 4 && decide (fieldAt p 0 2 ≤ 255) && zerosAt p 2 2) fun b =>
  if 240 ≤ fieldAt p 0 2 then b.reply r 0x7803 .denied
  else b.finish r 0x7803 .ok [] (.ctxFree (fieldAt p 0 2))

/-! ## Running an operation (R474, R475, R477-R479) -/

/-- Authentication-less service: keyed operations are unavailable (R465, R486 case 7). -/
def Block.cipherLocked (b : Block) : Bool := b.keys.state == 2 || (b.keys.state == 3 && !b.keys.unlocked)

/-- The IV of an encryption under a context (R474). -/
def CipherCtx.iv (c : CipherCtx) (i : Nat) : List Byte := leBytes 2 c.fixedIv ++ beBytes 2 i ++ beBytes 8 c.counter

/-- The last counter value, which is never assigned (R475). -/
def CipherCtx.top (c : CipherCtx) : Nat := 2 ^ c.width - 1

/-- EV246 and EV247, at most once per second per lane (R487). -/
def Block.cipherEvent (b : Block) (ev cause subject : Nat) (detail : Int) : Block :=
  (b.raiseLimited (0x400000 + 16 * ev) .a ev cause subject detail).raiseLimited (0x400001 + 16 * ev) .b ev cause subject detail

/-- Cipher work of a partition is counted when it is first presented (R150). -/
def Block.cipherWork (b : Block) (p bits : Nat) : Block := b.modRates p fun x => { x with cipherWork := x.cipherWork + bits }

/-- Cipher work takes its tokens (R147). -/
def Block.cipherTakes (b : Block) (p bits : Nat) : Block := b.modRates p fun x => { x with cipherTok := x.cipherTok - bits }

/-- The tokens with which work of a partition starts: its size, or a full bucket where that is smaller (R147; log entry 116). -/
def Block.cipherNeed (b : Block) (p bits : Nat) : Nat := min bits (b.p 0x100B p * 8192)

/-- The payload, in bits, of an operation that waits for a core and its turn. -/
def Pend.cipherBits (e : Pend) : Option Nat :=
  match e.kind with
  | .cipher _ _ _ false => some (8 * fieldAt e.req.pay 4 4)
  | .storage true _ len _ false => some (8 * len)
  | _ => none

/-- An operation has its core. -/
def Pend.onCore (e : Pend) : Pend :=
  { e with kind := match e.kind with
    | .cipher c k iv _ => .cipher c k iv true
    | .storage w o n d _ => .storage w o n d true
    | k => k }

/-- The operations that run on the engine's cores, which the GCM and CMAC operations hold until they end (R484). -/
def Block.coresBusy (b : Block) : Nat :=
  (b.mail.pend.filter fun e => match e.kind with | .cipher _ _ _ true => true | _ => false).length

/-- The oldest operation of a partition that waits for a core, if its bucket lets it start and the partition is not frozen. -/
def Block.nextOp (b : Block) (p : Nat) : Option (Pend × Nat) :=
  if (b.slice p).frozen then none else
  (b.mail.pend.findSome? fun e => if e.req.path.prid = p then e.cipherBits.map fun n => (e, n) else none).bind fun e =>
    if b.cipherNeed p e.2 ≤ (b.rates p).cipherTok then some e else none

/-- One turn of the engine: a free core takes the next operation by part.weight.cipher (R148, R484, R485). -/
def Block.engineTurn (b : Block) : Block :=
  if 4 ≤ b.coresBusy then b else
  match b.part.ciSched.pick (fun p => b.p 0x1002 p) ((List.range 32).filter fun p => (b.nextOp p).isSome) with
  | none => b
  | some (p, sch) =>
    match b.nextOp p with
    | none => b
    | some (e, n) =>
      let b := b.modMail fun m => { m with pend := m.pend.map fun x => if x == e then x.onCore else x }
      (b.modPart fun x => { x with ciSched := sch.charge p n }).cipherTakes p n

/-- The engine's cores take what may start. -/
def Block.engineNext (b : Block) : Block := b.mail.pend.foldl (fun b _ => b.engineTurn) b

/-- Check 7 of CIPHER_RUN, as far as the context's mode does not enter. -/
def cipherPayOk (p : List Byte) : Bool :=
  p.length == 64 && decide (fieldAt p 0 2 ≤ 239) && decide (byteAt p 2 < 2) && decide (4 ≤ byteAt p 3) &&
    decide (byteAt p 3 ≤ 16) && decide (fieldAt p 4 4 ≤ 65536) && decide (fieldAt p 8 4 ≤ 4096) &&
    fieldAt p 12 8 % 8 == 0 && fieldAt p 20 8 % 8 == 0 && fieldAt p 28 8 % 8 == 0 &&
    (fieldAt p 8 4 != 0 || zerosAt p 28 8) && (byteAt p 2 == 1 || (zerosAt p 36 12 && zerosAt p 48 16))

/-- What the payload must be for the mode of its context (R477). -/
def cipherModeOk (p : List Byte) (mode : Nat) : Bool :=
  if mode = 1 then decide (12 ≤ byteAt p 3)
  else mode == 2 && fieldAt p 8 4 == 0 && zerosAt p 20 8 && zerosAt p 36 12

/-- The key's uses permit the operation (R469, R477). -/
def cipherUseOk (k : KeySlot) (mode op : Nat) : Bool :=
  k.type != 0 && (if mode = 1 then k.uses.getLsbD 1 else if op = 0 then k.uses.getLsbD 3 else k.uses.getLsbD 4)

/-- A GCM encryption takes a counter; EV247 when the unassigned values first fall to the warning level (R475). -/
def Block.takeCounter (b : Block) (i : Nat) : Block :=
  let c := b.ctx i
  let b := b.modCtx i fun x => { x with counter := x.counter + 1 }
  if !c.warned && decide (c.top - (c.counter + 1) ≤ b.p 0x7847 0) then
    (b.modCtx i fun x => { x with warned := true }).cipherEvent 247 1 i 0
  else b

/-- CIPHER_RUN: the operation starts; it ends with CIPHER_OPERATION_DONE. -/
def Block.runCipher (b : Block) (r : Req) : Block :=
  let p := r.pay
  let i := fieldAt p 0 2
  let c := b.ctx i
  let k := b.slot c.slot
  let op := byteAt p 2
  b.check7 r 0x7802 (cipherPayOk p && ((c.mode != 1 && c.mode != 2) || cipherModeOk p c.mode)) fun b =>
  b.needRoom r 0x7802 (if op = 0 then 32 else 0) fun b =>
  if b.cipherLocked then b.reply r 0x7802 .locked
  else if !cipherModeOk p c.mode || !cipherUseOk k c.mode op then b.reply r 0x7802 .badParam
  else if c.mode == 1 && op == 0 && c.counter == c.top then
    let first := !c.refused
    let b := b.modCtx i fun x => { x with refused := true }
    let b := if first then b.raiseAll 247 2 i 0 else b
    b.reply r 0x7802 .nonceExhausted
  else
    let b := b.cipherWork r.path.prid (8 * fieldAt p 4 4)
    (if c.mode == 1 && op == 0 then (b.takeCounter i).hold r 0x7802 (.cipher i k.material (c.iv i) false) false
     else b.hold r 0x7802 (.cipher i k.material (if c.mode = 1 then bytesAt p 36 12 else []) false) false).engineNext

/-- The status, the response payload and the bytes for the destination of an operation on one lane's memory (R478, R479). -/
def cipherResult (m : MemSt) (l : Lane) (p : List Byte) (mode : Nat) (key iv : List Byte) : Status × List Byte × List Byte :=
  let data := m.read l (fieldAt p 12 8) (fieldAt p 4 4)
  let aad := m.read l (fieldAt p 28 8) (fieldAt p 8 4)
  let n := byteAt p 3
  let pad := fun (t : List Byte) => t.take n ++ zeroBytes (16 - n)
  if mode = 1 then
    if byteAt p 2 = 0 then
      let ct := Config.gcmText key iv data
      (.ok, iv ++ pad (Config.gcmTag key iv aad ct) ++ zeroBytes 4, ct)
    else if (Config.gcmTag key iv aad data).take n == bytesAt p 48 n then
      (.ok, [], Config.gcmText key iv data)
    else (.tagFail, [], [])
  else
    let mac := Config.cmac key data
    if byteAt p 2 = 0 then (.ok, zeroBytes 12 ++ pad mac ++ zeroBytes 4, [])
    else if mac.take n == bytesAt p 48 n then (.ok, [], []) else (.tagFail, [], [])

/-- The oldest operation of a context that has a core ends, a CMAC operation (which has no IV) or a GCM one: its output is copied into
both lanes' memories, or wiped when its tag fails, and its core takes the next. The operation of a frozen partition keeps its core (R486 case 9). -/
def Block.cipherDone (b : Block) (m : MemSt) (i : Nat) : Block × MemSt :=
  match b.mail.pend.find? fun e => match e.kind with | .cipher c _ _ core => c == i && core | _ => false with
  | none => (b, m)
  | some e =>
    match e.kind with
    | .cipher _ key iv _ =>
      let p := e.req.pay
      if (b.slice e.req.path.prid).frozen then (b, m)
      else
        let mode := if iv.isEmpty then 2 else 1
        let (st, pay, _) := cipherResult m b.act p mode key iv
        let m := b.mirrored.foldl (fun (m' : MemSt) l => m'.write l (fieldAt p 20 8) (cipherResult m l p mode key iv).2.2) m
        let b := b.modCtx i fun c => { c with ops := c.ops + 1,
                                              tagFails := if st = .tagFail ∧ mode = 1 then satNat 0xFFFFFFFF (c.tagFails + 1) else c.tagFails }
        let b := if st = .tagFail then b.cipherEvent 246 0 i e.req.path.prid else b
        ((b.finishWhere (fun x => x == e) st pay .none).engineNext, m)
    | _ => (b, m)

/-! ## External storage (R480-R482) -/

/-- A device is present in some lane in service. -/
def Block.deviceThere (b : Block) : Bool := b.serving.any fun l => (b.lane l).device

/-- The ciphertext of a write, unit by unit under the key of its context (R480, R481). -/
def Block.xtsUnits (b : Block) (off : Nat) (data : List Byte) : List Byte :=
  (List.range (data.length / 4096)).flatMap fun k =>
    let x := off + 4096 * k
    match b.xtsAt x with
    | some i => Config.xtsCipher (b.slot (b.ctx i).slot).material (x / 4096) (bytesAt data (4096 * k) 4096)
    | none => bytesAt data (4096 * k) 4096

/-- STORAGE_WRITE: `data` is the source in the active lane's memory. -/
def Block.runStorageWrite (b : Block) (data : Nat → Nat → List Byte) (r : Req) : Block :=
  let p := r.pay
  let off := fieldAt p 0 4
  let len := fieldAt p 4 4
  b.check7 r 0x7810 (p.length == 16 && off % 4096 == 0 && len % 4096 == 0 && decide (4096 ≤ len) && decide (len ≤ 65536)) fun b =>
  if b.cipherLocked then b.reply r 0x7810 .locked
  else if !b.deviceThere then b.reply r 0x7810 .notActive
  else ((b.cipherWork r.path.prid (8 * len)).hold r 0x7810
    (.storage true off len (b.xtsUnits off (data (fieldAt p 8 8) len)) false) false).engineNext

/-- STORAGE_ERASE. -/
def Block.runStorageErase (b : Block) (r : Req) : Block :=
  let p := r.pay
  let off := fieldAt p 0 4
  let len := fieldAt p 4 4
  b.check7 r 0x7811 (p.length == 16 && off % granule == 0 && len % granule == 0 && decide (granule ≤ len) && zerosAt p 8 8) fun b =>
  if b.cipherLocked then b.reply r 0x7811 .locked
  else if !b.deviceThere then b.reply r 0x7811 .notActive
  else b.hold r 0x7811 (.storage false off len [] true) false

/-- The kept decrypted units that a write or erase touches go (R480). -/
def Block.dropUnits (b : Block) (off len : Nat) : Block :=
  b.modLanes fun x => { x with pairs := x.pairs.map fun p =>
    { p with units := p.units.filter fun u => !overlap off len (4096 * u.1) 4096 } }

/-- While one lane serves alone, the units written and blocks erased are recorded, up to 4,096 entries (R482). -/
def Block.logStorage (b : Block) (off len step : Nat) : Block :=
  if b.bothServe then b
  else
    let new := (List.range (len / step)).map fun k => (off + step * k, step)
    let all := b.cipher.logUsed ++ new.filter fun e => !b.cipher.logUsed.contains e
    { b with cipher := { b.cipher with logUsed := all.take 4096, logFull := b.cipher.logFull || decide (4096 < all.length) } }

/-- The units of a write go to a lane's device: the ciphertext over an erased unit; over an unerased one a free value, since
it reads back as unpredictable plaintext (R481; log entry 3). -/
def MemSt.program (m : MemSt) (l : Lane) (off : Nat) (data : List Byte) (draw : Nat) : MemSt :=
  (List.range (data.length / 4096)).foldl (fun (m : MemSt) k =>
    let a := off + 4096 * k
    let erased := (m.readExt l a 4096).all (· == 0xFF)
    m.writeExt l a (if erased then bytesAt data (4096 * k) 4096 else (Config.freeUnit (draw + 2 * k + l.num)).toList)) m

/-- The devices in service report completion: the data stand in both and the request ends (R481). -/
def Block.storageDone (b : Block) (m : MemSt) (p : Nat) : Block × MemSt :=
  match b.mail.pend.find? fun e => e.req.path.prid == p && (match e.kind with | .storage _ _ _ _ core => core | _ => false) with
  | none => (b, m)
  | some e =>
    match e.kind with
    | .storage write off len data _ =>
      let ls := b.serving.filter fun l => (b.lane l).device
      let m := ls.foldl (fun (m : MemSt) l =>
        if write then m.program l off data b.free else { m with ext := m.ext.upd l fun c => memErase c off len }) m
      let b := { b with free := if write then b.free + 2 * (len / 4096) else b.free }
      let b := (b.dropUnits off len).logStorage off len (if write then 4096 else granule)
      (b.finishWhere (fun x => x == e) .ok [] .none, m)
    | _ => (b, m)

/-- A core's read of the data unit that an offset lies in: a kept unit, or one that the engine decrypts; in `done` the whole plain
unit (R480, R147). A lane without a device answers none (R52). -/
def Block.unitRead (b : Block) (m : MemSt) (l : Lane) (pair p x : Nat) : Block × AccResult :=
  let unit := x / 4096
  if !(b.lane l).device then (b, .fault) else
  match ((b.lane l).pair pair).units.find? fun u => u.1 == unit with
  | some u => (b, .done u.2)
  | none =>
    match b.xtsAt x with
    | none => (b, .fault)
    | some i =>
      let k := b.slot (b.ctx i).slot
      if b.cipherLocked || k.type == 0 then (b, .fault)
      else
        let b := if b.act = l && ((b.lane l).pair pair).result != .waits then b.cipherWork p 32768 else b
        if (b.rates p).cipherTok < 32768 then (b, .waits) else
        let plain := Config.xtsPlain k.material unit (m.readExt l (4096 * unit) 4096)
        let b := if b.act = l then b.cipherTakes p 32768 else b
        (b.modLane l fun y => y.modPair pair fun q => { q with units := ((unit, plain) :: q.units).take 8 }, .done plain)

/-- A core reads the external storage window (R37, R480): the gate, then the unit or the two units that the read touches. -/
def Block.storageRead (b : Block) (m : MemSt) (l : Lane) (pair : Nat) (virt : Bool) (x n : Nat) : Block :=
  let p := b.accPrid l pair virt
  let addr := 0x60000000 + x
  if (b.lane l).st < 4 then b
  else if storageSize < x + n then b.gateRefuses l pair p 2 addr
  else if (b.slice p).phase == .none || !(b.slice p).holdsStorage x n then b.gateRefuses l pair p 1 addr
  else if (b.slice p).frozen then
    b.gateStalls l pair p { pair := some (Fin.ofNat 6 pair), dma := 0, virt := virt, kind := .read, addr := addr, size := n, data := [] }
  else
    match b.unitRead m l pair p x with
    | (b, .done first) =>
      if (x + n - 1) / 4096 = x / 4096 then b.setResult l pair (.done (bytesAt first (x % 4096) n))
      else
        match b.unitRead m l pair p (x + n - 1) with
        | (b, .done last) => b.setResult l pair (.done (bytesAt (first ++ last) (x % 4096) n))
        | (b, r) => b.setResult l pair r
    | (b, r) => b.setResult l pair r

/-! ## Configuration (R485) -/

/-- The aggregate floor at a level, 0.01 Gbit/s (R483). -/
def cipherFloor (level : Nat) : Nat := [2400, 2100, 1840, 1600].getD level 1600

/-- The MACsec reserve does not exceed the floor (R485). -/
def cipherStatus (m : List (Nat × Nat)) : Status :=
  if 100 * pval m 0x7842 0 ≤ cipherFloor (pval m 0x7840 0) then .ok else .badParam

end Sys2Proof

namespace Sys2Proof.Machine

/-- CIPHER_CTX_SET (R471, R472). -/
def execCipherCtxSet (q : Req) (s : State) : Host.Outcome State Fault Refusal :=
  onBlock (fun b => b.serve 0x7801 q fun b => b.runCtxSet q) s

/-- CIPHER_RUN (R477). -/
def execCipherRun (q : Req) (s : State) : Host.Outcome State Fault Refusal :=
  onBlock (fun b => b.serve 0x7802 q fun b => b.runCipher q) s

/-- CIPHER_OPERATION_DONE (R478, R479). -/
def execCipherOperationDone (ctx : Fin 240) (s : State) : Host.Outcome State Fault Refusal :=
  let (b, m) := s.b.cipherDone s.mem ctx
  .next ((s.withBlock b).withMem m)

/-- CIPHER_CTX_FREE (R473). -/
def execCipherCtxFree (q : Req) (s : State) : Host.Outcome State Fault Refusal :=
  onBlock (fun b => b.serve 0x7803 q fun b => b.runCtxFree q) s

/-- STORAGE_WRITE (R481). -/
def execStorageWrite (q : Req) (s : State) : Host.Outcome State Fault Refusal :=
  onBlock (fun b => b.serve 0x7810 q fun b => b.runStorageWrite (s.mem.read b.act) q) s

/-- STORAGE_ERASE (R481). -/
def execStorageErase (q : Req) (s : State) : Host.Outcome State Fault Refusal :=
  onBlock (fun b => b.serve 0x7811 q fun b => b.runStorageErase q) s

/-- STORAGE_DEVICE_DONE (R481). -/
def execStorageDeviceDone (p : Prid) (s : State) : Host.Outcome State Fault Refusal :=
  let (b, m) := s.b.storageDone s.mem p
  .next ((s.withBlock b).withMem m)

/-- EXTERNAL_STORAGE_READ (R480). -/
def execExternalStorageRead (l : Lane) (pair : Pair) (virt : Bool) (offset size : Nat) (s : State) :
    Host.Outcome State Fault Refusal :=
  onBlock (fun b => (b.throughPair s.mem l pair.val (b.accToken l pair.val virt (0x60000000 + offset) size 0) false
    (b.storageRead s.mem l pair virt offset size, s.mem)).1) s

end Sys2Proof.Machine
end

