-- ==== Sys2Proof/Machine/ParamSet.lean ====
section
/-! DEFINITION. Setting parameters: the records of R116, the four stages of R117 shared by PARAM_SET and configuration
images, the rules between values, and what a changed value does at its epoch boundary (04_governor_mailboxes.md). -/

namespace Sys2Proof

/-! ## Records (R116) -/

/-- A parameter record that passes the form stage: identity, instance, value and the bytes it takes. -/
structure ParamRec where
  d    : ParamDef
  inst : Nat
  v    : Nat
  size : Nat
  deriving DecidableEq, Repr

/-- The length of a value with its padding. -/
def padded (n : Nat) : Nat := (n + 3) / 4 * 4

/-- The record at an offset, when its form is right (stage 1 of R117). -/
def paramRecAt (l : List Byte) (off : Nat) : Option ParamRec :=
  match paramDef? (fieldAt l off 2) with
  | none => none
  | some d =>
    let inst := byteAt l (off + 2)
    let n := d.ty.len
    let v := fieldAt l (off + 8) n
    if decide (off + 8 + padded n ≤ l.length) && d.inst.has inst && byteAt l (off + 3) == d.ty.code &&
        fieldAt l (off + 4) 2 == n && zerosAt l (off + 6) 2 && zerosAt l (off + 8 + n) (padded n - n) && paramInRange d inst v
    then some { d := d, inst := inst, v := v, size := 8 + padded n }
    else none

/-- `n` records from an offset; none when one fails or the payload does not end with the last. -/
def paramRecs (l : List Byte) : Nat → Nat → Option (List ParamRec)
  | 0, off => if off = l.length then some [] else none
  | n + 1, off =>
    match paramRecAt l off with
    | none => none
    | some r => (paramRecs l n (off + r.size)).map (r :: ·)

/-- The Access column permits a write (stage 2). -/
def ParamDef.writable (d : ParamDef) : Bool := d.acc == .rw || d.acc == .g

/-- The set as key and value. -/
def ParamRec.pair (r : ParamRec) : Nat × Nat := (pkey r.d.id r.inst, r.v)

/-- The running configuration with values set, later ones last. -/
def psetAll (m : List (Nat × Nat)) (l : List (Nat × Nat)) : List (Nat × Nat) :=
  l.foldl (fun m e => pset m (e.1 / 256) (e.1 % 256) e.2) m

/-! ## Hands (R309) -/

/-- Wire time of a frame of some bytes in ns (R306). -/
def wireNs (bytes : Nat) : Nat := (bytes + 20) * 8

/-- Consecutive slots stand far enough apart. -/
def slotsApart (gap : Nat) : List Slot → Bool
  | [] => true
  | [_] => true
  | x :: y :: t => decide (x.start + 10 * x.len + gap ≤ y.start) && slotsApart gap (y :: t)

/-- One hand meets R309 under a configuration. -/
def handOk (m : List (Nat × Nat)) (h : Hand) : Bool :=
  let p := fun (id : Nat) => pval m id 0
  let nh := p 0x4003 * p 0x4009
  let pi2 := 2 * p 0x4008
  let first := (h.slots.head?.map (·.start)).getD 0
  let last := (h.slots.getLast?.map fun s => s.start + 10 * s.len).getD 0
  let statics := h.slots.filter fun s => !s.polled
  decide (1 ≤ h.slots.length) && decide (h.slots.length ≤ 64) &&
  decide (wireNs 64 + 2 * nh + pi2 ≤ first) &&
  slotsApart pi2 h.slots &&
  h.slots.all (fun s =>
    if s.polled then decide (wireNs 64 + wireNs (16 * s.frame) + 4 * nh ≤ 10 * s.len)
    else decide (wireNs (16 * s.frame) + 2 * nh ≤ 10 * s.len)) &&
  decide (last + pi2 + 20000 + p 0x4007 ≤ p 0x4006) &&
  decide (pi2 + p 0x400B ≤ p 0x4007) &&
  statics.any (fun s => s.owner == p 0x4002) &&
  (List.range 16).all (fun n =>
    let k := (statics.filter fun s => s.sync && s.owner == n).length
    k == b2n ((p 0x400A).testBit n)) &&
  h.slots.all (fun s => !(s.polled && s.sync))

/-- The eight hands under a configuration: with the ring active all must be there and meet R309, else those that are
there (R309, R504). -/
def handsOk (m : List (Nat × Nat)) (hs : List Hand) : Bool :=
  if pval m 0x4001 0 = 2 then hs.length == 8 && hs.all (handOk m)
  else hs.all fun h => h.slots.isEmpty || handOk m h

/-! ## Committed currents (R169, R548, R549) -/

/-- The class on-resistance at 150 degrees in microohm (R167). -/
def r150 (c : Nat) : Nat := byClass c 1600 4300 16000

/-- The nominal current of the class in 0.1 A (R167). -/
def nominal (c : Nat) : Nat := byClass c 400 150 50

/-- The conduction budget of a die at an inlet temperature, in 10 nW (R548). -/
def dieBudget (t : Int) : Int := 1400000000 - 35000000 * (if 75 < t then t - 75 else 0)

/-- The committed-current checks pass. -/
def currentsOk (m : List (Nat × Nat)) : Bool :=
  let on := fun (c : Nat) => pval m 0x2001 c == 1
  let i := fun (c : Nat) => if on c then pval m 0x200B c else 0
  let all := List.range 64
  let sumOf := fun (l : List Nat) => (l.map i).sum
  let budget := dieBudget (pint m 0x8010 0)
  decide (sumOf all ≤ 5000) && decide (sumOf (List.range 32) ≤ 3000) &&
  decide (sumOf ((List.range 32).map (· + 32)) ≤ 3000) &&
  (List.range 4).all (fun d =>
    decide ((((List.range 16).map fun k => let c := 16 * d + k; i c * i c * r150 c).sum : Nat) ≤ budget)) &&
  all.all (fun c => decide (((i c * i c : Nat) : Int) * 1400000000 ≤ (nominal c * nominal c : Nat) * budget))

/-- The inlet limit of the ordered code in degrees (R549). -/
def inletLimit (ae : Bool) : Int := if ae then 85 else 75

/-! ## The rules between values (stages 3 and 4 of R117) -/

/-- A virtual port's ring lies wholly inside its slice and starts at a multiple of 16; base 0 is no ring (R355). -/
def ringPlaceOk (m : List (Nat × Nat)) (ss : List Slice) (id inst : Nat) : Bool :=
  let one := fun (base count : Nat) =>
    let a := pval m base inst
    a == 0 || (a % 16 == 0 && (ss.getD (inst - 7) Slice.empty).holdsSram a (16 * pval m count inst))
  if id = 0x4820 ∨ id = 0x4821 then one 0x4820 0x4821
  else if id = 0x4822 ∨ id = 0x4823 then one 0x4822 0x4823
  else true

/-- The rules that answer BAD_PARAM, on the values as they would stand. `ae`: the ordered code GZ864-AE. -/
def paramRulesOk (ae : Bool) (m : List (Nat × Nat)) (ss : List Slice) (hands : List Hand) (recs : List ParamRec) : Bool :=
  inputsStatus m != .badParam && canStatus m == .ok && cipherStatus m == .ok && handsOk m hands &&
  (List.range 64).all (fun c => pval m 0x2001 c != 1 || !fuseRefused m c) &&
  decide (pint m 0x8010 0 ≤ inletLimit ae) &&
  recs.all (fun r => ringPlaceOk m ss r.d.id r.inst)

/-- The limits that answer NO_RESOURCE. -/
def paramLimitsOk (m : List (Nat × Nat)) : Bool := inputsStatus m != .noResource && currentsOk m

/-- The four stages over the records of a set, in their order (R117). -/
def paramSetStatus (ae : Bool) (m : List (Nat × Nat)) (ss : List Slice) (hands : List Hand) (recs : List ParamRec) : Status :=
  if recs.any (fun r => !r.d.writable) then .denied
  else
    let n := psetAll m (recs.map ParamRec.pair)
    if !paramRulesOk ae n ss hands recs then .badParam
    else if !paramLimitsOk n then .noResource
    else .ok

/-- The configuration values as they will stand when every response completed so far has become visible. -/
def Block.paramsAhead (b : Block) : List (Nat × Nat) :=
  b.mail.done.foldl (fun m a => match a.effect with | .params l => psetAll m l | _ => m) b.params

/-- PARAM_SET (R117). -/
def Block.runParamSet (b : Block) (ae : Bool) (r : Req) : Block :=
  let l := r.pay
  let n := fieldAt l 0 2
  match (if decide (4 ≤ l.length) && decide (1 ≤ n) && decide (n ≤ 255) && zerosAt l 2 2 then paramRecs l n 4 else none) with
  | none => b.reply r 0x0011 .badParam
  | some recs =>
    let st := paramSetStatus ae b.paramsAhead b.part.slices b.net.hands recs
    if st = .ok then b.finish r 0x0011 .ok [] (.params (recs.map ParamRec.pair)) else b.reply r 0x0011 st

/-! ## What a change does at its boundary (R114, R119) -/

/-- The parameters that reach a die in a CONF frame: the configuration of its channels and its watchdog timeout (R168,
R193, R202, R210). -/
def confParam (id : Nat) : Bool := (id / 256 == 0x20) || id == 0x2810

/-- A lane's node takes the state of a changed ring.enable (R347). -/
def Block.ringEnabled (b : Block) : Block :=
  [Lane.a, Lane.b].foldl (fun b l =>
    if (b.lane l).st < 2 ∨ (b.ring l).st = .asleep then b else b.leaveSync l (b.ringIdle l)) b

/-- After a change of a rate or a burst each bucket keeps its tokens, up to the burst (R166). -/
def Block.bucketsCut (b : Block) (p : Nat) : Block :=
  b.modRates p fun x =>
    { x with mailTok := satNat (b.p 0x1009 p * 1000000) x.mailTok, cipherTok := satNat (b.p 0x100B p * 8192) x.cipherTok,
             bridgeTok := satNat (b.p 0x100D p * 8192) x.bridgeTok }

/-- One parameter takes its value, and what hangs on it follows. -/
def Block.setParam (b : Block) (id inst v : Nat) : Block :=
  let old := b.p id inst
  let b := if id = 0x5001 ∧ old = 2 ∧ v ≠ 2 then b.canModeLeft inst else b
  let b := { b with params := pset b.params id inst v }
  let b := if confParam id && b.configured then
      b.sendFrame (inst / 16) .conf (inst % 16) (confArg (id / 256) (id % 256) v) else b
  if id = 0x0129 then b.modMod fun m => { m with deferLeft := .both v }
  else if old = v then b
  else if 0x1008 ≤ id ∧ id ≤ 0x100D then b.bucketsCut inst
  else if id = 0x3001 then b.modeChanged inst
  else if id = 0x4001 then b.ringEnabled
  else if id = 0x4820 ∨ id = 0x4821 then
    b.modLanes fun x => x.modSw fun s => { s with txHead := setAt s.txHead (inst - 7) 0, cut := setAt s.cut (inst - 7) 0 }
  else if id = 0x4822 ∨ id = 0x4823 then
    b.modLanes fun x => x.modSw fun s => { s with rxHead := setAt s.rxHead (inst - 7) 0 }
  else b

/-- The values of an accepted set take effect. -/
def Block.paramsNow (b : Block) (l : List (Nat × Nat)) : Block :=
  l.foldl (fun b e => b.setParam (e.1 / 256) (e.1 % 256) e.2) b

end Sys2Proof

namespace Sys2Proof.Machine

/-- PARAM_SET (R117). -/
def execParamSet (q : Req) (s : State) : Host.Outcome State Fault Refusal :=
  onBlock (fun b => b.serve 0x0011 q fun b => b.runParamSet s.otp.codeAE q) s

end Sys2Proof.Machine
end

