-- ==== Sys2Proof/Machine/Images.lean ====
section
/-! DEFINITION. Firmware and configuration images: staging, verification, the copy at start, the content of a configuration
image, committing it, and the parameter store (18_firmware_and_configuration_images.md, R156). -/

namespace Sys2Proof

/-! ## Written bytes of a staging area -/

/-- One written byte joins an ascending list. -/
def bytePut : List (Nat × Byte) → Nat → Byte → List (Nat × Byte)
  | [], a, v => [(a, v)]
  | (k, w) :: t, a, v =>
    if a < k then (a, v) :: (k, w) :: t else if a = k then (k, v) :: t else (k, w) :: bytePut t a v

/-- Written bytes from an offset on. -/
def bytesPut (l : List (Nat × Byte)) : Nat → List Byte → List (Nat × Byte)
  | _, [] => l
  | a, v :: vs => bytesPut (bytePut l a v) (a + 1) vs

/-- The byte written at an offset. -/
def byteAt? (l : List (Nat × Byte)) (a : Nat) : Option Byte := (l.find? fun e => e.1 == a).map (·.2)

/-- Every byte below a length is written. -/
def wholeTo (l : List (Nat × Byte)) (n : Nat) : Bool := (l.take n).map (·.1) == List.range n

/-- The outcome of a block and the bytes after it (R494): range, erase, bytes already written, else programmed. -/
def blockOutcome (size : Nat) (erasing : Bool) (l : List (Nat × Byte)) (off : Nat) (data : List Byte) :
    Status × List (Nat × Byte) :=
  if size < off + data.length then (.badParam, l)
  else if erasing then (.busy, l)
  else if (mapIdxFrom (fun i (v : Byte) => (byteAt? l i, v)) off data).any
      (fun e => match e.1 with | some w => w != e.2 | none => false) then (.badParam, l)
  else (.ok, bytesPut l off data)

/-- The head of a block request is well formed (R494). -/
def blockPayOk (p : List Byte) : Bool :=
  let n := fieldAt p 4 4
  fieldAt p 0 4 % 16 == 0 && decide (16 ≤ n) && decide (n ≤ 4080) && n % 16 == 0 && p.length == 12 + n

/-- The check value of a block is right. -/
def blockSumOk (p : List Byte) : Bool := crc32c (p.drop 12) == fieldAt p 8 4

/-! ## The firmware image (R490, R491) -/

/-- The bytes of a staged image. -/
def Staging.image (s : Staging) : List Byte := (s.bytes.take s.declared).map (·.2)

/-- The staged image's body is encrypted. -/
def imageEncrypted (l : List Byte) : Bool := (byteAt l 7).testBit 0

/-- Step 1: every byte written, magic, format and lengths valid, res fields zero. -/
def imageFormOk (s : Staging) : Bool :=
  let l := s.image
  let n := fieldAt l 24 4
  wholeTo s.bytes s.declared && l.take 4 == [0x47, 0x5A, 0x46, 0x57] && fieldAt l 4 2 == 1 && decide (byteAt l 7 < 2) &&
  zerosAt l 22 2 && n % 16 == 0 && decide (16 ≤ n) && decide (n ≤ 6291072) && 384 + n == s.declared && zerosAt l 28 4 &&
  zerosAt l 140 4 && zerosAt l 352 32

/-- Step 2: the class a life-cycle state allows. -/
def classAllowed : Lifecycle → Nat → Bool
  | .blank, 2 => true
  | .development, 1 => true
  | .production, 1 => true
  | .fieldReturn, 3 => true
  | _, _ => false

/-- The plaintext of an encrypted body under the update key, when its tag is valid. -/
def imagePlain (key : List Byte) (l : List Byte) : Option (List Byte) :=
  let aad := l.take 128
  let iv := bytesAt l 128 12
  let ct := l.drop 384
  if Config.gcmTag key iv aad ct == bytesAt l 144 16 then some (Config.gcmText key iv ct) else none

/-- The first step of R491 that fails: its number and result code. `verify`: UPDATE_VERIFY, which runs step 6 and compares
with slot 254; at a start the body stands in plaintext. -/
def imageFault (k : KeySt) (rollback : Nat) (verify : Bool) (s : Staging) : Option (Nat × Nat) :=
  let l := s.image
  let pk := bytesAt l 160 96
  let body := l.drop 384
  let enc := verify && imageEncrypted l
  let plain := if enc then imagePlain (k.slots.getD 253 KeySlot.empty).material l else some body
  if !imageFormOk s then some (1, 2)
  else if !classAllowed k.life (byteAt l 6) then some (2, 8)
  else if Config.sha384 pk != Config.sha384 (Config.firmwareKey k.life.num) ||
      (verify && pk != (k.slots.getD 254 KeySlot.empty).material) then some (3, 3)
  else if !Config.ecdsaOk pk (l.take 256) (bytesAt l 256 96) then some (4, 4)
  else if byteAt l 20 < rollback then some (5, 6)
  else if verify && Config.sha384 body != bytesAt l 32 48 then some (6, 5)
  else match plain with
  | none => some (6, 7)
  | some q => if Config.sha384 q != bytesAt l 80 48 then some (7, 5) else none

/-- The status of a failed step. -/
def faultStatus (f : Nat × Nat) : Status :=
  if f.2 = 7 then .tagFail else if f.1 = 2 ∨ f.1 = 5 then .locked else .badCheck

/-- What an accepted image's header says. -/
def imgInfoOf (l : List Byte) (life : Lifecycle) : ImgInfo :=
  { version := BitVec.ofNat 32 (fieldAt l 8 4), level := fieldAt l 12 2, security := byteAt l 20, storeFmt := fieldAt l 14 2,
    storeOldest := fieldAt l 16 2, cfgFmt := fieldAt l 18 2, cfgOldest := byteAt l 21, cls := byteAt l 6, root := life,
    valid := true }

/-- The active slot passes the boot check (R84, R491). -/
def ImgInfo.boots (i : ImgInfo) (life : Lifecycle) (rollback : Nat) : Bool :=
  i.valid && classAllowed life i.cls && i.root == life && decide (rollback ≤ i.security)

/-! ## UPDATE_BEGIN, UPDATE_BLOCK, UPDATE_VERIFY, UPDATE_ACTIVATE (R493-R496) -/

/-- The lanes that write a staging request into their own slot (R495). -/
def Block.writers (b : Block) : List Lane := [Lane.a, Lane.b].filter fun l => decide (2 ≤ (b.lane l).st)

/-- A staging slot changed. -/
def Block.modStaging (b : Block) (l : Lane) (f : Staging → Staging) : Block :=
  b.modLane l fun x => { x with staging := f x.staging }

/-- A lane restart runs: a rolling restart or LANE_RESTART. -/
def Block.restarting (b : Block) : Bool :=
  (b.lane .a).rolling || (b.lane .b).rolling ||
    b.mail.pend.any fun e => match e.kind with | .laneRestart _ => true | _ => false

/-- UPDATE_BEGIN (R493). -/
def Block.runUpdateBegin (b : Block) (r : Req) : Block :=
  let p := r.pay
  let n := fieldAt p 0 4
  b.check7 r 0x8001 (p.length == 8 && decide (400 ≤ n) && decide (n ≤ 6291456) && zerosAt p 4 4) fun b =>
  if b.activating || b.restarting then b.reply r 0x8001 .busy
  else
    (b.writers.foldl (fun b l => b.modStaging l fun _ => { Staging.empty with st := .erasing, declared := n }) b).ok r 0x8001 []

/-- UPDATE_BLOCK (R494, R495). -/
def Block.runUpdateBlock (b : Block) (r : Req) : Block :=
  let p := r.pay
  b.check7 r 0x8002 (blockPayOk p) fun b =>
  if !blockSumOk p then b.reply r 0x8002 .badCheck
  else
    let out := fun (s : Staging) => blockOutcome s.declared (s.st == .erasing) s.bytes (fieldAt p 0 4) (p.drop 12)
    let st := (out (b.lane b.act).staging).1
    (b.writers.foldl (fun b l => b.modStaging l fun s => { s with bytes := (out s).2 }) b).reply r 0x8002 st

/-- The payload of an UPDATE_VERIFY response (R496). -/
def Block.verifyPay (b : Block) (ra rb : Nat) : List Byte :=
  leBytes 1 ra ++ leBytes 1 rb ++ zeroBytes 2 ++ leBytes 4 (fieldAt (b.lane b.act).staging.image 8 4)

/-- The lane holds a staging slot that the present transfer has written (R495). -/
def LaneSt.transferred (x : LaneSt) : Bool :=
  decide (2 ≤ x.st) && (x.staging.st == .receiving || x.staging.st == .accepted || x.staging.st == .rejected ||
    x.staging.st == .erasing)

/-- UPDATE_VERIFY (R492, R496). -/
def Block.runUpdateVerify (b : Block) (r : Req) : Block :=
  b.check7 r 0x8003 r.pay.isEmpty fun b =>
  b.needRoom r 0x8003 8 fun b =>
  if b.authLess then b.finish r 0x8003 .locked (b.verifyPay (b.lane .a).staging.result (b.lane .b).staging.result) .none
  else
    ([Lane.a, Lane.b].foldl (fun b l =>
      if (b.lane l).transferred then b.modStaging l fun s => { s with verifying := true } else b) b).hold r 0x8003 .updVerify true

/-- One lane's verification: the outcome, and the block with its slot accepted or rejected. -/
def Block.verifyLane (b : Block) (rollback : Nat) (l : Lane) : Option (Nat × Nat) × Block :=
  let s := (b.lane l).staging
  let f := imageFault b.keys rollback true s
  match f with
  | some e =>
    (f, (b.modStaging l fun s => { s with st := .rejected, result := e.2, verifying := false }).raise l 250 e.2 l.num 0)
  | none =>
    let img := s.image
    let bytes := match imageEncrypted img, imagePlain (b.slot 253).material img with
      | true, some q => bytesPut s.bytes 384 q
      | _, _ => s.bytes
    (none, b.modStaging l fun s =>
      { s with st := if s.st == .rejected then .rejected else .accepted, result := 0, verifying := false, bytes := bytes })

/-- Verification completes: results, slots and the final response (R496). -/
def Block.verifyDone (b : Block) (rollback : PerLane Nat) : Block :=
  if !(b.mail.pend.any fun e => match e.kind with | .updVerify => true | _ => false) then b else
  let run := fun (l : Lane) => (b.lane l).staging.verifying && decide (2 ≤ (b.lane l).st)
  let fs := [Lane.a, Lane.b].filterMap fun l => if run l then (b.verifyLane (rollback.get l) l).1 else none
  let worst := fs.foldl (fun (w : Option (Nat × Nat)) f => match w with
    | some g => if f.1 < g.1 then some f else some g
    | none => some f) none
  let st := match worst with
    | some f => faultStatus f
    | none => if run .a || run .b then .ok else .badCheck
  let res := fun (l : Lane) => if run l then
      (match (b.verifyLane (rollback.get l) l).1 with | some f => f.2 | none => 0) else 1
  let (ra, rb) := (res .a, res .b)
  let b := [Lane.a, Lane.b].foldl (fun b l => if run l then (b.verifyLane (rollback.get l) l).2
    else b.modStaging l fun s => { s with verifying := false }) b
  b.finishWhere (fun e => match e.kind with | .updVerify => true | _ => false) st (b.verifyPay ra rb) .none

/-- A background erase completes (R493, R506). -/
def Block.eraseDone (b : Block) (area : StagingArea) : Block :=
  match area with
  | .firmware l => b.modStaging l fun s => if s.st = .erasing then { s with st := .receiving } else s
  | .config => b.modImg fun i => if i.cfgSt = 1 then { i with cfgSt := 0, staging := [] } else i

/-! ## The copy at a start (R497-R499) -/

/-- The boot code's choice of an image at step 5: a staged image is checked again and copied, resuming a copy that broke off;
an active slot that fails its check is replaced from the staging slot, or from the peer in service. The answer says whether
the lane has an image to run. -/
def Block.bootImage (b : Block) (l : Lane) (rollback : Nat) : Block × Bool :=
  let s := (b.lane l).staging
  let life := b.keys.life
  let good := (imageFault b.keys rollback false s).isNone
  let take := fun (b : Block) =>
    let b := if 0 < s.journal then
        (b.modImg fun i => { i with resumes := satNat 0xFFFFFFFF (i.resumes + 1) }).raise l 251 0 l.num s.journal
      else b
    b.modLane l fun x => { x with image := imgInfoOf s.image life,
                                  staging := { s with st := .copied, journal := 0, copying := true } }
  let b := if s.st = .accepted then
      (if good then take b
       else (b.modStaging l fun s => { s with st := .rejected, journal := 0 }).raise l 250
         ((imageFault b.keys rollback false s).map (·.2) |>.getD 0) l.num 0)
    else b
  let ok := fun (b : Block) => (b.lane l).image.boots life rollback
  if ok b then (b, true)
  else if s.st = .copied && good then
    let b := take b
    (b, ok b)
  else if b.serves l.other then
    let b := b.modLane l fun x => { x with image := (b.lane l.other).image }
    if ok b then (b, true) else (b.raise l.other 252 0 l.num 0, false)
  else (b, false)

/-! ## The configuration image (R501-R505) -/

/-- One record of a configuration image. -/
inductive CfgRec where
  | param (r : ParamRec)
  | slice (p : Nat) (recs : List ResRec)
  | entry (i : Nat) (e : SwEntry)
  | hand (i : Nat) (h : Hand)
  | mark (consume : Bool) (i base len : Nat)
  | boot (body : List Byte)
  deriving DecidableEq, Repr

/-- An accepted configuration image: its version word and records. -/
structure CfgImage where
  version : Word
  recs    : List CfgRec
  deriving DecidableEq, Repr

/-- A slot list entry of R307. -/
def slotOf (l : List Byte) : Slot :=
  let f := byteAt l 6
  { start := fieldAt l 0 4, len := fieldAt l 4 2, owner := f / 16, polled := f.testBit 3, west := f.testBit 2, sync := f.testBit 1,
    frame := byteAt l 7 }

/-- Its res fields and ranges. -/
def slotBytesOk (l : List Byte) : Bool :=
  let f := byteAt l 6
  !f.testBit 0 && decide (4 ≤ byteAt l 7) && decide (byteAt l 7 ≤ 96) && (!f.testBit 3 || (f / 16 == 0 && !f.testBit 1))

/-- The starts of a slot list ascend. -/
def ascending : List Slot → Bool
  | [] => true
  | [_] => true
  | x :: y :: t => decide (x.start < y.start) && ascending (y :: t)

/-- A ring hand record (R503). -/
def handRec? (l : List Byte) : Option CfgRec :=
  let n := byteAt l 1
  let rows := byteAt l 2
  let raw := (List.range n).map fun i => bytesAt l (4 + 8 * i) 8
  let slots := raw.map slotOf
  let k := (slots.filter (·.polled)).length
  let row := fun (j : Nat) => bytesAt l (4 + 8 * n + 64 * j) 64
  if decide (byteAt l 0 < 8) && decide (1 ≤ n) && decide (n ≤ 64) && decide (1 ≤ rows) && decide (rows ≤ 16) && zerosAt l 3 1 &&
      l.length == 4 + 8 * n + 64 * rows && raw.all slotBytesOk && ascending slots &&
      (List.range rows).all (fun j => ((row j).take k).all (fun v => decide (v.toNat ≤ 15) || v == 0xFF) &&
        ((row j).drop k).all (· == 0xFF))
  then some (.hand (byteAt l 0) { slots := slots, polls := (List.range rows).map fun j => ((row j).take k).map (·.toNat) })
  else none

/-- The form of a boot record (R156). -/
def bootFormOk (l : List Byte) : Bool :=
  let n := fieldAt l 4 4
  let blob := l.drop 80
  decide (80 ≤ l.length) && fieldAt l 0 4 % granule == 0 && n % 4096 == 0 && decide (4096 ≤ n) && decide (n ≤ 16777216) &&
  fieldAt l 8 4 % 4096 == 0 && fieldAt l 12 4 % 4 == 0 && decide (fieldAt l 12 4 < n) && fieldAt l 16 4 % 64 == 0 &&
  decide (fieldAt l 20 2 < 240) && decide (fieldAt l 22 2 < 240) && zerosAt l 72 8 && blobHeadOk blob &&
  (byteAt blob 1 == 3 || byteAt blob 1 == 4) && byteAt blob 2 == 8 && byteAt blob 9 == 0 && (byteAt blob 8).testBit 0 &&
  blob.length == 48 + keyLen (byteAt blob 1) && zerosAt blob 28 4

/-- The length of a boot record's storage range: to the end of the image, in whole granules (R157). -/
def bootRange (l : List Byte) : Nat := (fieldAt l 4 4 + granule - 1) / granule * granule

/-- The ranges and objects of a boot record lie in a slice. -/
def bootInside (l : List Byte) (s : Slice) : Bool :=
  s.holdsStorage (fieldAt l 0 4) (bootRange l) && s.holdsSram (fieldAt l 8 4) (fieldAt l 4 4) &&
  s.holdsSram (fieldAt l 16 4) 64 && inCounts s.slots (fieldAt l 20 2) && inCounts s.ctxs (fieldAt l 22 2)

/-- One record by kind and body (R503). -/
def cfgRec? (kind : Nat) (l : List Byte) : Option CfgRec :=
  match kind with
  | 1 => match paramRecAt l 0 with
    | some r => if r.size = l.length then some (.param r) else none
    | none => none
  | 2 =>
    let n := (l.length - 4) / 16
    if l.length == 4 + 16 * n && decide (1 ≤ n) && decide (n ≤ 255) && decide (byteAt l 0 < 32) && zerosAt l 1 3 &&
        (List.range n).all (fun i => resRecOk l (4 + 16 * i) false)
    then some (.slice (byteAt l 0) ((List.range n).map fun i => resRecAt l (4 + 16 * i))) else none
  | 3 =>
    if l.length == 36 && decide (fieldAt l 0 2 < 4096) && zerosAt l 2 2 && swEntryBytesOk (l.drop 4)
    then some (.entry (fieldAt l 0 2) (swEntryOf (l.drop 4))) else none
  | 4 => handRec? l
  | 5 =>
    let base := fieldAt l 4 4
    let len := fieldAt l 8 4
    if l.length == 12 && decide (byteAt l 0 < 16) && decide (byteAt l 1 < 4) && zerosAt l 2 2 &&
        (if (byteAt l 1).testBit 0 then base % granule == 0 && decide (base < sramSize) && len % granule == 0 &&
            decide (granule ≤ len) && decide (base + len ≤ sramSize)
         else base == 0 && len == 0)
    then some (.mark ((byteAt l 1).testBit 1) (byteAt l 0) base len) else none
  | 6 => if bootFormOk l then some (.boot l) else none
  | _ => none

/-- `n` records of the record bytes, none for one that is not well formed; the list ends at a head that does not fit, and the
last entry is none when bytes are left over. -/
def cfgRecs : Nat → List Byte → List (Option CfgRec)
  | 0, l => if l.isEmpty then [] else [none]
  | n + 1, l =>
    let k := fieldAt l 2 2
    if l.length < 4 + k then [none]
    else (if zerosAt l 1 1 && k % 4 == 0 then cfgRec? (byteAt l 0) (bytesAt l 4 k) else none) :: cfgRecs n (l.drop (4 + k))

/-- Two records name the same thing (R504). -/
def CfgRec.sameName : CfgRec → CfgRec → Bool
  | .param r, .param q => r.d.id == q.d.id && r.inst == q.inst
  | .slice p _, .slice q _ => p == q
  | .entry i _, .entry j _ => i == j
  | .hand i _, .hand j _ => i == j
  | .mark c i _ _, .mark d j _ _ => c == d && i == j
  | .boot _, .boot _ => true
  | _, _ => false

/-- The parameter records of a list. -/
def cfgParams (l : List CfgRec) : List ParamRec := l.filterMap fun x => match x with | .param r => some r | _ => none

/-- The slices that a list of records makes from empty pools; PRID 0's slice always exists (R135). -/
def cfgSlices (l : List CfgRec) : List Slice :=
  l.foldl (fun ss x => match x with | .slice p recs => applySlice ss p true recs | _ => ss)
    (setAt (List.replicate 32 Slice.empty) 0 { Slice.empty with phase := .running })

/-- The switch entries of a list, in index order, valid ones. -/
def cfgEntries (l : List CfgRec) : List (Nat × SwEntry) :=
  l.foldl (fun t x => match x with | .entry i e => entryPut t i e | _ => t) []

/-- The eight hands of a list. -/
def cfgHands (l : List CfgRec) : List Hand :=
  l.foldl (fun hs x => match x with | .hand i h => setAt hs i h | _ => hs) (List.replicate 8 { slots := [], polls := [] })

/-- The first index at which a test of the records before and the record fails. -/
def firstBad (f : List CfgRec → CfgRec → Bool) : List CfgRec → Nat → List CfgRec → Option Nat
  | _, _, [] => none
  | seen, i, x :: t => if f seen x then firstBad f (x :: seen) (i + 1) t else some i

/-- No record is at fault. -/
def noRecord : Nat := 0xFFFFFFFF

/-- The content of an image is checked as a whole (R504): the first failing record under BAD_PARAM, or the committed currents
or the sum of the wetting currents under NO_RESOURCE (R239; log entry 118). -/
def cfgContent (ae : Bool) (recs : List (Option CfgRec)) : Except (Status × Nat) (List CfgRec) :=
  match recs.findIdx? (·.isNone) with
  | some i => .error (.badParam, i)
  | none =>
    let l := recs.filterMap id
    let m := psetAll [] ((cfgParams l).map ParamRec.pair)
    let ss := cfgSlices l
    let hands := cfgHands l
    let net := { NetTables.fresh with entries := cfgEntries l, hands := hands }
    let cand : Block := { Block.delivered with params := m, net := net }
    let good := fun (seen : List CfgRec) (x : CfgRec) =>
      !seen.any x.sameName &&
      match x with
      | .param r => r.d.writable
      | .slice p rs => sliceStatus (cfgSlices seen.reverse) [] [] p rs == .ok
      | .entry i e => cand.entryRules i e
      | .hand _ h => handOk m h
      | .mark .. => true
      | .boot body => bootInside body (ss.getD 0 Slice.empty)
    match firstBad good [] 0 l with
    | some i => .error (.badParam, i)
    | none =>
      if !paramRulesOk ae m ss hands (cfgParams l) then .error (.badParam, noRecord)
      else if !currentsOk m || inputsStatus m == .noResource then .error (.noResource, noRecord)
      else .ok l

/-- The header and check word of an image are valid (R501, R502). -/
def cfgFormOk (l : List Byte) : Bool :=
  let n := fieldAt l 12 4
  l.take 4 == [0x47, 0x5A, 0x43, 0x46] && decide (byteAt l 6 < 2) && zerosAt l 7 1 && decide (72 ≤ n) && decide (n ≤ 524288) &&
  n % 4 == 0 && n == l.length && decide (fieldAt l 16 4 ≤ 65535) && zerosAt l 48 16 &&
  ((byteAt l 6).testBit 0 || (zerosAt l 20 12 && zerosAt l 32 16)) &&
  crc32c (l.take (n - 4)) == fieldAt l (n - 4) 4

/-- The records of a plaintext image of an accepted format (R505), checked. -/
def cfgCheck (ae : Bool) (i : ImgInfo) (l : List Byte) : Except (Status × Nat) CfgImage :=
  let f := fieldAt l 4 2
  let raw := bytesAt l 64 (l.length - 68)
  if i.cfgFmt < f || f + i.cfgOldest < i.cfgFmt then .error (.badParam, noRecord)
  else
    let body := if f = i.cfgFmt then raw else Config.migrateCfg f i.cfgFmt raw
    match cfgContent ae (cfgRecs (fieldAt l 16 4) body) with
    | .ok recs => .ok { version := BitVec.ofNat 32 (fieldAt l 8 4), recs := recs }
    | .error e => .error e

/-- An encrypted image in plaintext, as a bank stores it (R502); none when its tag is wrong. -/
def cfgPlain (key : List Byte) (l : List Byte) : Option (List Byte) :=
  if !(byteAt l 6).testBit 0 then some l
  else
    let iv := bytesAt l 20 12
    let ct := bytesAt l 64 (l.length - 68)
    if Config.gcmTag key iv (l.take 20) ct == bytesAt l 32 16 then
      let pl := spliceAt (spliceAt (spliceAt l 6 [0]) 20 (zeroBytes 12)) 32 (zeroBytes 16)
      let pl := spliceAt pl 64 (Config.gcmText key iv ct)
      some (spliceAt pl (l.length - 4) (leBytes 4 (crc32c (pl.take (l.length - 4)))))
    else none

/-! ## CONFIG_BLOCK and CONFIG_COMMIT (R506-R508) -/

/-- CONFIG_BLOCK. -/
def Block.runConfigBlock (b : Block) (r : Req) : Block :=
  let p := r.pay
  b.check7 r 0x8010 (blockPayOk p) fun b =>
  if !blockSumOk p then b.reply r 0x8010 .badCheck
  else
    let off := fieldAt p 0 4
    let data := p.drop 12
    if 524288 < off + data.length then b.reply r 0x8010 .badParam
    else if off = 0 ∧ b.img.staging ≠ [] then
      (b.modImg fun i => { i with cfgSt := 1, staging := [] }).reply r 0x8010 .busy
    else
      let (st, l) := blockOutcome 524288 (b.img.cfgSt == 1) b.img.staging off data
      (b.modImg fun i => { i with staging := l, cfgSt := if st = .ok then 2 else i.cfgSt }).reply r 0x8010 st

/-- The staged image: the bytes up to the length its header gives, or all written bytes when that is not met. -/
def ImgSt.staged (i : ImgSt) : List Byte :=
  let l := i.staging.map (·.2)
  let n := fieldAt l 12 4
  if wholeTo i.staging n then l.take n else []

/-- CONFIG_COMMIT (R507): the checks and the write go on behind PENDING. -/
def Block.runConfigCommit (b : Block) (r : Req) : Block :=
  let p := r.pay
  b.check7 r 0x8011 (p.length == 4 && decide (byteAt p 0 ≤ 2) && zerosAt p 1 3) fun b =>
  b.needRoom r 0x8011 8 fun b =>
  if b.activating || !b.settled then b.reply r 0x8011 .busy
  else (b.modImg fun i => { i with cfgSt := 3 }).hold r 0x8011 (.cfgCommit (byteAt p 0)) true

/-- Parameters that take effect at a lane start or at pairing alone (R347, R442). -/
def startParam (id : Nat) : Bool :=
  [0x4002, 0x4003, 0x4004, 0x4006, 0x4007, 0x4008, 0x4009, 0x400A, 0x6001].contains id

/-- The parameter records of an image that take effect at run time under mode 1. -/
def Block.runtimeSet (b : Block) (c : CfgImage) : List (Nat × Nat) :=
  ((cfgParams c.recs).filter fun r => !startParam r.d.id && b.p r.d.id r.inst != r.v).map ParamRec.pair

/-- The records of an image that wait for the next module start under mode 1 (R508). -/
def Block.deferredCount (b : Block) (c : CfgImage) : Nat :=
  (c.recs.filter fun x => match x with
    | .param r => startParam r.d.id && b.p r.d.id r.inst != r.v
    | .boot _ => false
    | _ => true).length

/-- The bank in force of a lane. -/
def ImgSt.bank (i : ImgSt) (l : Lane) : List Byte :=
  match l with
  | .a => i.accepted
  | .b => i.acceptedB.getD i.accepted

/-- The bank of a lane replaced. -/
def ImgSt.setBank (i : ImgSt) (l : Lane) (v : List Byte) : ImgSt :=
  let (x, y) := match l with | .a => (v, i.bank .b) | .b => (i.bank .a, v)
  { i with accepted := x, acceptedB := if x = y then none else some y }

/-- The checks of R507 in their order: the stored plaintext and its content, or the failing status and record. -/
def Block.commitCheck (b : Block) (ae : Bool) : Except (Status × Nat) (List Byte × CfgImage) :=
  let l := b.img.staged
  if !cfgFormOk l then .error (.badCheck, noRecord)
  else if (byteAt l 6).testBit 0 && b.authLess then .error (.locked, noRecord)
  else match cfgPlain (b.slot 252).material l with
  | none => .error (.tagFail, noRecord)
  | some pl => match cfgCheck ae (b.lane b.act).image pl with
    | .error e => .error e
    | .ok c => .ok (pl, c)

/-- The commit ends: the checks, the write in each lane in service, the exchange of the banks and the final response. -/
def Block.commitWritten (b : Block) (ae : Bool) : Block :=
  match b.mail.pend.findSome? fun e => match e.kind with | .cfgCommit m => some m | _ => none with
  | none => b
  | some mode =>
    let sel := fun (e : Pend) => match e.kind with | .cfgCommit _ => true | _ => false
    match b.commitCheck ae with
    | .error (st, i) => (b.modImg fun x => { x with cfgSt := if x.staging.isEmpty then 0 else 2 }).finishWhere sel st (leBytes 4 i) .none
    | .ok (pl, c) =>
      let mode := if mode = 1 && !b.configured then 2 else mode
      let set := b.runtimeSet c
      let waits := match mode with | 0 => c.recs.length | 1 => b.deferredCount c | _ => 0
      let b := b.serving.foldl (fun b l => b.modImg fun i => i.setBank l pl) b
      let b := b.modImg fun i =>
        { i with staging := [], cfgSt := 1, commits := satNat 0xFFFFFFFF (i.commits + 1), deferred := satNat 65535 waits,
                 version := if mode = 1 then c.version.toNat else i.version }
      (b.raiseAll 249 0 noSubject (toSigned 4 c.version.toNat)).finishWhere sel .ok (leBytes 4 c.version.toNat ++ leBytes 4 waits)
        (match mode with | 1 => .params set | 2 => .restartBoth | _ => .none)

/-! ## Loading a configuration (R81, R82, R158) -/

/-- The serialisation that ring.hands.crc covers: the bodies of the hand records in hand order (log entry 40). -/
def handBytes (i : Nat) (h : Hand) : List Byte :=
  leBytes 1 i ++ leBytes 1 h.slots.length ++ leBytes 1 h.polls.length ++ [0] ++
    h.slots.flatMap (fun s => leBytes 4 s.start ++ leBytes 2 s.len ++
      leBytes 1 (16 * s.owner + 8 * b2n s.polled + 4 * b2n s.west + 2 * b2n s.sync) ++ leBytes 1 s.frame) ++
    h.polls.flatMap (fun row => row.flatMap (leBytes 1) ++ List.replicate (64 - row.length) 0xFF)

/-- ring.hands.crc of eight hands. -/
def handsCrcOf (hs : List Hand) : Word := BitVec.ofNat 32 (crc32c ((mapIdxFrom handBytes 0 hs).flatten))

/-- The running configuration becomes that of an accepted image. -/
def Block.loadCfg (b : Block) (c : CfgImage) : Block :=
  let l := c.recs
  let b := { b with params := psetAll [] ((cfgParams l).map ParamRec.pair) }
  let b := b.modPart fun p => { p with slices := cfgSlices l }
  let b := b.modNet fun _ =>
    { NetTables.fresh with entries := cfgEntries l, hands := cfgHands l, handsCrc := handsCrcOf (cfgHands l) }
  let b := l.foldl (fun b x => match x with | .mark c i base len => b.markNow c i base len | _ => b) b
  b.modImg fun i => { i with version := c.version.toNat, deferred := 0,
                             boot := l.findSome? fun x => match x with | .boot y => some y | _ => none }

/-- The factory defaults are in force: every parameter at its value after start, no entry or hand, and no slice but PRID 0's
with all tenant SRAM and every event source (R82, R135). -/
def Block.loadDefaults (b : Block) : Block :=
  let b := { b with params := [] }
  let all : Slice :=
    { Slice.empty with
      phase := .running, sram := [{ base := 0, len := sramSize, shared := false }],
      events := List.replicate 4 (BitVec.ofNat 64 (2 ^ 64 - 1)) }
  let b := b.modPart fun p => { p with slices := setAt (List.replicate 32 Slice.empty) 0 all }
  let b := b.modNet fun _ => { NetTables.fresh with handsCrc := handsCrcOf NetTables.fresh.hands }
  b.modImg fun i => { i with version := 0, deferred := 0, boot := none }

/-- What a lane finds in its own bank (R81): an accepted image, or module.cfg.state 1 or 2. -/
def Block.bankCheck (b : Block) (ae : Bool) (l : Lane) : Except Nat CfgImage :=
  let img := b.img.bank l
  if !cfgFormOk img then .error 1
  else match cfgCheck ae (b.lane l).image img with
  | .ok c => .ok c
  | .error _ => .error 2

/-! ## The parameter store (R510, R511) -/

/-- Every restored value at its initial value. -/
def Block.clearRestored (b : Block) : Block :=
  let b := { b with links := b.links.map fun (x : DieLink) => { x with saved := DieLink.fresh.saved } }
  let b := b.modMod fun m => { m with failovers := 0, divCount := 0 }
  let b := b.modLanes fun x => { x with lockFaults := 0, eccCorrected := 0, log := [], logDropped := 0 }
  let b := b.modNw fun n => { n with falseCount := 0, ackFailed := 0, log := [] }
  let b := b.modBridge fun r => { r with failures := 0 }
  let b := b.modKeys fun k => { k with alarms := 0 }
  b.modImg fun i => { i with resumes := 0, commits := 0 }

/-- A lane reads its parameter store at step 7. Its values count when no lane is in service; the formats are its own. -/
def Block.readStore (b : Block) (l : Lane) : Block :=
  let i := (b.lane l).image
  let f := b.img.storeFmt.get l
  let lost := !b.img.storeOk.get l || (f != i.storeFmt && decide (f < i.storeOldest))
  if lost then
    let b := (b.modImg fun x => { x with storeFmt := x.storeFmt.set l i.storeFmt }).raise l 255 0 noSubject 0
    if b.serves l.other then b else b.clearRestored
  else if f != i.storeFmt then
    (b.modImg fun x => { x with storeFmt := x.storeFmt.set l i.storeFmt,
                                storeWrites := x.storeWrites.upd l fun n => satNat 0xFFFFFFFF (n + 1) }).raise l 254 0 noSubject
      i.storeFmt
  else b

end Sys2Proof

namespace Sys2Proof.Machine

/-- UPDATE_BEGIN (R493). -/
def execUpdateBegin (q : Req) (s : State) : Host.Outcome State Fault Refusal :=
  onBlock (fun b => b.serve 0x8001 q fun b => b.runUpdateBegin q) s

/-- STAGING_ERASE_DONE (R493, R506, R507). -/
def execStagingEraseDone (area : StagingArea) (s : State) : Host.Outcome State Fault Refusal :=
  onBlock (fun b => b.eraseDone area) s

/-- UPDATE_BLOCK (R494). -/
def execUpdateBlock (q : Req) (s : State) : Host.Outcome State Fault Refusal :=
  onBlock (fun b => b.serve 0x8002 q fun b => b.runUpdateBlock q) s

/-- UPDATE_VERIFY (R496). -/
def execUpdateVerify (q : Req) (s : State) : Host.Outcome State Fault Refusal :=
  onBlock (fun b => b.serve 0x8003 q fun b => b.runUpdateVerify q) s

/-- UPDATE_VERIFY_DONE (R491, R496). -/
def execUpdateVerifyDone (s : State) : Host.Outcome State Fault Refusal := onBlock (fun b => b.verifyDone s.otp.rollback) s

/-- UPDATE_ACTIVATE (R280). -/
def execUpdateActivate (q : Req) (s : State) : Host.Outcome State Fault Refusal :=
  onBlock (fun b => b.serve 0x8004 q fun b => b.runUpdateActivate (fun x => fieldAt x.staging.image 12 2) q) s

/-- CONFIG_BLOCK (R506). -/
def execConfigBlock (q : Req) (s : State) : Host.Outcome State Fault Refusal :=
  onBlock (fun b => b.serve 0x8010 q fun b => b.runConfigBlock q) s

/-- CONFIG_COMMIT (R507). -/
def execConfigCommit (q : Req) (s : State) : Host.Outcome State Fault Refusal :=
  onBlock (fun b => b.serve 0x8011 q fun b => b.runConfigCommit q) s

/-- CONFIG_COMMIT_WRITTEN (R507). -/
def execConfigCommitWritten (s : State) : Host.Outcome State Fault Refusal := onBlock (fun b => b.commitWritten s.otp.codeAE) s

/-- COMMIT_RESTART: both lanes restart together (R507). -/
def execCommitRestart (s : State) : Host.Outcome State Fault Refusal :=
  onBlock (fun b => if b.img.commitRestart then
    (b.modImg fun i => { i with commitRestart := false }).lanesOff 0 else b) s

end Sys2Proof.Machine
end

