-- ==== Sys2Proof/Machine/Drain.lean ====
section
/-! DEFINITION. Shrinking and destroying slices: the drain of in-flight work, its limit, the teardown and the zeroing of
released granules (R134, R138-R143). -/

namespace Sys2Proof

/-! ## Work in flight on removed resources (R140) -/

/-- A pending request uses a removed key slot, whoever asked for it, or the partition's own one a removed context or range of
tenant SRAM. -/
def Pend.drains (e : Pend) (p : Nat) (recs : List ResRec) : Bool :=
  let own := e.req.path.prid == p && !e.req.path.isGov
  match e.kind with
  | .keyImport i _ _ => recsRemove recs (.slot i)
  | .keyReplace i _ _ _ => recsRemove recs (.slot i)
  | .cipher c _ _ _ => own && (recsRemove recs (.ctx c) || (namedObjects e.opcode e.req.pay).any (recsRemove recs))
  | .storage .. => own && (namedObjects e.opcode e.req.pay).any (recsRemove recs)
  | _ => false

/-- A frame of the partition waits in a controller of a removed bus. -/
def CanTx.drains (t : CanTx) (p : Nat) : Bool := match t.prid with | some q => q.val == p | none => false

/-- The removed buses and physical queues of a list of records. -/
def removedBuses (recs : List ResRec) : List Nat := (List.range 12).filter fun i => recsRemove recs (.bus i)

/-- The removed physical queues, as 8 * port + queue. -/
def removedQueues (recs : List ResRec) : List Nat :=
  (List.range 56).filter fun k => recs.any fun r => r.kind == 0x04 && r.value.testBit k

/-- Frames of a queue and its residue. -/
def SwitchSt.waitingAt (s : SwitchSt) (k : Nat) : Nat :=
  (s.queue (k / 8) (k % 8)).length + ((s.residue.getD (k / 8) []).filter fun e => e.2 == k % 8).length

/-- A sent frame that no power die has acknowledged yet commands a removed channel. -/
def Unacked.commands (u : Unacked) (d : Nat) (recs : List ResRec) : Bool :=
  let removed := fun (i : Nat) => recsRemove recs (.chan (16 * d + i))
  match u.kind with
  | .set | .pwm | .unlock => removed u.frame.idx.val
  | .multi => (List.range 16).any fun i => (fieldAt u.frame.arg 0 2).testBit i && removed i
  | _ => false

/-- Frames on their way to removed channels: they cannot be cut (R140). -/
def Block.framesOut (b : Block) (recs : List ResRec) : Nat :=
  ((List.range 4).map fun d => ((b.link d).unacked.filter fun u => u.commands d recs).length).sum

/-- Cells that a partition holds above the quota that a shrink leaves it: they drain as frames leave (R140). -/
def Block.cellsOver (b : Block) (p : Nat) (recs : List ResRec) : Nat :=
  if recs.any (·.kind == 0x05) then (b.lane b.act).sw.quotaUsed p - (b.slice p).quota else 0

/-- The items in flight that the drain limit cuts, as the active lane counts them: frames in CAN controllers and physical queues,
running operations. -/
def Block.cuttable (b : Block) (p : Nat) (recs : List ResRec) : Nat :=
  let x := b.lane b.act
  let can := (removedBuses recs).map fun i => ((x.ctl i).tx.filter fun t => t.drains p).length
  let sw := (removedQueues recs).map x.sw.waitingAt
  can.sum + sw.sum + (b.mail.pend.filter fun e => e.drains p recs).length

/-- The number of items in flight on removed resources; a cell above the quota counts as one (log entry 113). -/
def Block.inFlight (b : Block) (p : Nat) (recs : List ResRec) : Nat :=
  b.framesOut recs + b.cellsOver p recs + b.cuttable p recs

/-! ## Removing (R140, R141) -/

/-- A granule that a slice other than `p` still holds. -/
def Block.heldElsewhere (b : Block) (p g : Nat) : Bool :=
  (others p).any fun q => inRanges (b.slice q).sram (g * granule) granule

/-- The granules of removed tenant SRAM that no other slice holds. -/
def Block.releasedGranules (b : Block) (p : Nat) (recs : List ResRec) : List Nat :=
  ((recs.filter (·.kind == 0x09)).flatMap fun r => granulesOf r.first r.value).filter fun g => !b.heldElsewhere p g

/-- The resources leave the slice; its CAN filters and queues on removed buses go with them. -/
def Block.takeAway (b : Block) (p : Nat) (recs : List ResRec) : Block :=
  let b := b.modSlice p fun s => recs.foldl Slice.remove s
  let b := (removedBuses recs).foldl (fun b i => b.modBus i fun c =>
    { c with filters := c.filters.filter (fun f => f.1 != p), queues := c.queues.filter (fun q => q.1 != p) }) b
  b.modPart fun s => { s with draining := s.draining ++ b.releasedGranules p recs }

/-- The drain has ended: removed key slots are wiped, released granules are zeroed. -/
def Block.drained (b : Block) (p : Nat) (recs : List ResRec) : Block :=
  let gs := b.releasedGranules p recs
  let b := b.modPart fun s => { s with draining := s.draining.filter (fun g => !gs.contains g), zeroing := s.zeroing ++ gs }
  b.modKeys fun k => { k with slots := mapIdxFrom (fun i s => if recsRemove recs (.slot i) then KeySlot.empty else s) 0 k.slots }

/-- The 16 bytes of the final response (R142). -/
def Drain.pay (d : Drain) (us : Nat) : List Byte :=
  leBytes 4 (d.total - d.cut) ++ leBytes 4 d.resized ++ leBytes 4 d.cut ++ leBytes 4 us

/-- A shrink or teardown is recorded; it begins at the next boundary. -/
def Block.addDrain (b : Block) (p : Nat) (recs : List ResRec) (destroy : Bool) : Block :=
  b.modPart fun s => { s with drains := s.drains ++
    [(p, { recs := recs, destroy := destroy, begun := false, ended := false, total := 0, resized := 0, cut := 0 })] }

/-- The record of a drain changed. -/
def Block.modDrain (b : Block) (p : Nat) (f : Drain → Drain) : Block :=
  b.modPart fun s => { s with drains := s.drains.map fun e => if e.1 = p then (p, f e.2) else e }

/-- SLICE_SHRINK (R138, R140, R142). -/
def Block.runShrink (b : Block) (r : Req) : Block :=
  let l := r.pay
  let p := byteAt l 0
  b.check7 r 0x1003 (slicePayOk l false) fun b =>
  b.needRoom r 0x1003 16 fun b =>
  let recs := resRecs l (fieldAt l 4 2)
  let s := b.ahead.getD p Slice.empty
  if s.phase == .none || b.tearing p || recs.any (fun q => !s.holdsRec q) then b.reply r 0x1003 .badParam
  else (b.addDrain p recs false).hold r 0x1003 (.shrink (Fin.ofNat 32 p)) false

/-- SLICE_DESTROY (R136, R138, R139). -/
def Block.runDestroySlice (b : Block) (r : Req) : Block :=
  let l := r.pay
  let p := byteAt l 0
  b.check7 r 0x1004 (headOk l 31 && p != 0) fun b =>
  if (b.ahead.getD p Slice.empty).phase == .none || b.tearing p then b.reply r 0x1004 .badParam
  else (b.addDrain p [] true).hold r 0x1004 (.destroy (Fin.ofNat 32 p)) true

/-- The pending SLICE_SHRINK of a PRID. -/
def Pend.shrinks (e : Pend) (p : Nat) : Bool := match e.kind with | .shrink q => q.val == p | _ => false

/-- The drain of a shrink has ended: the removed resources are free, and its response is completed with its counts; the drain
stands until that is visible (R141, R142). -/
def Block.shrinkEnds (b : Block) (p us : Nat) (d : Drain) : Block :=
  ((b.drained p d.recs).modDrain p fun d => { d with ended := true }).finishWhere (·.shrinks p) .ok (d.pay us)
    (.shrunk (Fin.ofNat 32 p))

/-- The boundary of a shrink's take-up: its resources leave the slice; with work in flight it returns PENDING (R140, R142). -/
def Block.beginShrink (b : Block) (p : Nat) (d : Drain) : Block :=
  let b := (b.takeAway p d.recs).modDrain p fun d => { d with begun := true }
  let n := b.inFlight p d.recs
  if n = 0 then b.shrinkEnds p 0 { d with begun := true }
  else
    let b := (b.modDrain p fun d => { d with total := n }).modSlice p fun s => { s with phase := .shrinking }
    let hits := b.mail.pend.filter fun e => e.shrinks p && !e.told
    let b := b.modMail fun m => { m with pend := m.pend.map fun e => if e.shrinks p then { e with told := true } else e }
    hits.foldl (fun b e => b.post (e.req.answer e.opcode .pending [] .none true true)) b

/-- The boundary of a teardown's take-up: the whole slice is removed; its virtual port empties and its WAKE_HOLD ends (R139). -/
def Block.beginTeardown (b : Block) (p : Nat) : Block :=
  let recs := (b.slice p).recs
  let b := (b.takeAway p recs).modSlice p fun s => { s with phase := .tearing, frozen := false }
  let b := b.modLanes fun x => x.modSw fun s => ({ s with vpRx := setAt s.vpRx p (List.replicate 8 []) } : SwitchSt).gc
  let b := b.modNw fun w => { w with holds := w.holds &&& ~~~ (BitVec.ofNat 32 (2 ^ p)) }
  let b := b.modPart fun s => { s with removed := s.removed.filter fun e => e.1 != p }
  let n := b.inFlight p recs
  let b := b.modDrain p fun d => { d with recs := recs, begun := true, total := n, ended := n == 0 }
  if n = 0 then b.drained p recs else b

/-- The shrinks and teardowns taken up in the epoch that ends begin. -/
def Block.beginDrains (b : Block) : Block :=
  (b.part.drains.filter fun e => !e.2.begun).foldl (fun b e =>
    if e.2.destroy then b.beginTeardown e.1 else b.beginShrink e.1 e.2) b

/-- The response of a shrink is visible: the drain is over, and requests rung until now still meet RESIZED (R140-R142). -/
def Block.shrunkNow (b : Block) (p : Nat) : Block :=
  let last := (b.mail.parts.getD p (WinAgreed.fresh 4)).mbEpoch
  let b := b.modPart fun s =>
    { s with removed := s.removed ++ (s.drains.filter fun e => e.1 == p && !e.2.destroy).map fun e => (p, e.2.recs, last),
             drains := s.drains.filter fun e => e.1 != p || e.2.destroy }
  b.modSlice p fun s => if s.phase = .shrinking then { s with phase := .running } else s

/-- The drain limit: frames still unsent are removed, queued frames flushed, operations end with their output wiped, and each
is counted as cut (R140, R457). -/
def Block.drainCut (b : Block) (p : Nat) : Block :=
  match b.drainOf? p with
  | none => b
  | some d =>
    if !d.begun || d.ended then b else
    let n := b.cuttable p d.recs
    let b := b.modLanes fun x => (removedBuses d.recs).foldl (fun x i => x.modCtl i fun c =>
      { c with tx := c.tx.filter fun t => !t.drains p }) x
    let b := b.modLanes fun x => x.modSw fun s => ((removedQueues d.recs).foldl (fun s k =>
      let s := s.modQueue (k / 8) (k % 8) fun _ => []
      { s with residue := updAt s.residue (k / 8) fun l => l.filter fun e => e.2 != k % 8 }) s).gc
    let shadows := b.mail.pend.filterMap fun e => match e.kind with
      | .keyReplace i _ _ _ => if e.drains p d.recs then some i else none
      | _ => none
    let b := (shadows.foldl Block.shadowFree b).finishWhere (fun e => e.drains p d.recs) .resized [] .none
    b.modDrain p fun d => { d with cut := d.cut + n }

/-- The last in-flight work has ended: the shrink answers with its counts, a teardown goes on to zeroing (R139, R142). -/
def Block.drainEnds (b : Block) (p us : Nat) : Block :=
  match b.drainOf? p with
  | none => b
  | some d =>
    if !d.begun || d.ended || b.inFlight p d.recs != 0 then b else
    let b := if d.cut = 0 then b else b.raiseAll 30 0 p d.cut
    if d.destroy then (b.drained p d.recs).modDrain p fun d => { d with ended := true }
    else b.shrinkEnds p us d

/-- The teardown ends: the slice is gone, its granules are free, and a SLICE_CREATE that waited is decided (R138, R139). -/
def Block.tornDown (b : Block) (p : Nat) : Block :=
  match b.drainOf? p with
  | some { recs := recs, destroy := true, ended := true, .. } =>
    let gs := b.releasedGranules p recs
    let b := b.modPart fun s => { s with drains := s.drains.filter (fun e => e.1 != p), zeroing := s.zeroing.filter fun g => !gs.contains g }
    let b := b.modSlice p fun _ => Slice.empty
    let b := b.finishWhere (fun e => match e.kind with | .destroy q => q.val == p | _ => false) .ok [] .none
    let waits := b.mail.pend.filter fun e => match e.kind with | .create q _ => q.val == p | _ => false
    let b := b.modMail fun m => { m with pend := m.pend.filter fun e => match e.kind with | .create q _ => q.val != p | _ => true }
    waits.foldl (fun b e => match e.kind with | .create _ recs => b.decideCreate e.req p recs | _ => b) b
  | _ => b

/-- The granules whose teardown ends now. -/
def Block.tornGranules (b : Block) (p : Nat) : List Nat :=
  match b.drainOf? p with
  | some { recs := recs, destroy := true, ended := true, .. } => b.releasedGranules p recs
  | _ => []

end Sys2Proof

namespace Sys2Proof.Machine

/-- SLICE_SHRINK (R140). -/
def execSliceShrink (q : Req) (s : State) : Host.Outcome State Fault Refusal :=
  onBlock (fun b => b.serve 0x1003 q fun b => b.runShrink q) s

/-- SLICE_DESTROY (R139). -/
def execSliceDestroy (q : Req) (s : State) : Host.Outcome State Fault Refusal :=
  onBlock (fun b => b.serve 0x1004 q fun b => b.runDestroySlice q) s

/-- DRAIN_LIMIT_REACHED (R140). -/
def execDrainLimitReached (p : Prid) (s : State) : Host.Outcome State Fault Refusal := onBlock (fun b => b.drainCut p) s

/-- DRAIN_END (R142). -/
def execDrainEnd (p : Prid) (us : Nat) (s : State) : Host.Outcome State Fault Refusal := onBlock (fun b => b.drainEnds p us) s

/-- TEARDOWN_END: what is still to be zeroed holds zeros in both lanes (R134, R139). -/
def execTeardownEnd (p : Prid) (s : State) : Host.Outcome State Fault Refusal :=
  let m := (s.b.tornGranules p).foldl (fun (m : MemSt) g => m.zero (g * granule) granule) s.mem
  .next ((s.withBlock (s.b.tornDown p)).withMem m)

/-- GRANULE_ZEROED: the granule holds zeros in both lanes and rejoins the pool (R134). -/
def execGranuleZeroed (g : Fin 768) (s : State) : Host.Outcome State Fault Refusal :=
  if s.b.part.zeroing.contains g.val then
    .next ((s.withBlock (s.b.modPart fun x => { x with zeroing := x.zeroing.filter (· != g.val) })).withMem
      (s.mem.zero (g.val * granule) granule))
  else .next s

end Sys2Proof.Machine
end

