-- ==== Sys2Proof/Machine/Faults.lean ====
section
/-! DEFINITION. Fault handling: scrub, always-on checks, coolant and die temperatures, event counts and the fault log
(19_fault_handling_and_events.md). -/

namespace Sys2Proof

/-! ## Records (R528) -/

/-- Bytes 0 to 3 of a record: event, lane flags, cause, subject. -/
def EvRec.head (r : EvRec) : List Byte :=
  leBytes 1 r.ev.val ++ leBytes 1 (b2n r.la + 2 * b2n r.lb) ++ leBytes 1 r.cause ++ leBytes 1 r.subject

/-- The 32 bytes of a delivered record. -/
def EvRec.bytes (r : EvRec) (round offset seq : Nat) : List Byte :=
  r.head ++ leBytes 4 (ofSigned 4 r.detail) ++ leBytes 8 r.epoch ++ leBytes 8 round ++ leBytes 4 offset ++ leBytes 4 seq

/-! ## Scrub and always-on domains (R516, R517) -/

/-- An address in the active slot of the embedded flash (R489). -/
def inActiveSlot (a : Nat) : Bool := decide (0x80000 ≤ a) && decide (a < 0x680000)

/-- A scrub pass of a lane ends. A page that no peer can rewrite now leaves an active slot that fails its boot check. -/
def Block.scrub (b : Block) (l : Lane) (r : ScrubFind) : Block :=
  if (b.lane l).st < 2 then b else
  let now := b.mod.epoch
  let n := r.corrected + r.freeGranule.length
  let old := (b.lane l).eccRecent.filter fun e => decide (now < e.1 + epochsPerHour)
  let before := (old.map (·.2)).sum
  let limit := b.p 0x9005 0
  let b := b.modLane l fun x =>
    { x with eccCorrected := satNat 0xFFFFFFFF (x.eccCorrected + n), eccRecent := if n = 0 then old else (now, n) :: old }
  let b := if before ≤ limit ∧ limit < before + n then b.raise l 25 0 l.num ((before + n : Nat) : Int) else b
  let b := r.flashPages.foldl (fun b a => b.raise l 28 0 l.num (toSigned 4 (a % 2 ^ 32))) b
  let b := if !b.serves l.other && r.flashPages.any inActiveSlot then
      b.modLane l fun x => { x with image := { x.image with valid := false } } else b
  let b := if r.overran then b.raise l 26 0 l.num 0 else b
  if r.uncorrectableLane then b.laneFault l 0x07 0 else b

/-- A lane reads its always-on domain. -/
def Block.aonCheck (b : Block) (l : Lane) (readOk rtcOk : Bool) : Block :=
  if !b.runs l then b else
  let miss := if readOk then 0 else (b.lane l).aonMiss + 1
  let bad := decide (2 ≤ miss) || !rtcOk
  let fresh := bad && !(b.lane l).aonFault
  let b := b.modLane l fun x => { x with aonMiss := miss, aonFault := x.aonFault || bad }
  if fresh then b.raise l 27 0 l.num 0 else b

/-! ## Coolant (R522, R523) -/

/-- A coolant flag set or cleared. -/
def setCool (w : BitVec 8) (k : Nat) (v : Bool) : BitVec 8 :=
  if v then w ||| BitVec.ofNat 8 (2 ^ k) else w &&& ~~~ (BitVec.ofNat 8 (2 ^ k))

/-- The estimate in 0.1 degrees: the mean of the middle two of the dies' coolant values, to the nearest tenth. -/
def coolantEstimate (m : CoolantMeas) : Int :=
  let vals := (List.range 4).map fun i => ((m.substrate.getD i 0 : Int) : Rat) - 6 * m.power.getD i 0
  let s := sortBy (fun x y => decide (x ≤ y)) vals
  nearest ((s.getD 1 0 + s.getD 2 0) / 2)

/-- The estimate rose by 1 K or more in every second of the last 5 s (R523). -/
def risesFast (h : List Int) : Bool :=
  decide (51 ≤ h.length) && (List.range 41).all fun k => decide (h.getD (k + 10) 0 + 10 ≤ h.getD k 0)

/-- A compute or network die at 125 degrees, or a substrate at 140 (flag [2]). -/
def criticalNow (m : CoolantMeas) : Bool := m.computeNet.any (fun t => decide (1250 ≤ t)) || m.substrate.any (fun t => decide (1400 ≤ t))

/-- The next count of consecutive steps. -/
def runOf (c : Bool) (n : Nat) : Nat := if c then n + 1 else 0

/-- One 100 ms step. `limit`: the inlet limit of the ordered code. -/
def Block.coolStep (b : Block) (limit : Int) (m : CoolantMeas) : Block :=
  if !(b.runs .a || b.runs .b) then b else
  let c := b.cool
  let e := coolantEstimate m
  let decl := b.pi 0x8010 0
  let hist := (e :: c.hist).take 51
  let pwr := (m.module :: c.modPwr).take 51
  let flat := match pwr with
    | [] => true
    | p :: t => decide (t.foldl max p - t.foldl min p < 5)
  let above := runOf (decide (10 * limit < e)) c.overRun
  let under := runOf (decide (e ≤ 10 * limit - 30)) c.underRun
  let notRising := runOf (decide (e ≤ hist.getD 10 e)) c.notRising
  let dOver := runOf (decide (10 * decl + 50 < e)) c.declRun
  let dUnder := runOf (decide (e ≤ 10 * decl)) c.declUnder
  let cool := m.computeNet.all (fun t => decide (t ≤ 1150)) && m.substrate.all (fun t => decide (t ≤ 1300))
  let cUnder := runOf cool c.critUnder
  let f0 := decide (10 ≤ above) || (c.flags.getLsbD 0 && decide (under < 100))
  let f1 := (risesFast hist && flat) || decide (10 * limit + 100 < e) || (c.flags.getLsbD 1 && !(decide (300 ≤ notRising) && !f0))
  let f2 := criticalNow m || (c.flags.getLsbD 2 && decide (cUnder < 100))
  let f3 := decide (10 ≤ dOver) || (c.flags.getLsbD 3 && decide (dUnder < 100))
  let flags := setCool (setCool (setCool (setCool c.flags 0 f0) 1 f1) 2 f2) 3 f3
  let b := { b with cool := { c with est10 := e, flags := flags, hist := hist, modPwr := pwr, overRun := above, underRun := under,
                                     notRising := notRising, declRun := dOver, declUnder := dUnder, critUnder := cUnder } }
  let newly := fun (k : Nat) => flags.getLsbD k && !c.flags.getLsbD k
  let b := if newly 0 then b.raiseAll 6 0 noSubject e else b
  let b := if newly 1 then b.raiseAll 7 1 noSubject e else b
  if newly 3 then b.raiseAll 6 3 noSubject e else b

/-! ## Die temperatures (R524) -/

/-- A temperature passes a threshold upwards. -/
def crosses (old new th : Int) : Bool := decide (old < th) && decide (th ≤ new)

/-- The number by which an event names a compute or network die (R534). -/
def hotDie (network : Bool) (l : Lane) : Nat := (if network then 6 else 4) + l.num

/-- A reading of a compute or network die. -/
def Block.laneTemp (b : Block) (network : Bool) (l : Lane) (t : Int) : Block :=
  let ts := (b.lane l).temps
  let old := if network then ts.2 else ts.1
  let b := b.modLane l fun x => { x with temps := if network then (x.temps.1, t) else (t, x.temps.2) }
  let b := if crosses old t 1150 then b.raise l 9 1 (hotDie network l) t else b
  let b := if crosses old t 1250 then
      { (b.raise l 9 2 (hotDie network l) t) with cool := { b.cool with flags := setCool b.cool.flags 2 true, critUnder := 0 } }
    else b
  if 1400 ≤ t then b.laneFault l 0x0C 0 else b

/-- A substrate reading of a power die. -/
def Block.dieTemp (b : Block) (d : Nat) (t : Int) : Block :=
  let old := b.cool.sub.getD d 0
  let sub := setAt ((b.cool.sub ++ [0, 0, 0, 0]).take 4) d t
  let b := { b with cool := { b.cool with sub := sub } }
  let b := if crosses old t 1300 then b.raiseAll 8 1 d t else b
  if crosses old t 1400 then
    { (b.raiseAll 8 2 d t) with cool := { b.cool with flags := setCool b.cool.flags 2 true, critUnder := 0 } }
  else b

/-- A lane that R524 took out may start again. -/
def LaneSt.coolEnough (x : LaneSt) : Bool := !x.hotHeld || (decide (x.temps.1 ≤ 1100) && decide (x.temps.2 ≤ 1100))

/-! ## Counts and the log (R530-R533) -/

/-- The counts of one event. -/
def Block.evCount (b : Block) (n : Nat) : EvCount :=
  (b.ev.counts.find? fun c => c.ev == n).getD { ev := n, count := 0, latest := none }

/-- The 16 bytes of one event; zeros where no record has been delivered. -/
def EvCount.bytes (c : EvCount) : List Byte :=
  leBytes 4 c.count ++ (match c.latest with
    | some r => r.head ++ leBytes 4 (ofSigned 4 r.detail) ++ leBytes 4 r.epoch
    | none => zeroBytes 12)

/-- EVENT_READ. -/
def Block.runEventRead (b : Block) (r : Req) : Block :=
  let p := r.pay
  let first := byteAt p 0
  let n := byteAt p 1
  b.check7 r 0x9001 (p.length == 4 && decide (1 ≤ n) && decide (n ≤ 64) && decide (first + n ≤ 256) && zerosAt p 2 2) fun b =>
  b.needRoom r 0x9001 (16 * n) fun b =>
  b.ok r 0x9001 ((List.range n).flatMap fun i => (b.evCount (first + i)).bytes)

/-- FAULT_LOG_READ: the active lane's log. -/
def Block.runLogRead (b : Block) (r : Req) : Block :=
  let p := r.pay
  let first := fieldAt p 0 2
  let n := fieldAt p 2 2
  b.check7 r 0x9002 (p.length == 4 && decide (1 ≤ n) && decide (n ≤ 64)) fun b =>
  b.needRoom r 0x9002 (8 + 32 * n) fun b =>
  let x := b.lane b.act
  let recs := (x.log.drop first).take n
  b.ok r 0x9002 (leBytes 2 x.log.length ++ leBytes 2 recs.length ++ leBytes 4 x.logTotal ++
    recs.flatMap fun e => e.entry.bytes e.round e.offset e.seq)

/-- What FAULT_CLEAR clears, at the boundary at which its response becomes visible (R114). -/
def Block.faultClear (b : Block) (fn : Nat) : Block :=
  if fn = 0 then b.modLanes fun x => { x with log := [] }
  else (b.modLanes fun x => { x with eccCorrected := 0 }).modEv fun v => { v with counts := v.counts.map fun c => { c with count := 0 } }

/-- FAULT_CLEAR with the function of byte 0. -/
def Block.runFaultClear (b : Block) (r : Req) : Block :=
  let p := r.pay
  b.check7 r 0x9003 (p.length == 4 && decide (byteAt p 0 ≤ 1) && zerosAt p 1 3) fun b =>
  b.finish r 0x9003 .ok [] (.faultClear (byteAt p 0))

/-- The oldest waiting record of class F is appended to a lane's log, or counted as dropped beyond 64 in an hour (R531). -/
def LaneSt.append (x : LaneSt) : LaneSt :=
  match x.logQueue with
  | [] => x
  | r :: t =>
    if 64 ≤ x.logHour then { x with logQueue := t, logDropped := satNat 0xFFFFFFFF (x.logDropped + 1) }
    else
      let log := x.log ++ [{ r with seq := x.logTotal }]
      { x with logQueue := t, log := log.drop (log.length - 256), logTotal := x.logTotal + 1, logHour := x.logHour + 1 }

end Sys2Proof

namespace Sys2Proof.Machine

/-- EVENT_READ (R530). -/
def execEventRead (q : Req) (s : State) : Host.Outcome State Fault Refusal :=
  onBlock (fun b => b.serve 0x9001 q fun b => b.runEventRead q) s

/-- FAULT_LOG_READ (R532). -/
def execFaultLogRead (q : Req) (s : State) : Host.Outcome State Fault Refusal :=
  onBlock (fun b => b.serve 0x9002 q fun b => b.runLogRead q) s

/-- FAULT_CLEAR, function 0 (R533). -/
def execFaultClearLog (q : Req) (s : State) : Host.Outcome State Fault Refusal :=
  onBlock (fun b => b.serve 0x9003 (q.withByte 0 0) fun b => b.runFaultClear (q.withByte 0 0)) s

/-- FAULT_CLEAR, function 1 (R533). -/
def execFaultClearCounts (q : Req) (s : State) : Host.Outcome State Fault Refusal :=
  onBlock (fun b => b.serve 0x9003 (q.withByte 0 1) fun b => b.runFaultClear (q.withByte 0 1)) s

/-- SCRUB_PASS (R516). -/
def execScrubPass (l : Lane) (r : ScrubFind) (s : State) : Host.Outcome State Fault Refusal := onBlock (fun b => b.scrub l r) s

/-- AON_CHECK (R517). -/
def execAonCheck (l : Lane) (readOk rtcOk : Bool) (s : State) : Host.Outcome State Fault Refusal :=
  onBlock (fun b => b.aonCheck l readOk rtcOk) s

/-- COOLANT_ESTIMATE (R522, R523). -/
def execCoolantEstimate (m : CoolantMeas) (s : State) : Host.Outcome State Fault Refusal :=
  onBlock (fun b => b.coolStep (inletLimit s.otp.codeAE) m) s

/-- DIE_TEMPERATURE (R524). -/
def execDieTemperature (d : TempDie) (t10 : Int) (s : State) : Host.Outcome State Fault Refusal :=
  onBlock (fun b => match d with
    | .power d => b.dieTemp d.val t10
    | .compute l => b.laneTemp false l t10
    | .network l => b.laneTemp true l t10) s

/-- DIE_OVERTEMP_TIMEOUT: lane fault 0x0C while the other lane carries the zone, else EV009 again (R524). -/
def execDieOvertempTimeout (network : Bool) (l : Lane) (t10 : Int) (s : State) : Host.Outcome State Fault Refusal :=
  onBlock (fun b =>
    let b := b.laneTemp network l t10
    if (b.lane l).st < 2 ∨ t10 < 1250 then b
    else if b.serves l.other then b.laneFault l 0x0C 0
    else b.raise l 9 2 (hotDie network l) t10) s

/-- FAULT_LOG_APPEND (R531). -/
def execFaultLogAppend (l : Lane) (s : State) : Host.Outcome State Fault Refusal :=
  onBlock (fun b => if b.runs l then b.modLane l LaneSt.append else b) s

/-- LOG_HOUR_END (R531). -/
def execLogHourEnd (l : Lane) (s : State) : Host.Outcome State Fault Refusal :=
  onBlock (fun b => b.modLane l fun x => { x with logHour := 0 }) s

end Sys2Proof.Machine
end

