-- ==== Sys2Proof/Machine/Status.lean ====
section
/-! DEFINITION. The status values that PARAM_GET reads (R94, R166, R209, R210, R236, R254, R282, R302, R348, R382, R404, R424,
R442, R468, R488, R513, R536), PARAM_GET itself (R116, R118), and NOP, MODULE_INFO and AUTH_CHALLENGE. -/

namespace Sys2Proof

/-! ## Group 0x01: the module, lanes and lockstep -/

/-- Whole seconds until a lane's restart falls due, deferral included and capped at 20 h of operation (R89, R90). -/
def Block.dueSeconds (b : Block) (l : Lane) : Nat :=
  let x := b.lane l
  let due := x.interval * 3600000000 + b.mod.deferLeft.get l * 60000000 - x.ownOffsetUs
  (satNat 72000000000 due - x.opUs) / 1000000

/-- The conditions of R521 as they stand. -/
def Block.guaranteeNow (b : Block) : BitVec 8 :=
  let m := b.mod
  let both := b.bothServe && b.settled && !b.activating && b.bridge.link != 0 && (b.lane .a).resyncStage == 0 &&
    (b.lane .b).resyncStage == 0
  let conf := b.configured
  let feedOk := fun (f : FeedSt) => f.band == .valid
  let cond := m.t30Valid && decide (4500 ≤ m.t30) && decide (m.t30 ≤ 36000) && feedOk m.feedA && feedOk m.feedB && b.cool.flags.toNat % 8 == 0
  let lock := (b.lane .a).broken == 0 && (b.lane .b).broken == 0
  let keys := b.keys.state == 0
  let latent := !(b.lane .a).overdue && !(b.lane .b).overdue
  BitVec.ofNat 8 (bitsOf [both, conf, cond, lock, keys, latent])

/-- The measured T30 band reported: 3 above 36 V, else the band last entered (R64). -/
def Block.bandNow (b : Block) : Nat := (b.lane b.act).band

/-- Group 0x01. -/
def Block.status01 (b : Block) (otp : Otp) (id : Nat) : Nat :=
  let x := b.lane b.act
  match id with
  | 0x0120 => satNat 60000 b.mod.t30
  | 0x0121 => b.bandNow
  | 0x0122 => ofSigned 4 (clampInt (-36000) 60000 b.mod.feedA.mv)
  | 0x0123 => ofSigned 4 (clampInt (-36000) 60000 b.mod.feedB.mv)
  | 0x0124 => ((List.range 4).map fun d => (b.die d).source.val * 4 ^ d).sum
  | 0x0125 => x.startCause
  | 0x012A => b.dueSeconds .a
  | 0x012B => b.dueSeconds .b
  | 0x012C => x.cfgState
  | 0x012D => otp.lifecycle.num
  | 0x0140 => match b.mod.active with
    | none => 0 | some .a => 1 | some .b => 2
  | 0x0141 => (b.lane .a).st
  | 0x0142 => (b.lane .b).st
  | 0x0143 => (b.lane .a).image.level
  | 0x0144 => (b.lane .b).image.level
  | 0x0145 => b.mod.failovers
  | 0x0146 => b.mod.divCount
  | 0x0147 => b.mod.divSource
  | 0x0148 => b.mod.divPrid
  | 0x0149 => satNat 100 b.mod.resyncMs
  | 0x014A => satNat 26000 b.mod.resyncHold
  | 0x014C => ofSigned 2 (clampInt (-32768) 32767 b.mod.epochOffset)
  | 0x014D => b.mod.canRxDiff
  | 0x0150 => (b.lane .a).lockFaults
  | 0x0151 => (b.lane .b).lockFaults
  | 0x0152 => b.mod.lockLast
  | 0x0153 => (b.lane .a).broken.toNat
  | 0x0154 => (b.lane .b).broken.toNat
  | 0x0155 => x.pairPeriods
  | 0x0156 => x.laneCompares
  | 0x0157 => (b.lane .a).injectResult
  | _ => (b.lane .b).injectResult

/-! ## Groups 0x10 to 0x30: partitions, channels and inputs -/

/-- Group 0x10. -/
def Block.status10 (b : Block) (id p : Nat) : Nat :=
  let v := b.viol p
  match id with
  | 0x1001 => b.partState p
  | 0x1018 => v.count
  | 0x1019 => v.cause
  | 0x101A => v.addr
  | _ => v.budgetTraps

/-- The die as its parameters show it: a silent die keeps its last values (R518). -/
def Block.dieShown (b : Block) (d : Nat) : DieSt := (b.link d).shown.getD (b.die d)

/-- Groups 0x20 and 0x28: the channel or die of the instance. -/
def Block.status20 (b : Block) (id c : Nat) : Nat :=
  let d := b.dieShown (c / 16)
  let x := d.chan (c % 16)
  let f := d.stored (c % 16)
  match id with
  | 0x2002 => chanState d x
  | 0x2003 => x.command.num
  | 0x2005 => x.freq
  | 0x2006 => x.duty
  | 0x2010 => satNat 65535 (x.lastUj / 1000)
  | 0x2011 => satNat 65535 (x.windowUj / 1000)
  | 0x2012 => x.lock.val
  | 0x2013 => satNat (2 ^ 64 - 1) x.clampCount
  | 0x2014 => satNat (2 ^ 64 - 1) (x.wear / 1000)
  | 0x2015 => satNat (2 ^ 64 - 1) x.switchCount
  | 0x2016 => x.queued.num
  | 0x2018 => d.preferred.num
  | 0x2019 => satNat 0xFFFFFFFF d.crc.a
  | 0x201A => satNat 0xFFFFFFFF d.crc.b
  | 0x201B => satNat 0xFFFFFFFF d.standbyActed
  | 0x201C => satNat 0xFFFFFFFF d.divergence
  | 0x201D => satNat 0xFFFFFFFF d.gaps
  | 0x2020 => protCause d x
  | 0x2021 => x.protLast.val
  | 0x2022 => satNat 0xFFFFFFFF x.trips
  | 0x2027 => satNat 255 x.retryUsed
  | 0x2029 => ofSigned 2 (clampInt (-400) 2000 x.local10)
  | 0x202A => satNat 0xFFFFFFFF x.thermCount
  | 0x203C => ofSigned 2 (clampInt (-400) 3000 (ratFloor (x.tw * 10)))
  | 0x203D => ofSigned 2 (clampInt 0 2000 (ratFloor (x.dtn * 10)))
  | 0x2040 => x.flags.toNat
  | 0x2043 => ofSigned 4 (clampInt (-500000) 500000 x.ma)
  | 0x2044 => ofSigned 2 (clampInt (-4500) 6000 x.v10)
  | 0x2048 => satNat 0xFFFFFFFF x.ledger
  | 0x2050 => d.iso.num
  | 0x2051 => d.isoPolicy.val
  | 0x2052 => satNat 0xFFFFFFFF d.isoCount
  | 0x2054 => ofSigned 2 (clampInt (-400) 2000 d.substrate10)
  | 0x2808 => f.st.val
  | 0x2809 => f.duty
  | 0x280A => f.freq
  | 0x280B => b2n (f.agrees (b.fsConfig c))
  | 0x2811 => satNat 0xFFFFFFFF d.expiries
  | 0x2812 => b2n d.failSafe
  | _ => satNat 100000 d.storeCount

/-- A lane's latest sample of an input: −1 when stale or while the lane is not in service (R254). -/
def Block.sampleShown (b : Block) (l : Lane) (i : Nat) : Int :=
  match b.agedSample l i with
  | some s => if b.freshSample i s && b.serves l then s.value else -1
  | none => -1

/-- Group 0x30. -/
def Block.status30 (b : Block) (id i : Nat) : Nat :=
  let x := b.input i
  match id with
  | 0x3010 => ofSigned 4 x.value
  | 0x3011 => x.volt
  | 0x3012 => x.flags.toNat
  | 0x3013 => x.disCount
  | 0x3014 => ofSigned 4 (b.sampleShown .a i)
  | _ => ofSigned 4 (b.sampleShown .b i)

/-! ## Groups 0x40 to 0x60: networks and bridge -/

/-- The encoding of ring.state. -/
def RingState.num : RingState → Nat
  | .off => 0 | .listening => 1 | .integrating => 2 | .synchronised => 3 | .coldStarting => 4 | .passive => 5 | .asleep => 6

/-- Group 0x40: ring A at its IDs, ring B at ID plus 0x20 (R348). -/
def Block.status40 (b : Block) (id : Nat) : Nat :=
  if id = 0x400F then b.net.handsCrc.toNat else
  let l := if id < 0x4030 then Lane.a else Lane.b
  let r := b.ring l
  let feed := fun (p : RingPort) => r.looped.get p.side && b.ringUp l p
  match id % 32 with
  | 0x10 => r.st.num
  | 0x11 => satNat (2 ^ 64 - 1) r.round
  | 0x12 => r.hand.val
  | 0x13 => (r.dealer.map (·.val)).getD 255
  | 0x14 => r.aliveLast.toNat
  | 0x15 => bitsOf [r.looped.a, r.looped.b, feed .rge, feed .rgw]
  | 0x16 => r.syncN
  | 0x17 => ofSigned 4 r.offset
  | 0x18 => ofSigned 4 r.rate
  | 0x19 => satNat 65535 r.spread
  | 0x1A => satNat 65535 r.delays.a
  | 0x1B => satNat 65535 r.delays.b
  | 0x1C => satNat 0xFFFFFFFF r.blocked
  | 0x1D => satNat 0xFFFFFFFF r.cut
  | 0x1E => satNat 0xFFFFFFFF r.pollsMissed
  | _ => satNat 0xFFFFFFFF r.withdrawn

/-- The encoding of sw.port.link. -/
def LinkSt.num : LinkSt → Nat
  | .down => 0 | .up => 1 | .hold => 2

/-- The 16 bytes of one SA in sw.macsec.sa (R379, R382): slot and context are 242 and upward. -/
def Block.saBytes (b : Block) (k : Nat) : List Byte :=
  let s := b.net.sas.getD k { installed := false, inUse := false, an := 0, pn := 0 }
  let pn := if k < 2 then (b.ctx (saSlot k)).counter else (b.lane b.act).sw.rxPn.getD (k - 2) 0
  if s.installed then
    leBytes 1 (1 + 2 * b2n (decide (k < 2) && s.inUse)) ++ leBytes 1 s.an.val ++ leBytes 2 (saSlot k) ++ zeroBytes 4 ++ leBytes 8 pn
  else zeroBytes 16

/-- Group 0x48, of the active lane's switch core where the lanes differ (R382). -/
def Block.status48 (b : Block) (id i : Nat) : Nat :=
  let s := (b.lane b.act).sw
  match id with
  | 0x4802 =>
    if i = 0 && s.txStopped && s.links.getD 0 .down == .up then (if s.txFlushed then 0 else 2) else (s.links.getD i .down).num
  | 0x4807 => portMac b.act i
  | 0x4813 => leNat ((List.range 8).flatMap fun q => leBytes 2 (satNat 65535 (s.cells (s.queue i q))))
  | 0x4824 => satNat 24576 (s.quotaUsed (i - 7))
  | 0x4825 => macBase + 32 + (i - 7)
  | 0x4834 => s.free
  | 0x4835 => satNat 0xFFFFFFFF s.leaked
  | 0x4838 => satNat 8192 s.reserve
  | _ => leNat ((List.range 10).flatMap b.saBytes)

/-- can.state of a lane (R404). -/
def Block.canShown (b : Block) (l : Lane) (i : Nat) : Nat :=
  let c := (b.lane l).ctl i
  if b.canMode i != 2 || (b.lane l).st < 2 then 0 else if c.busOff then 3 else if c.passive then 2 else 1

/-- Group 0x50. -/
def Block.status50 (b : Block) (id i : Nat) : Nat :=
  let a := (b.lane .a).ctl i
  let c := (b.lane .b).ctl i
  let x := b.bus i
  match id with
  | 0x500D => a.tdc
  | 0x500E => c.tdc
  | 0x5018 => b.canShown .a i
  | 0x5019 => b.canShown .b i
  | 0x501A => a.err
  | 0x501B => c.err
  | 0x501C => a.busOffs
  | 0x501D => c.busOffs
  | 0x5020 => a.dropped
  | 0x5021 => c.dropped
  | 0x5022 => x.standbyDiscard
  | 0x5023 => a.echo
  | 0x5024 => c.echo
  | 0x5025 => satNat (2 ^ 64 - 1) ((b.lane b.act).ctl i).frames
  | 0x5026 => satNat (2 ^ 64 - 1) x.rxFrames
  | _ => x.filters.length

/-- Group 0x58. -/
def Block.status58 (b : Block) (id : Nat) : Nat :=
  match id with
  | 0x5801 => b.nw.state
  | 0x5809 => leNat b.nw.record
  | 0x580A => b.nw.falseCount
  | 0x580B => b.nw.ackFailed
  | 0x5821 => leNat (b.nw.log.flatMap fun e => e.bytes b.mod.epoch)
  | _ => b.nw.holds.toNat

/-- The 128 bytes of a range table (R442). -/
def markBytes (l : List (Nat × Nat)) : List Byte := l.flatMap fun m => leBytes 4 m.1 ++ leBytes 4 m.2

/-- Group 0x60. -/
def Block.status60 (b : Block) (id : Nat) : Nat :=
  let r := b.bridge
  match id with
  | 0x6008 => leNat (markBytes r.prefetchMarks)
  | 0x6009 => leNat (markBytes r.consumeMarks)
  | 0x6010 => r.link
  | 0x6011 => r.retries
  | 0x6012 => r.failures
  | 0x6013 => r.grants
  | 0x6014 => r.expired
  | 0x6015 => r.discards
  | 0x6016 => r.hits
  | 0x6017 => r.prefDiscards
  | _ => satNat 4800 r.rate

/-! ## Groups 0x70 to 0x90: keys, cipher, images and faults -/

/-- key.slot.state (R468). -/
def KeySlot.num (k : KeySlot) : Nat := if k.type = 0 then 0 else if k.ackOnly then 3 else if k.replacing then 2 else 1

/-- Group 0x70. -/
def Block.status70 (b : Block) (otp : Otp) (id i : Nat) : Nat :=
  let k := b.slot i
  match id with
  | 0x7001 => k.num
  | 0x7002 => k.type
  | 0x7003 => k.uses.toNat
  | 0x7004 => k.owner
  | 0x7005 => k.node
  | 0x7006 => k.kcv.toNat
  | 0x7007 => k.gen.toNat
  | 0x7040 => b.keys.state
  | 0x7041 => b2n b.keys.testRoot
  | 0x7042 => b.keys.alarms
  | 0x7043 => b.keys.cause
  | 0x7044 => 1024 - otp.destroyed
  | 0x7045 => leNat ((List.range 41).flatMap fun n => leBytes 2 (b.keys.gen n).toNat)
  | _ => leNat b.keys.importPub

/-- Group 0x78. -/
def Block.status78 (b : Block) (id i : Nat) : Nat :=
  let c := b.ctx i
  match id with
  | 0x7801 => c.mode
  | 0x7802 => c.slot
  | 0x7803 => c.width
  | 0x7804 => c.counter
  | 0x7805 => c.kcv.toNat
  | 0x7806 => c.length * 2 ^ 32 + c.offset
  | 0x7807 => satNat (2 ^ 64 - 1) c.ops
  | 0x7808 => satNat 0xFFFFFFFF c.tagFails
  | 0x7841 => cipherFloor (b.p 0x7840 0)
  | 0x7844 => b.cipher.drops
  | 0x7848 => satNat 4096 b.cipher.logUsed.length
  | _ => bitsOf [(b.lane .a).device, (b.lane .b).device]

/-- The encoding of upd.staging. -/
def StagingSt.num : StagingSt → Nat
  | .empty => 0 | .erasing => 1 | .receiving => 2 | .accepted => 3 | .copied => 4 | .rejected => 5

/-- Group 0x80. -/
def Block.status80 (b : Block) (otp : Otp) (id : Nat) : Nat :=
  let s := (b.lane b.act).staging
  match id with
  | 0x8001 => (b.lane .a).staging.st.num
  | 0x8002 => (b.lane .b).staging.st.num
  | 0x8003 => fieldAt s.image 8 4
  | 0x8004 => fieldAt s.image 12 2
  | 0x8005 => s.bytes.length
  | 0x8006 => otp.rollback.a
  | 0x8007 => otp.rollback.b
  | 0x8008 => b.img.resumes
  | 0x8011 => b.img.version
  | 0x8012 => b.img.cfgSt
  | 0x8013 => b.img.commits
  | 0x8014 => satNat 65535 b.img.deferred
  | 0x8015 => b.img.storeFmt.get b.act
  | _ => b.img.storeWrites.get b.act

/-- Group 0x90. -/
def Block.status90 (b : Block) (otp : Otp) (id : Nat) : Nat :=
  match id with
  | 0x9001 => b.ev.guarantee.toNat
  | 0x9002 => b.cool.flags.toNat
  | 0x9003 => ofSigned 2 (clampInt (-400) 2000 b.cool.est10)
  | 0x9004 => (inletLimit otp.codeAE).toNat
  | 0x9006 => (b.lane .a).eccCorrected
  | 0x9007 => (b.lane .b).eccCorrected
  | 0x9008 => satNat 256 (b.lane b.act).log.length
  | 0x9009 => (b.lane b.act).logDropped
  | 0x900A => b.mod.laneDownLast
  | 0x900B => bitsOf ((List.range 4).map fun d => (b.link d).lost)
  | _ => satNat 0xFFFFFFFF b.ev.unrouted

/-- The value of a parameter as its unsigned encoding: a configuration value from the running configuration, a status value
from the state. -/
def Block.paramVal (b : Block) (otp : Otp) (d : ParamDef) (inst : Nat) : Nat :=
  if d.acc == .rw || d.acc == .g then b.p d.id inst else
  match d.id / 256 with
  | 0x01 => b.status01 otp d.id
  | 0x10 => b.status10 d.id inst
  | 0x20 => b.status20 d.id inst
  | 0x28 => b.status20 d.id inst
  | 0x30 => b.status30 d.id inst
  | 0x40 => b.status40 d.id
  | 0x48 => b.status48 d.id inst
  | 0x50 => b.status50 d.id inst
  | 0x58 => b.status58 d.id
  | 0x60 => b.status60 d.id
  | 0x70 => b.status70 otp d.id inst
  | 0x78 => b.status78 d.id inst
  | 0x80 => b.status80 otp d.id
  | _ => b.status90 otp d.id

/-! ## PARAM_GET (R116, R118) -/

/-- The record of one value in a response (R116). -/
def Block.paramRecord (b : Block) (otp : Otp) (d : ParamDef) (inst : Nat) : List Byte :=
  leBytes 2 d.id ++ leBytes 1 inst ++ leBytes 1 d.ty.code ++ leBytes 2 d.ty.len ++ zeroBytes 2 ++
    leBytes d.ty.len (b.paramVal otp d inst) ++ zeroBytes (padded d.ty.len - d.ty.len)

/-- PARAM_GET; its check 5 stands in `Block.denies`. -/
def Block.runParamGet (b : Block) (otp : Otp) (r : Req) : Block :=
  let l := r.pay
  b.check7 r 0x0010 (paramGetOk l && (paramEntries l).all (·.isSome)) fun b =>
    let good := paramAsked l
    b.ok r 0x0010 (leBytes 2 good.length ++ zeroBytes 2 ++ good.flatMap fun e => b.paramRecord otp e.1 e.2)

/-! ## NOP, MODULE_INFO, AUTH_CHALLENGE (R108, R120, R121) -/

/-- NOP echoes its payload. -/
def Block.runNop (b : Block) (r : Req) : Block := b.ok r 0x0001 r.pay

/-- The 32 bytes of MODULE_INFO (R120). -/
def Block.moduleInfo (b : Block) (otp : Otp) : List Byte :=
  let code : List Byte := [0x47, 0x5A, 0x38, 0x36, 0x34, 0x2D, 0x41, if otp.codeAE then 0x45 else 0x43]
  let roles := 8 * b2n (b.serves .b) + 4 * b2n (b.serves .a) + (match b.mod.active with
    | some .a => 1 | some .b => 2 | none => 0)
  code ++ [0x42, 0x31] ++ leBytes 1 otp.lifecycle.num ++ leBytes 1 roles ++ leBytes 8 otp.identity.toNat ++
    leBytes 4 (b.lane .a).image.version.toNat ++ leBytes 4 (if b.serves .b then (b.lane .b).image.version.toNat else 0) ++
    leBytes 4 (if (b.lane b.act).defaults then 0 else b.img.version)

/-- MODULE_INFO. -/
def Block.runModuleInfo (b : Block) (otp : Otp) (r : Req) : Block :=
  b.check7 r 0x0002 r.pay.isEmpty fun b => b.ok r 0x0002 (b.moduleInfo otp)

/-- AUTH_CHALLENGE: a fresh challenge replaces any earlier one of the path (R121). -/
def Block.runChallenge (b : Block) (r : Req) : Block :=
  b.check7 r 0x0012 r.pay.isEmpty fun b =>
  b.needRoom r 0x0012 8 fun b =>
  let c := Config.freeWord b.free
  let b := ({ b with free := b.free + 1 } : Block).newChallenge r.path c
  b.ok r 0x0012 (leBytes 8 c.toNat)

end Sys2Proof

namespace Sys2Proof.Machine

/-- NOP (R108). -/
def execNop (q : Req) (s : State) : Host.Outcome State Fault Refusal :=
  onBlock (fun b => b.serve 0x0001 q fun b => b.runNop q) s

/-- MODULE_INFO (R120). -/
def execModuleInfo (q : Req) (s : State) : Host.Outcome State Fault Refusal :=
  onBlock (fun b => b.serve 0x0002 q fun b => b.runModuleInfo s.otp q) s

/-- PARAM_GET (R118). -/
def execParamGet (q : Req) (s : State) : Host.Outcome State Fault Refusal :=
  onBlock (fun b => b.serve 0x0010 q fun b => b.runParamGet s.otp q) s

/-- AUTH_CHALLENGE (R121). -/
def execAuthChallenge (q : Req) (s : State) : Host.Outcome State Fault Refusal :=
  onBlock (fun b => b.serve 0x0012 q fun b => b.runChallenge q) s

/-- AUTH_CHALLENGE_EXPIRY: 60 s have passed (R121). -/
def execAuthChallengeExpiry (mgmt : Bool) (s : State) : Host.Outcome State Fault Refusal :=
  onBlock (fun b => b.setChallenge (if mgmt then .mgmt else .gov) none) s

end Sys2Proof.Machine
end

