-- ==== Sys2Proof/Machine/Mail.lean ====
section
/-! DEFINITION. The mailbox windows and the management channel: doorbells (R97), software's registers (R95, R529), the take-up
of requests with the checks 1 to 3 of R105 and the duplicate rule (R104), and the dispatch of a request to the meaning of its
opcode. -/

namespace Sys2Proof

/-! ## Windows -/

/-- The number of slots of a window (R95). -/
def Win.size : Win → Nat
  | .gov => 16
  | .part _ => 4

/-- The path of a window's requests. -/
def Win.path : Win → Path
  | .gov => .gov
  | .part p => .part p

/-- The PRID of a window. -/
def Win.prid : Win → Nat
  | .gov => 0
  | .part p => p.val

/-- The place of a window in the order of R110. -/
def Win.rank : Win → Nat
  | .gov => 0
  | .part p => 2 + p.val

/-- Every window, in the order of R110. -/
def allWins : List Win := .gov :: (List.range 32).map fun p => .part (Fin.ofNat 32 p)

/-- A mailbox window. -/
def Block.win (b : Block) : Win → WinAgreed
  | .gov => b.mail.gov
  | .part p => b.mail.parts.getD p.val (WinAgreed.fresh 4)

/-- A mailbox window changed. -/
def Block.modWin (b : Block) (w : Win) (f : WinAgreed → WinAgreed) : Block :=
  match w with
  | .gov => b.modMail fun m => { m with gov := f m.gov }
  | .part p => b.modMail fun m => { m with parts := updAt m.parts p.val f }

/-- One lane's part of a window changed. -/
def WinAgreed.modLane (w : WinAgreed) (l : Lane) (f : WinLane → WinLane) : WinAgreed := { w with lanes := w.lanes.upd l f }

/-- The window of a path. -/
def Path.win : Path → Option Win
  | .gov => some .gov
  | .part p => some (.part p)
  | .mgmt => none

/-- The index that both lanes in service have taken up: REQ_CONS from the next boundary on (R95, R98). -/
def Block.bothTaken (b : Block) (w : WinAgreed) : Word :=
  let ta := w.lanes.a.taken
  let tb := w.lanes.b.taken
  if b.bothServe then (if (ta - tb).toNat < 2 ^ 31 then tb else ta) else (w.lanes.get b.act).taken

/-- The PRID of a window has a slice and is not frozen: its cores reach the window (R130, R152). -/
def Block.winOpen (b : Block) (w : Win) : Bool :=
  let s := b.slice w.prid
  (s.phase == .running || s.phase == .shrinking || s.phase == .tearing) && !s.frozen

/-- Ottum serves the window in some lane: MB_STATUS[0]. -/
def Block.winServed (b : Block) (w : Win) : Bool := b.anyServes && b.winOpen w

/-! ## Doorbells and registers (R95-R97, R529) -/

/-- The stamps of the slots that a doorbell hands over (R110). -/
def stampSlots (slots : List SlotBytes) (first : Word) (n : Nat) (stamp : Nat) : List SlotBytes :=
  (List.range n).foldl (fun s i => updAt s ((first.toNat + i) % s.length) fun x => { x with stamp := stamp }) slots

/-- A write of REQ_PROD: accepted when it neither goes back nor leads REQ_CONS by more than the ring (R97); each write counts
as one presented request (R150). -/
def Block.doorbell (b : Block) (l : Lane) (w : Win) (v : Word) : Block :=
  if (b.lane l).st < 2 || !b.winOpen w then b else
  let b := match w with
    | .part p => if b.isActive l then b.modRates p.val fun x => { x with mailWork := x.mailWork + 1 } else b
    | .gov => b
  let a := b.win w
  let cons := a.reqCons
  let x := a.lanes.get l
  let ahead := (v - cons).toNat
  let was := (x.reqProd - cons).toNat
  if was ≤ ahead ∧ ahead ≤ w.size then
    b.modWin w fun a => a.modLane l fun x =>
      { x with reqProd := v, slots := stampSlots x.slots x.reqProd (v - x.reqProd).toNat a.mbEpoch }
  else b.modWin w fun a => a.modLane l fun x => { x with indexErr := true }

/-- A write of RESP_CONS between its present value and RESP_PROD; another one is ignored. -/
def WinAgreed.consume (w : WinAgreed) (v : Word) : WinAgreed :=
  if (v - w.respCons).toNat ≤ (w.respProd - w.respCons).toNat then { w with respCons := v } else w

/-- A write of EQ_CONS (R529). -/
def EventQ.consume (q : EventQ) (v : Word) : EventQ :=
  if (v - q.cons).toNat ≤ (q.prod - q.cons).toNat then { q with cons := v, dropped := false } else q

/-- An event queue changed. -/
def Block.modEq (b : Block) (p : Nat) (f : EventQ → EventQ) : Block :=
  b.modEv fun v => { v with queues := updAt v.queues p f }

/-- The base of the request slots of a window. -/
def Win.slotBase : Win → Nat
  | .gov => 0x400
  | .part _ => 0x100

/-- A 32-bit write to a mailbox window. The registers that are agreed values follow the active lane's write, which both
copies of the software make alike. -/
def Block.winWrite (b : Block) (l : Lane) (w : Win) (off : Nat) (v : Word) : Block :=
  let agreed := fun (f : WinAgreed → WinAgreed) => if b.act = l then b.modWin w f else b
  if off = 0x08 then b.doorbell l w v
  else if off = 0x14 then agreed fun a => a.consume v
  else if off = 0x18 then agreed fun a => { a with irqEn := v.setWidth 2 }
  else if off = 0x1C then agreed fun a => { a with irqStatus := a.irqStatus &&& ~~~ (v.setWidth 2) }
  else if w.slotBase ≤ off ∧ off < w.slotBase + 64 * w.size ∧ off % 4 = 0 then
    let i := (off - w.slotBase) / 64
    b.modWin w fun a => a.modLane l fun x =>
      { x with slots := updAt x.slots i fun s => { s with bytes := spliceAt s.bytes ((off - w.slotBase) % 64) (leBytes 4 v.toNat) } }
  else b

/-- A 32-bit write to an event queue window (R527). -/
def Block.eqWrite (b : Block) (l : Lane) (p off : Nat) (v : Word) : Block :=
  if b.act ≠ l then b
  else if off = 0x14 then b.modEq p fun q => q.consume v
  else if off = 0x20 then b.modEq p fun q => { q with irqEn := v.getLsbD 0 }
  else if off = 0x24 then b.modEq p fun q => { q with irqStatus := q.irqStatus && !v.getLsbD 0 }
  else b

/-- A 32-bit write to a window register by the software of a lane. -/
def Block.regWrite (b : Block) (l : Lane) (eq : Bool) (w : Win) (off : Nat) (v : Word) : Block :=
  if (b.lane l).st < 2 || !b.winOpen w then b
  else if eq then b.eqWrite l w.prid off v else b.winWrite l w off v

/-! ## What take-up waits for (R99, R115, R147) -/

/-- The slots that a request may still need: one for its final response, one for PENDING (R112). -/
def slotsFor (op : Nat) (told : Bool) : Nat := 1 + b2n (!told && ((opInfo? op).map (·.pend)).getD false)

/-- Slots of the response ring that requests already taken up will need (R99): those that pend or wait, those completed and not
yet visible, duplicates that wait for their copy, and requests that one lane has taken up and the other is to carry out. -/
def Block.reserved (b : Block) (p : Path) : Nat :=
  ((b.mail.pend.filter fun e => e.req.path == p).map fun e => slotsFor e.opcode e.told).sum +
    ((b.mail.waiting.filter fun e => e.req.path == p).map fun e => slotsFor e.op e.told).sum +
    (b.mail.done.filter fun a => a.path == p).length +
    (b.mail.recent.map fun e => (e.askers.filter fun q => q.path == p).length).sum +
    match p.win with
    | none => 0
    | some w => ([Lane.a, Lane.b].map fun l =>
        ((((b.win w).lanes.get l).copies.filter fun c => !c.2.1).map fun c => slotsFor (fieldAt c.2.2 0 2) false).sum).sum

/-- The response ring holds two free slots beyond those reserved. -/
def Block.ringRoom (b : Block) (w : Win) : Bool :=
  let a := b.win w
  decide ((a.respProd - a.respCons).toNat + b.reserved w.path + 2 ≤ w.size)

/-- One request's worth of mailbox tokens, in millionths. -/
def mailToken : Nat := 1000000

/-- The partition's bucket holds a token; the governor window is not paced. -/
def Block.paceOk (b : Block) : Win → Bool
  | .gov => true
  | .part p => decide (mailToken ≤ (b.rates p.val).mailTok)

/-- The epoch stamp of the next request of a window in a lane, if there is one. -/
def Block.nextStamp? (b : Block) (l : Lane) (w : Win) : Option Nat :=
  let x := (b.win w).lanes.get l
  if x.taken = x.reqProd then none
  else some ((x.slots.getD (x.taken.toNat % w.size) { bytes := [], stamp := 0 }).stamp)

/-- A window's next request in a lane could be taken up: it has been admitted, or nothing holds it back. -/
def Block.mayTake (b : Block) (l : Lane) (w : Win) : Bool :=
  ((b.win w).lanes.get l).taken != (b.win w).admitted || (b.winOpen w && b.ringRoom w && b.paceOk w)

/-- A window other than `except` holds a request that could be taken up and comes before a stamp and a rank in the order of
R110. -/
def Block.windowsFirst (b : Block) (l : Lane) (except : Option Win) (stamp rank : Nat) : Bool :=
  allWins.any fun v =>
    some v != except && b.mayTake l v && (match b.nextStamp? l v with
      | some t => decide (t < stamp) || (t == stamp && decide (v.rank < rank))
      | none => false)

/-- Another request comes first in the order of R110: one of a window, or one of the management channel, whose place is
between the governor window and the partitions. -/
def Block.othersFirst (b : Block) (l : Lane) (w : Win) (stamp : Nat) : Bool :=
  b.windowsFirst l (some w) stamp w.rank ||
    b.mail.mgQueue.any fun e => decide (e.2 < stamp) || (e.2 == stamp && decide (1 < w.rank))

/-! ## Reading a request (R96, R100, R105 checks 1 to 3) -/

/-- What Ottum copies at take-up: the 64 slot bytes and the payload that they name. -/
def Block.copySlot (b : Block) (m : MemSt) (l : Lane) (w : Win) (i : Word) : List Byte :=
  let s := (((b.win w).lanes.get l).slots.getD (i.toNat % w.size) { bytes := zeroBytes 64, stamp := 0 }).bytes
  s ++ m.read l (fieldAt s 32 8) (fieldAt s 8 4)

/-- The same form for a management frame: its header, its payload, and in place of the slot's res bytes those of its prefix (R14,
R123). -/
def mgmtCopy (f : MgmtFrame) : List Byte :=
  let h := (f.body.drop 12 ++ zeroBytes 32).take 32
  let n := fieldAt h 8 4
  let pay := f.body.drop 44
  h ++ zeroBytes 20 ++ bytesAt f.body 2 2 ++ zeroBytes 10 ++ (if n ≤ 4096 then (pay ++ zeroBytes n).take n else pay)

/-- The request that copied bytes spell. -/
def reqOf (path : Path) (c : List Byte) (stamp : Nat) (unsecured : Bool) : Req :=
  let fl := fieldAt c 2 2
  { path := path, auth := fl.testBit 2, fence := fl.testBit 1, tag := BitVec.ofNat 32 (fieldAt c 4 4),
    seq := BitVec.ofNat 32 (fieldAt c 12 4), payload := c.drop 64, payAddr := fieldAt c 32 8, respAddr := fieldAt c 40 8,
    cap := fieldAt c 48 4, stamp := stamp, unsecured := unsecured }

/-- Check 1: the check word covers header bytes 0-27 and the payload (R102). -/
def checkWordOk (c : List Byte) : Bool := crc32c (c.take 28 ++ c.drop 64) == fieldAt c 28 4

/-- Check 2: length, flags, res fields, PRID, and the slot's addresses and capacity (R96). -/
def headerOk (prid : Nat) (c : List Byte) : Bool :=
  let w4 := fieldAt c 16 4
  (fieldAt c 8 4 == 0 || fieldAt c 32 8 % 8 == 0) && fieldAt c 40 8 % 8 == 0 &&
    decide (fieldAt c 48 4 ≤ 4096) && decide (fieldAt c 8 4 ≤ 4096) && fieldAt c 2 2 % 2 == 0 && decide (fieldAt c 2 2 < 8) && w4 == prid &&
    zerosAt c 20 8 && zerosAt c 52 12

/-- An accepted request with the same sequence and tag on the same mailbox within 1 s (R104). -/
def Block.duplicate? (b : Block) (r : Req) : Option Recent :=
  b.mail.recent.find? fun e => e.gov == r.path.isGov && e.prid == r.path.prid && e.tag == r.tag && e.seq == r.seq &&
    decide (b.mod.epoch ≤ e.epoch + epochsPerSec)

/-- A duplicate receives a copy of the final response, at once or when it exists. -/
def Block.askAgain (b : Block) (r : Req) (e : Recent) : Block :=
  match e.answer with
  | some a => b.modMail fun m => { m with done := m.done ++ [a.forAsker r] }
  | none => b.modMail fun m => { m with recent := m.recent.map fun x => if x = e then { x with askers := x.askers ++ [r] } else x }

/-- The request is accepted and remembered; of the entries older than 1 s those are kept that have duplicates waiting. -/
def Block.accepted (b : Block) (r : Req) : Block :=
  b.modMail fun m =>
    { m with recent := { gov := r.path.isGov, prid := r.path.prid, tag := r.tag, seq := r.seq, epoch := b.mod.epoch,
                         answer := none, askers := [] } ::
               m.recent.filter fun e => decide (b.mod.epoch ≤ e.epoch + epochsPerSec) || !e.askers.isEmpty }

/-- The next request of a window is admitted: a partition's takes a token, and the pacing ends (R115). -/
def Block.letIn (b : Block) (w : Win) : Block :=
  let b := b.modWin w fun a => { a with admitted := a.admitted + 1, pacing := false }
  match w with
  | .gov => b
  | .part p => b.modRates p.val fun x => { x with mailTok := x.mailTok - mailToken }

/-- A management response leaves on the uplink of each of the lanes, its copies under one R-tag of the response stream (R125). -/
def Block.sendMgmt (b : Block) (ls : List Lane) (a : Response) : Block :=
  let n := b.mail.mgSeq
  let b := b.modMail fun m =>
    { m with mgSent := ls.foldl (fun s l => s.upd l fun q => { resp := a, rtag := n } :: q) m.mgSent, mgSeq := n + 1 }
  ls.foldl (fun b l => b.checkSent l mgmtHandle n.toNat a.path.prid (a.header ++ a.payload)) b

end Sys2Proof

namespace Sys2Proof.Machine

/-- The state of an outcome; every command answers a next state. -/
def outState (s : State) : Host.Outcome State Fault Refusal → State
  | .next t => t
  | _ => s

/-- A request whose opcode stands in the table of R108 is carried out. -/
def serveOp (op : Nat) (q : Req) (s : State) : Host.Outcome State Fault Refusal :=
  match op with
  | 0x0001 => execNop q s
  | 0x0002 => execModuleInfo q s
  | 0x0010 => execParamGet q s
  | 0x0011 => execParamSet q s
  | 0x0012 => execAuthChallenge q s
  | 0x1001 => execSliceCreate q s
  | 0x1002 => execSliceGrow q s
  | 0x1003 => execSliceShrink q s
  | 0x1004 => execSliceDestroy q s
  | 0x1005 => execSliceQuery q s
  | 0x1006 => execThaw q s
  | 0x2001 => execChanSet q s
  | 0x2002 => execChanPwm q s
  | 0x2003 => execChanMulti q s
  | 0x2004 => execUnlock q s
  | 0x2005 => execChanStatus q s
  | 0x2006 => onBlock (fun b => b.serve 0x2006 q fun b => b.runDieIsolate q) s
  | 0x2801 => execFailsafeStore q s
  | 0x3001 => execInputRead q s
  | 0x4001 => execRingBid q s
  | 0x4801 => execSwitchEntrySet q s
  | 0x4802 => execSwitchEntryDel q s
  | 0x4803 => execPortStats q s
  | 0x4804 => onBlock (fun b => b.serve 0x4804 q fun b => b.runMacsecSa q) s
  | 0x5001 => execCanSend q s
  | 0x5002 => execCanRead q s
  | 0x5003 => execCanFilterSet q s
  | 0x5801 => onBlock (fun b => b.serve 0x5801 q fun b => b.runSleep q) s
  | 0x5802 => execWakeHold q s
  | 0x6001 => execBridgeRangeMark q s
  | 0x7001 => execKeyLoad q s
  | 0x7002 => execKeyReplace q s
  | 0x7003 => execKeyDestroy q s
  | 0x7004 => execKeyEvict q s
  | 0x7005 => execTamperAck q s
  | 0x7801 => execCipherCtxSet q s
  | 0x7802 => execCipherRun q s
  | 0x7803 => execCipherCtxFree q s
  | 0x7810 => execStorageWrite q s
  | 0x7811 => execStorageErase q s
  | 0x8001 => execUpdateBegin q s
  | 0x8002 => execUpdateBlock q s
  | 0x8003 => execUpdateVerify q s
  | 0x8004 => execUpdateActivate q s
  | 0x8010 => execConfigBlock q s
  | 0x8011 => execConfigCommit q s
  | 0x8020 => execLifecycleSet q s
  | 0x8021 => execDebugEnable q s
  | 0x8030 => execRoleSet q s
  | 0x8031 => execLaneRestart q s
  | 0x9001 => execEventRead q s
  | 0x9002 => execFaultLogRead q s
  | 0x9003 => onBlock (fun b => b.serve 0x9003 q fun b => b.runFaultClear q) s
  | _ => onBlock (fun b => b.reply q op .badOpcode) s

/-- A governor request that confirms the last wake (R419). -/
def confirmsWake (op : Nat) (r : Req) : Bool := r.path.isGov && !([0x0002, 0x0010, 0x9001].contains op)

/-- A copied request passes the checks 1 to 3 of R105 and the duplicate rule, and is carried out. -/
def State.accept (s : State) (path : Path) (c : List Byte) (stamp : Nat) (unsecured : Bool) : State :=
  let op := fieldAt c 0 2
  let r := reqOf path c stamp unsecured
  if !checkWordOk c then
    s.withBlock (s.b.modMail fun m => { m with done := m.done ++ [{ r.answer op .badCheck [] .none true true with asked := [] }] })
  else match s.b.duplicate? r with
  | some e => s.withBlock (s.b.askAgain r e)
  | none =>
    let s := s.withBlock (s.b.accepted r)
    if !headerOk path.prid c then s.withBlock (s.b.reply r op .badParam)
    else if (opInfo? op).isNone then s.withBlock (s.b.reply r op .badOpcode)
    else
      let s := if confirmsWake op r then s.withBlock s.b.confirmWake else s
      outState s (serveOp op r s)

/-- Management frames are taken up in delivery order: the frames delivered with epochs before k, as long as no window holds a
request that comes first (R110). -/
def State.takeMgmt (s : State) (k : Nat) : State :=
  let l := s.b.mail.mgQueue
  let s := s.withBlock (s.b.modMail fun m => { m with mgQueue := [] })
  l.foldl (fun s e =>
    if s.b.mail.mgQueue.isEmpty && decide (e.2 < k) && !s.b.windowsFirst s.b.act none e.2 1 then
      s.accept .mgmt (mgmtCopy e.1) e.2 (!e.1.secTag)
    else s.withBlock (s.b.modMail fun m => { m with mgQueue := m.mgQueue ++ [e] })) s

/-- A lane's Ottum takes up the next request of a window, in its order and when the window, its response ring and its rate allow
(R99, R110, R115); the lane that comes first decides that for both. The active lane's copy is carried out; the other lane's is
compared with it, and what the other lane took up first waits for the active lane (R98, R113, R266). -/
def State.takeUp (s : State) (l : Lane) (w : Win) : State :=
  let b := s.b
  if !b.serves l then s else
  match b.nextStamp? l w with
  | none => s
  | some stamp =>
    let far := (b.win w).lanes.get l.other
    let i := ((b.win w).lanes.get l).taken
    let content := b.copySlot s.mem l w i
    let held := far.copies.find? fun c => c.1 == i
    let advance := fun (b : Block) (done : Bool) => b.modWin w fun a => (a.modLane l fun x =>
        { x with taken := x.taken + 1,
                 copies := if held.isSome || !b.serves l.other then x.copies else x.copies ++ [(i, done, content)] }).modLane
          l.other fun x => { x with copies := x.copies.filter fun c => c.1 != i }
    let first := i == (b.win w).admitted
    if first && (!b.winOpen w || !b.ringRoom w || b.othersFirst l w stamp) then s
    else if first && !b.paceOk w then s.withBlock (b.modWin w fun a => { a with pacing := true })
    else
      let b := if first then b.letIn w else b
      match held with
      | some (_, done, c) =>
        let b := if c = content then b else b.diverge 2 w.prid
        let s := s.withBlock (advance b true)
        if done then s else s.accept w.path (if b.act = l then content else c) stamp false
      | none =>
        if b.act = l then (s.withBlock (advance b true)).accept w.path content stamp false
        else s.withBlock (advance b false)

/-- Requests that waited for an object or behind FENCE are tried again in their order, each with the take-up it had (R111,
R112). -/
def State.resumeWaiting (s : State) : State :=
  let l := s.b.mail.waiting
  let s := s.withBlock (s.b.modMail fun m => { m with waiting := [] })
  let s := l.foldl (fun s e =>
    outState s (serveOp e.op e.req (s.withBlock (s.b.modMail fun m => { m with resuming := some (e.epoch, e.told) })))) s
  s.withBlock (s.b.modMail fun m => { m with resuming := none })

/-- DOORBELL (R97). -/
def execDoorbell (l : Lane) (w : Win) (v : Word) (s : State) : Host.Outcome State Fault Refusal :=
  onBlock (fun b => b.doorbell l w v) s

/-- REQUEST_TAKE_UP (R105). -/
def execRequestTakeUp (l : Lane) (w : Win) (s : State) : Host.Outcome State Fault Refusal :=
  let s := s.takeUp l w
  .next (s.takeMgmt s.b.mail.gov.mbEpoch)

/-- EQ_CONS_WRITE (R529). -/
def execEqConsWrite (p : Prid) (v : Word) (s : State) : Host.Outcome State Fault Refusal :=
  onBlock (fun b => if b.winOpen (.part p) then b.modEq p.val fun q => q.consume v else b) s

/-- REGISTER_WRITE (R95, R527). -/
def execRegisterWrite (l : Lane) (eq : Bool) (w : Win) (offset : Nat) (v : Word) (s : State) :
    Host.Outcome State Fault Refusal :=
  onBlock (fun b => b.regWrite l eq w offset v) s

/-- In life-cycle state BLANK the vendor provisioning image answers for the module's identity (R84; log entry 12). -/
def provisionAnswer (b : Block) (otp : Otp) (l : Lane) (f : MgmtFrame) : Block :=
  let c := mgmtCopy f
  let r := reqOf .mgmt c b.mod.epoch true
  if f.forMe otp.identity && checkWordOk c && headerOk 0 c && fieldAt c 0 2 == 2 && r.payload.isEmpty then
    (b.modMail fun m => { m with mgRx := (m.mgRx + 1) % 2 ^ 32 }).sendMgmt [l] (r.answer 2 .ok (b.moduleInfo otp) .none true true)
  else b.mgmtDrop

/-- MANAGEMENT_FRAME (R124). -/
def execManagementFrame (l : Lane) (f : MgmtFrame) (s : State) : Host.Outcome State Fault Refusal :=
  onBlock (fun b =>
    if b.mod.provision && (b.lane l).st == 1 then provisionAnswer b s.otp l f else b.mgmtIn s.otp.identity l f) s

end Sys2Proof.Machine
end

