-- ==== Sys2Proof/Machine/Start.lean ====
section
/-! DEFINITION. Supplies and starts: power-up, the bands of T30 and the feeds, the logic sources of the dies, the start of a
lane, taking control, pairing and resynchronisation (03_supply_start_and_sleep_power.md, R155-R158, R271-R279). -/

namespace Sys2Proof

/-! ## T30 (R63-R68) -/

/-- What a lane keeps without a supply: its embedded flash (R190, R302, R327, R490, R493, R510, R531). -/
def LaneSt.cold (x : LaneSt) : LaneSt :=
  { LaneSt.off with
    image := x.image, staging := x.staging, log := x.log, logTotal := x.logTotal, logDropped := x.logDropped,
    eccCorrected := x.eccCorrected, lockFaults := x.lockFaults, ring := { RingNode.fresh with delays := x.ring.delays } }

/-- T30 and both feeds become valid at an unpowered module: what embedded flash, OTP and the dies' stores hold is all that
is left, and the module is starting (R75 step 1). -/
def Block.powerUp (b : Block) (mv : Nat) : Block :=
  if b.mod.t30Valid then b else
  let feed : FeedSt := { band := .valid, mv := mv }
  { Block.delivered with
    free := b.free
    mod := { ModuleSt.off with
             t30Valid := true, t30 := mv, feedA := feed, feedB := feed, failovers := b.mod.failovers, divCount := b.mod.divCount }
    lanes := b.lanes.map LaneSt.cold
    dies := b.dies.map DieSt.down
    links := b.links.map fun (x : DieLink) => { DieLink.fresh with saved := x.saved }
    nw := { NwSt.off with log := b.nw.log, falseCount := b.nw.falseCount, ackFailed := b.nw.ackFailed }
    bridge := { BridgeSt.off with link := 1, failures := b.bridge.failures }
    keys := { KeySt.delivered with gens := b.keys.gens, blobs := b.keys.blobs, alarms := b.keys.alarms, life := b.keys.life }
    img := { b.img with commitRestart := false } }

/-- A die whose logic source is gone moves to the first valid one in order, or loses its logic (R74). -/
def Block.sourceGone (b : Block) (d : Nat) : Block :=
  if !(b.die d).powered then b else
  match b.logicSource? with
  | some s => (b.modDie d fun x => { x with source := s }).raiseAll 5 s.val d 0
  | none => b.modDie d DieSt.down

/-- The dies that take their logic supply from a source that is gone. -/
def Block.sourceLost (b : Block) (src : Fin 3) : Block :=
  (List.range 4).foldl (fun b d => if (b.die d).source = src then b.sourceGone d else b) b

/-- T30 falls below the invalid threshold: both lanes reset and the dies' logic leaves T30 (R64, R74). -/
def Block.t30Lost (b : Block) (mv : Nat) : Block :=
  if !b.mod.t30Valid then b else
  let b := b.modMod fun m => { m with t30Valid := false, t30 := mv }
  let b := if b.nw.state = 3 then b else (b.lanesOff 4).modLanes fun x => { x with xspiVcc := false }
  b.sourceLost 0

/-- The module reports the active lane's measurement of T30 (R94). -/
def Block.measureT30 (b : Block) (l : Lane) (mv : Nat) : Block :=
  if b.act = l then b.modMod fun m => { m with t30 := mv } else b

/-- A lane enters band 1 or 2: the application rail is lowered or restored, EV001 (R64, R68). While T30 lies in band 3 the band
underneath alone changes. -/
def Block.railBand (b : Block) (l : Lane) (low : Bool) (mv : Nat) : Block :=
  let x := b.lane l
  if x.st = 0 then b else
  let b := b.measureT30 l mv
  if x.railsLow = low then b
  else
    let band := if low then 1 else 2
    let b := b.modLane l fun x => { x with railsLow := low, band := if x.band = 3 then 3 else band, baseBand := band }
    b.raise l 1 band noSubject mv

/-! ## Feeds (R70-R74) -/

/-- The dies of a feed: FEED_A P0 and P1, FEED_B P2 and P3 (R27). -/
def Feed.dies : Feed → List Nat
  | .a => [0, 1]
  | .b => [2, 3]

/-- A feed. -/
def Block.feed (b : Block) : Feed → FeedSt
  | .a => b.mod.feedA
  | .b => b.mod.feedB

/-- A feed replaced. -/
def Block.setFeed (b : Block) (f : Feed) (x : FeedSt) : Block :=
  match f with
  | .a => b.modMod fun m => { m with feedA := x }
  | .b => b.modMod fun m => { m with feedB := x }

/-- The cause code of a band of a feed (R534); falling between 5.5 V and 3.0 V has none. -/
def FeedBand.cause : FeedBand → Option Nat
  | .lost => some 1
  | .valid => some 2
  | .above36 => some 3
  | .reversed => some 4
  | .low => none

/-- Without feed a channel passes no current; its commanded state is kept and it waits for the sequence of R71. A turn-off that
runs goes on, with its clamp (R183). -/
def ChanSt.feedLost (x : ChanSt) : ChanSt :=
  let x := match x.nextPwm with
    | some (f, d) => { x with freq := f, cmdDuty := d, nextPwm := none }
    | none => x
  let gone := { x with inrush := false, stretched := false, onDue := false, waitFeed := x.command != .off }
  match x.phase with
  | .off => x
  | .falling => gone
  | .clamp => gone
  | .pwmClamp => { gone with phase := .falling }
  | _ => { gone with phase := .off }

/-- What a change of its feed's band does to a die: lost or reversed ends the channels' current, a reversed feed drives every
channel on until it is no longer reversed, and bit 8 tells of suspended checks (R70, R73, R227). -/
def DieSt.feedBand (d : DieSt) (band : FeedBand) : DieSt :=
  let gone := band == .lost || band == .reversed
  { d with chans := d.chans.map fun x => (if gone then x.feedLost else x).suspend (!band.isValid),
           feedNext := if gone then none else d.feedNext, reverseOn := band == .reversed }

/-- A feed changes its band: its event once, and what its channels and the logic supplies do (R70, R71, R74). -/
def Block.feedTo (b : Block) (f : Feed) (band : FeedBand) (mv : Int) : Block :=
  let old := (b.feed f).band
  let b := b.setFeed f { band := band, mv := mv }
  if old = band then b else
  let seen := f.dies.any fun d => !(b.link d).lost
  let b := match band.cause with
    | some c => if seen then b.raiseAll (match f with | .a => 3 | .b => 4) c noSubject mv else b
    | none => b
  let b := f.dies.foldl (fun b d => b.modDie d fun x => x.feedBand band) b
  let b := if old.isValid && !band.isValid then b.sourceLost (match f with | .a => 1 | .b => 2) else b
  if band.isValid && !old.isValid then
    f.dies.foldl (fun b d => if (b.die d).powered then b.feedStep d 0 else b) b
  else b

/-- The band that a measured voltage lies in once a feed is no longer reversed (R70). -/
def feedBandOf (mv : Int) : FeedBand :=
  if mv < 3000 then .lost else if mv ≤ 6000 then .low else if mv ≤ 36000 then .valid else .above36

/-- A source earlier in the order has been valid for 10 ms: the rail moves back to it (R74). -/
def Block.sourceBack (b : Block) (d : Nat) : Block :=
  match b.logicSource? with
  | some s =>
    if (b.die d).powered && s < (b.die d).source then (b.modDie d fun x => { x with source := s }).raiseAll 5 s.val d 0 else b
  | none => b

/-! ## The start of a lane, steps 4 to 8 (R75, R79-R84) -/

/-- The ring configuration that a lane's node takes at its start (R347). -/
def ringCfgOf (m : List (Nat × Nat)) : RingCfg :=
  let p := fun (id : Nat) => pval m id 0
  { node := p 0x4002, nodes := p 0x4003, rank := p 0x4004, length := p 0x4006, guard := p 0x4007, pi := p 0x4008,
    hop := p 0x4009, mask := BitVec.ofNat 16 (p 0x400A) }

/-- Step 7: the lane's configuration bank is checked; a lane that cannot accept it is on factory defaults, EV248. In
FIELD_RETURN the bank is not read: the lane runs on defaults, and module.cfg.state reads 0 with no EV248 (R81-R84; DESIGN CHOICE,
log entry 107). -/
def Block.readBank (b : Block) (ae : Bool) (l : Lane) : Block :=
  let set := fun (d : Bool) (n : Nat) => b.modLane l fun x => { x with defaults := d, cfgState := n, repairing := false }
  if b.keys.life = .fieldReturn then set true 0
  else match b.bankCheck ae l with
  | .ok _ => set false (if (b.lane l).repairing then 3 else 0)
  | .error n => (set true n).raise l 248 n noSubject 0

/-- The configuration that a lane starts from: an accepted bank, or the defaults. -/
def Block.bankParams (b : Block) (ae : Bool) (l : Lane) : List (Nat × Nat) :=
  if (b.lane l).defaults then []
  else match b.bankCheck ae l with
  | .ok c => psetAll [] ((cfgParams c.recs).map ParamRec.pair)
  | .error _ => []

/-- Steps 4 to 8 with an image to run and the self-tests passed. -/
def Block.bootSteps (b : Block) (ae : Bool) (l : Lane) (env : StartEnv) : Block :=
  let alone := !b.serves l.other
  let b := (b.readBank ae l).readStore l
  let m := if alone then b.bankParams ae l else b.params
  let b := if alone then { b with params := m } else b
  let b := b.modLane l fun x =>
    { x with
      interval := pval m 0x0128 0
      ownOffsetUs := if x.startCause = 0 ∧ l = .b then pval m 0x0128 0 * 1800000000 else 0
      ring := { x.ring with cfg := ringCfgOf m } }
  let b := b.modLane l fun x => x.modRing fun r => { r with st := b.ringIdle l }
  match env.tamper with
  | some k => b.modKeys fun s => { s with alarms := satNat 0xFFFFFFFF (s.alarms + 1), cause := k.code }
  | none => b

/-- A lane stays in reset after a self-test of step 6 that fails, and the failure is reported as the first failed step 0, beyond the
steps of R293 (R80, R515; DESIGN CHOICE, log entry 108): the lane records it in its always-on domain and the other lane, if it
runs, raises EV041. LANE_RESTART, a cold start or a wake starts it again. -/
def Block.staysInReset (b : Block) (l : Lane) : Block :=
  let b := (b.leave l 0).modLane l fun x => { x with heldByFaults := true, aonCause := some (6, 0) }
  b.raise l.other 41 0 l.num 0

/-- A lane leaves reset: boot image, injection and self-tests, memory cleared, configuration and stores read (R75 steps 4 to
8, R84, R293, R294, R301, R464, R497-R499). Its supply band is reported where it is 1 or 3 (R64); in RETIRED the boot code reports
the identity and stops (R84). -/
def Block.laneStarts (b : Block) (otp : Otp) (l : Lane) (env : StartEnv) : Block :=
  let x := b.lane l
  if !b.mod.t30Valid || x.st != 0 || b.nw.state == 3 || x.heldByFaults || x.asleep || !x.coolEnough then b
  else
    let b := b.modKeys fun k => { k with life := otp.lifecycle }
    if otp.lifecycle = .retired then b.modMod fun m => { m with identityOut := some otp.identity }
    else
      let band := if b.mod.t30 < 9000 then 1 else if 36000 < b.mod.t30 then 3 else 2
      let b := b.modLane l fun x =>
        { x with
          st := 1, hotHeld := false, device := env.device, xspiVcc := true, band := band, baseBand := satNat 2 band,
          railsLow := band == 1,
          tamperCode := (env.tamper.map (·.code)).getD (if x.latchedTamper.isSome then x.tamperCode else 0),
          glitchPresent := (env.tamper.map (!·.intrusion)).getD false || x.latchedTamper == some false,
          intrusionPresent := (env.tamper.map (·.intrusion)).getD false || x.latchedTamper == some true, latchedTamper := none }
      let b := if band = 1 then b.raise l 1 1 noSubject b.mod.t30 else if band = 3 then b.raise l 2 1 noSubject b.mod.t30 else b
      let b := b.modBridge fun r => { r with link := if r.link = 0 then 2 else r.link }
      let (b, runs) := b.bootImage l (otp.rollback.get l)
      let b := b.modStaging l fun s => { s with copying := false }
      if !runs then b.leave l 0
      else if otp.lifecycle = .blank then b.modMod fun m => { m with provision := true }
      else
        let b := b.modLane l fun x => { x with injectResult := env.injectFail }
        if env.injectFail ≠ 0 then ((b.laneFault l 6 0).modLane l fun x => { x with heldByFaults := true })
        else if !env.selfTestOk then b.staysInReset l
        else
          let b := b.modLane l fun x => { x with broken := 0 }
          let b := if otp.lifecycle = .fieldReturn then (b.breakPairs l 0x7F).testRootNow
                   else if (b.lane l.other).broken = 0 then b.modKeys fun k => { k with testRoot := false } else b
          b.bootSteps otp.codeAE l env

/-! ## Taking control at step 9 (R78, R79, R155-R158, R208) -/

/-- Everything the lanes in service held is gone: the module begins anew from the configuration of the lane that takes
control; supplies, counters of the parameter store and what flash and the dies hold stay. -/
def Block.fresh (b : Block) : Block :=
  { b with
    mod := { ModuleSt.off with
             t30Valid := b.mod.t30Valid, t30 := b.mod.t30, feedA := b.mod.feedA, feedB := b.mod.feedB, epoch := b.mod.epoch,
             failovers := b.mod.failovers, divCount := b.mod.divCount, laneDownLast := b.mod.laneDownLast,
             lockLast := b.mod.lockLast }
    mail := MailSt.fresh
    part := PartSt.fresh
    dies := b.dies.map fun (x : DieSt) => { x with toLane := .both [] }
    links := b.links.map fun (x : DieLink) => { DieLink.fresh with saved := x.saved }
    inputs := b.inputs.map fun (x : InputSt) => { InputSt.fresh with atSleep := x.atSleep, wakeLow := x.wakeLow, wakeHigh := x.wakeHigh, atRequest := x.atSleep }
    can := List.replicate 12 CanBus.fresh
    nw := { b.nw with state := if b.nw.state = 4 then 4 else 0, latched := none, holds := 0, awake := [] }
    bridge := { BridgeSt.off with link := b.bridge.link, failures := b.bridge.failures }
    cipher := CipherSt.fresh
    img := { b.img with cfgSt := if b.img.staging.isEmpty then 0 else 2, commitRestart := false }
    cool := CoolSt.fresh
    ev := { EventSt.fresh with items := b.ev.items } }

/-- The running configuration of a lane that takes control: its accepted bank, or the factory defaults (R81, R82, R135). -/
def Block.loadBank (b : Block) (ae : Bool) (l : Lane) : Block :=
  if (b.lane l).defaults then b.loadDefaults
  else match b.bankCheck ae l with
  | .ok c => b.loadCfg c
  | .error _ => b.loadDefaults

/-- The lane's monitor has an alarm present or latched (R463, R464). -/
def LaneSt.alarmSeen (x : LaneSt) : Bool := x.glitchPresent || x.intrusionPresent || x.latchedTamper.isSome

/-- Step 8: the key store is unlocked, or the unlock is skipped for an alarm that either lane's monitor has present or latched
(R463, R464); key.tamper.cause is that of the alarm the start found, 0 without one (R468). -/
def Block.unlock (b : Block) (l : Lane) : Block :=
  let code := if (b.lane l).alarmSeen then (b.lane l).tamperCode
              else if (b.lane l.other).alarmSeen then (b.lane l.other).tamperCode else 0
  let b := b.modKeys fun k =>
    { k with slots := List.replicate 256 KeySlot.empty, shadows := 0, unlocked := false, pendingAlarm := none, state := 4, cause := code }
  let seen := fun (p : LaneSt → Bool) => p (b.lane l) || p (b.lane l.other)
  if seen fun x => x.intrusionPresent || x.latchedTamper == some true then b.unlockSkipped true
  else if seen fun x => x.glitchPresent || x.latchedTamper == some false then b.unlockSkipped false
  else b.unlockKeys

/-- Each channel whose stored fail-safe state differs from the configured one raises its event after a start (R208). -/
def Block.compareStores (b : Block) (l : Lane) : Block :=
  if (b.lane l).defaults then b else
  (List.range 64).foldl (fun b c =>
    let d := b.die (c / 16)
    let f := d.stored (c % 16)
    if d.powered && b.p 0x2001 c == 1 && !f.agrees (b.fsConfig c) then
      b.raise l (48 + c) 0x23 c f.st.val
    else b) b

/-- The 64-byte boot information block with a release epoch (R157). -/
def Block.bootInfo (b : Block) (otp : Otp) (epoch : Nat) : List Byte :=
  [0x47, 0x5A, 0x42, 0x49] ++ leBytes 4 b.img.version ++ leBytes 8 epoch ++ b.moduleInfo otp ++ zeroBytes 16

/-- Steps 1 to 5 of R157 for the boot record in force, into the memory of the lane that takes control; the pairs start at the
next boundary. A step that fails raises EV047 with its number (R158). -/
def Block.loadBoot (b : Block) (otp : Otp) (m : MemSt) (l : Lane) : Block × MemSt :=
  if (b.lane l).defaults then (b, m) else
  match b.img.boot with
  | none => (b.raise l 47 0 l.num 0, m)
  | some r =>
    let fail := fun (b : Block) (m : MemSt) (step : Nat) => (b.raise l 47 0 l.num step, m)
    let i := fieldAt r 20 2
    let c := fieldAt r 22 2
    let blob := r.drop 80
    let off := fieldAt r 0 4
    if b.authLess || b.keyLocked blob || b.keyGlitch || b.keyStale blob then fail b m 1
    else match b.keys.unwrap blob with
    | none => fail b m 1
    | some key =>
      let b := b.keyNow i (keyOf blob key)
      let k := b.slot i
      let x : CipherCtx := { CipherCtx.empty with mode := 3, slot := i, offset := off, length := bootRange r, kcv := k.kcv }
      if !modeFits 3 k || b.xtsClash c x then fail b m 2
      else
        let b := b.modCtx c fun _ => x
        if !(b.lane l).device then fail b m 3
        else
          let data := (List.range (fieldAt r 4 4 / 4096)).flatMap fun n =>
            let unit := off / 4096 + n
            Config.xtsPlain k.material unit (m.readExt l (4096 * unit) 4096)
          let m := m.write l (fieldAt r 8 4) data
          if Config.sha384 data != bytesAt r 24 48 then fail b m 4
          else
            let m := m.write l (fieldAt r 16 4) (b.bootInfo otp b.mod.epoch)
            (b.modPart fun p => { p with starting := true, releaseEpoch := b.mod.epoch }, m)

/-- A lane takes control with no other in service. -/
def Block.takeControl (b : Block) (otp : Otp) (m : MemSt) (l : Lane) : Block × MemSt :=
  let b := b.fresh
  let b := b.modLane l fun x => { x with st := 4, closeSeen := none, own := [], far := [], checks := [], farChecks := [], hashes := [], toFar := [] }
  let b := b.modMod fun y => { y with active := some l, activeSince := some b.mod.epoch }
  let b := (b.loadBank otp.codeAE l).fullBuckets.unlock l
  let b := (b.raise l 18 1 l.num 4).inService l
  let b := if b.configured then
      ((List.range 4).foldl (fun b d => if (b.die d).powered then b.takeOver d else b) b).compareStores l
    else b
  let b := b.wakeTaken l
  b.loadBoot otp m l

/-- The six pairs start together at a boundary in every lane in service: HS mode, guest 0, empty caches, the boot block
rewritten as it stands then (R157 step 6). -/
def Block.startPairs (b : Block) (otp : Otp) (m : MemSt) : Block × MemSt :=
  if !b.part.starting || decide (b.mod.epoch < b.part.releaseEpoch) then (b, m) else
  match b.img.boot with
  | none => (b, m)
  | some r =>
    let info := fieldAt r 16 4
    let pc := fieldAt r 8 4 + fieldAt r 12 4
    let b := b.modPart fun p => { p with starting := false }
    let budget := b.newBudget
    b.serving.foldl (fun (acc : Block × MemSt) l =>
      (acc.1.modLane l fun x => { x with pairs := mapIdxFrom (fun k (_ : PairSt) =>
          let c := CoreSt.started pc k info (budget k)
          { PairSt.fresh with running := true, main := c, chk := c }) 0 x.pairs },
       acc.2.write l info (b.bootInfo otp b.mod.epoch))) (b, m)

/-! ## Step 9 (R75, R79, R525) -/

/-- What a lane held and recorded is raised when it is ready: the events of steps 4 to 8, the cause of its last fault, and
EV000 (R292, R525, R534). -/
def Block.readyEvents (b : Block) (l : Lane) : Block :=
  let x := b.lane l
  let b := b.modEv fun v => { v with items := v.items ++ x.held.map fun (r : EvRec) => { r with epoch := b.mod.epoch } }
  let b := match x.aonCause with
    | some (cause, pair) => b.laneDownEvent l l cause pair
    | none => b
  let b := b.modLane l fun x => { x with held := [], aonCause := none }
  b.raise l 0 x.startCause l.num 0

/-- A lane reaches step 9. With no lane in service it takes control; when both reach it within one epoch Lane A does; else
it waits in state 2 for pairing (R75, R79, R256). -/
def Block.laneReady (b : Block) (otp : Otp) (m : MemSt) (l : Lane) : Block × MemSt :=
  let x := b.lane l
  if x.st != 1 || b.keys.life == .blank || b.keys.life == .retired then (b, m) else
  let b := b.modLane l fun x => { x with st := 2, ready := true }
  let b := b.acknowledges l
  let same := l == .a && b.isActive .b && b.serves .b && b.mod.activeSince == some b.mod.epoch
  let b := if same then b.leave .b 2 else b
  if b.serves l.other then
    let b := b.readyEvents l
    let b := if b.bridge.link = 1 then b else b.modLane l fun x => { x with rolling := false }
    (if (b.lane l).defaults then b else b.compareStores l, m)
  else
    let (b, m) := b.takeControl otp m l
    (b.readyEvents l, m)

/-! ## Pairing (R83, R271, R279) -/

/-- The configuration repair of R83: the held lane takes its peer's image, checked, into its own flash and restarts once. -/
def Block.repairFrom (b : Block) (ae : Bool) (l : Lane) : Block :=
  let img := b.img.bank l.other
  match cfgCheck ae (b.lane l).image img with
  | .error _ => b
  | .ok c =>
    let b := (b.modImg fun i => i.setBank l img).modLane l fun x => { x with repairing := true }
    (b.restart l 5).raise l.other 23 0 l.num (toSigned 4 c.version.toNat)

/-- A pairing is refused: EV022 with its cause, and the lane is held (R271). -/
def Block.pairingRefused (b : Block) (l : Lane) (cause : Nat) : Block :=
  (b.raise l.other 22 cause l.num 0).modLane l fun x => { x with rolling := false }

/-- The lane begins to take the mirrored state (R272). -/
def Block.beginResync (b : Block) (l : Lane) : Block :=
  ((b.modLane l fun x => { x with st := 3, resyncStage := 1 }).modMod fun m => { m with resyncFrom := m.epoch }).modBridge fun r =>
    { r with modeInForce := b.p 0x6001 0 }

/-- A returning lane pairs with the active one, is refused, or one of them is repaired (R83, R271, R279). What the
exchange has found is its operand. -/
def Block.pairs (b : Block) (otp : Otp) (m : MemSt) (l : Lane) (found : PairingFound) : Block × MemSt :=
  let x := b.lane l
  let a := b.lane l.other
  if x.st != 2 || !x.ready || !b.serves l.other || b.bridge.link != 1 then (b, m)
  else if !found.authOk then (b.pairingRefused l 1, m)
  else if !found.idOk then (b.pairingRefused l 2, m)
  else if !found.lifeOk then (b.pairingRefused l 3, m)
  else if levelsApart x.image.level a.image.level then
    let b := b.pairingRefused l 4
    if x.startCause = 0 ∧ a.startCause = 0 ∧ a.image.level < x.image.level then
      let b := (b.raise l.other 46 0 l.other.num a.image.level).leave l.other 2
      b.takeControl otp m l
    else (b.raise l.other 46 0 l.num x.image.level, m)
  else if a.defaults && !x.defaults then
    let b := b.repairFrom otp.codeAE l.other
    if b.serves l.other then (b, m) else b.takeControl otp m l
  else if x.defaults != a.defaults || (!x.defaults && b.img.bank .a != b.img.bank .b) then (b.repairFrom otp.codeAE l, m)
  else (b.beginResync l, m)

/-! ## Resynchronisation (R155, R261, R272-R274, R482) -/

/-- A lane at a stage of its resynchronisation. -/
def Block.atStage (b : Block) (n : Nat) : Option Lane :=
  [Lane.a, Lane.b].find? fun l => (b.lane l).st == 3 && (b.lane l).resyncStage == n && b.serves l.other && b.bridge.link == 1

/-- The KiB still to send: the pages written since the last pass, or before the first one every granule held by a slice (R272). -/
def Block.remainingKiB (b : Block) (m : MemSt) : Nat :=
  if m.watch.isSome then 4 * m.dirty.length
  else 64 * ((List.range 768).filter fun g => b.part.slices.any fun s => s.holdsSram (g * granule) granule).length

/-- The copying may end: little enough remains, or 70 ms have passed (R272). -/
def Block.converged (b : Block) (m : MemSt) : Bool :=
  decide (b.remainingKiB m ≤ b.p 0x014B 0) || decide (b.mod.resyncFrom + 1400 ≤ b.mod.epoch)

/-- One page of a lane's memory copied into the other. -/
def MemSt.copyPage (m : MemSt) (src dst : Lane) (k : Nat) : MemSt := m.write dst (4096 * k) (m.read src (4096 * k) 4096)

/-- At a boundary of the copying a pass sends the pages written since the last one, the first pass the whole memory (R272; log entry
122). With no lane copying, no pages are noted. -/
def Block.copyPass (b : Block) (m : MemSt) : MemSt :=
  match (b.atStage 1).or (b.atStage 2) with
  | none => { m with watch := none, dirty := [] }
  | some l =>
    let src := l.other
    let m' := if m.watch = some src then m.dirty.foldl (fun m k => m.copyPage src l k) m
              else { m with sram := m.sram.set l (m.sram.get src) }
    { m' with watch := some src, dirty := [] }

/-- A mailbox window in the returning lane: what the active lane has taken up counts as taken up here. -/
def WinAgreed.joined (w : WinAgreed) (l : Lane) : WinAgreed :=
  { w with lanes := w.lanes.set l { w.lanes.get l.other with copies := [] } }

/-- The storage units recorded while one lane served alone are copied; with a full record every range bound to an XTS
context is (R482). -/
def Block.storageCopy (b : Block) (m : MemSt) (l : Lane) : MemSt :=
  let ranges := if b.cipher.logFull then (b.cipher.ctxs.filter fun c => c.mode == 3).map fun c => (c.offset, c.length)
                else b.cipher.logUsed
  if !(b.lane l).device || !(b.lane l.other).device then m
  else ranges.foldl (fun (m : MemSt) r => m.writeExt l r.1 (m.readExt l.other r.1 r.2)) m

/-- RESYNC_CUT asks for the cut of the next boundary, once the passes have converged (R272, R273). -/
def Block.cutAsked (b : Block) (m : MemSt) (l : Lane) (holdUs : Nat) : Block :=
  if b.atStage 1 != some l || !b.converged m then b
  else (b.modLane l fun x => { x with resyncStage := 2 }).modMod fun y => { y with cutHold := holdUs }

/-- A pair as its state goes to the returning lane: both cores from the main core's state, nothing between them (R273). -/
def PairSt.sent (p : PairSt) : PairSt := { p with chk := p.main, fifo := [] }

/-- The switch core of the returning lane: the active lane's frames, queues and numbers, and its own links, counts and packet numbers
(R261, R272, R476). -/
def SwitchSt.joined (own act : SwitchSt) : SwitchSt :=
  { act with links := own.links, stats := own.stats, leaked := own.leaked, lostCells := own.lostCells, mismatch := own.mismatch,
             sweeping := own.sweeping, txStopped := own.txStopped, txFlushed := own.txFlushed, blockLeft := own.blockLeft,
             nextPn := own.nextPn }

/-- The cut, at the boundary it was asked for: the active lane's pairs stop with nothing between their cores, and its memory, pairs,
stream numbers and buffered state stand in the returning lane (R261, R272, R273). -/
def Block.cutNow (b : Block) (m : MemSt) : Block × MemSt :=
  match b.atStage 2 with
  | none => (b, m)
  | some l =>
    let b := (List.range 7).foldl (fun b k => b.drainPair l.other k) b
    if !b.serves l.other then (b, m) else
    let a := b.lane l.other
    let b := b.modLane l fun x =>
      { x with
        resyncStage := 3, pairs := a.pairs.map PairSt.sent, log := a.log, logQueue := a.logQueue, sw := x.sw.joined a.sw,
        can := mapIdxFrom (fun i (c : CanCtl) => { c with tx := (a.ctl i).tx }) 0 x.can }
    let b := b.modMail fun y => { y with gov := y.gov.joined l, parts := y.parts.map fun w => w.joined l }
    (b.modMod fun y => { y with resyncHold := y.cutHold }, b.copyPass { m with sram := m.sram.set l (m.sram.get l.other) })

/-- RESYNC_COMPLETE: the hold is over, and the returning lane enters state 4 at the next boundary (R274). -/
def Block.holdOver (b : Block) (l : Lane) (ms : Nat) : Block :=
  if b.atStage 3 != some l then b
  else (b.modLane l fun x => { x with resyncStage := 4 }).modMod fun y => { y with cutMs := ms }

/-- The returning lane enters state 4 at the first boundary after the hold, having applied the storage units written meanwhile
(R274, R482); the pairs of both lanes run again. -/
def Block.resynced (b : Block) (m : MemSt) : Block × MemSt :=
  match b.atStage 4 with
  | none => (b, m)
  | some l =>
    let now := b.mod.epoch
    let m := b.storageCopy m l
    let b := b.modLane l fun x =>
      { x with
        st := 4, resyncStage := 0, own := [], far := [], checks := [], farChecks := [], hashes := [], toFar := [], closeDue := none,
        can := x.can.map fun (c : CanCtl) => { c with countsFrom := now } }
    let b := b.modLanes fun x => { x with closeSeen := some (now - 1), missedClose := false }
    let b := b.modMod fun y => { y with resyncMs := satNat 65535 y.cutMs }
    let b := { b with cipher := { b.cipher with logUsed := [], logFull := false } }
    let b := (b.raiseAll 45 0 l.num b.mod.resyncHold).raiseAll 18 1 l.num 4
    (b.inService l, m)

end Sys2Proof

namespace Sys2Proof.Machine

/-- MODULE_POWER_UP (R75 step 1). -/
def execModulePowerUp (mv : Nat) (s : State) : Host.Outcome State Fault Refusal :=
  .next (if s.b.mod.t30Valid then s else (s.withBlock (s.b.powerUp mv)).withMem { s.mem with sram := .both [] })

/-- T30_VALID (R63). -/
def execT30Valid (mv : Nat) (s : State) : Host.Outcome State Fault Refusal :=
  onBlock (fun b => if b.mod.t30Valid then b else b.modMod fun m => { m with t30Valid := true, t30 := mv }) s

/-- T30_INVALID (R63, R64). -/
def execT30Invalid (mv : Nat) (s : State) : Host.Outcome State Fault Refusal := onBlock (fun b => b.t30Lost mv) s

/-- RAILS_LOWERED (R68). -/
def execRailsLowered (l : Lane) (mv : Nat) (s : State) : Host.Outcome State Fault Refusal :=
  onBlock (fun b => b.railBand l true mv) s

/-- RAILS_RESTORED (R68). -/
def execRailsRestored (l : Lane) (mv : Nat) (s : State) : Host.Outcome State Fault Refusal :=
  onBlock (fun b => b.railBand l false mv) s

/-- T30_OVERVOLTAGE: band 3 (R64). -/
def execT30Overvoltage (mv : Nat) (s : State) : Host.Outcome State Fault Refusal :=
  onBlock (fun b =>
    let b := b.modMod fun m => { m with t30 := mv }
    if (b.lane b.act).band = 3 then b
    else (b.modLanes fun x => { x with band := 3 }).raiseAll 2 1 noSubject mv) s

/-- T30_BAND_3_LEFT (R64). -/
def execT30Band3Left (mv : Nat) (s : State) : Host.Outcome State Fault Refusal :=
  onBlock (fun b =>
    let b := b.modMod fun m => { m with t30 := mv }
    if (b.lane b.act).band ≠ 3 then b
    else (b.modLanes fun x => { x with band := x.baseBand }).raiseAll 2 2 noSubject mv) s

/-- FEED_BAND_CHANGE (R70, R71). -/
def execFeedBandChange (f : Feed) (band : FeedBand) (mv : Int) (s : State) : Host.Outcome State Fault Refusal :=
  onBlock (fun b => b.feedTo f band mv) s

/-- FEED_REVERSED (R73). -/
def execFeedReversed (f : Feed) (mv : Int) (s : State) : Host.Outcome State Fault Refusal :=
  onBlock (fun b => b.feedTo f .reversed mv) s

/-- FEED_UNREVERSED (R73). -/
def execFeedUnreversed (f : Feed) (mv : Int) (s : State) : Host.Outcome State Fault Refusal :=
  onBlock (fun b => if (b.feed f).band = .reversed then b.feedTo f (feedBandOf mv) mv else b) s

/-- FEED_RETURN_NEXT_CHANNEL (R71). -/
def execFeedReturnNextChannel (d : Die) (s : State) : Host.Outcome State Fault Refusal :=
  onBlock (fun b => match (b.die d.val).feedNext with
    | some i => if b.feedValid d.val then b.feedStep d.val i else b
    | none => b) s

/-- LOGIC_SOURCE_RETURN (R74). -/
def execLogicSourceReturn (d : Die) (s : State) : Host.Outcome State Fault Refusal := onBlock (fun b => b.sourceBack d.val) s

/-- LANE_START (R75 steps 4 to 8): the self-test clears the lane's tenant SRAM. -/
def execLaneStart (l : Lane) (env : StartEnv) (s : State) : Host.Outcome State Fault Refusal :=
  let b := s.b.laneStarts s.otp l env
  .next ((s.withBlock b).withMem (if (s.b.lane l).st = 0 ∧ (b.lane l).st = 1 then { s.mem with sram := s.mem.sram.set l [] } else s.mem))

/-- LANE_READY (R75 step 9). -/
def execLaneReady (l : Lane) (s : State) : Host.Outcome State Fault Refusal :=
  let (b, m) := s.b.laneReady s.otp s.mem l
  .next ((s.withBlock b).withMem m)

/-- LANE_PAIRING (R271). -/
def execLanePairing (l : Lane) (found : PairingFound) (s : State) : Host.Outcome State Fault Refusal :=
  let (b, m) := s.b.pairs s.otp s.mem l found
  .next ((s.withBlock b).withMem m)

/-- RESYNC_CUT (R273). -/
def execResyncCut (l : Lane) (holdUs : Nat) (s : State) : Host.Outcome State Fault Refusal :=
  onBlock (fun b => b.cutAsked s.mem l holdUs) s

/-- RESYNC_COMPLETE (R274). -/
def execResyncComplete (l : Lane) (ms : Nat) (s : State) : Host.Outcome State Fault Refusal := onBlock (fun b => b.holdOver l ms) s

end Sys2Proof.Machine
end

