-- ==== Sys2Proof/Machine/Gate.lean ====
section
/-! DEFINITION. The partition gate: the address map of a lane, the mailbox and event queue windows as cores read and write
them, and the access of a core or of a DMA engine (R34-R37, R95, R128-R130, R141, R152, R527, R553). -/

namespace Sys2Proof

/-! ## The map (R34) -/

/-- The ranges of the address map. -/
inductive Region where
  | sram | gov | win (p : Nat) | eq (p : Nat) | bridge | storage | reserved
  deriving DecidableEq, Repr

/-- The range that an address lies in. -/
def regionOf (a : Nat) : Region :=
  if a < 0x03000000 then .sram
  else if 0x40000000 ≤ a ∧ a < 0x40010000 then .gov
  else if 0x40100000 ≤ a ∧ a < 0x40180000 then .win ((a - 0x40100000) / 0x4000)
  else if 0x41000000 ≤ a ∧ a < 0x41020000 then .eq ((a - 0x41000000) / 0x1000)
  else if 0x50000000 ≤ a ∧ a < 0x53000000 then .bridge
  else if 0x60000000 ≤ a ∧ a < 0x70000000 then .storage
  else .reserved

/-- Natural alignment and a width of 32 or 64 bits, as the windows require (R36). -/
def windowWidth (a n : Nat) : Bool := (n == 4 || n == 8) && a % n == 0

/-- The map grants a range to a PRID for a kind of access (R34, R36, R37); slices are checked apart. -/
def Region.grants (r : Region) (p : Nat) (k : AccKind) (a n : Nat) : Bool :=
  match r with
  | .sram => true
  | .bridge => true
  | .gov => p == 0 && windowWidth a n
  | .win q => q == p && windowWidth a n
  | .eq q => q == p && windowWidth a n
  | .storage => k == .read
  | .reserved => false

/-! ## Reading the windows (R95, R96, R100, R163, R527) -/

/-- The 64 bytes of a response slot: the address of the payload, where one was written (R96). -/
def Response.slotBytes (a : Response) : List Byte :=
  a.header ++ leBytes 8 (if a.payload.isEmpty then 0 else a.addr) ++ zeroBytes 24

/-- What a management response carries from its R-tag on, inside the secure data unless it answers a frame without a SecTAG: the
R-tag, the EtherType, the prefix in network order, header and payload (R123, R125, R126). -/
def MgSent.bytes (x : MgSent) (identity : DWord) : List Byte :=
  beBytes 2 0xF1C1 ++ zeroBytes 2 ++ beBytes 2 x.rtag.toNat ++ beBytes 2 0x88B5 ++ [1, 2, 0, 0] ++ beBytes 8 identity.toNat ++
    x.resp.header ++ x.resp.payload

/-- It leaves under the SecTAG of the management secure channel (R126). -/
def MgSent.secured (x : MgSent) : Bool := !x.resp.unsecured

/-- The base of the response slots of a window. -/
def Win.respBase : Win → Nat
  | .gov => 0x800
  | .part _ => 0x200

/-- MB_STATUS, which reads the same in both lanes. -/
def Block.mbStatus (b : Block) (w : Win) : Nat :=
  let a := b.win w
  bitsOf [b.winServed w, (b.slice w.prid).frozen, a.paced, a.indexErr]

/-- A 32-bit read of a mailbox window. -/
def Block.winReg (b : Block) (l : Lane) (w : Win) (off : Nat) : Nat :=
  let a := b.win w
  let x := a.lanes.get l
  let gov := w == .gov
  if off = 0x00 then w.size * 65536 + (if gov then 2 else 1) * 256 + w.prid
  else if off = 0x04 then b.mbStatus w
  else if off = 0x08 then x.reqProd.toNat
  else if off = 0x0C then a.reqCons.toNat
  else if off = 0x10 then a.respProd.toNat
  else if off = 0x14 then a.respCons.toNat
  else if off = 0x18 then a.irqEn.toNat
  else if off = 0x1C then a.irqStatus.toNat
  else if off = 0x20 then a.mbEpoch % 2 ^ 32
  else if off = 0x40 then (if gov then b.mail.mgRx else 0)
  else if off = 0x44 then (if gov then b.mail.mgDrop else 0)
  else if w.slotBase ≤ off ∧ off < w.slotBase + 64 * w.size then
    fieldAt ((x.slots.getD ((off - w.slotBase) / 64) { bytes := [], stamp := 0 }).bytes) ((off - w.slotBase) % 64) 4
  else if w.respBase ≤ off ∧ off < w.respBase + 64 * w.size then
    match a.slots.getD ((off - w.respBase) / 64) none with
    | some r => fieldAt r.slotBytes ((off - w.respBase) % 64) 4
    | none => 0
  else 0

/-- The 16 bytes of the agreed time (R163). -/
def Block.agreedTime (b : Block) : List Byte :=
  leBytes 8 b.mod.round ++ leBytes 4 b.mod.offset ++
    leBytes 4 (bitsOf [b.mod.timeSync, b.mod.timeSubst, b.mod.timeAdj])

/-- A 32-bit read of an event queue window. -/
def Block.eqReg (b : Block) (p off : Nat) : Nat :=
  let q := b.ev.queues.getD p EventQ.fresh
  if off < 0x10 then fieldAt b.agreedTime off 4
  else if off = 0x10 then q.prod.toNat
  else if off = 0x14 then q.cons.toNat
  else if off = 0x18 then b2n q.dropped
  else if off = 0x1C then q.lost % 2 ^ 32
  else if off = 0x20 then b2n q.irqEn
  else if off = 0x24 then b2n q.irqStatus
  else if 0x800 ≤ off ∧ off < 0x1000 then
    match q.recs.getD ((off - 0x800) / 32) none with
    | some (r, round, offset, seq) => fieldAt (r.bytes round offset seq) ((off - 0x800) % 32) 4
    | none => 0
  else 0

/-- A read of MB_STATUS ends the report of an index error, in both lanes at the next boundary (R95; log entry 112). -/
def Block.winReadDone (b : Block) (l : Lane) (w : Win) (off n : Nat) : Block :=
  if off ≤ 4 ∧ 4 < off + n then b.modWin w fun a => a.modLane l fun x => { x with statusRead := true } else b

/-- The offsets of the 32-bit words that an access names. -/
def wordOffs (off n : Nat) : List Nat := (List.range (n / 4)).map fun k => off + 4 * k

/-- The 32-bit word of written bytes. -/
def wordAt (data : List Byte) (k : Nat) : Word := BitVec.ofNat 32 (fieldAt data k 4)

/-- A permitted access to a window: a word at a time, lower first. -/
def Block.windowAccess (b : Block) (l : Lane) (kind : AccKind) (eq : Bool) (w : Win) (off n : Nat) (data : List Byte) :
    Block × AccResult :=
  match kind with
  | .read =>
    let v := (wordOffs off n).flatMap fun o => leBytes 4 (if eq then b.eqReg w.prid o else b.winReg l w o)
    (if eq then b else b.winReadDone l w off n, .done v)
  | .write => ((wordOffs off n).foldl (fun b o => b.regWrite l eq w o (wordAt data (o - off))) b, .done [])

/-! ## The access (R35, R129, R130, R141, R152, R553) -/

/-- The PRID that an access carries (R129). -/
def Block.pridOf (b : Block) (l : Lane) (a : Access) : Nat :=
  match a.pair with
  | some k => b.accPrid l k.val a.virt
  | none => a.dma.val

/-- How an access ends at its core; a DMA access has none. -/
def Block.accEnds (b : Block) (l : Lane) (a : Access) (r : AccResult) : Block :=
  match a.pair with
  | some k => b.setResult l k.val r
  | none => b

/-- An access ends in a violation (R35, R130). -/
def Block.accRefused (b : Block) (l : Lane) (a : Access) (p cause : Nat) : Block :=
  let b := b.accEnds l a .fault
  if (b.slice p).phase == .none then b else b.gateViolation l p cause a.addr

/-- A core's access of a frozen PRID stalls, DMA halts (R152). -/
def Block.accStalls (b : Block) (l : Lane) (a : Access) : Block :=
  match a.pair with
  | some k => b.gateStalls l k.val (b.pridOf l a) a
  | none => b

/-- The bridge operation of a plain access. -/
def Access.bridgeOp (a : Access) : BridgeOp :=
  match a.kind with
  | .read => .read
  | .write => .write a.data

/-- A permitted access to tenant SRAM. -/
def Block.sramAccess (b : Block) (m : MemSt) (l : Lane) (a : Access) : Block × MemSt :=
  match a.kind with
  | .read => (b.accEnds l a (.done (m.read l a.addr a.size)), m)
  | .write => (b.accEnds l a (.done []), m.write l a.addr (a.data.take a.size))

/-- The accesses that a pair holds back until their comparison: writes, and consume reads of the bridge window (R287). -/
def Block.accHeld (b : Block) (a : Access) : Bool :=
  match regionOf a.addr with
  | .bridge => b.bridgeHeld a.bridgeOp (a.addr - bridgeBase) a.size
  | _ => a.kind == .write

/-- An access of a lane's core or DMA engine at the gate. -/
def Block.fabric (b : Block) (m : MemSt) (l : Lane) (a : Access) : Block × MemSt :=
  let p := b.pridOf l a
  let s := b.slice p
  let r := regionOf a.addr
  if (b.lane l).st < 4 then (b, m)
  else if s.phase == .none then (b.accEnds l a .fault, m)
  else if !r.grants p a.kind a.addr a.size then (b.accRefused l a p 2, m)
  else
    let window := fun (eq : Bool) (w : Win) (base : Nat) =>
      if s.frozen then (b.accStalls l a, m)
      else
        let (b, v) := b.windowAccess l a.kind eq w (a.addr - base) a.size a.data
        (b.accEnds l a v, m)
    match r with
    | .sram =>
      if b.drainsRange p a.addr a.size then (b.accEnds l a .fault, m)
      else if !s.holdsSram a.addr a.size then (b.accRefused l a p 1, m)
      else if s.frozen then (b.accStalls l a, m)
      else if b.lineLocked l a.addr || b.lineLocked l (a.addr + a.size - 1) then (b.accEnds l a .waits, m)
      else b.sramAccess m l a
    | .gov => window false .gov 0x40000000
    | .win q => window false (.part (Fin.ofNat 32 q)) (0x40100000 + 0x4000 * q)
    | .eq q => window true (.part (Fin.ofNat 32 q)) (0x41000000 + 0x1000 * q)
    | .bridge =>
      match a.pair with
      | some k => b.bridgeAccess m l k.val a.virt a.bridgeOp (a.addr - bridgeBase) a.size
      | none => if s.holdsSram (a.addr - bridgeBase) a.size then (b, m) else (b.accRefused l a p 1, m)
    | .storage =>
      match a.pair with
      | some k => (b.storageRead m l k.val a.virt (a.addr - 0x60000000) a.size, m)
      | none => if s.holdsStorage (a.addr - 0x60000000) a.size then (b, m) else (b.accRefused l a p 1, m)
    | .reserved => (b.accRefused l a p 2, m)

/-- The number that stands for a kind of access in a token's request field. -/
def AccKind.code : AccKind → Nat
  | .read => 0
  | .write => 1

/-- A core's access with its retirement, or a DMA engine's (R284-R288). -/
def Block.fabricThrough (b : Block) (m : MemSt) (l : Lane) (a : Access) : Block × MemSt :=
  match a.pair with
  | none => b.fabric m l a
  | some k => b.throughPair m l k.val (b.accToken l k.val a.virt a.addr a.size a.kind.code) (b.accHeld a)
      (b.fabric m l a)

/-! ## The time word (R39, R147, R284) -/

/-- A microsecond of a lane: it counts, the checkers of its pairs catch up, the active lane's buckets fill, and what waits for their
tokens goes on in its turn. -/
def Block.timeWord (b : Block) (m : MemSt) (l : Lane) : Block × MemSt :=
  if (b.lane l).st = 0 then (b, m) else
  let b := b.modLane l fun x => { x with timeWords := x.timeWords + 1, opUs := x.opUs + 1 }
  let b := (List.range 7).foldl (fun b k => b.drainPair l k) b
  let b := if b.isActive l then (b.modPart fun x => { x with rates := mapIdxFrom b.fillRates 0 x.rates }).engineNext else b
  b.bridgeTurns m l

end Sys2Proof

namespace Sys2Proof.Machine

/-- FABRIC_ACCESS (R35). -/
def execFabricAccess (l : Lane) (acc : Access) (s : State) : Host.Outcome State Fault Refusal :=
  let (b, m) := s.b.fabricThrough s.mem l acc
  .next ((s.withBlock b).withMem m)

/-- TIME_WORD (R39, R40). -/
def execTimeWord (l : Lane) (s : State) : Host.Outcome State Fault Refusal :=
  let (b, m) := s.b.timeWord s.mem l
  .next ((s.withBlock b).withMem m)

end Sys2Proof.Machine
end

