-- ==== Sys2Proof/Machine/Epoch.lean ====
section
/-! DEFINITION. The boundary that ends an agreement epoch: the peer's silence, divergence, roles, freezes, responses that
become visible with their effects, the delivery of the previous epoch's items, the agreed time, and events
(09_lanes_and_seamless_redundancy.md; R112-R115, R151, R157, R163, R164, R297, R463, R500, R525-R529). Log entry 20 gives the
order of the steps within one boundary. -/

namespace Sys2Proof

/-! ## Offset and silence (R257, R260, R269) -/

/-- The offset between the lanes' boundaries, measured by the standby lane; more than 5 us for 20 epochs is a divergence. -/
def Block.offsetSeen (b : Block) (ns : Int) : Block :=
  if !b.bothServe then b.modMod fun m => { m with epochOffset := 0, offsetRun := 0 } else
  let run := if 5000 < ns.natAbs then b.mod.offsetRun + 1 else 0
  let b := b.modMod fun m => { m with epochOffset := ns, offsetRun := if run = 20 then 0 else run }
  if run = 20 then b.diverge 6 32 else b

/-- A lane holds the far lane's close record of an epoch. -/
def LaneSt.closed (x : LaneSt) (k : Nat) : Bool := match x.closeSeen with | some e => decide (k ≤ e) | none => false

/-- A lane in service that lacks its peer's close record of the epoch to deliver finds the peer silent. -/
def Block.silence (b : Block) (k : Nat) (l : Lane) : Block :=
  let x := b.lane l
  if b.serves l && x.expects && !x.closed k && !x.missedClose then b.peerSilent l else b

/-! ## Divergence (R151, R265-R267) -/

/-- Sightings of the standby lane and of the active lane, those of one PRID, cause and address taken out in pairs. -/
def matchSeen : List (Nat × Nat × Nat × Nat) → List (Nat × Nat × Nat × Nat) →
    List (Nat × Nat × Nat × Nat) × List (Nat × Nat × Nat × Nat)
  | [], decided => ([], decided)
  | e :: t, decided =>
    match decided.find? fun d => d.2 == e.2 with
    | some d => matchSeen t (decided.erase d)
    | none => let (rest, left) := matchSeen t decided; (e :: rest, left)

/-- What the standby lane alone has seen at its gate, the active lane having had one epoch more for its own sighting, is a
divergence (R151; log entry 114). -/
def Block.aloneSeen (b : Block) : Block :=
  let (alone, decided) := matchSeen b.part.alone b.part.decided
  let recent := fun (e : Nat × Nat × Nat × Nat) => decide (b.mod.epoch ≤ e.1 + 1)
  let b := b.modPart fun s => { s with alone := alone.filter recent, decided := decided.filter recent }
  (alone.filter fun e => !recent e).foldl (fun b e => b.diverge 5 e.2.1) b

/-- One divergence is decided: the lane beside the active one resynchronises, or on the third within an hour restarts (R266). -/
def Block.decide1 (b : Block) (prid : Nat) : Block :=
  let now := b.mod.epoch
  let log := { epoch := now, prid := prid } :: b.mod.divLog.filter fun d => decide (now < d.epoch + epochsPerHour)
  let b := b.modMod fun m => { m with divLog := log }
  let b := if prid < 32 ∧ 3 ≤ (log.filter fun d => d.prid == prid).length then b.raiseAll 20 0 prid 0 else b
  let recent := fun (l : Lane) => match (b.lane l).localFault with | some t => decide (now ≤ t + 1) | none => false
  if recent .a || recent .b then b
  else match b.mod.active with
  | none => b
  | some k =>
    let l := k.other
    if 3 ≤ log.length then (if 2 ≤ (b.lane l).st then b.restart l 2 else b)
    else if b.serves l then ((b.leave l 3).modLane l fun x => { x with resyncStage := 1 }).modMod fun m => { m with resyncFrom := now }
    else b

/-- The divergences detected since the last boundary are decided (R266). -/
def Block.decideAll (b : Block) : Block :=
  let l := b.mod.divSeen
  (l.foldl (fun b d => b.decide1 d.2) b).modMod fun m => { m with divSeen := m.divSeen.drop l.length }

/-! ## The active role (R92, R164, R268-R270, R277) -/

/-- The active role passes. -/
def Block.roleChange (b : Block) : Block :=
  match b.mod.handTo with
  | none => b
  | some l =>
    let old := b.mod.active
    let fail := b.mod.handFail
    let cause := b.mod.handCause
    let b := b.modMod fun m =>
      { m with handTo := none, handFail := false, handCause := 0, active := some l,
               failovers := if fail then satNat 0xFFFFFFFF (m.failovers + 1) else m.failovers }
    let b := if fail then b.raiseAll 17 (if cause = 0 then 2 else 1) l.num cause else b.raiseAll 16 0 l.num 0
    let b := b.modLane l fun x => { x with missedClose := false }
    let b := if b.serves l.other then b
      else { b with inputs := b.inputs.map fun (x : InputSt) => { x with flags := setFlag x.flags 6 true } }
    let b := if b.configured then b.sendRole l
      else b.finishWhere (fun e => match e.kind with | .roleSet dest _ => dest == l | _ => false) .ok [] .none
    match old with
    | some k => if k ≠ l ∧ b.serves k ∧ (b.lane k).rolling = true then b.restart k 2 else b
    | none => b

/-! ## Freezes (R151, R152) -/

/-- A decided violation freezes its PRID. -/
def Block.freeze (b : Block) (p : Nat) : Block :=
  if !(b.viol p).decided then b else
  let b := b.modViol p fun v => { v with decided := false }
  if (b.slice p).frozen || (b.slice p).phase == .none then b
  else (b.modSlice p fun s => { s with frozen := true }).bridgeFreezes p

/-! ## Visibility (R96, R113, R114, R125, R261) -/

/-- The other lane in service has not yet taken up the request that a response answers. -/
def Block.unmatched (b : Block) (a : Response) : Bool :=
  match a.path.win with
  | none => false
  | some w =>
    b.bothServe && [Lane.a, Lane.b].any fun l => ((b.win w).lanes.get l).copies.any fun c =>
      c.2.1 && fieldAt c.2.2 4 4 == a.tag.toNat && fieldAt c.2.2 12 4 == a.seq.toNat

/-- What an effect does at its boundary. -/
def Block.effect (b : Block) : Effect → Block
  | .none => b
  | .params l => b.paramsNow l
  | .slice p create recs => b.sliceNow p.val create recs
  | .thaw p => b.thawNow p.val
  | .isolate d fn pol => b.isoAct d fn pol
  | .faultClear fn => b.faultClear fn
  | .tamperAck => b.ackNow
  | .shrunk p => b.shrunkNow p.val
  | .mark c e base len => b.markNow c e base len
  | .canFilter p i n f => b.canFilterNow p.val i.val n f
  | .ctxSet c r => b.modCtx c fun x => x.setTo r
  | .ctxFree c => b.modCtx c CipherCtx.freed
  | .keyLoad i k => b.keyNow i k
  | .keyEvict i => b.evictNow i
  | .keyDestroy n => b.destroyNow n
  | .debug ls ps =>
    let b := if ls.getLsbD 0 && b.serves .a then b.breakPairs .a ps else b
    (if ls.getLsbD 1 && b.serves .b then b.breakPairs .b ps else b).testRootNow
  | .saInstall k an pn => b.saInstallNow k.val an pn
  | .saCurrent k => b.saUse k.val
  | .saRetire k => b.saRetireNow k.val
  | .restartBoth => b.modImg fun i => { i with commitRestart := true }
  | .lifeRestart => b.lifeRestarts

/-- A response takes its slot in a window's response ring. -/
def WinAgreed.respond (w : WinAgreed) (size : Nat) (a : Response) : WinAgreed :=
  { w with slots := setAt w.slots (w.respProd.toNat % size) (some a), respProd := w.respProd + 1,
           irqStatus := w.irqStatus ||| 1 }

/-- A response becomes visible in the lanes in service: payload, slot and effect; it waits while its ring is full, so that none is
lost (R99). A window whose slice has gone takes nothing. -/
def Block.show (b : Block) (m : MemSt) (a : Response) : Block × MemSt :=
  match a.path.win with
  | none => ((b.sendMgmt b.serving a).effect a.effect, m)
  | some w =>
    let x := b.win w
    if (b.slice w.prid).phase ≠ .none ∧ w.size ≤ (x.respProd - x.respCons).toNat then
      (b.modMail fun y => { y with done := y.done ++ [a] }, m)
    else
    let s := b.slice w.prid
    let m := if s.holdsSram a.addr a.payload.length && !a.payload.isEmpty then
        b.mirrored.foldl (fun (m : MemSt) l => m.write l a.addr a.payload) m
      else m
    let b := if s.phase == .none then b else b.modWin w fun x => x.respond w.size a
    (b.effect a.effect, m)

/-- The responses that both lanes have completed become visible, in their order. -/
def Block.showAll (b : Block) (m : MemSt) : Block × MemSt :=
  let go := b.mail.done.filter fun a => !b.unmatched a
  let b := b.modMail fun y => { y with done := y.done.filter b.unmatched }
  go.foldl (fun (acc : Block × MemSt) a => acc.1.show acc.2 a) (b, m)

/-- A request that may pend and has stood for 1 ms since its take-up, pending or waiting, receives PENDING (R112). -/
def Block.tellPending (b : Block) : Block :=
  let late := fun (op epoch : Nat) (told : Bool) =>
    !told && decide (epoch + epochsPerMs ≤ b.mod.epoch) && ((opInfo? op).map (·.pend)).getD false
  let held := (b.mail.pend.filter fun e => late e.opcode e.epoch e.told).map fun e => (e.req, e.opcode)
  let waits := (b.mail.waiting.filter fun e => late e.op e.epoch e.told).map fun e => (e.req, e.op)
  let b := b.modMail fun m =>
    { m with pend := m.pend.map (fun e => if late e.opcode e.epoch e.told then { e with told := true } else e),
             waiting := m.waiting.map fun e => if late e.op e.epoch e.told then { e with told := true } else e }
  (held ++ waits).foldl (fun b e => b.post (e.1.answer e.2 .pending [] .none true true)) b

/-- The agreed values of a window for the next epoch (R95): REQ_CONS, whose advance raises the interrupt on a freed slot, and the
bits of MB_STATUS. -/
def Block.windowNow (b : Block) (k : Nat) (a : WinAgreed) : WinAgreed :=
  let cons := b.bothTaken a
  let own := a.lanes.get b.act
  { a with reqCons := cons, irqStatus := if cons = a.reqCons then a.irqStatus else a.irqStatus ||| 2, paced := a.pacing,
           indexErr := (a.indexErr && !own.statusRead) || own.indexErr, mbEpoch := k,
           lanes := a.lanes.map fun x => { x with indexErr := false, statusRead := false } }

/-! ## Delivery (R259) -/

/-- Items up to an epoch. -/
def upTo (k : Nat) (l : List Item) : List Item := l.filter fun i => decide (i.epoch ≤ k)

/-- Row 1: the inputs. The far lane's sample is the one that it has sent for the epoch. -/
def Block.deliverInputs (b : Block) (k : Nat) (l : Lane) (far : List Item) : Block :=
  let two := b.bothServe && decide ((b.lane .a).since ≤ k) && decide ((b.lane .b).since ≤ k)
  let sample := fun (i : Nat) => (far.reverse.findSome? fun it => match it.body with
    | .input j s => if j.val = i then some s else none
    | _ => none)
  ((List.range 48).foldl (fun b i => b.deliverInput i ((b.lane l).front i).tagged (sample i) two k) b).inputWakes

/-- The CAN frames of a bus in a list of items. -/
def canItems (i : Nat) (l : List Item) : List CanFrame :=
  l.filterMap fun it => match it.body with | .can j f => if j.val = i then some f else none | _ => none

/-- Row 2: the buses. -/
def Block.deliverCan (b : Block) (k : Nat) (l : Lane) (own far : List Item) (two : Bool) : Block :=
  (List.range 12).foldl (fun b i =>
    b.canAgree i (canItems i own) (canItems i far) (((b.lane l).ctl i).outIn k) two) b

/-- The Ethernet frames of a lane's items. -/
def ethItems (l : Lane) (is : List Item) : List (Lane × (Nat × Nat × Nat) × EthFrame) :=
  is.filterMap fun it => match it.body with | .eth i g src f => some (l, (i, g, src), f) | _ => none

/-- Rows 3 and 4, and the writing of frames into the partitions' buffers. -/
def Block.deliverNet (b : Block) (m : MemSt) (l : Lane) (own far : List Item) : Block × MemSt :=
  let (fs, rs) := b.ethOrder (ethItems l own ++ ethItems l.other far)
  let b := b.modNet fun n => { n with recov := rs }
  let b := fs.foldl (fun b x => b.deliverEth x.1.1 x.1.2.1 x.2 x.1.2.2) b
  (List.range 32).foldl (fun (acc : Block × MemSt) p => acc.1.vpDeliver acc.2 p) (b, m)

/-- Row 5: the management frames in their order, first copies only. -/
def Block.mgmtOrder (b : Block) (l : Lane) (own far : List Item) : List MgmtFrame × List Recov :=
  let of := fun (is : List Item) => is.filterMap fun it => match it.body with | .mgmt f => some f | _ => none
  let all := match l with | .a => of own ++ of far | .b => of far ++ of own
  let tagged := sortBy (fun (x y : MgmtFrame) => decide ((x.rtag.map (·.toNat)).getD 0 ≤ (y.rtag.map (·.toNat)).getD 0))
    (all.filter fun f => f.rtag.isSome)
  let step := fun (acc : List MgmtFrame × List Recov) (f : MgmtFrame) =>
    let (ok, rs, _) := recovTake acc.2 mgmtHandle ((f.rtag.map (·.toNat)).getD 0) (b.p 0x4836 0)
    (if ok then acc.1 ++ [f] else acc.1, rs)
  let (first, rs) := tagged.foldl step ([], b.net.recov)
  (first ++ all.filter (fun f => f.rtag.isNone), rs)

/-! ## Agreed time (R163, R164) -/

/-- The time at the close of epoch k from a lane's ring, or from its own time base: round, offset, synchronised. -/
def Block.timeAt (b : Block) (l : Lane) (k : Nat) : Nat × Nat × Bool :=
  let r := b.ring l
  let len := r.cfg.length
  if r.st == .synchronised then
    let t : Int := ((k + 1 : Nat) : Int) * 50000 - (r.startEpoch : Int) * 50000
    if t < 0 then (r.round - 1, (clampInt 0 ((len : Int) - 1) (t + len)).toNat, true)
    else (r.round, satNat (len - 1) t.toNat, true)
  else
    let t := (k + 1) * 50000
    (t / len, t % len, false)

/-- The agreed time of epoch k takes its place; one that would decrease or repeat is the previous value plus 1 ns. -/
def Block.setTime (b : Block) (k : Nat) : Block :=
  let (round, off, sync) := b.timeAt b.act k
  let m := b.mod
  let later := decide (m.round < round) || (m.round == round && decide (m.offset < off))
  let len := (b.ring b.act).cfg.length
  let (round, off) := if later then (round, off)
    else if m.offset + 1 < len then (m.round, m.offset + 1) else (m.round + 1, 0)
  b.modMod fun m => { m with round := round, offset := off, timeSync := sync, timeSubst := !sync, timeAdj := !later }

/-! ## Events (R525-R531) -/

/-- Two records merge: the active lane's detail stands. -/
def EvRec.merge (act : Lane) (r q : EvRec) : EvRec :=
  let mine := match act with | .a => r.la | .b => r.lb
  { r with la := r.la || q.la, lb := r.lb || q.lb, detail := if mine then r.detail else q.detail }

/-- Records of one event, cause and subject from both lanes in one epoch become one. -/
def mergeRecs (act : Lane) : List EvRec → List EvRec
  | [] => []
  | r :: t =>
    let rest := mergeRecs act t
    let same := fun (q : EvRec) => q.ev == r.ev && q.cause == r.cause && q.subject == r.subject && q.epoch == r.epoch &&
      q.la != r.la && q.lb != r.lb
    match rest.find? same with
    | some q => r.merge act q :: rest.erase q
    | none => r :: rest

/-- A record enters an event queue, or is dropped from a full one (R529). -/
def EventQ.put (q : EventQ) (r : EvRec) (round offset : Nat) : EventQ :=
  if (q.prod - q.cons).toNat = 64 then { q with dropped := true, lost := satNat 0xFFFFFFFF (q.lost + 1) }
  else { q with recs := setAt q.recs (q.prod.toNat % 64) (some (r, round, offset, q.prod.toNat)), prod := q.prod + 1,
                irqStatus := true }

/-- A slice holds an event source. -/
def Slice.hears (s : Slice) (ev : Nat) : Bool := (s.events.getD (ev / 64) 0).getLsbD (ev % 64)

/-- One record is delivered: queues, counts, and the fault log of the lanes. -/
def Block.deliverEvent (b : Block) (r : EvRec) : Block :=
  let ev := r.ev.val
  let round := b.mod.round
  let off := b.mod.offset
  let dest := (List.range 32).filter fun p => (b.slice p).phase != .none && (b.slice p).hears ev
  let b := dest.foldl (fun b p => b.modEq p fun q => q.put r round off) b
  let c := b.evCount ev
  let b := b.modEv fun v =>
    { v with unrouted := if dest.isEmpty then satNat 0xFFFFFFFF (v.unrouted + 1) else v.unrouted,
             counts := { ev := ev, count := satNat 0xFFFFFFFF (c.count + 1), latest := some r } ::
               v.counts.filter fun x => x.ev != ev }
  if eventClassF ev r.cause then
    let alone := !b.anyServes
    b.modLanes fun x =>
      if x.st = 4 ∨ (alone = true ∧ x.st = 2) then
        { x with logQueue := x.logQueue ++ [{ entry := r, round := round, offset := off, seq := 0 }] }
      else x
  else b

/-- The records raised up to an epoch are delivered in ascending event number. -/
def Block.deliverEvents (b : Block) (k : Nat) : Block :=
  let now := b.ev.items.filter fun r => decide (r.epoch ≤ k)
  let b := b.modEv fun v => { v with items := v.items.filter fun r => decide (k < r.epoch) }
  (sortBy (fun (x y : EvRec) => decide (x.ev.val ≤ y.ev.val)) (mergeRecs b.act now)).foldl Block.deliverEvent b

/-- The partition interrupts (R159): PRID 0's gathers the governor window with its own. -/
def Block.irqNow (b : Block) : BitVec 32 :=
  let win := fun (w : WinAgreed) => (w.irqStatus &&& w.irqEn) != 0
  BitVec.ofNat 32 (bitsOf ((List.range 32).map fun p =>
    let q := b.ev.queues.getD p EventQ.fresh
    (q.irqStatus && q.irqEn) || win (b.win (.part (Fin.ofNat 32 p))) || (p == 0 && win b.mail.gov)))

/-! ## Region hashes (R297) -/

/-- The bytes of a region of the agreed state. -/
def Block.regionBytes (b : Block) (r : Nat) : List Byte :=
  let vals := fun (sel : Nat → Bool) =>
    (sortBy (fun (x y : Nat × Nat) => decide (x.1 ≤ y.1)) (b.params.filter fun e => sel e.1)).flatMap fun e =>
      leBytes 4 e.1 ++ leBytes 16 e.2
  if r < 32 then
    let w := b.win (.part (Fin.ofNat 32 r))
    (b.slice r).recs.flatMap ResRec.bytes ++ leBytes 1 (b.partState r) ++
      vals (fun k => k / 65536 == 0x10 && k % 256 == r) ++
      [0x1018, 0x1019, 0x101A, 0x101B].flatMap (fun id => leBytes 8 (b.status10 id r)) ++
      leBytes 4 w.reqCons.toNat ++ leBytes 4 w.respProd.toNat ++
      w.slots.flatMap fun s => match s with
        | some a => leBytes 4 (crc32c a.slotBytes)
        | none => []
  else vals fun k => k / 65536 != 0x10

/-- The regions whose hash falls due at the boundary that ends an epoch. -/
def regionsDue (e : Nat) : List Nat := (List.range 33).filter fun r => e % 200 == 6 * r

/-- Each lane in service hashes the regions due and keeps the last 33 hashes for the comparison. -/
def Block.hashRegions (b : Block) : Block :=
  (regionsDue b.mod.epoch).foldl (fun b r =>
    let h : DWord := BitVec.ofNat 64 (crc64 (b.regionBytes r))
    let send := fun (l : Lane) (b : Block) => b.toPeer l { epoch := b.mod.epoch, body := .hash r h }
    send .b (send .a (b.modLanes fun x =>
      if x.st = 4 then { x with hashes := ((r, b.mod.epoch, h) :: x.hashes).take 33 } else x))) b

/-- At the end of an epoch a lane in service sends its samples of it and the close record that counts its items (R258). -/
def Block.closeRecord (b : Block) (l : Lane) : Block :=
  if !b.serves l then b else
  let k := b.mod.epoch
  let samples := (List.range 48).filterMap fun i =>
    if b.p 0x3001 i = 0 then none else (((b.lane l).front i).tagged).map fun s => (ItemBody.input (Fin.ofNat 48 i) s)
  let sent := ((b.lane l).own.filter fun it => it.epoch == k).length + samples.length
  let b := samples.foldl (fun b s => b.toPeer l { epoch := k, body := s }) b
  b.toPeer l { epoch := k, body := .close sent }

/-! ## Anti-rollback (R500) -/

/-- Both lanes run images of one security version above both counters. -/
def Block.rollbackTo? (b : Block) (otp : Otp) : Option Nat :=
  let va := (b.lane .a).image.security
  let vb := (b.lane .b).image.security
  if b.bothServe && va == vb && decide (otp.rollback.a < va) && decide (otp.rollback.b < va) then some va else none

/-! ## The boundary -/

/-- What precedes delivery: silence, divergence, roles, alarms, freezes. -/
def Block.beforeDelivery (b : Block) (offsetNs : Int) : Block :=
  let b := b.offsetSeen offsetNs
  let k := b.mod.epoch - 1
  let b := if b.mod.epoch = 0 then b else (b.silence k b.act).silence k b.act.other
  let b := ((b.aloneSeen).decideAll).roleChange
  let b := (b.alarmNow).keySwaps
  ((List.range 32).foldl Block.freeze b).beginDrains

/-- A record of removed resources stands while some request rung before it has not been taken up or waits (R142). -/
def Block.removedOver (b : Block) : Block :=
  let old := fun (p last : Nat) => [Lane.a, Lane.b].any fun l =>
    match b.nextStamp? l (.part (Fin.ofNat 32 p)) with
    | some t => decide (t ≤ last)
    | none => false
  let waits := fun (p last : Nat) => b.mail.waiting.any fun w => w.req.path == .part (Fin.ofNat 32 p) && decide (w.req.stamp ≤ last)
  b.modPart fun s => { s with removed := s.removed.filter fun e => old e.1 e.2.2 || waits e.1 e.2.2 }

/-- What follows delivery: sleep, pairs, PENDING, reports. -/
def Block.afterDelivery (b : Block) (k : Nat) : Block :=
  let b := ((b.moduleCommits).tellPending).removedOver
  let b := b.modMail fun m => { m with gov := b.windowNow k m.gov, parts := m.parts.map (b.windowNow k) }
  let b := (((b.tagSamples .a).tagSamples .b).closeRecord .a).closeRecord .b
  let b := (b.bridgeRate).hashRegions
  let b := (b.modPart fun p => { p with irq := b.irqNow }).interrupts
  b.modMod fun m => { m with epoch := m.epoch + 1 }

end Sys2Proof

namespace Sys2Proof.Machine

/-- The items of epoch k are delivered (R259): all rows, then the records of the epoch. -/
def State.deliver (s : State) (k : Nat) : State :=
  let b := s.b
  let l := b.act
  let own := upTo k (b.lane l).own
  let two := (b.lane l).closed k
  let far := if two then upTo k (b.lane l).far else []
  let b := b.modLanes fun x =>
    { x with own := x.own.filter (fun i => decide (k < i.epoch)), far := x.far.filter (fun i => decide (k < i.epoch)) }
  let b := (b.setTime k).deliverInputs k l far
  let b := b.deliverCan k l own far two
  let (b, m) := b.deliverNet s.mem l own far
  let (fs, rs) := b.mgmtOrder l own far
  let s := (s.withBlock (b.modNet fun n => { n with recov := rs })).withMem m
  let s := s.withBlock (s.b.modMail fun m => { m with mgQueue := m.mgQueue ++ fs.map fun f => (f, k) })
  let s := s.takeMgmt k
  s.withBlock (s.b.deliverEvents k)

/-- The anti-rollback counters are burned to the security version that both lanes run (R500). -/
def State.burn (s : State) : State :=
  match s.b.rollbackTo? s.otp with
  | some v => (s.withOtp { s.otp with rollback := .both v }).withBlock (s.b.raiseAll 253 0 noSubject v)
  | none => s

/-- The end of a boundary: what follows delivery, the stages of a resynchronisation (R272-R274), and the guarantee as it then
stands (R521). -/
def State.boundaryEnds (s : State) (k : Nat) : State :=
  let s := s.withBlock (s.b.afterDelivery k)
  let (b, m) := s.b.resynced s.mem
  let (b, m) := b.cutNow (b.copyPass m)
  (s.withBlock (b.modEv fun v => { v with guarantee := b.guaranteeNow })).withMem m

/-- The boundary with a lane in service. -/
def State.boundary (s : State) (offsetNs : Int) : State :=
  let b := s.b.beforeDelivery offsetNs
  let (b, m) := b.showAll s.mem
  let (b, m) := (b.cutEntries).startPairs s.otp m
  let b := if b.net.saSwap then
      (match [0, 1].find? fun k => (b.net.sas[k]?.map fun (a : Sa) => a.installed && !a.inUse).getD false with
        | some k => b.saUse k
        | none => b).modNet fun n => { n with saSwap := false }
    else b
  let s := (s.withBlock b).withMem m
  let k := s.b.mod.epoch - 1
  let s := if s.b.mod.epoch = 0 ∨ s.b.anyServes = false then s else s.deliver k
  s.resumeWaiting.burn.boundaryEnds k

/-- With no lane in service a lane that runs acts alone: it delivers its own records (R525). -/
def State.boundaryAlone (s : State) : State :=
  s.withBlock ((s.b.deliverEvents (s.b.mod.epoch - 1)).modMod fun m => { m with epoch := m.epoch + 1 })

/-- EPOCH_BOUNDARY (R259). -/
def execEpochBoundary (offsetNs : Int) (s : State) : Host.Outcome State Fault Refusal :=
  .next (if s.b.anyServes then s.boundary offsetNs
    else if s.b.runs .a || s.b.runs .b then s.boundaryAlone
    else s)

end Sys2Proof.Machine
end

