-- ==== Sys2Proof/Machine/Dispatch.lean ====
section
/-! DEFINITION. Dispatch: one arm per command, each a direct call of its meaning. -/

namespace Sys2Proof.Machine

/-- The effect of a command on everything but the queue. -/
def exec (i : Instr) (s : State) : Host.Outcome State Fault Refusal :=
  match i with
  | .nop q => Sys2Proof.Machine.execNop q s
  | .moduleInfo q => Sys2Proof.Machine.execModuleInfo q s
  | .paramGet q => Sys2Proof.Machine.execParamGet q s
  | .paramSet q => Sys2Proof.Machine.execParamSet q s
  | .authChallenge q => Sys2Proof.Machine.execAuthChallenge q s
  | .authChallengeExpiry mgmt => Sys2Proof.Machine.execAuthChallengeExpiry mgmt s
  | .sliceCreate q => Sys2Proof.Machine.execSliceCreate q s
  | .sliceGrow q => Sys2Proof.Machine.execSliceGrow q s
  | .sliceShrink q => Sys2Proof.Machine.execSliceShrink q s
  | .sliceDestroy q => Sys2Proof.Machine.execSliceDestroy q s
  | .sliceQuery q => Sys2Proof.Machine.execSliceQuery q s
  | .thaw q => Sys2Proof.Machine.execThaw q s
  | .drainLimitReached p => Sys2Proof.Machine.execDrainLimitReached p s
  | .drainEnd p us => Sys2Proof.Machine.execDrainEnd p us s
  | .teardownEnd p => Sys2Proof.Machine.execTeardownEnd p s
  | .granuleZeroed g => Sys2Proof.Machine.execGranuleZeroed g s
  | .chanSet q => Sys2Proof.Machine.execChanSet q s
  | .chanPwm q => Sys2Proof.Machine.execChanPwm q s
  | .chanMulti q => Sys2Proof.Machine.execChanMulti q s
  | .unlock q => Sys2Proof.Machine.execUnlock q s
  | .chanStatus q => Sys2Proof.Machine.execChanStatus q s
  | .dieIsolateOpen q => Sys2Proof.Machine.execDieIsolateOpen q s
  | .dieIsolateClose q => Sys2Proof.Machine.execDieIsolateClose q s
  | .dieIsolateStorePolicy q => Sys2Proof.Machine.execDieIsolateStorePolicy q s
  | .failsafeStore q => Sys2Proof.Machine.execFailsafeStore q s
  | .failsafeStoreWritten => Sys2Proof.Machine.execFailsafeStoreWritten s
  | .inputRead q => Sys2Proof.Machine.execInputRead q s
  | .ringBid q => Sys2Proof.Machine.execRingBid q s
  | .ringBidTimeout l => Sys2Proof.Machine.execRingBidTimeout l s
  | .switchEntrySet q => Sys2Proof.Machine.execSwitchEntrySet q s
  | .switchEntryDel q => Sys2Proof.Machine.execSwitchEntryDel q s
  | .generationDrained l index => Sys2Proof.Machine.execGenerationDrained l index s
  | .portStats q => Sys2Proof.Machine.execPortStats q s
  | .macsecSaInstall q => Sys2Proof.Machine.execMacsecSaInstall q s
  | .macsecSaMakeCurrent q => Sys2Proof.Machine.execMacsecSaMakeCurrent q s
  | .macsecSaRetire q => Sys2Proof.Machine.execMacsecSaRetire q s
  | .canSend q => Sys2Proof.Machine.execCanSend q s
  | .canRead q => Sys2Proof.Machine.execCanRead q s
  | .canFilterSet q => Sys2Proof.Machine.execCanFilterSet q s
  | .sleepRequest q => Sys2Proof.Machine.execSleepRequest q s
  | .sleepCancel q => Sys2Proof.Machine.execSleepCancel q s
  | .wakeHold q => Sys2Proof.Machine.execWakeHold q s
  | .bridgeRangeMark q => Sys2Proof.Machine.execBridgeRangeMark q s
  | .keyLoad q => Sys2Proof.Machine.execKeyLoad q s
  | .keyReplace q => Sys2Proof.Machine.execKeyReplace q s
  | .keyDestroy q => Sys2Proof.Machine.execKeyDestroy q s
  | .keyEvict q => Sys2Proof.Machine.execKeyEvict q s
  | .tamperAck q => Sys2Proof.Machine.execTamperAck q s
  | .cipherCtxSet q => Sys2Proof.Machine.execCipherCtxSet q s
  | .cipherRun q => Sys2Proof.Machine.execCipherRun q s
  | .cipherOperationDone ctx => Sys2Proof.Machine.execCipherOperationDone ctx s
  | .cipherCtxFree q => Sys2Proof.Machine.execCipherCtxFree q s
  | .storageWrite q => Sys2Proof.Machine.execStorageWrite q s
  | .storageErase q => Sys2Proof.Machine.execStorageErase q s
  | .storageDeviceDone p => Sys2Proof.Machine.execStorageDeviceDone p s
  | .externalStorageRead l pair virt offset size => Sys2Proof.Machine.execExternalStorageRead l pair virt offset size s
  | .updateBegin q => Sys2Proof.Machine.execUpdateBegin q s
  | .stagingEraseDone area => Sys2Proof.Machine.execStagingEraseDone area s
  | .updateBlock q => Sys2Proof.Machine.execUpdateBlock q s
  | .updateVerify q => Sys2Proof.Machine.execUpdateVerify q s
  | .updateVerifyDone => Sys2Proof.Machine.execUpdateVerifyDone s
  | .updateActivate q => Sys2Proof.Machine.execUpdateActivate q s
  | .configBlock q => Sys2Proof.Machine.execConfigBlock q s
  | .configCommit q => Sys2Proof.Machine.execConfigCommit q s
  | .commitRestart => Sys2Proof.Machine.execCommitRestart s
  | .lifecycleSet q => Sys2Proof.Machine.execLifecycleSet q s
  | .lifecycleWritten => Sys2Proof.Machine.execLifecycleWritten s
  | .debugEnable q => Sys2Proof.Machine.execDebugEnable q s
  | .roleSet q => Sys2Proof.Machine.execRoleSet q s
  | .laneRestart q => Sys2Proof.Machine.execLaneRestart q s
  | .eventRead q => Sys2Proof.Machine.execEventRead q s
  | .faultLogRead q => Sys2Proof.Machine.execFaultLogRead q s
  | .faultClearLog q => Sys2Proof.Machine.execFaultClearLog q s
  | .faultClearCounts q => Sys2Proof.Machine.execFaultClearCounts q s
  | .doorbell l w v => Sys2Proof.Machine.execDoorbell l w v s
  | .requestTakeUp l w => Sys2Proof.Machine.execRequestTakeUp l w s
  | .managementFrame l f => Sys2Proof.Machine.execManagementFrame l f s
  | .eqConsWrite p v => Sys2Proof.Machine.execEqConsWrite p v s
  | .registerWrite l eq w offset v => Sys2Proof.Machine.execRegisterWrite l eq w offset v s
  | .hgpridWrite l pair mode v => Sys2Proof.Machine.execHgpridWrite l pair mode v s
  | .fabricAccess l acc => Sys2Proof.Machine.execFabricAccess l acc s
  | .rateWindowEnd => Sys2Proof.Machine.execRateWindowEnd s
  | .budgetPeriod l pair => Sys2Proof.Machine.execBudgetPeriod l pair s
  | .budgetExhausted l pair => Sys2Proof.Machine.execBudgetExhausted l pair s
  | .epochBoundary offsetNs => Sys2Proof.Machine.execEpochBoundary offsetNs s
  | .agreementItemReceived l item => Sys2Proof.Machine.execAgreementItemReceived l item s
  | .timeWord l => Sys2Proof.Machine.execTimeWord l s
  | .timeWordTimeout l => Sys2Proof.Machine.execTimeWordTimeout l s
  | .linkFlitError k again => Sys2Proof.Machine.execLinkFlitError k again s
  | .bridgeLinkHealthy => Sys2Proof.Machine.execBridgeLinkHealthy s
  | .laneFault l cause => Sys2Proof.Machine.execLaneFault l cause s
  | .lockstepMismatch l pair cause => Sys2Proof.Machine.execLockstepMismatch l pair cause s
  | .comparatorTimeout l pair silent => Sys2Proof.Machine.execComparatorTimeout l pair silent s
  | .sweepPeriod l => Sys2Proof.Machine.execSweepPeriod l s
  | .debugHaltRequest l pair => Sys2Proof.Machine.execDebugHaltRequest l pair s
  | .laneDownReceived l cause pair => Sys2Proof.Machine.execLaneDownReceived l cause pair s
  | .restartDue l => Sys2Proof.Machine.execRestartDue l s
  | .laneStart l env => Sys2Proof.Machine.execLaneStart l env s
  | .laneReady l => Sys2Proof.Machine.execLaneReady l s
  | .lanePairing l found => Sys2Proof.Machine.execLanePairing l found s
  | .resyncCut l holdUs => Sys2Proof.Machine.execResyncCut l holdUs s
  | .resyncComplete l ms => Sys2Proof.Machine.execResyncComplete l ms s
  | .modulePowerUp mv => Sys2Proof.Machine.execModulePowerUp mv s
  | .powerDieLogicUp d => Sys2Proof.Machine.execPowerDieLogicUp d s
  | .t30Valid mv => Sys2Proof.Machine.execT30Valid mv s
  | .t30Invalid mv => Sys2Proof.Machine.execT30Invalid mv s
  | .railsLowered l mv => Sys2Proof.Machine.execRailsLowered l mv s
  | .railsRestored l mv => Sys2Proof.Machine.execRailsRestored l mv s
  | .t30Overvoltage mv => Sys2Proof.Machine.execT30Overvoltage mv s
  | .feedBandChange f band mv => Sys2Proof.Machine.execFeedBandChange f band mv s
  | .feedReversed f mv => Sys2Proof.Machine.execFeedReversed f mv s
  | .feedUnreversed f mv => Sys2Proof.Machine.execFeedUnreversed f mv s
  | .feedReturnNextChannel d => Sys2Proof.Machine.execFeedReturnNextChannel d s
  | .logicSourceReturn d => Sys2Proof.Machine.execLogicSourceReturn d s
  | .refreshDue l d => Sys2Proof.Machine.execRefreshDue l d s
  | .refresh d port dev10 => Sys2Proof.Machine.execRefresh d port dev10 s
  | .set d port f => Sys2Proof.Machine.execSet d port f s
  | .pwm d port f => Sys2Proof.Machine.execPwm d port f s
  | .multi d port f => Sys2Proof.Machine.execMulti d port f s
  | .keep d port f => Sys2Proof.Machine.execKeep d port f s
  | .role d port f => Sys2Proof.Machine.execRole d port f s
  | .unlockFrame d port f => Sys2Proof.Machine.execUnlockFrame d port f s
  | .conf d port f => Sys2Proof.Machine.execConf d port f s
  | .store d port f => Sys2Proof.Machine.execStore d port f s
  | .read d port item => Sys2Proof.Machine.execRead d port item s
  | .ack l d => Sys2Proof.Machine.execAck l d s
  | .status l d => Sys2Proof.Machine.execStatus l d s
  | .event l d => Sys2Proof.Machine.execEvent l d s
  | .powerFrameCrcFail d port => Sys2Proof.Machine.execPowerFrameCrcFail d port s
  | .pairingWindowEnd d num => Sys2Proof.Machine.execPairingWindowEnd d num s
  | .preferredPortSilent d => Sys2Proof.Machine.execPreferredPortSilent d s
  | .ackTimeout l d num => Sys2Proof.Machine.execAckTimeout l d num s
  | .watchdogExpiry d => Sys2Proof.Machine.execWatchdogExpiry d s
  | .diePollDue l d => Sys2Proof.Machine.execDiePollDue l d s
  | .slopeEnd c => Sys2Proof.Machine.execSlopeEnd c s
  | .inrushWindowEnd c => Sys2Proof.Machine.execInrushWindowEnd c s
  | .inrushEarlyEnd c => Sys2Proof.Machine.execInrushEarlyEnd c s
  | .pwmEdge c onEdge => Sys2Proof.Machine.execPwmEdge c onEdge s
  | .clampEnd c energyUj start10 => Sys2Proof.Machine.execClampEnd c energyUj start10 s
  | .clampBinEnd d => Sys2Proof.Machine.execClampBinEnd d s
  | .fastTrip c => Sys2Proof.Machine.execFastTrip c s
  | .shortInLimit c => Sys2Proof.Machine.execShortInLimit c s
  | .fuseModelUpdate d substrate10 m => Sys2Proof.Machine.execFuseModelUpdate d substrate10 m s
  | .thermalShutdown c => Sys2Proof.Machine.execThermalShutdown c s
  | .tripHoldEnd c => Sys2Proof.Machine.execTripHoldEnd c s
  | .thermalHoldEnd c => Sys2Proof.Machine.execThermalHoldEnd c s
  | .retryWindowEnd c => Sys2Proof.Machine.execRetryWindowEnd c s
  | .openLoadOnCheck c f => Sys2Proof.Machine.execOpenLoadOnCheck c f s
  | .offStateCheck c opened short => Sys2Proof.Machine.execOffStateCheck c opened short s
  | .stuckOnCheck c f => Sys2Proof.Machine.execStuckOnCheck c f s
  | .noOnCheck c f => Sys2Proof.Machine.execNoOnCheck c f s
  | .senseMismatchCheck c f => Sys2Proof.Machine.execSenseMismatchCheck c f s
  | .shortGndClear c => Sys2Proof.Machine.execShortGndClear c s
  | .isolationSwitchOpen d => Sys2Proof.Machine.execIsolationSwitchOpen d s
  | .isolationSwitchClosed d => Sys2Proof.Machine.execIsolationSwitchClosed d s
  | .isolationSwitchFault d c => Sys2Proof.Machine.execIsolationSwitchFault d c s
  | .ledgerUpdate d => Sys2Proof.Machine.execLedgerUpdate d s
  | .counterCopy => Sys2Proof.Machine.execCounterCopy s
  | .inputScan l k mv => Sys2Proof.Machine.execInputScan l k mv s
  | .edgeTimerPeriod l k period high => Sys2Proof.Machine.execEdgeTimerPeriod l k period high s
  | .edgeTimeout l k => Sys2Proof.Machine.execEdgeTimeout l k s
  | .wakeInputCheck dom k mv => Sys2Proof.Machine.execWakeInputCheck dom k mv s
  | .roundStart l => Sys2Proof.Machine.execRoundStart l s
  | .beaconReceived l b => Sys2Proof.Machine.execBeaconReceived l b s
  | .ownSlotStart l slot => Sys2Proof.Machine.execOwnSlotStart l slot s
  | .polledSlotStart l slot => Sys2Proof.Machine.execPolledSlotStart l slot s
  | .pollReceived l w slot poll => Sys2Proof.Machine.execPollReceived l w slot poll s
  | .slotFrameReceived l port f => Sys2Proof.Machine.execSlotFrameReceived l port f s
  | .openWindowFrame l port f => Sys2Proof.Machine.execOpenWindowFrame l port f s
  | .delayMeasurementDue l rge rgw => Sys2Proof.Machine.execDelayMeasurementDue l rge rgw s
  | .slotsEnd l => Sys2Proof.Machine.execSlotsEnd l s
  | .guardEnd l => Sys2Proof.Machine.execGuardEnd l s
  | .dealerSilent l => Sys2Proof.Machine.execDealerSilent l s
  | .ringGraceExpired l => Sys2Proof.Machine.execRingGraceExpired l s
  | .coldStart l => Sys2Proof.Machine.execColdStart l s
  | .keepBlock l port => Sys2Proof.Machine.execKeepBlock l port s
  | .repeatCut l port => Sys2Proof.Machine.execRepeatCut l port s
  | .ringLinkBreak l port => Sys2Proof.Machine.execRingLinkBreak l port s
  | .linkHealthy l port => Sys2Proof.Machine.execLinkHealthy l port s
  | .frameIngress l port sec f => Sys2Proof.Machine.execFrameIngress l port sec f s
  | .vpTransmitDescriptor l p => Sys2Proof.Machine.execVpTransmitDescriptor l p s
  | .egressTransmit l port => Sys2Proof.Machine.execEgressTransmit l port s
  | .portLinkDown l port => Sys2Proof.Machine.execPortLinkDown l port s
  | .portLinkUp l port => Sys2Proof.Machine.execPortLinkUp l port s
  | .portHoldExpiry l port => Sys2Proof.Machine.execPortHoldExpiry l port s
  | .deckCount l free linked inFlight => Sys2Proof.Machine.execDeckCount l free linked inFlight s
  | .reclaimSweepEnd l returned => Sys2Proof.Machine.execReclaimSweepEnd l returned s
  | .sequenceRecoveryReset l handle => Sys2Proof.Machine.execSequenceRecoveryReset l handle s
  | .canFrameReceived l b f => Sys2Proof.Machine.execCanFrameReceived l b f s
  | .canFrameSent l b => Sys2Proof.Machine.execCanFrameSent l b s
  | .canTryFailed l b error => Sys2Proof.Machine.execCanTryFailed l b error s
  | .busOff l b => Sys2Proof.Machine.execBusOff l b s
  | .busOffRecovery l b => Sys2Proof.Machine.execBusOffRecovery l b s
  | .dominantTimeout l b => Sys2Proof.Machine.execDominantTimeout l b s
  | .nmCycle => Sys2Proof.Machine.execNmCycle s
  | .nmTimeout b => Sys2Proof.Machine.execNmTimeout b s
  | .powerDownComplete => Sys2Proof.Machine.execPowerDownComplete s
  | .wakeSource dom src => Sys2Proof.Machine.execWakeSource dom src s
  | .wakePin => Sys2Proof.Machine.execWakePin s
  | .wakeAckTimeout dom => Sys2Proof.Machine.execWakeAckTimeout dom s
  | .noTrafficTimeout => Sys2Proof.Machine.execNoTrafficTimeout s
  | .keepawakeThreshold network node => Sys2Proof.Machine.execKeepawakeThreshold network node s
  | .bridgeWindowAccess l pair virt op offset size => Sys2Proof.Machine.execBridgeWindowAccess l pair virt op offset size s
  | .prefetchLifeExpiry l pair => Sys2Proof.Machine.execPrefetchLifeExpiry l pair s
  | .bridgeCompletion l pair collected => Sys2Proof.Machine.execBridgeCompletion l pair collected s
  | .lockExpiry => Sys2Proof.Machine.execLockExpiry s
  | .completionTimeout l => Sys2Proof.Machine.execCompletionTimeout l s
  | .tamperAlarm l k => Sys2Proof.Machine.execTamperAlarm l k s
  | .glitchClear => Sys2Proof.Machine.execGlitchClear s
  | .scrubPass l r => Sys2Proof.Machine.execScrubPass l r s
  | .aonCheck l readOk rtcOk => Sys2Proof.Machine.execAonCheck l readOk rtcOk s
  | .coolantEstimate m => Sys2Proof.Machine.execCoolantEstimate m s
  | .dieTemperature d t10 => Sys2Proof.Machine.execDieTemperature d t10 s
  | .dieOvertempTimeout network l t10 => Sys2Proof.Machine.execDieOvertempTimeout network l t10 s
  | .faultLogAppend l => Sys2Proof.Machine.execFaultLogAppend l s
  | .logHourEnd l => Sys2Proof.Machine.execLogHourEnd l s
  | .t30Band3Left mv => Sys2Proof.Machine.execT30Band3Left mv s
  | .feedBelow18V d => Sys2Proof.Machine.execFeedBelow18V d s
  | .thermalWarning c above => Sys2Proof.Machine.execThermalWarning c above s
  | .activateTimeout => Sys2Proof.Machine.execActivateTimeout s
  | .portActivityTimeout l => Sys2Proof.Machine.execPortActivityTimeout l s
  | .commandPortReturn d => Sys2Proof.Machine.execCommandPortReturn d s
  | .keyOperationDone slot => Sys2Proof.Machine.execKeyOperationDone slot s
  | .configCommitWritten => Sys2Proof.Machine.execConfigCommitWritten s
  | .wakeCoordinationLinkFail => Sys2Proof.Machine.execWakeCoordinationLinkFail s
  | .canBusError l b tec rec => Sys2Proof.Machine.execCanBusError l b tec rec s
  | .ringLineEnergy l port => Sys2Proof.Machine.execRingLineEnergy l port s
  | .fence l pair virt order => Sys2Proof.Machine.execFence l pair virt order s
  | .macsecRxWaitExpiry l => Sys2Proof.Machine.execMacsecRxWaitExpiry l s

end Sys2Proof.Machine
end

