-- ==== Sys2Proof/Safety.lean ====
section
/-! DEFINITION. Safety: the terms that the claims are made in. Each names a rule of the spec or a convention of the model: the
form of the memories, a request that passes its checks, what answering a request and leaving it pending change, and what a
command leaves alone. -/

namespace Sys2Proof

/-- The byte memories of both lanes stand in canonical form (R34, R134; log entry 6). -/
def MemSt.Wf (m : MemSt) : Prop :=
  Memory.wf 0 m.sram.a = true ∧ Memory.wf 0 m.sram.b = true ∧ Memory.wf 0xFF m.ext.a = true ∧ Memory.wf 0xFF m.ext.b = true

/-- The commands that may change a byte of tenant SRAM or of an external storage device: accesses, cipher and storage completions,
descriptors, zeroing, start of lanes, the time word at which waiting accesses go on, and the boundary at which responses and frames
become visible and a resynchronisation copies. -/
def Instr.writesMemory : Instr → Bool
  | .fabricAccess .. => true
  | .bridgeWindowAccess .. => true
  | .cipherOperationDone .. => true
  | .storageDeviceDone .. => true
  | .vpTransmitDescriptor .. => true
  | .teardownEnd .. => true
  | .granuleZeroed .. => true
  | .epochBoundary .. => true
  | .modulePowerUp .. => true
  | .laneStart .. => true
  | .laneReady .. => true
  | .lanePairing .. => true
  | .timeWord .. => true
  | _ => false

/-! ## Sizes -/

/-- A lane's tables have the sizes the spec gives them: core pairs and their budgets, CAN controllers, input front ends (R16), ports,
queues and virtual ports of the switch core (R16, R349). -/
def LaneSt.Sized (x : LaneSt) : Prop :=
  x.pairs.length = 6 ∧ (∀ p ∈ x.pairs, p.budget.length = 32 ∧ p.chk.budget.length = 32) ∧ x.can.length = 12 ∧ x.fronts.length = 48 ∧
  x.sw.queues.length = 7 ∧ (∀ q ∈ x.sw.queues, q.length = 8) ∧ x.sw.links.length = 7 ∧ x.sw.stats.length = 39 ∧
  x.sw.txHead.length = 32

/-- The module's tables have the sizes the spec gives them: power dies with their channels and links (R19), PRIDs, windows, event
queues, inputs and buses (R16), nodes and slots of keys (R443, R450), cipher contexts (R470). -/
def Block.Sized (b : Block) : Prop :=
  b.dies.length = 4 ∧ (∀ d ∈ b.dies, d.chans.length = 16) ∧ b.links.length = 4 ∧ b.part.slices.length = 32 ∧
  b.part.viol.length = 32 ∧ b.part.rates.length = 32 ∧ b.mail.parts.length = 32 ∧ b.inputs.length = 48 ∧ b.can.length = 12 ∧
  b.keys.slots.length = 256 ∧ b.keys.gens.length = 41 ∧ b.cipher.ctxs.length = 256 ∧ b.ev.queues.length = 32 ∧
  ∀ l : Lane, (b.lane l).Sized

/-! ## Requests (R105, R111, R113) -/

/-- What the table of R108 says of an opcode. -/
def opInfo (op : Nat) : OpInfo := (opInfo? op).getD (.g false)

/-- The opcode and the request of a request command; a row that names one function of its opcode carries that function's byte
(R108). -/
def Instr.request? : Instr → Option (Nat × Req)
  | .nop q => some (0x0001, q)
  | .moduleInfo q => some (0x0002, q)
  | .paramGet q => some (0x0010, q)
  | .paramSet q => some (0x0011, q)
  | .authChallenge q => some (0x0012, q)
  | .sliceCreate q => some (0x1001, q)
  | .sliceGrow q => some (0x1002, q)
  | .sliceShrink q => some (0x1003, q)
  | .sliceDestroy q => some (0x1004, q)
  | .sliceQuery q => some (0x1005, q)
  | .thaw q => some (0x1006, q)
  | .chanSet q => some (0x2001, q)
  | .chanPwm q => some (0x2002, q)
  | .chanMulti q => some (0x2003, q)
  | .unlock q => some (0x2004, q)
  | .chanStatus q => some (0x2005, q)
  | .dieIsolateOpen q => some (0x2006, q.withByte 1 1)
  | .dieIsolateClose q => some (0x2006, q.withByte 1 0)
  | .dieIsolateStorePolicy q => some (0x2006, q.withByte 1 2)
  | .failsafeStore q => some (0x2801, q)
  | .inputRead q => some (0x3001, q)
  | .ringBid q => some (0x4001, q)
  | .switchEntrySet q => some (0x4801, q)
  | .switchEntryDel q => some (0x4802, q)
  | .portStats q => some (0x4803, q)
  | .macsecSaInstall q => some (0x4804, q.withByte 0 0)
  | .macsecSaMakeCurrent q => some (0x4804, q.withByte 0 1)
  | .macsecSaRetire q => some (0x4804, q.withByte 0 2)
  | .canSend q => some (0x5001, q)
  | .canRead q => some (0x5002, q)
  | .canFilterSet q => some (0x5003, q)
  | .sleepRequest q => some (0x5801, q.withByte 0 0)
  | .sleepCancel q => some (0x5801, q.withByte 0 1)
  | .wakeHold q => some (0x5802, q)
  | .bridgeRangeMark q => some (0x6001, q)
  | .keyLoad q => some (0x7001, q)
  | .keyReplace q => some (0x7002, q)
  | .keyDestroy q => some (0x7003, q)
  | .keyEvict q => some (0x7004, q)
  | .tamperAck q => some (0x7005, q)
  | .cipherCtxSet q => some (0x7801, q)
  | .cipherRun q => some (0x7802, q)
  | .cipherCtxFree q => some (0x7803, q)
  | .storageWrite q => some (0x7810, q)
  | .storageErase q => some (0x7811, q)
  | .updateBegin q => some (0x8001, q)
  | .updateBlock q => some (0x8002, q)
  | .updateVerify q => some (0x8003, q)
  | .updateActivate q => some (0x8004, q)
  | .configBlock q => some (0x8010, q)
  | .configCommit q => some (0x8011, q)
  | .lifecycleSet q => some (0x8020, q)
  | .debugEnable q => some (0x8021, q)
  | .roleSet q => some (0x8030, q)
  | .laneRestart q => some (0x8031, q)
  | .eventRead q => some (0x9001, q)
  | .faultLogRead q => some (0x9002, q)
  | .faultClearLog q => some (0x9003, q.withByte 0 0)
  | .faultClearCounts q => some (0x9003, q.withByte 0 1)
  | _ => none

/-- A request passes everything that stands before its opcode's own checks: a lane serves, nothing before it makes it wait
(R111), its buffers are placed as R96 says, its issuer is permitted (check 4), none of its objects is being removed (R140), its
buffers and objects lie in the slice (check 5), and its authentication holds where it has one or needs one (check 6). -/
def Block.passes (b : Block) (op : Nat) (q : Req) : Bool :=
  let objs := namedObjects op q.pay
  b.anyServes && !b.mustWait op q && (opInfo op).permits q.path && !(q.unsecured && !openOpcode op q.auth) &&
    !b.resizedBy q objs && (b.check5 op q objs).isNone && !(q.auth && b.authLess && op != 0x7005) &&
    (!(opInfo op).auth || q.auth) && (!q.auth || b.trailerOk q op) && q.slotOk

/-- The block once a request has passed its checks: an authenticated one has used its challenge up (R121). -/
def Block.heard (b : Block) (q : Req) : Block := if q.auth then b.setChallenge q.path none else b

/-- The response of R100 to a request, its payload whole, completed in both lanes (R113). -/
def Req.response (q : Req) (op : Nat) (st : Status) (pay : List Byte) (eff : Effect) : Response :=
  { path := q.path, opcode := op, tag := q.tag, seq := q.seq, status := st, payload := pay, length := pay.length,
    addr := q.respAddr, doneA := true, doneB := true, effect := eff, unsecured := q.unsecured, asked := q.pay }

/-- From `b` to `b'` exactly this happens: the response joins those that wait for visibility, followed by copies of it for the
duplicates of the request (R104); the remembered answers may change; nothing else does. -/
def Block.Answered (b b' : Block) (a : Response) : Prop :=
  ∃ copies recent, b' = b.modMail (fun m => { m with done := m.done ++ a :: copies, recent := recent }) ∧
    ∀ c ∈ copies, c.tag = a.tag ∧ c.seq = a.seq ∧ c.opcode = a.opcode ∧ c.effect = .none

/-- From `b` to `b'` exactly this happens: the request joins those that wait for their final response, with the epoch of its
take-up, and where the rules give PENDING at once and it has not been told so while it waited, that response joins those that
wait for visibility (R112). -/
def Block.Held (b b' : Block) (q : Req) (op : Nat) (k : PendKind) (now : Bool) : Prop :=
  b' = b.modMail fun m =>
    { m with pend := m.pend ++ [{ req := q, opcode := op, kind := k, epoch := b.taken.1, told := now || b.taken.2 }],
             done := if now && !b.taken.2 then m.done ++ [q.response op .pending [] .none] else m.done }

/-! ## Command frames (R192, R200) -/

/-- A frame as Ottum keeps it until it is acknowledged: no lane has its ACK or has asked for it; `was` are the states of the die's
channels at the time. -/
def Unacked.fresh (num : Half) (k : SeqKind) (idx : Fin 16) (arg : List Byte) (was : List Nat) : Unacked :=
  { num := num, kind := k, frame := { num := num, idx := idx, arg := arg }, doneA := false, doneB := false, asked := .both false,
    was := was, outcome := 0 }

/-- Ottum gives a frame the next number of die d's stream and keeps it until it is acknowledged; each lane in service sends a check
record of its copy to the other (R264). -/
def Block.sends (b : Block) (d : Nat) (k : SeqKind) (idx : Fin 16) (arg : List Byte) : Block :=
  let n := (b.link d).lastNum + 1
  let was := (b.die d).chans.map (chanState (b.die d))
  b.serving.foldl
    (fun b l => b.checkSent l (powerStream d) n.toNat (b.ownerOf d k idx) ({ num := n, idx := idx, arg := arg : LinkFrame }.bytes k))
    (b.modLink d fun x => { x with lastNum := n, unacked := x.unacked ++ [Unacked.fresh n k idx arg was] })

end Sys2Proof

namespace Sys2Proof.Machine

/-- The command answers a next state whose block is `b'` and whose other parts stand. -/
def Becomes (c : Instr) (s : State) (b' : Block) : Prop := exec c s = .next (s.withBlock b')

/-- The command is a request of opcode `op` that a lane takes up and that waits for no other (R111). -/
def Heard (c : Instr) (s : State) (op : Nat) (q : Req) : Prop :=
  c.request? = some (op, q) ∧ s.b.anyServes = true ∧ s.b.mustWait op q = false ∧ q.slotOk = true

/-- The request command answers a next state that differs from `b` in the response alone. -/
def AnswersFrom (c : Instr) (s : State) (b : Block) (a : Response) : Prop :=
  ∃ b', exec c s = .next (s.withBlock b') ∧ b.Answered b' a

/-- The request command answers a next state that differs from `b` in the request left pending alone. -/
def HoldsFrom (c : Instr) (s : State) (b : Block) (q : Req) (op : Nat) (k : PendKind) (now : Bool) : Prop :=
  ∃ b', exec c s = .next (s.withBlock b') ∧ b.Held b' q op k now

end Sys2Proof.Machine
end

