-- ==== Sys2Proof/WellFormed.lean ====
section
/-! DEFINITION. WellFormed: the operand values that a command can carry, beyond what their types say: field widths of the
mailbox slot (R96, R100), CAN and Ethernet frames (R388, R356), windows (R34, R95), LANE_DOWN causes (R292, R514). The
meanings do not rest on it: exec answers a next state for every operand. -/

namespace Sys2Proof

/-- The fields of a request fit the slot and header that carry them (R96, R100). -/
def Req.wf (q : Req) : Bool :=
  decide (q.payload.length ≤ 4096) && decide (q.payAddr < 2 ^ 64) && decide (q.respAddr < 2 ^ 64) && decide (q.cap < 2 ^ 32)

/-- A CAN frame as a controller hands it over (R388): identifier of 11 or 29 bits, DLC of 4 bits, the bytes the DLC names. -/
def CanFrame.wf (f : CanFrame) : Bool :=
  decide (f.ident < if f.ide then 2 ^ 29 else 2 ^ 11) && decide (f.dlc < 16) && decide (f.data.length ≤ 64) &&
    (f.fdf || decide (f.data.length ≤ 8)) && !(f.fdf && f.rtr)

/-- An Ethernet frame: 48-bit addresses, VID of 12 bits, 16-bit EtherType, a length of at least 60 bytes with its data inside. -/
def EthFrame.wf (f : EthFrame) : Bool :=
  decide (f.dst < 2 ^ 48) && decide (f.src < 2 ^ 48) && (match f.vid with | some v => decide (v < 4096) | none => true) &&
    decide (f.etype < 65536) && decide (60 ≤ f.len) && decide (f.data.length ≤ f.len)

/-- A management frame carries a header and at most 4,096 payload bytes (R123). -/
def MgmtFrame.wf (f : MgmtFrame) : Bool := decide (f.dst < 2 ^ 48) && decide (f.src < 2 ^ 48)

/-- A fabric access is 1 to 64 bytes long, at a 64-bit address, and a write brings its bytes. -/
def Access.wf (a : Access) : Bool :=
  decide (1 ≤ a.size) && decide (a.size ≤ 64) && decide (a.addr < 2 ^ 64) &&
    (match a.kind with | .read => a.data.isEmpty | .write => a.data.length == a.size)

/-- A link frame carries argument bytes 4 to 9 (R192). -/
def LinkFrame.wf (f : LinkFrame) : Bool := f.arg.length == 6

/-- A LANE_DOWN cause code (R292, R514). -/
def laneCause (c : Nat) : Bool := decide (1 ≤ c) && decide (c ≤ 0x0E)

/-- A command's operands lie in their ranges. Commands whose operand types say all are well formed. -/
def Instr.wf : Instr → Bool
  | .nop q | .moduleInfo q | .paramGet q | .paramSet q | .authChallenge q | .sliceCreate q | .sliceGrow q | .sliceShrink q
  | .sliceDestroy q | .sliceQuery q | .thaw q | .chanSet q | .chanPwm q | .chanMulti q | .unlock q | .chanStatus q
  | .dieIsolateOpen q | .dieIsolateClose q | .dieIsolateStorePolicy q | .failsafeStore q | .inputRead q | .ringBid q
  | .switchEntrySet q | .switchEntryDel q | .portStats q | .macsecSaInstall q | .macsecSaMakeCurrent q | .macsecSaRetire q
  | .canSend q | .canRead q | .canFilterSet q | .sleepRequest q | .sleepCancel q | .wakeHold q | .bridgeRangeMark q
  | .keyLoad q | .keyReplace q | .keyDestroy q | .keyEvict q | .tamperAck q | .cipherCtxSet q | .cipherRun q | .cipherCtxFree q
  | .storageWrite q | .storageErase q | .updateBegin q | .updateBlock q | .updateVerify q | .updateActivate q | .configBlock q
  | .configCommit q | .lifecycleSet q | .debugEnable q | .roleSet q | .laneRestart q | .eventRead q | .faultLogRead q
  | .faultClearLog q | .faultClearCounts q => q.wf
  | .set _ _ f | .pwm _ _ f | .multi _ _ f | .keep _ _ f | .role _ _ f | .unlockFrame _ _ f | .conf _ _ f | .store _ _ f => f.wf
  | .externalStorageRead _ _ _ off n => decide (1 ≤ n) && decide (n ≤ 64) && decide (off < 2 ^ 28)
  | .bridgeWindowAccess _ _ _ _ off n => decide (1 ≤ n) && decide (off < 0x3000000)
  | .managementFrame _ f => f.wf
  | .registerWrite _ eq w off _ => off % 4 == 0 && decide (off < if eq then 0x1000 else match w with | .gov => 0x10000 | .part _ => 0x4000)
  | .fabricAccess _ a => a.wf
  | .laneFault _ c => laneCause c
  | .laneDownReceived _ c p => laneCause c && decide (p < 7)
  | .laneStart _ env => decide (env.injectFail ≤ 8)
  | .read _ _ item => decide (item < 256)
  | .frameIngress _ _ _ f => f.wf
  | .canFrameReceived _ _ f => f.wf
  | .agreementItemReceived _ it => (match it.body with
      | .can _ f => f.wf
      | .eth e g src f => decide (e < 4096) && decide (g < 65535) && decide (src < 39) && f.wf
      | .mgmt f => f.wf
      | .hash r _ => decide (r < 33)
      | _ => true)
  | .canBusError _ _ tec rec => decide (tec ≤ 256) && decide (rec ≤ 256)
  | .keepawakeThreshold _ n => decide (n < 256)
  | .fuseModelUpdate _ _ ms => decide (ms.length ≤ 16)
  | .coolantEstimate m => m.substrate.length == 4 && m.power.length == 4 && m.computeNet.length == 4
  | .authChallengeExpiry .. | .drainLimitReached .. | .drainEnd .. | .teardownEnd .. | .granuleZeroed .. | .failsafeStoreWritten
  | .ringBidTimeout .. | .generationDrained .. | .cipherOperationDone .. | .storageDeviceDone .. | .stagingEraseDone ..
  | .updateVerifyDone | .commitRestart | .lifecycleWritten | .doorbell .. | .requestTakeUp .. | .eqConsWrite .. | .hgpridWrite ..
  | .rateWindowEnd | .budgetPeriod .. | .budgetExhausted .. | .epochBoundary .. | .timeWord .. | .timeWordTimeout ..
  | .linkFlitError .. | .bridgeLinkHealthy | .lockstepMismatch .. | .comparatorTimeout .. | .sweepPeriod .. | .debugHaltRequest ..
  | .restartDue .. | .laneReady .. | .lanePairing .. | .resyncCut .. | .resyncComplete .. | .modulePowerUp .. | .powerDieLogicUp ..
  | .t30Valid .. | .t30Invalid .. | .railsLowered .. | .railsRestored .. | .t30Overvoltage .. | .feedBandChange ..
  | .feedReversed .. | .feedUnreversed .. | .feedReturnNextChannel .. | .logicSourceReturn .. | .refreshDue .. | .refresh ..
  | .ack .. | .status .. | .event .. | .powerFrameCrcFail .. | .pairingWindowEnd .. | .preferredPortSilent .. | .ackTimeout ..
  | .watchdogExpiry .. | .diePollDue .. | .slopeEnd .. | .inrushWindowEnd .. | .inrushEarlyEnd .. | .pwmEdge .. | .clampEnd ..
  | .clampBinEnd .. | .fastTrip .. | .shortInLimit .. | .thermalShutdown .. | .tripHoldEnd .. | .thermalHoldEnd ..
  | .retryWindowEnd .. | .openLoadOnCheck .. | .offStateCheck .. | .stuckOnCheck .. | .noOnCheck .. | .senseMismatchCheck ..
  | .shortGndClear .. | .isolationSwitchOpen .. | .isolationSwitchClosed .. | .isolationSwitchFault .. | .ledgerUpdate ..
  | .counterCopy | .inputScan .. | .edgeTimerPeriod .. | .edgeTimeout .. | .wakeInputCheck .. | .roundStart ..
  | .beaconReceived .. | .ownSlotStart .. | .polledSlotStart .. | .pollReceived .. | .slotFrameReceived .. | .openWindowFrame ..
  | .delayMeasurementDue .. | .slotsEnd .. | .guardEnd .. | .dealerSilent .. | .ringGraceExpired .. | .coldStart ..
  | .keepBlock .. | .repeatCut .. | .ringLinkBreak .. | .linkHealthy .. | .vpTransmitDescriptor .. | .egressTransmit ..
  | .portLinkDown .. | .portLinkUp .. | .portHoldExpiry .. | .deckCount .. | .reclaimSweepEnd .. | .sequenceRecoveryReset ..
  | .canFrameSent .. | .canTryFailed .. | .busOff .. | .busOffRecovery .. | .dominantTimeout .. | .nmCycle | .nmTimeout ..
  | .powerDownComplete | .wakeSource .. | .wakePin | .wakeAckTimeout .. | .noTrafficTimeout | .prefetchLifeExpiry ..
  | .bridgeCompletion .. | .lockExpiry | .completionTimeout .. | .tamperAlarm .. | .glitchClear | .scrubPass .. | .aonCheck ..
  | .dieTemperature .. | .dieOvertempTimeout .. | .faultLogAppend .. | .logHourEnd .. | .t30Band3Left .. | .feedBelow18V ..
  | .thermalWarning .. | .activateTimeout | .portActivityTimeout .. | .commandPortReturn .. | .keyOperationDone ..
  | .configCommitWritten | .wakeCoordinationLinkFail | .ringLineEnergy .. | .fence .. | .macsecRxWaitExpiry .. => true

end Sys2Proof
end

