-- ==== Sys2Proof/Certificates/Slice0/Obligations.lean ====
section
/-! DEFINITION. The statements, in the order of OBLIGATIONS.json: the machine as a whole, the checks of requests, then what every
command of the table does, family by family. -/

section Statements

open Sys2Proof Sys2Proof.Machine

/-! ## The machine as a whole -/

/-- A step carries out the command at the front of the queue, with the queue's rest; on an empty queue the block idles (the block's own
rule; log entry 1). -/
def Obligations.StepRunsTheFrontCommand : Prop :=
  (∀ (c : Instr) (rest : List Instr) (s : State), step { s with pending := c :: rest } = exec c { s with pending := rest }) ∧
  (∀ s : State, s.pending = [] → step s = .next s)

/-- Every command of the table answers a next state, and none touches the queue of those that follow (log entry 1). -/
def Obligations.EveryCommandAnswers : Prop :=
  ∀ (c : Instr) (s : State), ∃ t, exec c s = .next t ∧ t.pending = s.pending

/-- Out of delivery the module stands unpowered: no lane runs and none is active, no slice exists, tenant SRAM reads zero, the
anti-rollback counters are 0, no command waits, every table has its size (R4, R24, R34, R131, R500; log entry 2 for what the spec leaves open). -/
def Obligations.ResetIsDelivery : Prop :=
  State.reset.pending = [] ∧ State.reset.b.mod.active = none ∧ State.reset.b.anyServes = false ∧
  (∀ l : Lane, (State.reset.b.lane l).st = 0) ∧
  (∀ p : Fin 32, (State.reset.b.slice p).phase = .none ∧ (State.reset.b.slice p).frozen = false) ∧
  (∀ d : Fin 4, (State.reset.b.die d).powered = false) ∧
  (∀ (l : Lane) (a : Nat), State.reset.mem.read l a 1 = [0]) ∧
  State.reset.otp.rollback = ⟨0, 0⟩ ∧ State.reset.mem.Wf ∧ State.reset.b.Sized

/-- The byte memories keep their canonical form through every step from any state that has it, so equal memories are equal data
(R34, R134; the form is the model's own, log entry 6). -/
def Obligations.MemoryFormKept : Prop :=
  ∀ s t : State, s.mem.Wf → step s = .next t → t.mem.Wf

/-- Every table keeps its size through every step from any state in which it has it, so an index in range is answered by the entry the
rules mean (R16, R19, R349, R443, R450, R470). -/
def Obligations.SizesAreKept : Prop :=
  ∀ s t : State, s.b.Sized → step s = .next t → t.b.Sized

/-- One-time memory only burns: no command changes the identity or the ordered code, an anti-rollback counter or the destroy
counter never falls, and the life-cycle state changes only when a LIFECYCLE_SET has been written (R2, R22, R120, R447, R461,
R500). -/
def Obligations.OneTimeMemoryOnlyBurns : Prop :=
  ∀ (c : Instr) (s t : State), exec c s = .next t →
    t.otp.identity = s.otp.identity ∧ t.otp.codeAE = s.otp.codeAE ∧ s.otp.rollback.a ≤ t.otp.rollback.a ∧
    s.otp.rollback.b ≤ t.otp.rollback.b ∧ s.otp.destroyed ≤ t.otp.destroyed ∧
    (t.otp.lifecycle ≠ s.otp.lifecycle → c = .lifecycleWritten)

/-- Every other command leaves every byte of both lanes' memories as it was (R34, R134, R481; the frame of the whole table). -/
def Obligations.OtherCommandsKeepMemory : Prop :=
  ∀ (c : Instr) (s t : State), c.writesMemory = false → exec c s = .next t → t.mem = s.mem

/-- Whatever an access asks for, no byte of tenant SRAM of either lane outside the slice of the PRID it carries changes, and no
byte of external storage: for a fabric access of a core or a DMA engine, and for an access through the bridge window (R35, R129,
R130, R428). -/
def Obligations.AccessStaysInSlice : Prop :=
  ∀ (s t : State) (l k : Lane) (a : Nat),
    (∀ acc : Access, exec (.fabricAccess l acc) s = .next t → t.mem.ext = s.mem.ext ∧
      ((s.b.slice (s.b.pridOf l acc)).holdsSram a 1 = false → t.mem.read k a 1 = s.mem.read k a 1)) ∧
    (∀ (pair : Pair) (virt : Bool) (op : BridgeOp) (off n : Nat), exec (.bridgeWindowAccess l pair virt op off n) s = .next t →
      t.mem.ext = s.mem.ext ∧
      ((s.b.slice (s.b.accPrid l pair virt)).holdsSram a 1 = false → t.mem.read k a 1 = s.mem.read k a 1))

/-- FABRIC_ACCESS to tenant SRAM, by a core of a lane in service whose PRID has a slice, its pair not stopped by the hold of a cut. A
write leaves only where the comparison of its pair's cores is equal; where it is not, it is a lane fault with cause 1 and stores
nothing. Then a read inside the slice takes the bytes of that lane's memory, a write stores its bytes there, and the instruction
retires; while the PRID is frozen the access stalls and changes no memory; outside the slice it ends in an access fault, changes no
memory and is a violation of cause 1 with the address; inside a range that a shrink or teardown removes it ends in an access fault
alone; an access to a line under a bridge lock waits (R35, R130, R141, R149, R152, R287, R288, R292, R436). -/
def Obligations.FabricAccessToSram : Prop :=
  ∀ (s : State) (l : Lane) (acc : Access) (k : Pair), acc.pair = some k → (s.b.lane l).st = 4 → regionOf acc.addr = .sram →
    let p := s.b.pridOf l acc
    let sl := s.b.slice p
    let tok := s.b.accToken l k acc.virt acc.addr acc.size acc.kind.code
    (s.b.pairsHeld = true → Becomes (.fabricAccess l acc) s s.b) ∧
    (s.b.pairsHeld = false → acc.kind = .write → s.b.outputEqual l k tok = false →
      Becomes (.fabricAccess l acc) s (s.b.laneFault l 1 k)) ∧
    (s.b.pairsHeld = false → (acc.kind = .write → s.b.outputEqual l k tok = true) → (sl.phase == .none) = false →
      (s.b.drainsRange p acc.addr acc.size = true → Becomes (.fabricAccess l acc) s (s.b.setResult l k .fault)) ∧
      (s.b.drainsRange p acc.addr acc.size = false →
        (sl.holdsSram acc.addr acc.size = false →
          Becomes (.fabricAccess l acc) s ((s.b.setResult l k .fault).gateViolation l p 1 acc.addr)) ∧
        (sl.holdsSram acc.addr acc.size = true →
          (sl.frozen = true → Becomes (.fabricAccess l acc) s (s.b.gateStalls l k p acc)) ∧
          (sl.frozen = false → s.b.lineLocked l acc.addr = true → Becomes (.fabricAccess l acc) s (s.b.setResult l k .waits)) ∧
          (sl.frozen = false → s.b.lineLocked l acc.addr = false → s.b.lineLocked l (acc.addr + acc.size - 1) = false →
            (acc.kind = .read → Becomes (.fabricAccess l acc) s
              ((s.b.setResult l k (.done (s.mem.read l acc.addr acc.size))).accRetires l k tok false)) ∧
            (acc.kind = .write → exec (.fabricAccess l acc) s =
              .next ((s.withBlock ((s.b.setResult l k (.done [])).accRetires l k tok true)).withMem
                (s.mem.write l acc.addr (acc.data.take acc.size))))))))

/-! ## The checks of requests -/

/-- What stands before an opcode's own checks. With no lane in service nothing takes a request up. A request that names the object of one
before it without a final response, or carries FENCE behind one of its mailbox, waits with its opcode and the epoch of its take-up
behind those that wait. A request whose slot names a misaligned buffer or a capacity above 4,096 ends BAD_PARAM (log entry 62). An opcode that its table row does not permit to the request's path ends DENIED, whatever the request carries. A permitted request that
names a resource which its partition's shrink or teardown is removing ends RESIZED and is counted for the response of that drain.
Nothing else changes in any of these (R96, R101, R105, R108, R111, R140, R142). -/
def Obligations.RequestsAreGated : Prop :=
  ∀ (c : Instr) (op : Nat) (q : Req) (s : State), c.request? = some (op, q) →
    (s.b.anyServes = false → exec c s = .next s) ∧
    (s.b.anyServes = true → s.b.mustWait op q = true →
      Becomes c s (s.b.modMail fun m =>
        { m with waiting := m.waiting ++ [{ req := q, op := op, epoch := s.b.taken.1, told := s.b.taken.2 }] })) ∧
    (s.b.anyServes = true → s.b.mustWait op q = false → q.slotOk = false →
      AnswersFrom c s s.b (q.response op .badParam [] .none)) ∧
    (Heard c s op q → (opInfo op).permits q.path = false → AnswersFrom c s s.b (q.response op .denied [] .none)) ∧
    (Heard c s op q → (opInfo op).permits q.path = true → q.unsecured = false → s.b.resizedBy q (namedObjects op q.pay) = true →
      AnswersFrom c s (s.b.countResized q.path.prid) (q.response op .resized [] .none))

/-- Check 5: a request of a mailbox window with a buffer or, from a partition, an object outside the slice of the window's PRID ends
DENIED and commits a violation of cause 3 of that PRID: counted, with the address, and decided, so that the PRID freezes at the next
boundary; what check 5 denies without a violation (a value of Access G, another PRID's slice) ends DENIED and changes nothing else
(R105, R118, R149, R151, R552; log entry 60). -/
def Obligations.OutsideSliceIsViolation : Prop :=
  ∀ (c : Instr) (op : Nat) (q : Req) (s : State), Heard c s op q → (opInfo op).permits q.path = true → q.unsecured = false →
    s.b.resizedBy q (namedObjects op q.pay) = false →
    (∀ (p : Prid) (a : Nat), q.path = .part p ∨ (q.path = .gov ∧ p = 0) → s.b.check5 op q (namedObjects op q.pay) = some (some a) →
      s.b.part.viol.length = 32 →
      ∃ t, exec c s = .next t ∧ t.mem = s.mem ∧ t.otp = s.otp ∧ q.response op .denied [] .none ∈ t.b.mail.done ∧
        t.b.viol p = { s.b.viol p with count := satNat 0xFFFFFFFF ((s.b.viol p).count + 1), cause := 3, addr := a, decided := true } ∧
        (∀ r : Prid, r ≠ p → t.b.viol r = s.b.viol r) ∧ t.b.dies = s.b.dies ∧ t.b.keys = s.b.keys ∧ t.b.params = s.b.params ∧
        t.b.part.slices = s.b.part.slices) ∧
    (s.b.check5 op q (namedObjects op q.pay) = some none → AnswersFrom c s s.b (q.response op .denied [] .none))

/-- Check 6: an opcode that requires AUTH ends DENIED without it; a request whose trailer is not valid ends DENIED and has used
its challenge up (R105, R121, R122). -/
def Obligations.AuthenticationIsChecked : Prop :=
  ∀ (c : Instr) (op : Nat) (q : Req) (s : State), Heard c s op q → (opInfo op).permits q.path = true → q.unsecured = false →
    s.b.resizedBy q (namedObjects op q.pay) = false → s.b.check5 op q (namedObjects op q.pay) = none →
    ((opInfo op).auth = true → q.auth = false → AnswersFrom c s s.b (q.response op .denied [] .none)) ∧
    (q.auth = true → s.b.authLess = false → s.b.trailerOk q op = false →
      AnswersFrom c s (s.b.setChallenge q.path none) (q.response op .denied [] .none)) ∧
    (q.auth = true → s.b.authLess = true → op ≠ 0x7005 →
      AnswersFrom c s (s.b.setChallenge q.path none) (q.response op .locked [] .none))

/-! ## Module services (04) -/

/-- NOP answers OK with its payload; when the payload does not fit the response buffer the answer carries the length required,
NO_RESOURCE and no payload. MODULE_INFO without a payload answers OK with 32 bytes: the ordering code, the life-cycle state, the
identity and Lane A's firmware version stand where R120 puts them. AUTH_CHALLENGE answers OK with a fresh challenge, a free value,
which cancels every earlier one that has not been used, whatever path fetched that; after 60 s, and after one authenticated request
of its path, it is no longer valid and no trailer over it is accepted
(R107, R108, R120, R121, R122, R127; log entry 3). -/
def Obligations.ModuleServicesAnswer : Prop :=
  (∀ (s : State) (q : Req),
    (s.b.passes 0x0001 q = true → q.pay.length ≤ q.room →
      AnswersFrom (.nop q) s (s.b.heard q) (q.response 0x0001 .ok q.pay .none)) ∧
    (s.b.passes 0x0001 q = true → q.room < q.pay.length →
      AnswersFrom (.nop q) s (s.b.heard q) { q.response 0x0001 .noResource [] .none with length := q.pay.length }) ∧
    (s.b.passes 0x0002 q = true → q.pay = [] → 32 ≤ q.room →
      ∃ p, AnswersFrom (.moduleInfo q) s (s.b.heard q) (q.response 0x0002 .ok p .none) ∧ p.length = 32 ∧
        p.take 8 = [0x47, 0x5A, 0x38, 0x36, 0x34, 0x2D, 0x41, if s.otp.codeAE then 0x45 else 0x43] ∧
        byteAt p 10 = s.otp.lifecycle.num ∧ bytesAt p 12 8 = leBytes 8 s.otp.identity.toNat ∧
        bytesAt p 20 4 = leBytes 4 (s.b.lane .a).image.version.toNat)) ∧
  (∀ (s : State) (q : Req), s.b.passes 0x0012 q = true → q.pay = [] → 8 ≤ q.room → (q.path = .gov ∨ q.path = .mgmt) →
    ∃ b1, AnswersFrom (.authChallenge q) s b1 (q.response 0x0012 .ok (leBytes 8 (Config.freeWord s.b.free).toNat) .none) ∧
      b1.challenge q.path = some (Config.freeWord s.b.free) ∧
      b1.challenge (if q.path = .gov then .mgmt else .gov) = none ∧ b1.free = s.b.free + 1 ∧ b1.keys = s.b.keys ∧
      b1.params = s.b.params ∧ b1.dies = s.b.dies) ∧
  (∀ (s : State) (mgmt : Bool), ∃ b', Becomes (.authChallengeExpiry mgmt) s b' ∧
    b'.challenge (if mgmt then .mgmt else .gov) = none ∧
    (∀ (r : Req) (op : Nat), r.path = (if mgmt then .mgmt else .gov) → b'.trailerOk r op = false) ∧
    b'.challenge (if mgmt then .gov else .mgmt) = s.b.challenge (if mgmt then .gov else .mgmt) ∧ b'.keys = s.b.keys) ∧
  (∀ (b : Block) (q : Req), q.path.isGov = true → q.auth = true →
    (b.heard q).challenge q.path = none ∧ ∀ (r : Req) (op : Nat), r.path = q.path → (b.heard q).trailerOk r op = false)

/-- PARAM_GET answers OK with the count and one record per value in the order asked, each record its ID, instance, type, length,
value and zero bytes up to a multiple of 4 (R116, R118). PARAM_SET looks at its records in stages: one that may not be written ends
DENIED; then the values as they would stand, against the rules between values, end BAD_PARAM, and against the limits, NO_RESOURCE;
else it answers OK, and when that response becomes visible every value stands as set. In the other cases nothing changes (R114,
R117). -/
def Obligations.ParametersGetAndSet : Prop :=
  ∀ (s : State) (q : Req),
    (∀ es : List (ParamDef × Nat), s.b.passes 0x0010 q = true → paramGetOk q.pay = true → paramEntries q.pay = es.map some →
      let rec1 := fun (e : ParamDef × Nat) =>
        leBytes 2 e.1.id ++ leBytes 1 e.2 ++ leBytes 1 e.1.ty.code ++ leBytes 2 e.1.ty.len ++ zeroBytes 2 ++
          leBytes e.1.ty.len (s.b.paramVal s.otp e.1 e.2) ++ zeroBytes (padded e.1.ty.len - e.1.ty.len)
      (leBytes 2 es.length ++ zeroBytes 2 ++ es.flatMap rec1).length ≤ q.room →
      AnswersFrom (.paramGet q) s (s.b.heard q) (q.response 0x0010 .ok (leBytes 2 es.length ++ zeroBytes 2 ++ es.flatMap rec1) .none)) ∧
    (∀ recs : List ParamRec, s.b.passes 0x0011 q = true → 4 ≤ q.pay.length → 1 ≤ fieldAt q.pay 0 2 → fieldAt q.pay 0 2 ≤ 255 →
      zerosAt q.pay 2 2 = true → paramRecs q.pay (fieldAt q.pay 0 2) 4 = some recs →
      let vals := recs.map ParamRec.pair
      let after := psetAll s.b.paramsAhead vals
      ((∃ r ∈ recs, r.d.acc = .ro ∨ r.d.acc = .r) → AnswersFrom (.paramSet q) s (s.b.heard q) (q.response 0x0011 .denied [] .none)) ∧
      ((∀ r ∈ recs, r.d.acc = .rw ∨ r.d.acc = .g) →
        (paramRulesOk s.otp.codeAE after s.b.part.slices s.b.net.hands recs = false →
          AnswersFrom (.paramSet q) s (s.b.heard q) (q.response 0x0011 .badParam [] .none)) ∧
        (paramRulesOk s.otp.codeAE after s.b.part.slices s.b.net.hands recs = true →
          (paramLimitsOk after = false → AnswersFrom (.paramSet q) s (s.b.heard q) (q.response 0x0011 .noResource [] .none)) ∧
          (paramLimitsOk after = true → AnswersFrom (.paramSet q) s (s.b.heard q) (q.response 0x0011 .ok [] (.params vals)))))) ∧
    (∀ vals : List (Nat × Nat), (s.b.effect (.params vals)).params = psetAll s.b.params vals)

/-! ## Partitions and slices (05) -/

/-- SLICE_CREATE and SLICE_GROW with well-formed records answer one status decided on the slices as they will stand, in the order of
R137: records that clash, and a record of what the slice itself holds, BAD_PARAM; one that another slice holds, NO_RESOURCE; one
still draining or being zeroed, BUSY (spelled out for one record of load channels and for one of exclusive tenant SRAM); else OK,
and when that response becomes visible the slice holds the records, the other slices stand, and what moved has left PRID 0. A
create of a PRID that has a slice and a grow of one that has none end BAD_PARAM; a create of a PRID whose teardown runs returns
PENDING and waits for its end (R134, R136, R137, R138; log entries 125, 126). -/
def Obligations.SlicesCreateAndGrow : Prop :=
  (∀ (s : State) (q : Req) (p : Prid), byteAt q.pay 0 = p.val → slicePayOk q.pay true = true →
    let recs := resRecs q.pay (fieldAt q.pay 4 2)
    let st := sliceStatus s.b.ahead s.b.part.drains s.b.busyGranules p recs
    (s.b.passes 0x1001 q = true → p ≠ 0 →
      (s.b.tearing p = true → HoldsFrom (.sliceCreate q) s (s.b.heard q) q 0x1001 (.create p recs) true) ∧
      (s.b.tearing p = false → ((s.b.ahead.getD p Slice.empty).phase == .none) = false →
        AnswersFrom (.sliceCreate q) s (s.b.heard q) (q.response 0x1001 .badParam [] .none)) ∧
      (s.b.tearing p = false → (s.b.ahead.getD p Slice.empty).phase = .none →
        (st = .ok → AnswersFrom (.sliceCreate q) s (s.b.heard q) (q.response 0x1001 .ok [] (.slice p true recs))) ∧
        (st ≠ .ok → AnswersFrom (.sliceCreate q) s (s.b.heard q) (q.response 0x1001 st [] .none)))) ∧
    (s.b.passes 0x1002 q = true → s.b.tearing p = false →
      ((s.b.ahead.getD p Slice.empty).phase = .none →
        AnswersFrom (.sliceGrow q) s (s.b.heard q) (q.response 0x1002 .badParam [] .none)) ∧
      (((s.b.ahead.getD p Slice.empty).phase == .none) = false →
        (st = .ok → AnswersFrom (.sliceGrow q) s (s.b.heard q) (q.response 0x1002 .ok [] (.slice p false recs))) ∧
        (st ≠ .ok → AnswersFrom (.sliceGrow q) s (s.b.heard q) (q.response 0x1002 st [] .none))))) ∧
  (∀ (ss : List Slice) (dr : List (Nat × Drain)) (busy : List Nat) (p : Prid) (r : ResRec),
    let own := ss.getD p Slice.empty
    let held := fun (x : Slice) => if r.kind = 0x01 then x.chans.toNat &&& r.value != 0 else
      x.sram.any fun y => overlap y.base y.len r.first r.value
    let leaving := dr.any fun d => d.1 != p.val && d.2.recs.any fun e => e.kind == r.kind &&
      (if r.kind = 0x01 then r.value &&& e.value != 0 else overlap r.first r.value e.first e.value)
    (r.kind = 0x01 ∨ r.kind = 0x09) → r.shared = false → r.move = false →
      sliceStatus ss dr busy p [r] =
        if held own then .badParam
        else if (others p).any (fun o => held (ss.getD o Slice.empty)) then .noResource
        else if leaving || (r.kind == 0x09 && (granulesOf r.first r.value).any busy.contains) then .busy
        else .ok) ∧
  (∀ (b : Block) (p : Prid) (create : Bool) (recs : List ResRec), b.part.slices.length = 32 → p ≠ 0 →
    let t := b.effect (.slice p create recs)
    t.slice p = recs.foldl Slice.add (if create then { Slice.empty with phase := .running } else b.slice p) ∧
    t.slice (0 : Prid) = (recs.filter (·.move)).foldl Slice.remove (b.slice (0 : Prid)) ∧
    (∀ r : Prid, r ≠ p → r ≠ 0 → t.slice r = b.slice r) ∧ t.params = b.params ∧ t.dies = b.dies)

/-- SLICE_SHRINK of what the slice holds and SLICE_DESTROY are recorded at their take-up, the destroy with PENDING; a shrink that
names what the slice does not hold, and either of a PRID that has no slice, ends BAD_PARAM and changes nothing. From the boundary
that ends the epoch of their take-up the resources have left the slice: a shrink with nothing of them in flight answers OK with
four zero counts, one with work in flight returns PENDING once and drains; a destroy takes the whole slice, unfreezes the PRID and
ends its WAKE_HOLD (R138, R139, R140, R142). -/
def Obligations.SlicesShrinkAndDestroy : Prop :=
  (∀ (s : State) (q : Req) (p : Prid), byteAt q.pay 0 = p.val → s.b.tearing p = false →
    (let recs := resRecs q.pay (fieldAt q.pay 4 2)
     s.b.passes 0x1003 q = true → slicePayOk q.pay false = true → 16 ≤ q.room →
      ((s.b.ahead.getD p Slice.empty).phase = .none ∨ (∃ r ∈ recs, (s.b.ahead.getD p Slice.empty).holdsRec r = false) →
        AnswersFrom (.sliceShrink q) s (s.b.heard q) (q.response 0x1003 .badParam [] .none)) ∧
      (((s.b.ahead.getD p Slice.empty).phase == .none) = false →
        (∀ r ∈ recs, (s.b.ahead.getD p Slice.empty).holdsRec r = true) →
        HoldsFrom (.sliceShrink q) s ((s.b.heard q).addDrain p recs false) q 0x1003 (.shrink p) false)) ∧
    (s.b.passes 0x1004 q = true → headOk q.pay 31 = true → p ≠ 0 →
      ((s.b.ahead.getD p Slice.empty).phase = .none →
        AnswersFrom (.sliceDestroy q) s (s.b.heard q) (q.response 0x1004 .badParam [] .none)) ∧
      (((s.b.ahead.getD p Slice.empty).phase == .none) = false →
        HoldsFrom (.sliceDestroy q) s ((s.b.heard q).addDrain p [] true) q 0x1004 (.destroy p) true))) ∧
  (∀ (b : Block) (p : Prid) (d : Drain), b.part.slices.length = 32 → (b.part.drains.filter fun e => !e.2.begun) = [(p.val, d)] →
    d.total = 0 → d.resized = 0 → d.cut = 0 →
    let t := b.beginDrains
    let left := d.recs.foldl Slice.remove (b.slice p)
    (∀ r : Prid, r ≠ p → t.slice r = b.slice r) ∧ t.dies = b.dies ∧
    (d.destroy = false →
      ((b.takeAway p d.recs).inFlight p d.recs = 0 → t.slice p = left ∧
        (∀ e ∈ b.mail.pend, e.kind = .shrink p → e.req.answer e.opcode .ok (zeroBytes 16) (.shrunk p) true true ∈ t.mail.done) ∧
        (∀ e ∈ t.mail.pend, e.kind ≠ .shrink p)) ∧
      ((b.takeAway p d.recs).inFlight p d.recs ≠ 0 → t.slice p = { left with phase := .shrinking } ∧
        (∀ e ∈ b.mail.pend, e.kind = .shrink p → e.told = false →
          e.req.answer e.opcode .pending [] .none true true ∈ t.mail.done) ∧
        (∀ e ∈ t.mail.pend, e.kind = .shrink p → e.told = true))) ∧
    (d.destroy = true →
      t.slice p = { (b.slice p).recs.foldl Slice.remove (b.slice p) with phase := .tearing, frozen := false } ∧
      t.nw.holds = b.nw.holds &&& ~~~ (BitVec.ofNat 32 (2 ^ p.val)) ∧ t.mail = b.mail))

/-- SLICE_QUERY answers a partition its own slice and the governor any slice or, at 32, the free pool; a partition that asks for
another PRID ends DENIED without a violation. THAW by the governor with a valid trailer answers OK, and when that response
becomes visible the PRID is no longer frozen, its excess-window counts start anew and an access that stalled meanwhile is
abandoned with an access fault; a PRID that was not frozen changes nothing (R152, R153, R552; log entry 60). -/
def Obligations.SlicesQueryAndThaw : Prop :=
  ∀ (s : State) (q : Req),
    (∀ p : Prid, s.b.passes 0x1005 q = true → headOk q.pay 31 = true → byteAt q.pay 0 = p.val →
      (q.path = .gov ∨ q.path = .mgmt ∨ q.path = .part p) → (queryPay p (s.b.partState p) (s.b.slice p).recs).length ≤ q.room →
      AnswersFrom (.sliceQuery q) s (s.b.heard q) (q.response 0x1005 .ok (queryPay p (s.b.partState p) (s.b.slice p).recs) .none)) ∧
    (s.b.passes 0x1005 q = true → headOk q.pay 32 = true → byteAt q.pay 0 = 32 → q.path.isGov = true →
      (queryPay 32 0 s.b.freePool).length ≤ q.room →
      AnswersFrom (.sliceQuery q) s (s.b.heard q) (q.response 0x1005 .ok (queryPay 32 0 s.b.freePool) .none)) ∧
    (∀ p : Prid, Heard (.sliceQuery q) s 0x1005 q → q.unsecured = false → q.path = .part p → q.pay.length = 8 →
      byteAt q.pay 0 ≠ p.val → s.b.resizedBy q (namedObjects 0x1005 q.pay) = false →
      s.b.outside? q (namedObjects 0x1005 q.pay) = none →
      AnswersFrom (.sliceQuery q) s s.b (q.response 0x1005 .denied [] .none)) ∧
    (∀ p : Prid, s.b.passes 0x1006 q = true → headOk q.pay 31 = true → byteAt q.pay 0 = p.val → s.b.part.slices.length = 32 →
      AnswersFrom (.thaw q) s (s.b.heard q) (q.response 0x1006 .ok [] (.thaw p)) ∧ ((s.b.effect (.thaw p)).slice p).frozen = false ∧
      ((s.b.slice p).frozen = false → s.b.effect (.thaw p) = s.b) ∧
      ((s.b.slice p).frozen = true → let t := s.b.effect (.thaw p)
        (s.b.part.rates.length = 32 → (t.rates p).mailOver = 0 ∧ (t.rates p).cipherOver = 0 ∧ (t.rates p).bridgeOver = 0) ∧
        (∀ (l : Lane) (k : Pair) (a : Access), ((s.b.lane l).pair k).stalled = some (a, p.val) →
          ((t.lane l).pair k).result = .fault ∧ ((t.lane l).pair k).stalled = none)))

/-- The drain of a shrink or teardown that has begun. At its limit every request on a removed resource that can be cut leaves the
pending ones RESIZED, and the drain counts what was cut. With nothing left in flight the shrink answers OK with its counts; the
drain stands until that is visible, and then the slice runs again. At the end of a teardown the slice is gone, its destroy answers
OK, and every byte of its granules that no other slice holds
reads zero in both lanes. A granule of a shrink whose zeroing ends reads zero in both lanes and rejoins the pool; one that is not
being zeroed is not touched (R134, R138, R139, R140, R141, R142). -/
def Obligations.DrainsAndTeardownsEnd : Prop :=
  (∀ (s : State) (p : Prid) (d : Drain), s.b.drainOf? p = some d → d.begun = true → d.ended = false →
    (∃ b', Becomes (.drainLimitReached p) s b' ∧ (∀ e ∈ b'.mail.pend, e.drains p d.recs = false) ∧
      (∀ e ∈ s.b.mail.pend, e.drains p d.recs = true → e.req.answer e.opcode .resized [] .none true true ∈ b'.mail.done) ∧
      b'.drainOf? p = some { d with cut := d.cut + s.b.cuttable p d.recs }) ∧
    (d.destroy = false → s.b.inFlight p d.recs = 0 → ∀ us, ∃ b', Becomes (.drainEnd p us) s b' ∧
      b'.drainOf? p = some { d with ended := true } ∧
      (∀ e ∈ s.b.mail.pend, e.kind = .shrink p → e.req.answer e.opcode .ok (d.pay us) (.shrunk p) true true ∈ b'.mail.done) ∧
      (∀ e ∈ b'.mail.pend, e.kind ≠ .shrink p))) ∧
  (∀ (b : Block) (p : Prid), b.part.slices.length = 32 → (∀ e ∈ b.part.drains, e.1 = p.val → e.2.destroy = false) →
    (b.slice p).phase = .shrinking → ((b.effect (.shrunk p)).slice p).phase = .running ∧ (b.effect (.shrunk p)).drainOf? p = none) ∧
  (∀ (s : State) (p : Prid) (d : Drain), s.b.drainOf? p = some d → d.destroy = true → d.ended = true →
    s.b.part.slices.length = 32 → ∃ t, exec (.teardownEnd p) s = .next t ∧ t.b.slice p = Slice.empty ∧
      (∀ g ∈ s.b.releasedGranules p d.recs, ∀ (l : Lane) (a : Nat), g * granule ≤ a → a < g * granule + granule →
        t.mem.read l a 1 = [0]) ∧
      (∀ e ∈ s.b.mail.pend, e.kind = .destroy p → e.req.answer e.opcode .ok [] .none true true ∈ t.b.mail.done)) ∧
  (∀ (s : State) (g : Fin 768), g.val ∈ s.b.part.zeroing → ∃ t, exec (.granuleZeroed g) s = .next t ∧
    g.val ∉ t.b.part.zeroing ∧ t.b = s.b.modPart (fun x => { x with zeroing := x.zeroing.filter (· != g.val) }) ∧
    (∀ (l : Lane) (a : Nat), t.mem.read l a 1 =
      if g.val * granule ≤ a ∧ a < g.val * granule + granule then [0] else s.mem.read l a 1)) ∧
  (∀ (s : State) (g : Fin 768), g.val ∉ s.b.part.zeroing → exec (.granuleZeroed g) s = .next s)

/-! ## Load channels: requests and the command link (06) -/

/-- CHAN_SET, CHAN_PWM and UNLOCK for an active channel send one frame of the die's stream and wait for its acknowledgement;
for a channel that is not active they answer NOT_ACTIVE and send nothing. UNLOCK of a locked channel before the window has
recovered answers BUSY with the milliseconds left (R168, R170, R171, R176, R189, R193). -/
def Obligations.ChannelCommandsAreSent : Prop :=
  ∀ (s : State) (q : Req) (c : Chan), byteAt q.pay 0 = c.val → 4 ≤ q.room → s.b.links.length = 4 →
    let d : Die := ⟨c.val / 16, by omega⟩
    let i : Fin 16 := ⟨c.val % 16, by omega⟩
    let n := (s.b.link d).lastNum + 1
    (q.pay.length = 4 → byteAt q.pay 1 ≤ 1 → zerosAt q.pay 2 2 = true → s.b.passes 0x2001 q = true →
      (s.b.chanActive c = true → HoldsFrom (.chanSet q) s
        ((s.b.heard q).sends d .set i (leBytes 1 (byteAt q.pay 1) ++ zeroBytes 5)) q 0x2001 (.chan d n c) false) ∧
      (s.b.chanActive c = false → AnswersFrom (.chanSet q) s (s.b.heard q) (q.response 0x2001 .notActive [] .none))) ∧
    (q.pay.length = 8 → byteAt q.pay 1 = 0 → freqOk c (fieldAt q.pay 2 2) = true → fieldAt q.pay 4 2 ≤ 1000 →
      zerosAt q.pay 6 2 = true → s.b.passes 0x2002 q = true →
      (s.b.chanActive c = true → HoldsFrom (.chanPwm q) s
        ((s.b.heard q).sends d .pwm i (leBytes 2 (fieldAt q.pay 2 2) ++ leBytes 2 (fieldAt q.pay 4 2) ++
          leBytes 1 (s.b.p 0x2007 c) ++ zeroBytes 1)) q 0x2002 (.chan d n c) false) ∧
      (s.b.chanActive c = false → AnswersFrom (.chanPwm q) s (s.b.heard q) (q.response 0x2002 .notActive [] .none))) ∧
    (q.pay.length = 4 → zerosAt q.pay 1 3 = true → s.b.passes 0x2004 q = true →
      (s.b.chanActive c = false → AnswersFrom (.unlock q) s (s.b.heard q) (q.response 0x2004 .notActive [] .none)) ∧
      (s.b.chanActive c = true → (s.b.chan c).lock ≠ 0 → windowRecovered c (s.b.chan c) = false →
        AnswersFrom (.unlock q) s (s.b.heard q)
          (q.response 0x2004 .busy (leBytes 4 (recoveryMs c (s.b.die d).ms (s.b.chan c))) .none)) ∧
      (s.b.chanActive c = true → (s.b.chan c).lock = 0 ∨ windowRecovered c (s.b.chan c) = true →
        HoldsFrom (.unlock q) s ((s.b.heard q).sends d .unlock i (zeroBytes 6)) q 0x2004 (.chan d n c) false))

/-- CHAN_MULTI over active channels sends one frame per die that has a selected channel, in die order, and waits for all their
acknowledgements; without a selected channel it answers OK with 24 zero bytes; with one that is not active it answers NOT_ACTIVE
and sends nothing (R170, R172). -/
def Obligations.MultiIsOneFramePerDie : Prop :=
  ∀ (s : State) (q : Req), s.b.passes 0x2003 q = true → q.pay.length = 16 → 24 ≤ q.room → s.b.links.length = 4 →
    let sel := fieldAt q.pay 0 8
    let st := fieldAt q.pay 8 8
    let ds := (List.range 4).filter fun d => (sel >>> (16 * d)) % 65536 != 0
    ((∃ c ∈ bitIdx 64 sel, s.b.chanActive c = false) →
      AnswersFrom (.chanMulti q) s (s.b.heard q) (q.response 0x2003 .notActive [] .none)) ∧
    ((∀ c ∈ bitIdx 64 sel, s.b.chanActive c = true) →
      (ds = [] → AnswersFrom (.chanMulti q) s (s.b.heard q) (q.response 0x2003 .ok (zeroBytes 24) .none)) ∧
      (ds ≠ [] → HoldsFrom (.chanMulti q) s
        (ds.foldl (fun b d => b.sends d .multi 0
          (leBytes 2 ((sel >>> (16 * d)) % 65536) ++ leBytes 2 ((st >>> (16 * d)) % 65536) ++ zeroBytes 2)) (s.b.heard q)) q 0x2003
        (.multi (ds.map fun d => (Fin.ofNat 4 d, (s.b.link d).lastNum + 1)) 0 0 0) false))

/-- CHAN_STATUS of an active channel answers OK with 32 bytes of the die's last 1 ms update, each field where R234 puts it; that
update records the state, cause, retries, flags, last cause and lock of every channel as they then stand. DIE_ISOLATE on a served
die answers OK, and acts when that response becomes visible: open starts the opening unless the switch is open or opening; close
starts the closing at a valid feed unless it is closed or closing; store policy writes the record. Close of an open switch without
a valid feed ends NOT_ACTIVE, a policy at a write count of 10,000 LOCKED, and any function on a silent or unpowered die NOT_ACTIVE
(R114, R229, R230, R231, R232, R234, R518). -/
def Obligations.StatusAndIsolationAnswer : Prop :=
  (∀ (s : State) (q : Req) (c : Chan), s.b.passes 0x2005 q = true → q.pay.length = 4 → byteAt q.pay 0 = c.val →
    zerosAt q.pay 1 3 = true →
    (s.b.chanActive c = false → AnswersFrom (.chanStatus q) s (s.b.heard q) (q.response 0x2005 .notActive [] .none)) ∧
    (s.b.chanActive c = true → 32 ≤ q.room → let x := (s.b.chan c).snap
      ∃ p, AnswersFrom (.chanStatus q) s (s.b.heard q) (q.response 0x2005 .ok p .none) ∧ p.length = 32 ∧
        byteAt p 0 = c.val ∧ bytesAt p 1 1 = leBytes 1 x.state ∧ bytesAt p 2 1 = leBytes 1 x.cause ∧ bytesAt p 3 1 = leBytes 1 x.retries ∧
        bytesAt p 4 2 = leBytes 2 x.flags.toNat ∧ bytesAt p 6 1 = leBytes 1 x.last ∧ bytesAt p 7 1 = leBytes 1 x.lock ∧
        bytesAt p 8 4 = leBytes 4 (ofSigned 4 x.ma) ∧ bytesAt p 12 2 = leBytes 2 (ofSigned 2 x.v10) ∧
        bytesAt p 14 2 = leBytes 2 (ofSigned 2 x.local10) ∧ bytesAt p 16 2 = leBytes 2 (ofSigned 2 x.tw10) ∧
        bytesAt p 18 2 = leBytes 2 x.window ∧ bytesAt p 20 4 = leBytes 4 x.ledger ∧ bytesAt p 24 8 = zeroBytes 8)) ∧
  (∀ (s : State) (d : Die) (sub : Int) (m : List ChanMeas), s.b.dies.length = 4 → (s.b.die d).powered = true →
    ∃ b', Becomes (.fuseModelUpdate d sub m) s b' ∧ ∀ x ∈ (b'.die d).chans, x.snap.state = chanState (b'.die d) x ∧
      x.snap.cause = protCause (b'.die d) x ∧ x.snap.retries = x.retryUsed ∧ x.snap.flags = x.flags ∧
      x.snap.last = x.protLast.val ∧ x.snap.lock = x.lock.val) ∧
  (∀ (s : State) (q : Req) (d : Die) (fn : Nat) (c : Instr),
    (fn, c) ∈ [(1, Instr.dieIsolateOpen q), (0, .dieIsolateClose q), (2, .dieIsolateStorePolicy q)] →
    let r := q.withByte 1 fn
    let pol := byteAt r.pay 2
    let stops := fn = 0 ∧ ((s.b.die d).iso = .opened ∨ (s.b.die d).iso = .opening) ∧ s.b.feedValid d = false
    s.b.passes 0x2006 r = true → r.pay.length = 4 → byteAt r.pay 0 = d.val → byteAt r.pay 1 = fn → byteAt r.pay 3 = 0 → 4 ≤ r.room →
    (fn = 2 → pol ≤ 2) → (fn ≠ 2 → pol = 0) →
    (s.b.dieServed d = false ∨ (s.b.die d).powered = false →
      AnswersFrom c s (s.b.heard r) (r.response 0x2006 .notActive [] .none)) ∧
    (s.b.dieServed d = true → (s.b.die d).powered = true →
      (stops → AnswersFrom c s (s.b.heard r) (r.response 0x2006 .notActive [] .none)) ∧
      (fn = 2 → 10000 ≤ (s.b.die d).isoCount → AnswersFrom c s (s.b.heard r) (r.response 0x2006 .locked [] .none)) ∧
      (¬stops → (fn = 2 → (s.b.die d).isoCount < 10000) →
        let x := ((s.b.heard r).effect (.isolate d fn pol)).die d
        AnswersFrom c s (s.b.heard r) (r.response 0x2006 .ok (leBytes 1 x.iso.num ++ leBytes 1 x.isoPolicy.val ++ leBytes 2 x.isoCount)
          (.isolate d fn pol))))) ∧
  (∀ (b : Block) (d : Die) (pol : Fin 3), b.dies.length = 4 → (b.die d).powered = true →
    let x := fun (fn : Nat) => (b.effect (.isolate d fn pol)).die d
    ((b.die d).iso = .closed ∨ (b.die d).iso = .closing → (x 1).iso = .opening ∧ x 0 = b.die d) ∧
    ((b.die d).iso = .opened ∨ (b.die d).iso = .opening → x 1 = b.die d ∧ (b.feedValid d = true → (x 0).iso = .closing)) ∧
    (x 2).iso = (b.die d).iso ∧ (x 2).chans = (b.die d).chans ∧
    ((b.die d).isoCount < 10000 → ∃ l : Lane, (x 2).isoBanks.get l =
      IsoBank.of pol (decide ((b.die d).iso = .opened ∨ (b.die d).iso = .opening)) ((b.die d).isoCount + 1) ∧
      (x 2).isoBanks.get l.other = (b.die d).isoBanks.get l.other))

/-- FAILSAFE_STORE over served dies below 99,999 writes sends each its configured states and STORE, and answers PENDING at once.
A write of a die's store puts the states with the next count and their check word into the bank that is not in force. When every
selected die has written, the oldest running request ends OK with the four counts; a die whose STORE has not been carried out yet is
written with the states of the request's take-up (R206, R207). -/
def Obligations.FailSafeStatesAreStored : Prop :=
  (∀ (s : State) (q : Req), s.b.passes 0x2801 q = true → q.pay.length = 4 → byteAt q.pay 0 < 16 → zerosAt q.pay 1 3 = true →
    16 ≤ q.room → (∀ d ∈ bitIdx 4 (byteAt q.pay 0), s.b.dieServed d = true ∧ (s.b.die d).storeCount < 99999) →
    ∃ b1, HoldsFrom (.failsafeStore q) s b1 q 0x2801
        (.failsafe (bitIdx 4 (byteAt q.pay 0)) ((List.range 4).map fun d => (s.b.die d).storeCount)
          ((List.range 4).map s.b.storeCfgOf)) true ∧
      b1.dies = s.b.dies ∧ b1.params = s.b.params) ∧
  (∀ (x : DieSt) (es : List FsEntry), let t := x.writeStore es
    t.store.get x.storeNext = FsBank.of es (x.storeCount + 1) ∧ t.store.get x.storeNext.other = x.store.get x.storeNext.other ∧
    (∀ l, x.storeLane = some l → x.storeNext = l.other) ∧ t.chans = x.chans ∧ t.isoBanks = x.isoBanks) ∧
  (∀ (s : State) (e : Pend) (rest : List Pend) (d : Die) (counts : List Nat) (es : List (List FsEntry)),
    s.b.mail.pend = e :: rest → e.kind = .failsafe [d.val] counts es → (∀ x ∈ rest, x.req ≠ e.req) → s.b.dies.length = 4 →
    ∃ b', Becomes .failsafeStoreWritten s b' ∧ b'.mail.pend = rest ∧
      b'.die d = (let x := s.b.die d
        if x.storeCount = counts.getD d 0 then { x.writeStore (es.getD d []) with storeCfg := es.getD d [], storing := none }
        else { x with storing := none }) ∧
      (∀ x : Die, x ≠ d → b'.die x = s.b.die x) ∧ e.req.answer e.opcode .ok b'.storeCounts .none true true ∈ b'.mail.done)

/-- A sequenced frame of any kind (SET, PWM, MULTI, KEEP, ROLE, UNLOCK, CONF, STORE) with a new number, on the preferred port of a
powered die out of fail-safe mode that holds no standby copy: the die feeds its watchdog and acts on the frame with copy code 0. On
the other port the die holds it as a standby copy, while it holds fewer than 16, and carries nothing out; with 16 held it releases
the oldest of them at once with copy code 1, and holds 16 again. In fail-safe mode a KEEP takes the die over and makes its port the
preferred one; every other kind only feeds the watchdog. The 12 bytes of a frame spell that frame. Acting on a frame, whatever its kind, sets L to its number, records
it, and sends the same ACK last on both ports (R192, R193, R194, R195, R196, R198, R200, R202, R204). -/
def Obligations.FramesAreActedOnOrHeld : Prop :=
  (∀ (s : State) (k : SeqKind) (c : Instr) (d : Die) (p : Lane) (f : LinkFrame),
    (k, c) ∈ [(SeqKind.set, Instr.set d p f), (.pwm, .pwm d p f), (.multi, .multi d p f), (.keep, .keep d p f), (.role, .role d p f),
      (.unlock, .unlockFrame d p f), (.conf, .conf d p f), (.store, .store d p f)] →
    s.b.dies.length = 4 → (s.b.die d).powered = true → (s.b.lane p).released = false → f.arg.length = 6 →
    ((s.b.die d).failSafe = true →
      (k = .keep → ∃ b', Becomes c s b' ∧ (b'.die d).failSafe = false ∧ (b'.die d).preferred = p ∧ (b'.die d).lnum = f.num) ∧
      (k ≠ .keep → Becomes c s (s.b.modDie d (·.feed p)))) ∧
    ((s.b.die d).failSafe = false → seqNew f.num (s.b.die d).lnum = true → (s.b.die d).storeBad = false → (s.b.die d).isoBad = false →
    (p = (s.b.die d).preferred → (s.b.die d).held = [] → ∃ b', Becomes c s b' ∧
      b'.die d = (((s.b.modDie d (·.feed p)).actOn d { kind := k, frame := f, ms := (s.b.die d).ms } 0).die d) ∧
      (b'.die d).lnum = f.num) ∧
    (p ≠ (s.b.die d).preferred → (s.b.die d).held.length < 16 → ∃ b', Becomes c s b' ∧
      b'.die d = { (s.b.die d).feed p with held := (s.b.die d).held ++ [{ kind := k, frame := f, ms := (s.b.die d).ms }] } ∧
      (∀ x : Die, x ≠ d → b'.die x = s.b.die x) ∧ b'.lanes = s.b.lanes ∧ b'.mail = s.b.mail) ∧
    (∀ h t, p ≠ (s.b.die d).preferred → (s.b.die d).held = h :: t → t.length = 15 → ∃ b', Becomes c s b' ∧
      b'.die d = (let x := ((s.b.modDie d fun x => { x.feed p with held := t }).actOn d h 1).die d
        { x with held := t ++ [{ kind := k, frame := f, ms := (s.b.die d).ms }] })))) ∧
  (∀ (k : SeqKind) (f : LinkFrame), f.arg.length = 6 → portFrame (f.bytes k) = .seq k f) ∧
  ∀ (b : Block) (d : Die) (f : DieFrame) (copy : Fin 4), b.dies.length = 4 →
    ((b.actOn d f copy).die d).lnum = f.frame.num ∧
    (∃ t, ((b.actOn d f copy).die d).acted = { f with ms := (b.die d).ms } :: t) ∧
    ∃ ok queued refused out, ∀ l : Lane,
      (((b.actOn d f copy).die d).toLane.get l).getLast? = some (.ack f.frame.num copy ok queued refused out)

/-- What a command does to an enabled channel without hold, latch, lock or stuck-on mark, on a die whose switch is closed and whose
feed is not gone: an on-command from off opens the turn-on slope with outcome 0; one while a turn-off runs is queued with outcome 1;
one while on changes no phase, with outcome 3. In hold it is queued with outcome 2, and also where the switch is not closed. An
off-command while on starts the turn-off with outcome 0 and empties the queue; one while off leaves it off and empties the queue,
with outcome 3 where no command waits (log 48). A locked or latched channel refuses on-commands and stays as it is
(R171, R174, R175, R188, R191, R224, R230). -/
def Obligations.ChannelsObeyCommands : Prop :=
  ∀ (b : Block) (c : Chan), b.dies.length = 4 → (b.die (c / 16)).chans.length = 16 → (b.chan c).enabled = true →
    ((b.chan c).lock = 0 → (b.chan c).inLatch = false → (b.die (c / 16)).iso = .closed →
      ((b.chan c).inHold = true → (b.cmdOn c none).2 = 2 ∧ (b.cmdOn c none).1.chan c = { b.chan c with queued := .on }) ∧
      ((b.chan c).inHold = false → (b.chan c).stuck = false → b.feedGone (c / 16) = false →
        ((b.chan c).phase = .off → (b.cmdOn c none).2 = 0 ∧ ((b.cmdOn c none).1.chan c).phase = .rising ∧
          ((b.cmdOn c none).1.chan c).command = .on) ∧
        ((b.chan c).phase = .falling ∨ (b.chan c).phase = .clamp → (b.cmdOn c none).2 = 1 ∧
          (b.cmdOn c none).1.chan c = { b.chan c with queued := .on }) ∧
        ((b.chan c).phase = .on → (b.cmdOn c none).2 = 3 ∧ (b.cmdOn c none).1.chan c = { b.chan c with queued := .none }))) ∧
    ((b.chan c).lock = 0 → (b.chan c).inLatch = false → (b.die (c / 16)).iso ≠ .closed → (b.cmdOn c none).2 = 2 ∧
      (b.cmdOn c none).1.chan c = { b.chan c with queued := .on, command := .on }) ∧
    ((b.chan c).phase = .on → (b.chan c).inLatch = false → (b.cmdOff c).2 = 0 ∧ ((b.cmdOff c).1.chan c).phase = .falling ∧
      ((b.cmdOff c).1.chan c).command = .off ∧ ((b.cmdOff c).1.chan c).queued = .none) ∧
    ((b.chan c).phase = .off → (b.chan c).inLatch = false → (b.chan c).stuck = false →
      ((b.cmdOff c).1.chan c).phase = .off ∧ ((b.cmdOff c).1.chan c).queued = .none ∧
      ((b.chan c).queued = .none → (b.chan c).waitFeed = false → (b.cmdOff c).2 = 3)) ∧
    ((b.chan c).lock ≠ 0 ∨ (b.chan c).inLatch = true → b.cmdOn c none = (b, refusedOutcome))

/-- What else arrives at a powered die from a port that its lane has not released. A REFRESH and a READ feed the watchdog, and a READ is answered on its own port; a frame that
fails its check is counted for its port; the end of a pairing window acts on the held copy with copy code 1; a silent preferred
port makes the other one preferred; a watchdog expiry enters fail-safe mode once, counted and reported. A die without logic supply
takes up logic power when a source is valid, in fail-safe mode and with L at 0, keeping its stores; a powered one, or one without a
source, is not touched (R31, R74, R75, R193, R196, R199, R201, R202, R203, R206, R269). -/
def Obligations.DiesKeepTheLink : Prop :=
  (∀ (s : State) (d : Die) (p : Lane), s.b.dies.length = 4 → (s.b.die d).powered = true →
    (s.b.lane p).released = false →
    (Becomes (.refresh d p false) s (s.b.modDie d fun x => { x.feed p with devRun := 0, wdtFault := false })) ∧
    (∀ item < 256, ∃ b' a c, Becomes (.read d p item) s b' ∧ (b'.die d).lastValid.get p = some (s.b.die d).ms ∧
      (b'.die d).toLane.get p = (s.b.die d).toLane.get p ++ [.status item (s.b.die d).lnum a c (s.b.die d).failSafe (s.b.die d).views] ∧
      (b'.die d).toLane.get p.other = (s.b.die d).toLane.get p.other) ∧
    (∃ b', Becomes (.powerFrameCrcFail d p) s b' ∧ (b'.die d).crc.get p = satNat 0xFFFFFFFF ((s.b.die d).crc.get p + 1) ∧
      (b'.die d).crc.get p.other = (s.b.die d).crc.get p.other ∧ (b'.die d).chans = (s.b.die d).chans) ∧
    (∀ f, (s.b.die d).held = [f] → seqDist f.frame.num (s.b.die d).lnum ≤ 1024 →
      Becomes (.pairingWindowEnd d f.frame.num) s ((s.b.modDie d fun x => { x with held := [] }).actOn d f 1)) ∧
    (∃ b', Becomes (.preferredPortSilent d) s b' ∧ (b'.die d).preferred = (s.b.die d).preferred.other) ∧
    ((s.b.die d).failSafe = true → Becomes (.watchdogExpiry d) s s.b) ∧
    ((s.b.die d).failSafe = false → ∃ b1 : Block, Becomes (.watchdogExpiry d) s (b1.takeAllStored d) ∧ (b1.die d).failSafe = true ∧
      (b1.die d).held = [] ∧ (b1.die d).expiries = satNat 0xFFFFFFFF ((s.b.die d).expiries + 1))) ∧
  ∀ (s : State) (d : Die), s.b.dies.length = 4 →
    ((s.b.die d).powered = true → Becomes (.powerDieLogicUp d) s s.b) ∧
    (s.b.logicSource? = none → Becomes (.powerDieLogicUp d) s s.b) ∧
    (∀ src, s.b.logicSource? = some src → (s.b.die d).powered = false →
      ∃ b1 : Block, Becomes (.powerDieLogicUp d) s ((b1.takeAllStored d).modDie d DieSt.takeSnaps) ∧ (b1.die d).powered = true ∧ (b1.die d).source = src ∧
        (b1.die d).failSafe = true ∧ (b1.die d).lnum = 0 ∧ (b1.die d).store = (s.b.die d).store ∧
        (b1.die d).isoBanks = (s.b.die d).isoBanks ∧ (∀ x : Die, x ≠ d → b1.die x = s.b.die x))

/-! ## What comes back from the dies, and switching and protection of channels (06, 07) -/

/-- A lane that takes the first frame of its port removes it and no other. An ACK and a STATUS end the silence of the die and its
count of missed polls; after an ACK no frame stays unacknowledged that every lane in service has seen acknowledged; an EVENT frame
becomes an event of the lane. REFRESH and the poll are sent by a lane in service alone, and the poll that finds two unanswered
reads in every lane in service declares the die silent. A frame without its ACK makes the lane send READ; where the STATUS shows an
L before the frame's number, or no STATUS came and no lane has its ACK, the frame is given up and raises the link fault (R193, R200,
R201, R518, R525). -/
def Obligations.AnswersComeFromDies : Prop :=
  ∀ (s : State) (l : Lane) (d : Die), s.b.dies.length = 4 → s.b.links.length = 4 →
    (∀ num copy a q x out rest, (s.b.die d).toLane.get l = .ack num copy a q x out :: rest → ∃ b', Becomes (.ack l d) s b' ∧
      (b'.die d).toLane.get l = rest ∧ (b'.die d).toLane.get l.other = (s.b.die d).toLane.get l.other ∧
      (b'.link d).lost = false ∧ (b'.link d).missed.get l = 0 ∧ ∀ u ∈ (b'.link d).unacked, b'.ackedBy u = false) ∧
    (∀ item n pa pb fs views rest, (s.b.die d).toLane.get l = .status item n pa pb fs views :: rest → ∃ b', Becomes (.status l d) s b' ∧
      (b'.die d).toLane.get l = rest ∧ (b'.link d).lost = false ∧ (b'.link d).missed.get l = 0 ∧
      (∀ u, fs = false → (s.b.link d).unacked = [u] → u.asked.get l = true → seqNew u.num n = true → s.b.runs l = true →
        (b'.link d).unacked = [] ∧ b'.ev.items = s.b.ev.items ++ [s.b.evRec l 11 3 d (u.num.toNat : Int)])) ∧
    (∀ r rest, (s.b.die d).toLane.get l = .event r :: rest → s.b.runs l = true → r.ev ≠ portReport → r.ev ≠ 19 → r.ev ≠ 12 →
      ∃ b', Becomes (.event l d) s b' ∧ (b'.die d).toLane.get l = rest ∧
        b'.ev.items = s.b.ev.items ++ [s.b.evRec l r.ev r.cause r.subject r.detail]) ∧
    (s.b.serves l = true → s.b.configured = true → ∃ b', Becomes (.refreshDue l d) s b' ∧
      (b'.link d).refreshes.get l = (s.b.link d).refreshes.get l + 1 ∧ (b'.link d).refreshNum = (s.b.link d).lastNum ∧ (b'.link d).reads = (s.b.link d).reads) ∧
    (s.b.serves l = true → s.b.configured = true → ∃ b', Becomes (.diePollDue l d) s b' ∧
      (b'.link d).reads.get l = (s.b.link d).reads.get l + 1 ∧ (b'.link d).missed.get l = (s.b.link d).missed.get l + 1 ∧
      ((b'.link d).lost = true ↔ (s.b.link d).lost = true ∨
        ∀ k : Lane, s.b.serves k = true → 2 ≤ (s.b.link d).missed.get k)) ∧
    (s.b.serves l = false ∨ s.b.configured = false → Becomes (.refreshDue l d) s s.b ∧ Becomes (.diePollDue l d) s s.b) ∧
    (∀ u, (s.b.link d).unacked = [u] →
      (u.asked.get l = false → ∃ b', Becomes (.ackTimeout l d u.num) s b' ∧ b'.dies = s.b.dies ∧
        (b'.link d).reads.get l = (s.b.link d).reads.get l + 1 ∧ (b'.link d).unacked = [{ u with asked := u.asked.set l true }]) ∧
      (u.asked.get l = true → u.doneA = false → u.doneB = false → s.b.runs l = true →
        ∃ b', Becomes (.ackTimeout l d u.num) s b' ∧ (b'.link d).unacked = [] ∧ b'.dies = s.b.dies ∧
          b'.ev.items = s.b.ev.items ++ [s.b.evRec l 11 3 d (u.num.toNat : Int)]))

/-- The edges of a channel's switching. A turn-on slope ends on; a turn-off slope without a further command ends off, with no clamp energy, and counts one
switching cycle; the inrush window ends by its time or early; an on-phase of a PWM ends into its turn-off and an off-phase into an
on-phase at the duty in force. A clamp that ends records its energy, from 0.5 mJ on counts it, and locks the channel above the
limit of a single pulse (below 0.5 mJ it never does), which is the class value up to 85 degrees at the start and falls to zero at 150; every 50 ms the die opens a new bin; below 18 V the running windows stretch (R174, R176, R177, R180, R181,
R183, R184, R185, R186, R187, R190, R191). -/
def Obligations.ChannelsSwitch : Prop :=
  ∀ (s : State) (c : Chan), s.b.dies.length = 4 → (s.b.die (c / 16)).chans.length = 16 →
    let x := s.b.chan c
    (x.phase = .rising → Becomes (.slopeEnd c) s (s.b.modChan c fun y => { y with phase := .on })) ∧
    (x.phase = .falling → x.command = .off → x.queued = .none → (s.b.die (c / 16)).failSafe = false → ∃ b',
      Becomes (.slopeEnd c) s b' ∧ (b'.chan c).phase = .off ∧ (b'.chan c).lastUj = 0 ∧
      (b'.chan c).switchCount = satNat (2 ^ 64 - 1) (x.switchCount + 1)) ∧
    (∀ e ∈ [Instr.inrushWindowEnd c, .inrushEarlyEnd c], ∃ b', Becomes e s b' ∧
      b'.chan c = { x with inrush := false, stretched := false }) ∧
    (x.phase = .pwmOn → ∃ b', Becomes (.pwmEdge c false) s b' ∧ (b'.chan c).phase = .pwmClamp) ∧
    (x.phase = .pwmOff → ∃ b', Becomes (.pwmEdge c true) s b' ∧ (b'.chan c).phase = .pwmOn ∧
      (b'.chan c).duty = dutyInForce (b'.chan c).cmdDuty (b'.chan c).freq (s.b.cp 0x04 c) (s.b.feedOf (c / 16)).mv.toNat ∧
      (x.nextPwm = none → (b'.chan c).freq = x.freq ∧ (b'.chan c).cmdDuty = x.cmdDuty) ∧
      ∀ f u, x.nextPwm = some (f, u) → (b'.chan c).freq = f ∧ (b'.chan c).cmdDuty = u ∧ (b'.chan c).nextPwm = none) ∧
    (∀ (uj : Nat) (t : Int), x.phase = .falling ∨ x.phase = .clamp → ∃ b', Becomes (.clampEnd c uj t) s b' ∧
      (b'.chan c).lastUj = uj ∧
      (b'.chan c).clampCount = (if 500 ≤ uj then satNat (2 ^ 64 - 1) (x.clampCount + 1) else x.clampCount) ∧
      (b'.chan c).bins = (if 500 ≤ uj then updAt x.bins 0 (· + uj) else x.bins) ∧
      (x.lock ≠ 0 → (b'.chan c).lock = x.lock) ∧
      (x.lock = 0 → uj < 500 → (b'.chan c).lock = 0) ∧
      (x.lock = 0 → 500 ≤ uj → pulseLimitUj c t < uj → (b'.chan c).lock = 1 ∧ (b'.chan c).queued = .none ∧ (b'.chan c).phase = .off)) ∧
    (∀ t : Int, (t ≤ 850 → pulseLimitUj c t = 1000 * pulseMj c) ∧ (1500 ≤ t → pulseLimitUj c t = 0) ∧
      (850 < t → t < 1500 → pulseLimitUj c t = 1000 * pulseMj c * (1500 - t).toNat / 650)) ∧
    (∀ d : Die, ∃ b', Becomes (.clampBinEnd d) s b' ∧
      (b'.die d).chans = (s.b.die d).chans.map fun y => { y with bins := (0 :: y.bins).take 20 }) ∧
    (∀ d : Die, ∃ b', Becomes (.feedBelow18V d) s b' ∧
      (b'.die d).chans = (s.b.die d).chans.map fun y => { y with stretched := y.stretched || y.inrush })

/-- The protective turn-offs of a channel: fast trip with code 1, armed in every state of an enabled channel and while a turn-off
runs; short in limit inside the inrush window of a channel that drives, with code 2; thermal shutdown, of a channel that is not
simply off by command and in no thermal hold or latch, with code 4 into a hold, or into a latch where the configuration says so, or
with code 5 where a neighbour tripped within 100 ms and the substrate is below 110 degrees. Each turns the channel off, sets its
hold, records its code and counts it; outside these conditions the channel stands. The end of a hold ends that hold alone, a clean
span the retry count (R211, R212, R213, R221, R222, R223, R225). -/
def Obligations.ProtectionTurnsOff : Prop :=
  ∀ (s : State) (c : Chan), s.b.dies.length = 4 → (s.b.die (c / 16)).chans.length = 16 →
    let x := s.b.chan c
    let tripped (e : Instr) (code : Fin 6) : Prop := ∃ b', Becomes e s b' ∧ (b'.chan c).protLast = code ∧
      (b'.chan c).trips = satNat 0xFFFFFFFF (x.trips + 1) ∧ (b'.chan c).phase.drives = false ∧ (b'.chan c).inrush = false ∧
      (code = 1 ∨ code = 2 → (b'.chan c).tripHold = true) ∧ (code = 5 → (b'.chan c).thermHold = true ∧ (b'.chan c).nbrHold = true) ∧
      (code = 4 → (b'.chan c).thermLatch = (x.thermLatch || s.b.cp 0x28 c == 1) ∧
        (b'.chan c).thermHold = (x.thermHold || s.b.cp 0x28 c != 1))
    let armed := x.enabled = true ∨ x.phase ≠ .off
    let warm := armed ∧ (x.phase ≠ .off ∨ x.command ≠ .off ∨ x.stuck = true) ∧ x.thermHold = false ∧ x.thermLatch = false
    (armed → tripped (.fastTrip c) 1) ∧ (¬armed → Becomes (.fastTrip c) s s.b) ∧
    (x.inrush = true → x.phase.drives = true → tripped (.shortInLimit c) 2) ∧
    (x.inrush = false ∨ x.phase.drives = false → Becomes (.shortInLimit c) s s.b) ∧
    (warm → ((s.b.trippedNeighbour? c = none ∨ 1100 ≤ (s.b.die (c / 16)).substrate10) → tripped (.thermalShutdown c) 4) ∧
      ((s.b.trippedNeighbour? c).isSome = true → (s.b.die (c / 16)).substrate10 < 1100 → tripped (.thermalShutdown c) 5)) ∧
    (¬warm → Becomes (.thermalShutdown c) s s.b) ∧
    (x.tripHold = true → ∃ b', Becomes (.tripHoldEnd c) s b' ∧ (b'.chan c).tripHold = false ∧
      (b'.chan c).fuseHold = x.fuseHold ∧ (b'.chan c).thermHold = x.thermHold) ∧
    (x.thermHold = true → ∃ b', Becomes (.thermalHoldEnd c) s b' ∧ (b'.chan c).thermHold = false ∧
      (b'.chan c).fuseHold = x.fuseHold ∧ (b'.chan c).tripHold = x.tripHold) ∧
    (x.inHold = false → x.inLatch = false → ∃ b', Becomes (.retryWindowEnd c) s b' ∧
      b'.chan c = { x with retryUsed := 0, offByProt := false })

/-- Each diagnostic check, where its conditions hold, sets its own bit of chan.diag.flags to what it found and no other bit: open
load on (bit 0), stuck on (4), thermal warning (7), no on (10), sense mismatch (11); clean conduction clears bit 3; the off-state
checks (1 and 2) need two consecutive findings. Under policy 1 a channel found stuck on opens
the isolation switch (R229; R221, R227, R228, R235). -/
def Obligations.ChecksSetTheirFlag : Prop :=
  ∀ (s : State) (c : Chan), s.b.dies.length = 4 → (s.b.die (c / 16)).chans.length = 16 →
    let x := s.b.chan c
    let sets (e : Instr) (k : Nat) (v : Bool) : Prop :=
      ∃ b', Becomes e s b' ∧ (b'.chan c).flags = setFlag x.flags k v ∧ (b'.chan c).phase = x.phase
    (s.b.checkRuns c = true → ∀ f : Finding,
      (x.phase = .on → x.inrush = false → s.b.feedValid (c / 16) = true → sets (.openLoadOnCheck c f) 0 (f == .present)) ∧
      (x.phase = .on → x.inrush = false → s.b.feedGone (c / 16) = false → sets (.noOnCheck c f) 10 (f == .present)) ∧
      (x.phase = .on → s.b.feedGone (c / 16) = false → sets (.senseMismatchCheck c f) 11 (f == .present)) ∧
      (x.phase = .off → s.b.feedValid (c / 16) = true → (s.b.die (c / 16)).isoPolicy = 0 →
        (f = .present ∨ x.stuck = false) → sets (.stuckOnCheck c f) 4 (f == .present)) ∧
      (x.phase = .off → s.b.feedValid (c / 16) = true → (s.b.die (c / 16)).isoPolicy = 1 → ∃ b',
        Becomes (.stuckOnCheck c .present) s b' ∧ (b'.chan c).stuck = true ∧ (b'.die (c / 16)).iso = .opening) ∧
      (x.phase = .off → s.b.feedValid (c / 16) = true → s.b.cp 0x42 c = 1 → ∀ g : Finding, ∃ b',
        Becomes (.offStateCheck c f g) s b' ∧
        (b'.chan c).openRun = (if f = .present then x.openRun + 1 else 0) ∧
        (b'.chan c).shortRun = (if g = .present then x.shortRun + 1 else 0) ∧
        (f = .present → 1 ≤ x.openRun → (b'.chan c).flags.getLsbD 1 = true) ∧
        (f = .present → x.openRun = 0 → (b'.chan c).flags.getLsbD 1 = x.flags.getLsbD 1) ∧
        (f ≠ .present → (b'.chan c).flags.getLsbD 1 = false))) ∧
    (x.enabled = true → ∀ above, sets (.thermalWarning c above) 7 above) ∧
    (x.phase.drives = true → sets (.shortGndClear c) 3 false)

/-- The isolation switch ends its opening in the open position and its closing in the closed one, and a conducting path behind an
open switch is reported; in any other position the command changes nothing. The 1 ms update advances the die's time, takes the
readings and steps the wire estimate of an enabled channel as R215 writes it; the second's end adds the mean ageing of its steps to
the ledger; the counter copy hands Ottum the counters of every channel (R190, R215, R216, R217, R229, R230, R233, R236, R510,
R519). -/
def Obligations.IsolationFuseAndLedger : Prop :=
  ∀ (s : State) (d : Die), s.b.dies.length = 4 →
    ((s.b.die d).iso = .opening → ∃ b', Becomes (.isolationSwitchOpen d) s b' ∧ (b'.die d).iso = .opened ∧
      (b'.die d).chans = (s.b.die d).chans) ∧
    ((s.b.die d).iso = .closing → ∃ b', Becomes (.isolationSwitchClosed d) s b' ∧ (b'.die d).iso = .closed ∧
      (b'.die d).isoBanks = (s.b.die d).isoBanks) ∧
    (∀ i, (s.b.die d).iso = .opened → ∃ b', Becomes (.isolationSwitchFault d i) s b' ∧
      b'.die d = (s.b.die d).report 15 0 d ((16 * d.val + i.val : Nat) : Int)) ∧
    ((s.b.die d).iso = .closed → Becomes (.isolationSwitchOpen d) s s.b ∧ Becomes (.isolationSwitchClosed d) s s.b ∧
      ∀ i, Becomes (.isolationSwitchFault d i) s s.b) ∧
    (∀ t ms, (s.b.die d).powered = true → ∃ b', Becomes (.fuseModelUpdate d t ms) s b' ∧ (b'.die d).ms = (s.b.die d).ms + 1 ∧
      (b'.die d).substrate10 = t) ∧
    (∀ t ms, (s.b.die d).powered = false → Becomes (.fuseModelUpdate d t ms) s s.b) ∧
    (∀ (c : Chan) (t : Int) (m : ChanMeas) (pc : Rat), (s.b.die (c / 16)).chans.length = 16 → (s.b.chan c).enabled = true →
      (s.b.chan c).phase = .on →
      let b1 := s.b.fuseChannel c t m pc
      ((b1.chan c).dtw, (b1.chan c).dtn, (b1.chan c).tw) =
        fuseStep (s.b.fuseWire c) ((s.b.cp 0x32 c : Rat) / 100) (s.b.fuseAmbient c t) m.i2 pc
          (s.b.chan c).dtw (s.b.chan c).dtn (s.b.chan c).tw ∧
      (b1.chan c).ma = m.ma ∧ (b1.chan c).v10 = m.v10) ∧
    ((s.b.die d).powered = true → (s.b.die d).chans.length = 16 → ∃ b', Becomes (.ledgerUpdate d) s b' ∧
      ∀ i < 16, let x := (s.b.die d).chan i
        x.enabled = true → x.ledgerSteps ≠ 0 → ((b'.die d).chan i).ledger = satNat 0xFFFFFFFF (x.ledger +
          ratNat (x.ledgerSum / (x.ledgerSteps : Rat) * 1000000 / (3000 * 3600) + x.ledgerFrac)) ∧
          ((b'.die d).chan i).ledgerSteps = 0) ∧
    (s.b.anyServes = true → s.b.links.length = 4 → ∃ b', Becomes .counterCopy s b' ∧ b'.dies = s.b.dies ∧
      (b'.link d).saved = (s.b.die d).chans.map fun y =>
        { clampCount := y.clampCount, wear := y.wear, switchCount := y.switchCount, ledger := y.ledger })

/-! ## Mailboxes, epochs and visibility (04, 09) -/

/-- A write of REQ_PROD by the software of an open window is accepted when it neither goes back behind REQ_CONS nor leads it by more
than the ring holds; else the index stays and the lane reports an index error. The registers of a window and of an event queue that
software may write take the active lane's value: the interrupt enables whole, the interrupt status bits cleared by ones, the
consumer indices only up to their producers. A window that is not open, or whose PRID is frozen, takes nothing (R95, R97, R150,
R152, R527, R529). -/
def Obligations.SoftwareWritesItsRegisters : Prop :=
  ∀ (s : State) (l : Lane) (w : Win) (v : Word), s.b.mail.parts.length = 32 → s.b.part.rates.length = 32 →
    s.b.ev.queues.length = 32 →
    (s.b.winOpen w = true → 2 ≤ (s.b.lane l).st →
      (let cons := (s.b.win w).reqCons
       let was := ((s.b.win w).lanes.get l).reqProd
       let good := (was - cons).toNat ≤ (v - cons).toNat ∧ (v - cons).toNat ≤ w.size
       ∃ b', Becomes (.doorbell l w v) s b' ∧
        (good → ((b'.win w).lanes.get l).reqProd = v ∧ ((b'.win w).lanes.get l).indexErr = ((s.b.win w).lanes.get l).indexErr) ∧
        (¬good → ((b'.win w).lanes.get l).reqProd = was ∧ ((b'.win w).lanes.get l).indexErr = true)) ∧
      (s.b.act = l →
        (∃ b', Becomes (.registerWrite l false w 0x18 v) s b' ∧ (b'.win w) = { s.b.win w with irqEn := v.setWidth 2 }) ∧
        (∃ b', Becomes (.registerWrite l false w 0x1C v) s b' ∧
          (b'.win w) = { s.b.win w with irqStatus := (s.b.win w).irqStatus &&& ~~~ (v.setWidth 2) }) ∧
        (∃ b', Becomes (.registerWrite l false w 0x14 v) s b' ∧ (b'.win w).respCons =
          if (v - (s.b.win w).respCons).toNat ≤ ((s.b.win w).respProd - (s.b.win w).respCons).toNat then v
          else (s.b.win w).respCons))) ∧
    (s.b.winOpen w = false → Becomes (.doorbell l w v) s s.b ∧ ∀ eq off, Becomes (.registerWrite l eq w off v) s s.b) ∧
    (∀ p : Prid, s.b.winOpen (.part p) = true →
      let q := s.b.ev.queues.getD p EventQ.fresh
      ∃ b', Becomes (.eqConsWrite p v) s b' ∧ b'.ev.queues.getD p EventQ.fresh =
        if (v - q.cons).toNat ≤ (q.prod - q.cons).toNat then { q with cons := v, dropped := false } else q)

/-- A lane's Ottum takes up the next request of a window. The lane that comes to it first decides for both: it takes nothing while the
window is not open, its response ring has no room or another window's request comes first; without a token it takes nothing and the
window is paced from the next boundary; else the request is admitted and takes its token, the slot and the payload are copied, and
the active lane carries the copy through the checks. The other lane's copy is compared with it and advances its own index alone; a
difference is a divergence of source 2. A lane out of service takes nothing. Then the management frames that wait are taken up in
their turn. A management frame of the module's version, kind and identity over its secure channel, of at most 4,200 bytes and with
fewer than 16 in flight, joins the lane's items of the epoch and is counted; any other is dropped and counted (R84, R98, R99, R105,
R110, R113, R115, R123, R124, R126, R147, R266; log entry 111). -/
def Obligations.RequestsAreTakenUp : Prop :=
  ∀ (s : State) (l : Lane), s.b.mail.parts.length = 32 → s.b.part.rates.length = 32 →
    (∀ k, s.b.mail.mgQueue = [] → s.takeMgmt k = s) ∧
    (∀ k f e, s.b.mail.mgQueue = [(f, e)] → e < k → s.b.windowsFirst s.b.act none e 1 = false →
      s.takeMgmt k = (s.withBlock (s.b.modMail fun m => { m with mgQueue := [] })).accept .mgmt (mgmtCopy f) e (!f.secTag)) ∧
    (∀ w, s.b.serves l = false → s.b.mail.mgQueue = [] → exec (.requestTakeUp l w) s = .next s) ∧
    (∀ w stamp, s.b.serves l = true → s.b.nextStamp? l w = some stamp →
      let mine := (s.b.win w).lanes.get l
      let far := (s.b.win w).lanes.get l.other
      let first := mine.taken = (s.b.win w).admitted
      let content := s.b.copySlot s.mem l w mine.taken
      let then' := fun (t : State) => exec (.requestTakeUp l w) s = .next (t.takeMgmt t.b.mail.gov.mbEpoch)
      (first → s.b.winOpen w = false ∨ s.b.ringRoom w = false ∨ s.b.othersFirst l w stamp = true → then' s) ∧
      (first → s.b.winOpen w = true → s.b.ringRoom w = true → s.b.othersFirst l w stamp = false → s.b.paceOk w = false →
        then' (s.withBlock (s.b.modWin w fun a => { a with pacing := true }))) ∧
      (first → s.b.winOpen w = true → s.b.ringRoom w = true → s.b.othersFirst l w stamp = false → s.b.paceOk w = true →
        s.b.act = l → far.copies = [] → ∃ b1 : Block, then' ((s.withBlock b1).accept w.path content stamp false) ∧
          ((b1.win w).lanes.get l).taken = mine.taken + 1 ∧ (b1.win w).admitted = (s.b.win w).admitted + 1 ∧
          (b1.win w).pacing = false ∧ (∀ p, w = .part p → (b1.rates p).mailTok = (s.b.rates p).mailTok - mailToken)) ∧
      (¬first → s.b.act ≠ l → ∀ c, far.copies = [(mine.taken, true, c)] → ∃ b1 : Block, then' (s.withBlock b1) ∧
          ((b1.win w).lanes.get l).taken = mine.taken + 1 ∧ ((b1.win w).lanes.get l.other).copies = [] ∧
          b1.mail.done = s.b.mail.done ∧ b1.part = s.b.part ∧
          b1.mod.divSeen = s.b.mod.divSeen ++ (if c = content then [] else [(2, w.prid)]))) ∧
    (∀ f, s.b.serves l = true → s.b.mod.provision = false →
      let channel := if f.secTag then f.scOk && f.verified else (s.b.lane l).defaults
      let good := channel = true ∧ byteAt f.body 0 = 1 ∧ byteAt f.body 1 = 1 ∧
        beNat (bytesAt f.body 4 8) = s.otp.identity.toNat ∧ f.len ≤ 4200 ∧ s.b.mgmtInFlight < 16
      (good → ∃ b', Becomes (.managementFrame l f) s b' ∧
        (b'.lane l).own = (s.b.lane l).own ++ [{ epoch := s.b.mod.epoch, body := .mgmt f }] ∧
        b'.mail.mgRx = (s.b.mail.mgRx + 1) % 2 ^ 32 ∧ b'.mail.mgDrop = s.b.mail.mgDrop) ∧
      (¬good → ∃ b', Becomes (.managementFrame l f) s b' ∧ (b'.lane l).own = (s.b.lane l).own ∧ b'.mail.mgRx = s.b.mail.mgRx ∧
        b'.mail.mgDrop = (s.b.mail.mgDrop + 1) % 2 ^ 32))

/-- A copied request meets the first three checks in their order. Its check word is the CRC-32C of header bytes 0 to 27 and the payload,
stored little-endian; a wrong one is answered BAD_CHECK and nothing more happens; a
duplicate of an accepted request gets a copy of its final response; a bad header is BAD_PARAM and an unknown opcode BAD_OPCODE;
what passes is carried out as the command of its opcode (R102, R104, R105, R106). -/
def Obligations.CopiedRequestsMeetTheirChecks : Prop :=
  ∀ (s : State) (path : Path) (c : List Byte) (stamp : Nat) (un : Bool),
    let r := reqOf path c stamp un
    let op := fieldAt c 0 2
    (checkWordOk c = true ↔ crc32c (c.take 28 ++ c.drop 64) = leNat (bytesAt c 28 4)) ∧
    (let bit : Nat → Nat := fun x => if x % 2 = 1 then (x / 2) ^^^ 0x82F63B78 else x / 2
     crc32c c = (c.foldl (fun x v => bit (bit (bit (bit (bit (bit (bit (bit (x ^^^ v.toNat))))))))) 0xFFFFFFFF) ^^^ 0xFFFFFFFF ∧
     (∀ i < 32, (0x82F63B78).testBit i = (0x1EDC6F41).testBit (31 - i)) ∧
     crc32c [0x31, 0x32, 0x33, 0x34, 0x35, 0x36, 0x37, 0x38, 0x39] = 0xE3069283) ∧
    (checkWordOk c = false → s.accept path c stamp un =
      s.withBlock (s.b.modMail fun m => { m with done := m.done ++ [{ r.answer op .badCheck [] .none true true with asked := [] }] })) ∧
    (∀ e a, checkWordOk c = true → s.b.duplicate? r = some e → e.answer = some a →
      s.accept path c stamp un = s.withBlock (s.b.modMail fun m => { m with done := m.done ++ [a.forAsker r] })) ∧
    (checkWordOk c = true → s.b.duplicate? r = none →
      (headerOk path.prid c = false → ∃ b', s.accept path c stamp un = s.withBlock b' ∧
        (s.b.accepted r).Answered b' (r.response op .badParam [] .none)) ∧
      (headerOk path.prid c = true → opInfo? op = none → ∃ b', s.accept path c stamp un = s.withBlock b' ∧
        (s.b.accepted r).Answered b' (r.response op .badOpcode [] .none)) ∧
      ∀ (cmd : Instr), headerOk path.prid c = true → (opInfo? op).isSome = true → confirmsWake op r = false →
        cmd.request? = some (op, r) → exec cmd (s.withBlock (s.b.accepted r)) = .next (s.accept path c stamp un))

/-- At the boundary that ends an epoch, with a lane in service, every mailbox window shows the same epoch number, the pending word of
the partition interrupts is that of the queues and windows as they then stand, and the guarantee word that of the conditions. With
no lane in service a lane that runs delivers its own records alone, and without any running lane nothing happens (R95, R159, R259,
R521, R525). -/
def Obligations.BoundariesPublishTheState : Prop :=
  ∀ (s : State) (ns : Int),
    (s.b.anyServes = true → ∃ t, exec (.epochBoundary ns) s = .next t ∧
      (∀ w ∈ t.b.mail.parts, w.mbEpoch = t.b.mail.gov.mbEpoch) ∧ t.b.part.irq = t.b.irqNow ∧
      t.b.ev.guarantee = t.b.guaranteeNow) ∧
    (s.b.anyServes = false → (s.b.runs .a = true ∨ s.b.runs .b = true) →
      Becomes (.epochBoundary ns) s ((s.b.deliverEvents (s.b.mod.epoch - 1)).modMod fun m => { m with epoch := m.epoch + 1 })) ∧
    (s.b.anyServes = false → s.b.runs .a = false → s.b.runs .b = false → Becomes (.epochBoundary ns) s s.b)

/-- A response of a window that both lanes have completed becomes visible at the boundary: its bytes stand in the response slot under
RESP_PROD, which advances, and its interrupt bit is set; its payload stands at the buffer's address in every lane in service, and no
other byte of memory changes. While the response ring is full it waits, and so does one that the other lane in service has not yet
matched. A management response leaves on the uplink of every lane in service, its copies under one R-tag (R96, R99, R100, R113,
R114, R125). -/
def Obligations.ResponsesBecomeVisible : Prop :=
  ∀ (b : Block) (m : MemSt) (a : Response), b.mail.done = [a] → a.effect = .none → m.Wf → b.mail.parts.length = 32 →
    (b.unmatched a = true → b.showAll m = (b, m)) ∧
    (b.unmatched a = false → ∀ w, a.path.win = some w → (b.slice w.prid).phase ≠ .none →
      (w.size ≤ ((b.win w).respProd - (b.win w).respCons).toNat → b.showAll m = (b, m)) ∧
      (((b.win w).respProd - (b.win w).respCons).toNat < w.size →
        (b.slice w.prid).holdsSram a.addr a.payload.length = true → (b.win w).slots.length = w.size →
        let b' := (b.showAll m).1
        b'.mail.done = [] ∧ (b'.win w).slots.getD ((b.win w).respProd.toNat % w.size) none = some a ∧
        (b'.win w).respProd = (b.win w).respProd + 1 ∧ (b'.win w).irqStatus.getLsbD 0 = true ∧
        ∀ l : Lane, (b.serves l = true → (b.showAll m).2.read l a.addr a.payload.length = a.payload) ∧
          ∀ x n, (∀ k, x ≤ k → k < x + n → ¬(a.addr ≤ k ∧ k < a.addr + a.payload.length)) →
            (b.showAll m).2.read l x n = m.read l x n)) ∧
    (b.unmatched a = false → a.path = .mgmt → (b.showAll m).2 = m ∧
      ((b.showAll m).1).mail.mgSeq = b.mail.mgSeq + 1 ∧ ∀ l : Lane, ((b.showAll m).1).mail.mgSent.get l =
        if b.serves l then { resp := a, rtag := b.mail.mgSeq } :: b.mail.mgSent.get l else b.mail.mgSent.get l)

/-- What takes effect when a response becomes visible. A key that was loaded stands in its slot and an evicted slot is empty, no other slot
changing; a destruction empties the slots under its node; a cipher context stands in its place, its counter not set back under the same key, or is unbound; a range mark stands in
its table; a MACsec association is installed, in use or retired; a new slice has fresh windows and no violation, its PRID's count of
budget interrupts going on; FAULT_CLEAR empties the logs or zeroes the counts; TAMPER_ACK ends the block of the key service;
DEBUG_ENABLE puts the test root in the real one's place; a commit of mode 2 asks for the restart, and a life-cycle change takes both lanes into reset
with every slot wiped (R114, R137, R138, R166, R379, R430, R445, R455, R458, R459, R461, R466, R472, R473, R507, R533). -/
def Obligations.EffectsTakePlace : Prop :=
  ∀ b : Block, b.Sized →
    (∀ i k, i < 256 → (b.effect (.keyLoad i k)).slot i = k ∧ (b.effect (.keyEvict i)).slot i = KeySlot.empty ∧
      ∀ j ≠ i, (b.effect (.keyLoad i k)).slot j = b.slot j ∧ (b.effect (.keyEvict i)).slot j = b.slot j) ∧
    (b.mail.pend = [] → ∀ n i, (b.effect (.keyDestroy n)).slot i = if underNode n (b.slot i) then KeySlot.empty else b.slot i) ∧
    (∀ c r, c < 256 → (b.effect (.ctxSet c r)).ctx c = { r with
        counter := if r.kcv = (b.ctx c).kcv then max r.counter (b.ctx c).counter else r.counter
        ops := (b.ctx c).ops, tagFails := (b.ctx c).tagFails } ∧
      (b.effect (.ctxFree c)).ctx c = { b.ctx c with mode := 0 }) ∧
    (∀ e base len, e < b.bridge.prefetchMarks.length → e < b.bridge.consumeMarks.length →
      (b.effect (.mark false e base len)).bridge.prefetchMarks.getD e (0, 0) = (base, len) ∧
      (b.effect (.mark true e base len)).bridge.consumeMarks.getD e (0, 0) = (base, len) ∧
      (b.effect (.mark false e base len)).bridge.consumeMarks = b.bridge.consumeMarks) ∧
    (∀ (k : Fin 10) an pn, b.net.sas.length = 10 →
      let none' : Sa := { installed := false, inUse := false, an := 0, pn := 0 }
      ((b.effect (.saInstall k an pn)).net.sas.getD k none').installed = true ∧
      ((b.effect (.saInstall k an pn)).net.sas.getD k none').an = an ∧
      ((b.effect (.saRetire k)).net.sas.getD k none').installed = false ∧
      ∀ c : Fin 2, ((b.effect (.saCurrent c)).net.sas.getD c none').inUse = true ∧
        ((b.effect (.saCurrent c)).net.sas.getD (1 - c.val) none').inUse = false) ∧
    (∀ (p : Prid) recs, (b.effect (.slice p true recs)).mail.parts.getD p (WinAgreed.fresh 4) = WinAgreed.fresh 4 ∧
      (b.effect (.slice p true recs)).viol p = { Violations.fresh with budgetTraps := (b.viol p).budgetTraps } ∧
      (b.effect (.slice p false recs)).mail = b.mail) ∧
    (∀ l : Lane, ((b.effect (.faultClear 0)).lane l).log = [] ∧ ((b.effect (.faultClear 1)).lane l).log = (b.lane l).log ∧
      ((b.effect (.faultClear 1)).lane l).eccCorrected = 0) ∧
    (b.effect (.faultClear 0)).ev = b.ev ∧ (∀ c ∈ (b.effect (.faultClear 1)).ev.counts, c.count = 0) ∧
    (b.keys.blocked = true → (b.effect .tamperAck).keys.blocked = false) ∧
    (∀ ls ps, (b.effect (.debug ls ps)).keys.testRoot = true) ∧
    (b.effect .restartBoth).img.commitRestart = true ∧
    (∀ i, (b.effect .lifeRestart).slot i = KeySlot.empty) ∧
    (∀ l : Lane, ((b.effect .lifeRestart).lane l).st = 0) ∧ (b.effect .lifeRestart).mod.active = none

/-- What the far lane sends takes its place in a lane that runs: its close record of an epoch takes effect when every item that it
counts has arrived, its inputs and frames wait for delivery, its check record is compared with the lane's own, before or after that
comes, and a difference is counted as a divergence with its source and the PRID that owns the item. A time word, with the checkers of
the lane's pairs caught up and nothing waiting, counts the lane's time and fills the buckets of the partitions in the active lane; a
flit sent again is remembered, a second failure
of one flit fails its link: the lane by a lane fault, the bridge by its failure, which a healthy bridge link ends (R30, R33, R39,
R40, R147, R258, R259, R264, R265, R276, R441). -/
def Obligations.LanesExchangeItems : Prop :=
  ∀ (s : State) (l : Lane), 2 ≤ (s.b.lane l).st →
    (∀ it k, it.body = .close k → ∃ b', Becomes (.agreementItemReceived l it) s b' ∧ (b'.lane l).far = (s.b.lane l).far ∧
      (k ≤ ((s.b.lane l).far.filter fun x => x.epoch == it.epoch).length → (b'.lane l).closeSeen = some it.epoch) ∧
      (((s.b.lane l).far.filter fun x => x.epoch == it.epoch).length < k → (b'.lane l).closeSeen = (s.b.lane l).closeSeen ∧
        (b'.lane l).closeDue = some (it.epoch, k))) ∧
    (∀ it i x, it.body = .input i x → ∃ b', Becomes (.agreementItemReceived l it) s b' ∧
      (b'.lane l).far = (s.b.lane l).far ++ [it] ∧
      ∀ k, (s.b.lane l).closeDue = some (it.epoch, k) →
        ((s.b.lane l).far.filter fun x => x.epoch == it.epoch).length + 1 = k → (b'.lane l).closeSeen = some it.epoch) ∧
    (∀ it st n crc own prid t, it.body = .check st n crc → (s.b.lane l).checks = (st, n, own, prid) :: t →
      (own = crc → Becomes (.agreementItemReceived l it) s
        (s.b.modLane l.other fun x => { x with toFar := x.toFar.erase it })) ∧
      (own ≠ crc → ∃ b', Becomes (.agreementItemReceived l it) s b' ∧ b'.mod.divSource = 3 ∧
        b'.mod.divCount = satNat 0xFFFFFFFF (s.b.mod.divCount + 1) ∧ b'.mod.divSeen = s.b.mod.divSeen ++ [(3, prid)])) ∧
    (∀ st n prid content crc t, (s.b.lane l).farChecks = (st, n, crc) :: t →
      (s.b.checkSent l st n prid content).mod.divSeen =
        s.b.mod.divSeen ++ (if crc = BitVec.ofNat 32 (crc32c content) then [] else [(3, prid)])) ∧
    ((∀ k < 7, ((s.b.lane l).lockPair k).fifo = []) → (∀ k < 6, ((s.b.lane l).pair k).waits = none) → s.b.mail.pend = [] →
      ∃ b', Becomes (.timeWord l) s b' ∧ (b'.lane l).timeWords = (s.b.lane l).timeWords + 1 ∧
      (b'.lane l).opUs = (s.b.lane l).opUs + 1 ∧
      (s.b.isActive l = true → ∀ p, p < s.b.part.rates.length →
        (b'.rates p).mailTok = satNat (s.b.p 0x1009 p * 1000000) ((s.b.rates p).mailTok + s.b.p 0x1008 p)) ∧
      (s.b.isActive l = false → b'.part = s.b.part)) ∧
    (let k : FlitLink := match l with | .a => .laneA | .b => .laneB
     (∃ b', Becomes (.linkFlitError k true) s b' ∧ (b'.lane l).st = 0 ∧ (b'.lane l).aonCause = some (8, 0)) ∧
     ((s.b.lane l).resent = [] → ∃ b', Becomes (.linkFlitError k false) s b' ∧ (b'.lane l).resent = [(s.b.lane l).timeWords] ∧
       (b'.lane l).st = (s.b.lane l).st)) ∧
    (s.b.bridge.link ≠ 0 → ∃ b', Becomes (.linkFlitError .bridge true) s b' ∧ b'.bridge.link = 0 ∧
      b'.bridge.failures = satNat 65535 (s.b.bridge.failures + 1) ∧ ∀ k : Lane, s.b.isActive k.other = true → 2 ≤ (s.b.lane k).st →
        (b'.lane k).st = 0) ∧
    (s.b.bridge.link ≠ 1 → ∃ b', Becomes .bridgeLinkHealthy s b' ∧ b'.bridge.link = 1 ∧ (b'.lane l).bridgeResent = [] ∧
      b'.mod = s.b.mod) ∧
    (s.b.bridge.link = 1 → Becomes .bridgeLinkHealthy s s.b)

/-! ## Lanes, supplies and starts (03, 09, 10) -/

/-- A lane that detects a fault of its own, of a pair whose lockstep is not broken, of a comparator or of its time word records the
cause and the pair in its always-on domain, leaves service and holds no role; the third within an hour keeps it in reset, and a lane
that was taking its state is held in state 2 (log entry 124). A broken pair detects nothing. The other lane in service, told of it,
takes the active role at the next boundary, and the boundary gives it the role and counts the failover. A pair keeps at most two
tokens: a main core that retires with two in the FIFO has its checker take one; a pair whose cores stood alike stands alike again once
the checker has caught up; a token of wrong parity is cause 4 and a comparison that differs cause 1. A sweep of pairs that stand alike
counts its period, and cores whose hashes differ are a fault of cause 2. A debug halt marks the token stream of a broken pair alone
(R39, R255, R268, R270, R284, R285, R286, R288, R290, R292, R296, R300). -/
def Obligations.LanesFailOver : Prop :=
  ∀ (s : State) (l : Lane), 2 ≤ (s.b.lane l).st →
    (∀ e cause pair, (e = Instr.laneFault l cause ∧ pair = 0) ∨
        (∃ p c, e = .lockstepMismatch l p c ∧ (s.b.lane l).broken.getLsbD p.val = false ∧ cause = c.val + 1 ∧ pair = p.val) ∨
        (∃ p silent, e = .comparatorTimeout l p silent ∧ (s.b.lane l).broken.getLsbD p.val = false ∧
          cause = (if silent then 5 else 3) ∧ pair = p.val) ∨ (e = .timeWordTimeout l ∧ cause = 9 ∧ pair = 0) →
      ∃ b', Becomes e s b' ∧ (b'.lane l).st = 0 ∧ (b'.lane l).aonCause = some (cause, pair) ∧ (b'.lane l).startCause = 3 ∧
        b'.mod.active ≠ some l ∧ b'.mod.handTo ≠ some l ∧
        (b'.lane l.other).st = (if s.b.serves l = true ∧ (s.b.lane l.other).st = 3 then 2 else (s.b.lane l.other).st) ∧
        (s.b.serves l = true → 2 ≤ ((s.b.lane l).faultEpochs.filter fun t => decide (s.b.mod.epoch < t + epochsPerHour)).length →
          (b'.lane l).heldByFaults = true)) ∧
    (∀ p c silent, (s.b.lane l).broken.getLsbD p.val = true →
      Becomes (.lockstepMismatch l p c) s s.b ∧ Becomes (.comparatorTimeout l p silent) s s.b) ∧
    (∀ cause pair, s.b.serves l = true → s.b.isActive l = false → ∃ b', Becomes (.laneDownReceived l cause pair) s b' ∧
      b'.mod.handTo = some l ∧ b'.mod.handFail = true ∧ b'.mod.handCause = cause ∧ (b'.lane l).expects = false) ∧
    (s.b.mod.handTo = some l → s.b.roleChange.mod.active = some l ∧ s.b.roleChange.mod.failovers =
      if s.b.mod.handFail then satNat 0xFFFFFFFF (s.b.mod.failovers + 1) else s.b.mod.failovers) ∧
    (∀ (p : PairSt) (x : Token),
      let r := p.retire x
      (p.fifo.length ≤ 2 → r.1.fifo.length ≤ 2) ∧ r.1.main = p.main.step x ∧
      (p.fifo.length < 2 → r.1.chk = p.chk ∧ r.2 = none) ∧ (∀ y z, p.fifo = [y, z] → r.1.chk = p.chk.step y.1) ∧
      (p.fifo = [] → p.chk = p.main → r.1.drain = ({ p with main := p.main.step x, chk := p.main.step x, fifo := [] }, none)) ∧
      ∀ y was rest, p.fifo = (y, was) :: rest →
        (y.parity ≠ parityOf y.bits → p.takes.2 = some 4 ∧ p.drain.2 = some 4) ∧
        (y.parity = parityOf y.bits → p.chk ≠ was → p.chk.shows y ≠ was.shows y → p.takes.2 = some 1)) ∧
    ((∀ k < 7, ((s.b.lane l).lockPair k).fifo = []) →
      ((∀ k < 7, ((s.b.lane l).lockPair k).chk = ((s.b.lane l).lockPair k).main) → ∃ b', Becomes (.sweepPeriod l) s b' ∧
        (b'.lane l).pairPeriods = satNat 0xFFFFFFFF ((s.b.lane l).pairPeriods + 1) ∧ (b'.lane l).st = (s.b.lane l).st) ∧
      ∀ k < 7, (s.b.lane l).broken.getLsbD k = false →
        (∀ j < k, ((s.b.lane l).lockPair j).chk = ((s.b.lane l).lockPair j).main) →
        hashesEqual k ((s.b.lane l).lockPair k).main ((s.b.lane l).lockPair k).chk = false → ∃ b', Becomes (.sweepPeriod l) s b' ∧
          (b'.lane l).st = 0 ∧ (b'.lane l).aonCause = some (2, k)) ∧
    (∀ p : LockPair, (s.b.lane l).broken.getLsbD p.val = true → s.otp.lifecycle ≠ .blank → s.otp.lifecycle ≠ .retired →
      p.val = 6 ∨ p.val < (s.b.lane l).pairs.length →
      ∃ b', Becomes (.debugHaltRequest l p) s b' ∧ (b'.lane l).haltRecord = true ∧ ((b'.lane l).lockPair p.val).haltMark = true ∧
        ∃ x, ((b'.lane l).lockPair p.val).fifo.getLast?.map (·.1) = some x ∧ x.kind = .halt ∧ x.fetch = 0) ∧
    (∀ p, (s.b.lane l).broken.getLsbD p.val = false → Becomes (.debugHaltRequest l p) s s.b)

/-- ROLE_SET to a lane out of service is NOT_ACTIVE, in the middle of a restart or an update BUSY, to the active lane OK at once;
else the role passes at the next boundary and the request waits for it. LANE_RESTART needs the other lane in service; it restarts a
standby lane at once with cause 2, makes the active lane hand over first, and answers PENDING; a lane's reset uses up the deferral of
its due restart. A due restart does the same, and is
overdue while the other lane is out of service, returning, or an update runs. DEBUG_ENABLE names lanes and pairs in service and breaks them at visibility; it is
LOCKED for the control pair in PRODUCTION (R89, R90, R91, R92, R277, R278, R281, R299). -/
def Obligations.LanesHandOverAndRestart : Prop :=
  ∀ (s : State) (q : Req) (l : Lane), q.pay.length = 4 →
    (byteAt q.pay 0 = l.num → zerosAt q.pay 1 3 = true → s.b.passes 0x8030 q = true →
      (s.b.serves l = false → AnswersFrom (.roleSet q) s (s.b.heard q) (q.response 0x8030 .notActive [] .none)) ∧
      (s.b.serves l = true → (s.b.settled = false ∨ s.b.activating = true) →
        AnswersFrom (.roleSet q) s (s.b.heard q) (q.response 0x8030 .busy [] .none)) ∧
      (s.b.serves l = true → s.b.settled = true → s.b.activating = false →
        (s.b.isActive l = true → AnswersFrom (.roleSet q) s (s.b.heard q) (q.response 0x8030 .ok [] .none)) ∧
        (s.b.isActive l = false → HoldsFrom (.roleSet q) s
          ((s.b.heard q).modMod fun m => { m with handTo := some l, handFail := false, handCause := 0 })
          q 0x8030 (.roleSet l 0) false))) ∧
    (byteAt q.pay 0 = l.num → zerosAt q.pay 1 3 = true → s.b.passes 0x8031 q = true →
      (s.b.serves l.other = false → AnswersFrom (.laneRestart q) s (s.b.heard q) (q.response 0x8031 .notActive [] .none)) ∧
      (s.b.serves l.other = true → (s.b.settled = false ∨ s.b.activating = true) →
        AnswersFrom (.laneRestart q) s (s.b.heard q) (q.response 0x8031 .busy [] .none)) ∧
      (s.b.serves l.other = true → s.b.settled = true → s.b.activating = false → ∃ b1 : Block,
        HoldsFrom (.laneRestart q) s b1 q 0x8031 (.laneRestart l) true ∧ (b1.lane l).rolling = true ∧
        (b1.lane l).heldByFaults = false ∧
        (s.b.isActive l = true → b1.mod.handTo = some l.other ∧ (b1.lane l).st = (s.b.lane l).st) ∧
        (s.b.isActive l = false → (b1.lane l).st = 0 ∧ (b1.lane l).startCause = 2 ∧ b1.mod.deferLeft.get l = 0))) ∧
    (s.b.serves l = true → (s.b.lane l).rolling = false →
      (s.b.serves l.other = true → s.b.settled = true → s.b.activating = false → ∃ b', Becomes (.restartDue l) s b' ∧
        (b'.lane l).rolling = true ∧ (s.b.isActive l = true → b'.mod.handTo = some l.other) ∧
        (s.b.isActive l = false → (b'.lane l).st = 0 ∧ (b'.lane l).startCause = 2)) ∧
      (s.b.serves l.other = false ∨ s.b.settled = false ∨ s.b.activating = true → ∃ b', Becomes (.restartDue l) s b' ∧
        (b'.lane l).overdue = true ∧
        (b'.lane l).restartWaits = true ∧ (b'.lane l).st = 4)) ∧
    (∀ ls ps, byteAt q.pay 0 = ls → byteAt q.pay 1 = ps → 1 ≤ ls → ls ≤ 3 → 1 ≤ ps → ps < 128 → zerosAt q.pay 2 2 = true →
      s.b.passes 0x8021 q = true → s.otp.lifecycle = .production →
      (ps.testBit 6 = true → AnswersFrom (.debugEnable q) s (s.b.heard q) (q.response 0x8021 .locked [] .none)) ∧
      (ps.testBit 6 = false → (ls.testBit 0 = true → s.b.serves .a = true) → (ls.testBit 1 = true → s.b.serves .b = true) →
        AnswersFrom (.debugEnable q) s (s.b.heard q)
          (q.response 0x8021 .ok [] (.debug (BitVec.ofNat 2 ls) (BitVec.ofNat 7 ps)))))

/-- A standby lane whose dies find the active lane's port silent takes the role at its next boundary, and the silent lane, if it still
served, is in state 2; where a die still hears that port the bridge link has failed and the standby lane restarts. An update whose restarted lane is not
back in 2 s stops with NOT_ACTIVE. A die whose preferred port is the other lane's is named the active lane's port again (R33, R269,
R275, R281). -/
def Obligations.SilenceIsResolved : Prop :=
  ∀ (s : State) (l : Lane),
    ((s.b.lane l).missedClose = false → Becomes (.portActivityTimeout l) s s.b) ∧
    ((s.b.lane l).missedClose = true → s.b.serves l = true → s.b.isActive l = false →
      ((s.b.lane l).diesSayActive = false → ∃ b', Becomes (.portActivityTimeout l) s b' ∧ b'.mod.handTo = some l ∧
        b'.mod.handFail = true ∧ (b'.lane l.other).st = (if s.b.serves l.other then 2 else (s.b.lane l.other).st) ∧
        (b'.lane l).st = 4 ∧ (b'.lane l).missedClose = false) ∧
      ((s.b.lane l).diesSayActive = true → s.b.isActive l.other = true → s.b.serves l.other = true → s.b.bridge.link ≠ 0 →
        ∃ b', Becomes (.portActivityTimeout l) s b' ∧ b'.bridge.link = 0 ∧ (b'.lane l).st = 0 ∧ (b'.lane l.other).st = 4)) ∧
    (s.b.activation = none → Becomes .activateTimeout s s.b) ∧
    (∀ e sel back origin la lb, s.b.mail.pend = [e] → e.kind = .updActivate sel back origin (some l) la lb →
      (s.b.serves l = true → Becomes .activateTimeout s s.b) ∧
      (s.b.serves l = false → ∃ b', Becomes .activateTimeout s b' ∧ b'.mail.pend = [] ∧
        e.req.answer e.opcode .notActive [] .none true true ∈ b'.mail.done ∧ b'.lanes = s.b.lanes)) ∧
    (∀ d : Die, s.b.configured = true → (s.b.link d).lost = false → (s.b.die d).preferred ≠ s.b.act →
      Becomes (.commandPortReturn d) s (s.b.sends d .role 0 (leBytes 1 s.b.act.num ++ zeroBytes 5))) ∧
    (∀ d : Die, s.b.configured = false ∨ (s.b.die d).preferred = s.b.act → Becomes (.commandPortReturn d) s s.b)

/-- A lane starts: out of reset with a bootable image and passed self-tests it is in state 1 with its tenant SRAM cleared and its band
that of T30; a failed self-test, no T30 or sleep leave it in reset. Ready with no lane in service it takes control as the active lane in
state 4; with the other lane in service it is in state 2. A lane of other identity, life-cycle state or level, or one that does not
authenticate, is held with the cause of EV022; one of equal level and configuration enters resynchronisation. Its cut is taken at
the first boundary after the copying has converged and gives it the active lane's memory and pairs; the first boundary after the hold
puts it into service (R64, R75, R79, R80, R84, R255, R256, R271, R272, R273, R274). -/
def Obligations.LanesStartAndRejoin : Prop :=
  ∀ (s : State) (l : Lane), s.b.serves l = false →
    (∀ env, (s.b.lane l).st = 0 → s.b.mod.t30Valid = true → s.b.nw.state ≠ 3 → (s.b.lane l).heldByFaults = false →
      (s.b.lane l).asleep = false → (s.b.lane l).hotHeld = false → s.otp.lifecycle = .production →
      (s.b.lane l).staging.st ≠ .accepted → (s.b.lane l).image.boots .production (s.otp.rollback.get l) = true →
      env.injectFail = 0 →
      (env.selfTestOk = true → ∃ t, exec (.laneStart l env) s = .next t ∧ (t.b.lane l).st = 1 ∧
        (t.b.lane l).broken = 0 ∧ (t.b.lane l).band = (if s.b.mod.t30 < 9000 then 1 else if 36000 < s.b.mod.t30 then 3 else 2) ∧
        t.mem.sram.get l = [] ∧ t.mem.sram.get l.other = s.mem.sram.get l.other ∧ t.mem.ext = s.mem.ext ∧ t.otp = s.otp) ∧
      (env.selfTestOk = false → ∃ b', Becomes (.laneStart l env) s b' ∧ (b'.lane l).st = 0 ∧ (b'.lane l).heldByFaults = true)) ∧
    (∀ env, s.b.mod.t30Valid = false ∨ s.b.nw.state = 3 → Becomes (.laneStart l env) s s.b) ∧
    ((s.b.lane l).st = 1 → s.b.keys.life = .production →
      (s.b.serves l.other = false → ∃ t, exec (.laneReady l) s = .next t ∧ (t.b.lane l).st = 4 ∧ t.b.mod.active = some l ∧
        (t.b.lane l).ready = true) ∧
      (s.b.serves l.other = true → s.b.mod.activeSince = none → ∃ t, exec (.laneReady l) s = .next t ∧ (t.b.lane l).st = 2 ∧
        (t.b.lane l).ready = true ∧ t.b.mod.active = s.b.mod.active ∧ t.mem = s.mem)) ∧
    (s.b.serves l.other = true →
      ((s.b.lane l).st = 2 → (s.b.lane l).ready = true → s.b.bridge.link = 1 →
        (∀ auth ident life cause, (auth = false ∧ cause = 1) ∨ (auth = true ∧ ident = false ∧ cause = 2) ∨
            (auth = true ∧ ident = true ∧ life = false ∧ cause = 3) → ∃ b', Becomes (.lanePairing l ⟨auth, ident, life⟩) s b' ∧
          (b'.lane l).st = 2 ∧ (b'.lane l).rolling = false ∧
          (s.b.runs l.other = true → b'.ev.items = s.b.ev.items ++ [s.b.evRec l.other 22 cause l.num 0])) ∧
        (levelsApart (s.b.lane l).image.level (s.b.lane l.other).image.level = true → (s.b.lane l).startCause ≠ 0 →
          ∃ b', Becomes (.lanePairing l ⟨true, true, true⟩) s b' ∧ (b'.lane l).st = 2 ∧ (b'.lane l).rolling = false) ∧
        (levelsApart (s.b.lane l).image.level (s.b.lane l.other).image.level = false →
          (s.b.lane l).defaults = (s.b.lane l.other).defaults →
          (s.b.lane l).defaults = true ∨ s.b.img.bank .a = s.b.img.bank .b → ∃ b', Becomes (.lanePairing l ⟨true, true, true⟩) s b' ∧
            (b'.lane l).st = 3 ∧ (b'.lane l).resyncStage = 1)) ∧
      ((s.b.lane l).st = 3 → s.b.bridge.link = 1 →
        (∀ us, (s.b.lane l).resyncStage = 1 →
          (s.b.converged s.mem = false → Becomes (.resyncCut l us) s s.b) ∧
          (s.b.converged s.mem = true → ∃ b', Becomes (.resyncCut l us) s b' ∧ (b'.lane l).resyncStage = 2 ∧
            b'.mod.cutHold = us)) ∧
        ((s.b.lane l).resyncStage = 2 → (∀ k < 7, ((s.b.lane l.other).lockPair k).fifo = []) →
          let r := s.b.cutNow s.mem
          (r.1.lane l).resyncStage = 3 ∧ (r.1.lane l).pairs = (s.b.lane l.other).pairs.map PairSt.sent ∧
          r.2.sram.get l = s.mem.sram.get l.other ∧ r.1.mod.resyncHold = s.b.mod.cutHold ∧ r.1.pairsHeld = true) ∧
        (∀ ms, (s.b.lane l).resyncStage = 3 → ∃ b', Becomes (.resyncComplete l ms) s b' ∧ (b'.lane l).resyncStage = 4 ∧
          b'.mod.cutMs = ms ∧ (b'.lane l).st = 3) ∧
        ((s.b.lane l).resyncStage = 4 → s.b.activation = none →
          let b' := (s.b.resynced s.mem).1
          (b'.lane l).st = 4 ∧ b'.mod.resyncMs = satNat 65535 s.b.mod.cutMs ∧ b'.cipher.logUsed = [])))

/-- The supplies. Power-up of an unpowered module makes T30 and both feeds valid, leaves both lanes in reset, the dies without logic and
tenant SRAM empty, and keeps one-time memory and external storage. T30 below its threshold resets both lanes; the bands lower and
restore the application rail, underneath band 3 where T30 lies in it, and raise band 3 and its end once. A feed takes its new band and
voltage; the channels of a lost feed pass no current, those of a reversed one are driven on, and their checks are suspended; a feed that is no longer reversed takes the band of its voltage; the feed-return sequence ends when no channel is
left; a die's logic moves back to an earlier source (R63, R64, R68, R70, R71, R73, R74, R75). -/
def Obligations.SuppliesAreFollowed : Prop :=
  ∀ (s : State), s.b.dies.length = 4 → ∀ (mv : Nat) (v : Int),
    (s.b.mod.t30Valid = false → ∃ t, exec (.modulePowerUp mv) s = .next t ∧ t.b.mod.t30Valid = true ∧ t.b.mod.t30 = mv ∧
      (∀ f, t.b.feed f = { band := .valid, mv := mv }) ∧ (∀ l, (t.b.lane l).st = 0) ∧ (∀ d : Die, (t.b.die d).powered = false) ∧
      t.mem.sram = .both [] ∧ t.mem.ext = s.mem.ext ∧ t.otp = s.otp) ∧
    (s.b.mod.t30Valid = true → Becomes (.modulePowerUp mv) s s.b ∧ Becomes (.t30Valid mv) s s.b) ∧
    (s.b.mod.t30Valid = false → Becomes (.t30Valid mv) s (s.b.modMod fun m => { m with t30Valid := true, t30 := mv })) ∧
    (s.b.mod.t30Valid = true → s.b.nw.state ≠ 3 → ∃ b', Becomes (.t30Invalid mv) s b' ∧ b'.mod.t30Valid = false ∧
      b'.mod.active = none ∧ ∀ l, (b'.lane l).st = 0) ∧
    (∀ l, (s.b.lane l).st ≠ 0 → ∀ (e : Instr) low band, (e, low, band) ∈ [(Instr.railsLowered l mv, true, 1), (.railsRestored l mv, false, 2)] →
      (s.b.lane l).railsLow ≠ low → ∃ b', Becomes e s b' ∧ (b'.lane l).railsLow = low ∧ (b'.lane l).baseBand = band ∧
        (b'.lane l).band = (if (s.b.lane l).band = 3 then 3 else band) ∧
        (s.b.runs l = true → b'.ev.items = s.b.ev.items ++ [s.b.evRec l 1 band noSubject mv])) ∧
    ((s.b.lane s.b.act).band ≠ 3 → ∃ b', Becomes (.t30Overvoltage mv) s b' ∧ b'.mod.t30 = mv ∧ ∀ l, (b'.lane l).band = 3) ∧
    ((s.b.lane s.b.act).band = 3 → ∃ b', Becomes (.t30Band3Left mv) s b' ∧ b'.mod.t30 = mv ∧
      ∀ l, (b'.lane l).band = (s.b.lane l).baseBand) ∧
    (∀ f band, ∃ b', Becomes (.feedBandChange f band v) s b' ∧ b'.feed f = { band := band, mv := v } ∧
      (band.isValid = false → (s.b.feed f).band ≠ band → ∀ d ∈ f.dies, (s.b.die d).source = 0 →
        (b'.die d).reverseOn = (band == .reversed) ∧ (b'.die d).chans = (s.b.die d).chans.map fun x =>
          (if band = .lost ∨ band = .reversed then x.feedLost else x).suspend true)) ∧
    (∀ f, ∃ b', Becomes (.feedReversed f v) s b' ∧ b'.feed f = { band := .reversed, mv := v }) ∧
    (∀ f, (s.b.feed f).band = .reversed → ∃ b', Becomes (.feedUnreversed f v) s b' ∧ b'.feed f = { band := feedBandOf v, mv := v }) ∧
    (∀ d : Die, ((s.b.die d).feedNext = none → Becomes (.feedReturnNextChannel d) s s.b) ∧
      (∀ i, (s.b.die d).feedNext = some i → s.b.feedValid d = true → s.b.nextOn d i = none →
        Becomes (.feedReturnNextChannel d) s (s.b.modDie d fun x => { x with feedNext := none })) ∧
      (∀ i k, (s.b.die d).feedNext = some i → s.b.feedValid d = true → s.b.nextOn d i = some k →
        ∃ b', Becomes (.feedReturnNextChannel d) s b' ∧ (b'.die d).feedNext = some (k + 1)) ∧
      (∀ src, s.b.logicSource? = some src → (s.b.die d).powered = true → src < (s.b.die d).source →
        ∃ b', Becomes (.logicSourceReturn d) s b' ∧ (b'.die d).source = src) ∧
      ((s.b.die d).powered = false → Becomes (.logicSourceReturn d) s s.b))

/-! ## Guests, rates and the cross-lane bridge (05, 15) -/

/-- A write of hgprid in HS mode retires, sets the guest and discards the pair's fetched lines, kept units and pending budget interrupt; in
VS or VU mode it is the virtual-instruction exception, in U mode the illegal-instruction one, and the guest stands. A retired
instruction is counted and, with virtualisation mode on, charged to the guest, whose last unit raises the local interrupt. A budget
period ends at a multiple of 2^20 retired instructions and gives each PRID but 0 its share; the guest that spends what is left has 0, the
interrupt, and a trap counted in the active lane; PRID 0 has no budget (log entry 117). Partition interrupts reach the pairs of their
routes, hgclaim names the lowest one, and one that a pair takes abandons its stalled access. A rate window that closes starts a new
one and counts those above the limit in a row, and the eleventh is a violation with the cause of its rate (R128, R129, R144, R145,
R150, R152, R160, R161, R273). -/
def Obligations.GuestsAndRatesAreBounded : Prop :=
  ∀ (s : State) (l : Lane) (k : Pair), (s.b.lane l).pairs.length = 6 →
    let x := (s.b.lane l).pair k
    (s.b.pairsHeld = true → ∀ mode v, Becomes (.hgpridWrite l k mode v) s s.b) ∧
    (s.b.pairsHeld = false → ∀ mode v, ∃ b', Becomes (.hgpridWrite l k mode v) s b' ∧
      (mode = .hs → x.fifo.length < 2 → let y := (b'.lane l).pair k
        y.hgprid = Fin.ofNat 32 v.toNat ∧ y.main.instret = x.main.instret + 1 ∧ y.lines = [] ∧ y.units = [] ∧ y.result = .none ∧
        y.budgetIrq = false) ∧
      (mode = .u → (b'.lane l).pair k = { x with result := .illegalInstr }) ∧
      (mode ≠ .hs → mode ≠ .u → (b'.lane l).pair k = { x with result := .virtualInstr })) ∧
    (∀ (c : CoreSt) (i : Token), i.kind ≠ .halt → (c.step i).instret = c.instret + 1 ∧
      (i.virt = true → c.hgprid ≠ 0 → (c.step i).budget = setAt c.budget c.hgprid (c.budget.getD c.hgprid 0 - 1)) ∧
      (i.virt = false ∨ c.hgprid = 0 → (c.step i).budget = c.budget)) ∧
    (∀ (i : Token) held, i.kind = .ordinary → i.virt = true → i.guest = none → x.hgprid ≠ 0 → x.budget.length = 32 →
      x.budget.getD x.hgprid 0 ≤ 1 → x.fifo = [] → x.chk = x.main → (((s.b.retires l k i held).lane l).pair k).budgetIrq = true) ∧
    (x.fifo = [] → ∃ b', Becomes (.budgetPeriod l k) s b' ∧ let y := (b'.lane l).pair k
      (∀ p < 32, y.budget.getD p 0 = if p = 0 then 0 else (s.b.slice p).cores.getD k 0 * 16384) ∧ y.budgetIrq = false ∧
      y.main.instret = (x.main.instret / 2 ^ 20 + 1) * 2 ^ 20 ∧ (x.chk = x.main → y.chk = y.main)) ∧
    (x.hgprid = 0 → Becomes (.budgetExhausted l k) s s.b) ∧
    (x.hgprid ≠ 0 → x.budget.length = 32 → s.b.part.viol.length = 32 → x.fifo = [] → ∃ b', Becomes (.budgetExhausted l k) s b' ∧
      ((b'.lane l).pair k).budget.getD x.hgprid 0 = 0 ∧ ((b'.lane l).pair k).budgetIrq = true ∧
      (b'.viol x.hgprid).budgetTraps =
        if s.b.act = l then satNat 0xFFFFFFFF ((s.b.viol x.hgprid).budgetTraps + 1) else (s.b.viol x.hgprid).budgetTraps) ∧
    (s.b.serves l = true → let y := ((s.b.interrupts).lane l).pair k
      y.seip = (s.b.part.irq.getLsbD 0 && s.b.routed 0 k) ∧
      (∀ q, 1 ≤ q → q < 32 → y.hgeip.getLsbD q = (s.b.part.irq.getLsbD q && s.b.routed q k)) ∧
      (x.stalled.isSome = true → if y.takesIrq then y.stalled = none ∧ y.result = .fault else y.stalled = x.stalled)) ∧
    (∀ p < 32, s.b.part.irq.getLsbD p = true → s.b.routed p k = true →
      (∀ q < p, s.b.part.irq.getLsbD q = false ∨ s.b.routed q k = false) →
      s.b.csrRead l k .hs 0xEC1 = some (.done (leBytes 8 (32 + p)))) ∧
    (∀ csr ∈ [0x6C0, 0xEC0, 0xEC1], s.b.csrRead l k .u csr = some .illegalInstr ∧ s.b.csrRead l k .vs csr = some .virtualInstr ∧
      s.b.csrRead l k .vu csr = some .virtualInstr) ∧
    (s.b.anyServes = false → Becomes .rateWindowEnd s s.b) ∧
    (s.b.anyServes = true → s.b.part.rates.length = 32 → s.b.part.viol.length = 32 → ∃ b', Becomes .rateWindowEnd s b' ∧
      ∀ p : Prid, let r := s.b.rates p
        let above := decide (4 * s.b.p 0x1008 p + 1000 * s.b.p 0x1009 p < 1000 * r.mailWork)
        (b'.rates p).mailWork = 0 ∧ (b'.rates p).mailOver = (if above then r.mailOver + 1 else 0) ∧
        (above = true → r.mailOver = 10 → (s.b.slice p).phase ≠ .none → (b'.viol p).decided = true ∧
          (b'.viol p).addr = 0 ∧ ((b'.viol p).cause = 4 ∨ (b'.viol p).cause = 5 ∨ (b'.viol p).cause = 6)))

/-- An access through the bridge window, by a pair of a lane in service whose cores stand alike, inside the slice of a PRID that is not
frozen, the far lane in service and tokens left: a read that no line holds is sent and takes the far lane's bytes; a write retires with
both cores alike and stands in the far lane's memory, where no other byte changes; an AMO that finds the token free answers the old
bytes and leaves the result of its operation, whose functions the model takes from RV64 (log entry 98). Without the tokens it waits. A
misaligned access, one outside the slice, one of a frozen PRID and one without the far lane end as R427, R149, R152 and R428 say and
change no memory; in the hold of a cut none is made. A write whose comparison comes out unequal is a lane fault and changes no memory.
BRIDGE_RANGE_MARK takes effect at visibility (R147, R149, R152, R273, R287, R288, R292, R427, R428, R430, R436, R438). -/
def Obligations.BridgeReachesTheFarLane : Prop :=
  ∀ (s : State) (l : Lane) (k : Pair) (virt : Bool) (a n : Nat), s.mem.Wf → (s.b.lane l).pairs.length = 6 →
    s.b.serves l = true →
    let p := s.b.accPrid l k virt
    let x := (s.b.lane l).pair k
    let aligned := (n = 1 ∨ n = 2 ∨ n = 4 ∨ n = 8) ∧ a % n = 0
    let inside := (s.b.slice p).phase ≠ .none ∧ (s.b.slice p).holdsSram a n = true
    (s.b.pairsHeld = true → ∀ op, Becomes (.bridgeWindowAccess l k virt op a n) s s.b) ∧
    (s.b.pairsHeld = false → (s.b.lane l).broken.getLsbD k = false → x.fifo = [] →
      (∀ d, s.b.outputEqual l k (s.b.accToken l k virt (bridgeBase + a) n 1) = false → ∃ b',
        Becomes (.bridgeWindowAccess l k virt (.write d) a n) s b' ∧ (b'.lane l).st = 0 ∧
        (b'.lane l).aonCause = some (1, k.val)) ∧
      (x.chk = x.main → s.b.drainsRange p a n = false →
        (∀ op, ¬aligned → Becomes (.bridgeWindowAccess l k virt op a n) s (s.b.setResult l k .misaligned)) ∧
        (∀ op, aligned → ¬inside → ∃ b', Becomes (.bridgeWindowAccess l k virt op a n) s b' ∧
          ((b'.lane l).pair k).result = .fault) ∧
        (∀ op, aligned → inside → (s.b.slice p).frozen = true → ∃ b', Becomes (.bridgeWindowAccess l k virt op a n) s b' ∧
          ((b'.lane l).pair k).result = .stalled) ∧
        (∀ op, aligned → inside → (s.b.slice p).frozen = false → s.b.serves l.other = false →
          Becomes (.bridgeWindowAccess l k virt op a n) s (s.b.setResult l k .fault)) ∧
        (∀ op, aligned → inside → (s.b.slice p).frozen = false → s.b.serves l.other = true → (s.b.rates p).bridgeTok < 8 * n →
          ∃ b', Becomes (.bridgeWindowAccess l k virt op a n) s b' ∧ ((b'.lane l).pair k).result = .waits ∧
            ((b'.lane l).pair k).waits = some { prid := p, virt := virt, op := op, addr := a, size := n }) ∧
        (aligned → inside → (s.b.slice p).frozen = false → s.b.serves l.other = true → 8 * n ≤ (s.b.rates p).bridgeTok →
          s.b.part.rates.length = 32 → s.b.lineLocked l.other a = false →
          (∀ d, d.length = n → ∃ t, exec (.bridgeWindowAccess l k virt (.write d) a n) s = .next t ∧ t.mem.read l.other a n = d ∧
            ((t.b.lane l).pair k).result = .done [] ∧ ((t.b.lane l).pair k).fifo = [] ∧
            ((t.b.lane l).pair k).chk = ((t.b.lane l).pair k).main ∧
            ((t.b.lane l).pair k).main.instret = x.main.instret + 1 ∧
            (∀ y m, (y + m ≤ a ∨ a + n ≤ y) → t.mem.read l.other y m = s.mem.read l.other y m) ∧
            ∀ y m, t.mem.read l y m = s.mem.read l y m) ∧
          (s.b.heldLine l k a n = none → s.b.readRoom l k = true → ∃ t,
            exec (.bridgeWindowAccess l k virt .read a n) s = .next t ∧ ((t.b.lane l).pair k).result = .sent ∧
            ∃ r, t.b.bridge.reads.get l = s.b.bridge.reads.get l ++ [r] ∧ r.data = s.mem.read l.other a n ∧ r.pair = k) ∧
          (∀ o d, d.length = n → s.b.bridge.token = none → ∃ t, exec (.bridgeWindowAccess l k virt (.amo o d) a n) s = .next t ∧
            ((t.b.lane l).pair k).result = .done (s.mem.read l.other a n) ∧
            t.mem.read l.other a n = leBytes n (o.result n (leNat (s.mem.read l.other a n)) (leNat d)) ∧
            t.b.bridge.token = none)))) ∧
    (∀ q : Req, s.b.passes 0x6001 q = true → q.pay.length = 12 → byteAt q.pay 0 < 16 → byteAt q.pay 1 < 4 →
      zerosAt q.pay 2 2 = true → (byteAt q.pay 1).testBit 0 = false → fieldAt q.pay 4 4 = 0 → fieldAt q.pay 8 4 = 0 →
      AnswersFrom (.bridgeRangeMark q) s (s.b.heard q) (q.response 0x6001 .ok []
        (.mark ((byteAt q.pay 1).testBit 1) (byteAt q.pay 0) 0 0)))

/-- What ends at the bridge: a collected completion gives the core its bytes and an abandoned one is discarded; the oldest held line's
life ends it; a lock held for 2 us is released and counted; the oldest uncollected completion times out; a fence that orders reads
discards the pair's lines and completes, and none is made in the hold of a cut (R273, R429, R433, R436, R438, R440). -/
def Obligations.BridgeOperationsEnd : Prop :=
  ∀ (s : State) (l : Lane) (k : Pair), (s.b.lane l).pairs.length = 6 → ((s.b.lane l).pair k).fifo.length < 2 →
    (∀ r rest, s.b.bridge.reads.get l = r :: rest → r.pair = k → r.abandoned = false → r.lines = [] →
      ((s.b.lane l).pair k).lines = [] → ∃ b', Becomes (.bridgeCompletion l k true) s b' ∧
        ((b'.lane l).pair k).result = .done r.data ∧ b'.bridge.reads.get l = rest) ∧
    (s.b.bridge.reads.get l = [] → ∀ c, Becomes (.bridgeCompletion l k c) s s.b) ∧
    (∀ y t, ((s.b.lane l).pair k).lines = y :: t → (∀ z ∈ t, z.addr ≠ y.addr) → ∃ b', Becomes (.prefetchLifeExpiry l k) s b' ∧
      ((b'.lane l).pair k).lines = t) ∧
    (((s.b.lane l).pair k).lines = [] → Becomes (.prefetchLifeExpiry l k) s s.b) ∧
    (∀ h, s.b.bridge.token = some h → ∃ b', Becomes .lockExpiry s b' ∧ b'.bridge.token = none ∧
      b'.bridge.expired = satNat 0xFFFFFFFF (s.b.bridge.expired + 1)) ∧
    (s.b.bridge.token = none → Becomes .lockExpiry s s.b) ∧
    (∀ r t, s.b.bridge.uncollected.get l = r :: t → ∃ b', Becomes (.completionTimeout l) s b' ∧
      b'.bridge.uncollected.get l = t ∧ (s.b.act = l → b'.bridge.discards = satNat 0xFFFFFFFF (s.b.bridge.discards + 1))) ∧
    (s.b.pairsHeld = true → ∀ virt o, Becomes (.fence l k virt o) s s.b) ∧
    (s.b.pairsHeld = false → ∀ virt o, ∃ b', Becomes (.fence l k virt o) s b' ∧ (o.reads = true → ((b'.lane l).pair k).lines = []) ∧
      (o.writes = true → ((b'.lane l).pair k).result = .done []) ∧
      (o.reads = false → ((b'.lane l).pair k).lines = ((s.b.lane l).pair k).lines))

/-! ## Inputs, CAN, sleep and wake (08, 13, 14) -/

/-- A scan of an input in mode 1 to 3 takes the clamped voltage as the lane's sample, with the voltage classified and debounced; an edge timer's period
gives the frequency and the duty, the highest frequencies a fault (a value held in its range: log entry 119), and no edge for 2.5 s gives zero; a lane in reset or an input of
another mode takes nothing. INPUT_READ of inputs in use answers their records of 12 bytes in ascending order, and NOT_ACTIVE with
one that is not in use (R238, R242, R243, R244, R250). -/
def Obligations.InputsAreScannedAndRead : Prop :=
  ∀ (s : State) (l : Lane) (i : Input), (s.b.lane l).fronts.length = 48 →
    let f := (s.b.lane l).front i
    ((s.b.lane l).st ≠ 0 →
      (∀ mv, s.b.p 0x3001 i ≠ 0 → s.b.p 0x3001 i ≠ 4 → ∃ b' y, Becomes (.inputScan l i mv) s b' ∧
        ((b'.lane l).front i).sample = some y ∧ y.value = clampInt 0 36000 mv ∧ y.age = 0 ∧
        y.state = ((b'.lane l).front i).state ∧ ((b'.lane l).front i).stamp = (s.b.lane l).timeWords ∧
        (f.first = true → ((b'.lane l).front i).state = (s.b.classify i f.state mv.toNat).1)) ∧
      (s.b.p 0x3001 i = 4 →
        (∀ period high, period ≠ 0 → ∃ b' y, Becomes (.edgeTimerPeriod l i period high) s b' ∧
          ((b'.lane l).front i).sample = some y ∧ y.value = ((min 2000000 (2500000000 / period) : Nat) : Int) ∧
          y.duty = min 1000 (1000 * high / period) ∧ ((b'.lane l).front i).fast = decide (period < 1250)) ∧
        (∃ b' y, Becomes (.edgeTimeout l i) s b' ∧ ((b'.lane l).front i).sample = some y ∧ y.value = 0 ∧ y.duty = 0))) ∧
    ((s.b.lane l).st = 0 → (∀ mv, Becomes (.inputScan l i mv) s s.b) ∧ Becomes (.edgeTimeout l i) s s.b) ∧
    (∀ q : Req, s.b.passes 0x3001 q = true → q.pay.length = 8 → zerosAt q.pay 6 2 = true →
      12 * (bitIdx 48 (fieldAt q.pay 0 8)).length ≤ q.room →
      ((∃ j ∈ bitIdx 48 (fieldAt q.pay 0 8), s.b.p 0x3001 j = 0) →
        AnswersFrom (.inputRead q) s (s.b.heard q) (q.response 0x3001 .notActive [] .none)) ∧
      ((∀ j ∈ bitIdx 48 (fieldAt q.pay 0 8), s.b.p 0x3001 j ≠ 0) → ∃ pay,
        AnswersFrom (.inputRead q) s (s.b.heard q) (q.response 0x3001 .ok pay .none) ∧
        pay.length = 12 * (bitIdx 48 (fieldAt q.pay 0 8)).length ∧
        ∀ j < (bitIdx 48 (fieldAt q.pay 0 8)).length, byteAt pay (12 * j) = (bitIdx 48 (fieldAt q.pay 0 8)).getD j 0))

/-- CAN requests. CAN_SEND of a well-formed frame without MAC on a bus in mode 2 puts it behind the frames waiting in the active
lane's controller and answers OK; with a full queue it is NO_RESOURCE, on a bus in another mode NOT_ACTIVE. CAN_FILTER_SET takes
effect at visibility. CAN_READ hands out the oldest frames of the partition's queue up to the number asked and removes them (R384,
R388, R389, R396, R398). -/
def Obligations.CanRequestsAnswer : Prop :=
  ∀ (s : State) (q : Req) (i : Bus), byteAt q.pay 0 = i.val →
    (s.b.passes 0x5001 q = true → s.b.canSendOk q.pay = true → byteAt q.pay 3 = 0 → s.b.standby? = none →
      (s.b.lane s.b.act).can.length = 12 →
      (s.b.canMode i ≠ 2 → AnswersFrom (.canSend q) s (s.b.heard q) (q.response 0x5001 .notActive [] .none)) ∧
      (s.b.canMode i = 2 → s.b.p 0x5011 i ≤ ((s.b.lane s.b.act).ctl i).tx.length →
        AnswersFrom (.canSend q) s (s.b.heard q) (q.response 0x5001 .noResource [] .none)) ∧
      (s.b.canMode i = 2 → ((s.b.lane s.b.act).ctl i).tx.length < s.b.p 0x5011 i → ((s.b.lane s.b.act).ctl i).busOff = false →
        ∃ b1 : Block, AnswersFrom (.canSend q) s b1 (q.response 0x5001 .ok [] .none) ∧
          ((b1.lane s.b.act).ctl i).tx = ((s.b.lane s.b.act).ctl i).tx ++
            [{ frame := canFrameOf q.pay, tries := 0, prid := some (Fin.ofNat 32 q.path.prid), final := false }])) ∧
    (s.b.passes 0x5003 q = true → q.pay.length = 16 → byteAt q.pay 1 < 16 → byteAt q.pay 2 < 16 →
      (byteAt q.pay 2).testBit 0 = false → [0, 4, 8, 12, 16].contains (canFilterOf q.pay).maclen = true →
      (canFilterOf q.pay).ident < 2 ^ 11 → (canFilterOf q.pay).mask < 2 ^ 29 → (canFilterOf q.pay).ctx = 0 →
      zerosAt q.pay 14 2 = true → AnswersFrom (.canFilterSet q) s (s.b.heard q) (q.response 0x5003 .ok []
        (.canFilter (Fin.ofNat 32 q.path.prid) i (byteAt q.pay 1) none))) ∧
    (s.b.passes 0x5002 q = true → q.pay.length = 4 → 1 ≤ byteAt q.pay 1 → byteAt q.pay 1 ≤ 56 → zerosAt q.pay 2 2 = true →
      8 + 72 * byteAt q.pay 1 ≤ q.room →
      (s.b.canMode i = 0 → AnswersFrom (.canRead q) s (s.b.heard q) (q.response 0x5002 .notActive [] .none)) ∧
      (s.b.canMode i ≠ 0 → s.b.can.length = 12 → ∀ fs drops, (s.b.bus i).queues = [(q.path.prid, fs, drops)] →
        (∀ f ∈ fs, f.epoch ≤ q.stamp ∧ f.frame.data.length ≤ 64) → ∃ (b1 : Block) (pay : List Byte),
        AnswersFrom (.canRead q) s b1 (q.response 0x5002 .ok pay .none) ∧
        fieldAt pay 0 2 = min (byteAt q.pay 1) fs.length ∧
        (b1.bus i).queues = [(q.path.prid, fs.drop (byteAt q.pay 1), 0)]))

/-- A controller that works sends the frame of lowest arbitration field and takes it off its queue, keeps a frame whose try failed
until its tries are used up, discards everything at bus-off and comes back with both counters at 0; the error counters follow a bus
error, and a dominant timeout is an event of the bus. A frame that arrives and is no echo enters the lane's items when a filter of
the bus matches (R391, R392, R395, R396, R399, R401, R403). -/
def Obligations.CanControllersWork : Prop :=
  ∀ (s : State) (l : Lane) (i : Bus), (s.b.lane l).can.length = 12 → s.b.can.length = 12 →
    let c := (s.b.lane l).ctl i
    (s.b.canWorks l i = true →
      (∀ t, c.tx = [t] → t.final = false → ∃ b', Becomes (.canFrameSent l i) s b' ∧ ((b'.lane l).ctl i).tx = [] ∧
        ((b'.lane l).ctl i).frames = c.frames + 1 ∧ ((b'.lane l).ctl i).recent.head? = some (t.frame, s.b.mod.epoch)) ∧
      (∀ t, c.tx = [t] → ∃ b', Becomes (.canTryFailed l i false) s b' ∧ ((b'.lane l).ctl i).tx =
        if t.tries + 1 < s.b.p 0x5010 i then [{ t with tries := t.tries + 1 }] else []) ∧
      (∃ b', Becomes (.busOff l i) s b' ∧ ((b'.lane l).ctl i).tx = [] ∧ ((b'.lane l).ctl i).busOff = true ∧
        ((b'.lane l).ctl i).busOffs = satNat 0xFFFFFFFF (c.busOffs + 1)) ∧
      (∀ tec rec, ∃ b', Becomes (.canBusError l i tec rec) s b' ∧ ((b'.lane l).ctl i).txErr = satNat 255 tec ∧
        ((b'.lane l).ctl i).rxErr = satNat 128 rec ∧ ((b'.lane l).ctl i).tx = c.tx)) ∧
    (s.b.canWorks l i = false → Becomes (.canFrameSent l i) s s.b ∧ Becomes (.canTryFailed l i true) s s.b ∧
      Becomes (.busOff l i) s s.b) ∧
    (c.busOff = true → ∃ b', Becomes (.busOffRecovery l i) s b' ∧ ((b'.lane l).ctl i).busOff = false ∧
      ((b'.lane l).ctl i).txErr = 0 ∧ ((b'.lane l).ctl i).rxErr = 0) ∧
    (s.b.runs l = true → s.b.canMode i ≠ 0 → s.b.ev.lastSec = [] → ∃ b', Becomes (.dominantTimeout l i) s b' ∧
      b'.ev.items = s.b.ev.items ++ [s.b.evRec l (209 + 2 * i) 5 i (c.err : Int)]) ∧
    (∀ f e, 2 ≤ (s.b.lane l).st → s.b.canMode i = 1 → c.busOff = false → c.tx = [] → c.recent = [] → c.countsFrom ≤ s.b.mod.epoch →
      (s.b.bus i).filters = [e] →
      ∃ b', Becomes (.canFrameReceived l i f) s b' ∧ (b'.lane l).own =
        if e.2.2.hits f then (s.b.lane l).own ++ [{ epoch := s.b.mod.epoch, body := .can i f }] else (s.b.lane l).own)

/-- The way to sleep and back: SLEEP_REQUEST answers PENDING and enters state 1, or is BUSY while a partition holds the module awake or
a sequence runs; SLEEP_CANCEL and a wake request end state 1; WAKE_HOLD sets and clears its partition's bit. In state 2 the completed
power-down, once every die may go down, enters state 3 with both lanes in reset and INH off, and starts anew at once when a wake
request was latched; in state 3 an enabled source starts the module. No acknowledgement in time returns it to sleep, with the
wake-coordination link failed the domain's own lane alone; no traffic in time is a false wake (R51, R85, R86, R405, R406, R413,
R414, R415, R416, R418, R419, R420, R422, R423). -/
def Obligations.TheModuleSleepsAndWakes : Prop :=
  ∀ (s : State) (q : Req), q.pay.length = 4 →
    (let r := q.withByte 0 0
     s.b.passes 0x5801 r = true → zerosAt r.pay 1 3 = true → byteAt r.pay 0 = 0 →
      (s.b.nw.state = 1 ∨ s.b.nw.state = 2 ∨ s.b.nw.holds ≠ 0 →
        AnswersFrom (.sleepRequest q) s (s.b.heard r) (r.response 0x5801 .busy [] .none)) ∧
      (s.b.nw.state = 0 → s.b.nw.holds = 0 → ∃ b', Becomes (.sleepRequest q) s b' ∧ b'.nw.state = 1 ∧
        b'.mail.pend = s.b.mail.pend ++ [{ req := r, opcode := 0x5801, kind := .sleep, epoch := s.b.taken.1, told := true }])) ∧
    (let r := q.withByte 0 1
     s.b.passes 0x5801 r = true → zerosAt r.pay 1 3 = true → byteAt r.pay 0 = 1 → ∃ b1 : Block,
      AnswersFrom (.sleepCancel q) s b1 (r.response 0x5801 .ok [] .none) ∧ (s.b.nw.state = 1 → b1.nw.state = 0)) ∧
    (∀ on, s.b.passes 0x5802 q = true → zerosAt q.pay 1 3 = true → byteAt q.pay 0 = on → on ≤ 1 → ∃ b1 : Block,
      AnswersFrom (.wakeHold q) s b1 (q.response 0x5802 .ok [] .none) ∧
      b1.nw.holds = (if on = 1 then s.b.nw.holds ||| BitVec.ofNat 32 (2 ^ q.path.prid)
        else s.b.nw.holds &&& ~~~ (BitVec.ofNat 32 (2 ^ q.path.prid)))) ∧
    (s.b.nw.state = 2 → (∀ d ∈ s.b.dies, d.mayGoDown = true) → ∃ b', Becomes .powerDownComplete s b' ∧ (∀ l, (b'.lane l).st = 0) ∧
      (∀ d ∈ b'.dies, d.powered = false) ∧ (b'.nw.state = if s.b.nw.latched.isSome then 4 else 3) ∧
      (s.b.nw.latched = none → b'.inh = false ∧ ∀ l, (b'.lane l).asleep = true)) ∧
    (s.b.nw.state ≠ 2 ∨ (∃ d ∈ s.b.dies, d.mayGoDown = false) → Becomes .powerDownComplete s s.b) ∧
    (∀ d : DieSt, d.powered = true → d.offSince = none → (∃ c ∈ d.chans, c.phase.isOff = false) → d.mayGoDown = false) ∧
    (∀ dom src, (s.b.wakeCode dom src).isSome = true → s.b.nw.state = 3 → ∃ b', Becomes (.wakeSource dom src) s b' ∧
      b'.nw.state = 4 ∧ (b'.lane dom).domFirst.isSome = true) ∧
    (∀ dom src, s.b.wakeCode dom src = none → Becomes (.wakeSource dom src) s s.b) ∧
    (s.b.nw.state = 1 → ∃ b', Becomes .wakePin s b' ∧ b'.nw.state = 0 ∧ b'.nw.confirmed = true) ∧
    (s.b.nw.state = 4 → s.b.nw.linkFailed = false → (∀ l, (s.b.lane l).wakeAck = false) → s.otp.lifecycle ≠ .blank → ∀ dom,
      ∃ b', Becomes (.wakeAckTimeout dom) s b' ∧ b'.nw.state = 3 ∧ b'.nw.ackFailed = satNat 0xFFFFFFFF (s.b.nw.ackFailed + 1)) ∧
    (s.b.nw.state = 4 → s.b.nw.linkFailed = true → s.otp.lifecycle ≠ .blank → ∀ dom, (s.b.lane dom).wakeAck = false →
      (s.b.lane dom).asleep = false → (s.b.lane dom.other).asleep = false → ∃ b', Becomes (.wakeAckTimeout dom) s b' ∧
        b'.nw.state = 4 ∧ (b'.lane dom).st = 0 ∧ (b'.lane dom).asleep = true ∧ (b'.lane dom.other).asleep = false) ∧
    (s.b.nw.state = 0 → s.b.nw.confirmed = false → s.b.anyServes = true → ∃ b', Becomes .noTrafficTimeout s b' ∧
      b'.nw.state = 1 ∧ b'.nw.falseCount = satNat 0xFFFFFFFF (s.b.nw.falseCount + 1)) ∧
    (s.b.nw.confirmed = true → Becomes .noTrafficTimeout s s.b) ∧
    Becomes .wakeCoordinationLinkFail s (s.b.modNw fun n => { n with linkFailed := true }) ∧
    (∀ (n : Fin 14) node r, s.b.nw.state = 1 → s.b.nw.awake = [r] → r.network = n.val → r.node = node → s.b.nw.log = [] →
      ∃ b', Becomes (.keepawakeThreshold n node) s b' ∧ ∃ e, b'.nw.log = [e] ∧ e.running = true ∧ e.start = r.start ∧ e.node = node)

/-- A wake-enabled input that two consecutive checks of a sleeping module find at another level than at sleep entry starts the module;
one check at the recorded level begins anew, and a failed domain makes none. The module's NM frame goes to each NM bus that has not committed; at nw.nm.timeout
with no other node heard the final frame follows, and where that one has not been sent in time the bus commits without it (R252, R253, R407,
R411, R412, R413). -/
def Obligations.NetworksAreManaged : Prop :=
  ∀ (s : State), s.b.inputs.length = 48 → s.b.can.length = 12 →
    (∀ dom (i : Input) mv, (s.b.lane dom).aonFault = true → Becomes (.wakeInputCheck dom i mv) s s.b) ∧
    (∀ dom (i : Input) mv level, s.b.nw.state = 3 → s.b.wakeInput i = true → (s.b.lane dom).aonFault = false →
      (mv < (s.b.input i).wakeLow ∧ level = false) ∨ ((s.b.input i).wakeLow ≤ mv ∧ (s.b.input i).wakeHigh < mv ∧ level = true) →
      (level = (s.b.input i).atSleep → ∃ b', Becomes (.wakeInputCheck dom i mv) s b' ∧ (b'.input i).wakeRun.get dom = 0 ∧
        b'.nw.state = 3) ∧
      (level ≠ (s.b.input i).atSleep → (s.b.input i).wakeRun.get dom = 0 → ∃ b', Becomes (.wakeInputCheck dom i mv) s b' ∧
        (b'.input i).wakeRun.get dom = 1 ∧ b'.nw.state = 3) ∧
      (level ≠ (s.b.input i).atSleep → (s.b.input i).wakeRun.get dom = 1 → ∃ b', Becomes (.wakeInputCheck dom i mv) s b' ∧
        b'.nw.state = 4)) ∧
    (∀ (i : Bus) l, s.b.nmBuses = [i.val] → (s.b.bus i).committed = false → (s.b.bus i).finalSent = false → s.b.nw.state ≤ 1 →
      s.b.serving = [l] → (s.b.lane l).can.length = 12 → ((s.b.lane l).ctl i).busOff = false → ∃ b', Becomes .nmCycle s b' ∧
        ((b'.lane l).ctl i).tx = ((s.b.lane l).ctl i).tx ++
          [{ frame := s.b.nmFrame (s.b.nw.state == 0) false, tries := 0, prid := none, final := false }]) ∧
    (2 ≤ s.b.nw.state → Becomes .nmCycle s s.b) ∧
    (∀ i : Bus, s.b.nw.state = 1 → s.b.nmBus i = true → (s.b.bus i).committed = false →
      ((s.b.bus i).finalSent = true → ∃ b', Becomes (.nmTimeout i) s b' ∧ (b'.bus i).committed = true) ∧
      ((s.b.bus i).finalSent = false → s.b.busReady i = true → ∃ b', Becomes (.nmTimeout i) s b' ∧ (b'.bus i).finalSent = true ∧
        (b'.bus i).committed = false) ∧
      ((s.b.bus i).finalSent = false → s.b.busReady i = false → Becomes (.nmTimeout i) s s.b))

/-! ## Keys, cipher, images and faults (16, 17, 18, 19) -/

/-- Key requests. A KEY_LOAD of a wrapped key that the slot allows and whose owner, life cycle, alarms and generations are right takes
a free slot at visibility, is BUSY on an occupied one, TAMPER_ABORT under a glitch, STALE_GENERATION with other generations and
BAD_CHECK when the blob does not authenticate; an import and a KEY_REPLACE go on behind PENDING. KEY_DESTROY advances the node's
generation and the one-time counter; KEY_EVICT wipes a slot at visibility, 254 and 255 excepted. A key operation that ends answers
its request, and a replacement whose self-test passed swaps at the boundary (R447, R450, R454, R455, R456, R458, R459). -/
def Obligations.KeysAreLoadedAndDestroyed : Prop :=
  ∀ (s : State) (q : Req), s.b.keys.slots.length = 256 → s.b.keys.gens.length = 41 →
    (∀ i, fieldAt q.pay 0 2 = i → keyPayOk q.pay = true → slotAllows false i = true →
      s.b.ownerFits i (byteAt (keyBody q.pay) 9) = true → s.b.keyLocked (keyBody q.pay) = false → s.b.passes 0x7001 q = true →
      4 + 48 + 96 ≤ q.room →
      (s.b.keyGlitch = true → AnswersFrom (.keyLoad q) s (s.b.heard q) (q.response 0x7001 .tamperAbort [] .none)) ∧
      (s.b.keyGlitch = false → s.b.keyStale (keyBody q.pay) = true →
        AnswersFrom (.keyLoad q) s (s.b.heard q) (q.response 0x7001 .staleGeneration [] .none)) ∧
      (s.b.keyGlitch = false → s.b.keyStale (keyBody q.pay) = false →
        (byteAt q.pay 2 = 0 →
          (s.b.keys.unwrap (keyBody q.pay) = none →
            AnswersFrom (.keyLoad q) s (s.b.heard q) (q.response 0x7001 .badCheck [] .none)) ∧
          ∀ key, s.b.keys.unwrap (keyBody q.pay) = some key →
            (s.b.slotOccupied i = true → AnswersFrom (.keyLoad q) s (s.b.heard q) (q.response 0x7001 .busy [] .none)) ∧
            (s.b.slotOccupied i = false → AnswersFrom (.keyLoad q) s (s.b.heard q)
              (q.response 0x7001 .ok (keyReply i []) (.keyLoad i (keyOf (keyBody q.pay) key))))) ∧
        (byteAt q.pay 2 = 1 → ∀ key, s.b.keys.import (keyBody q.pay) = some key → s.b.slotOccupied i = false →
          HoldsFrom (.keyLoad q) s (s.b.heard q) q 0x7001 (.keyImport i (keyOf (keyBody q.pay) key)
            (s.b.keys.wrap ((keyBody q.pay).take 16) key)) true))) ∧
    (∀ i key, fieldAt q.pay 0 2 = i → keyPayOk q.pay = true → byteAt q.pay 2 = 0 → slotAllows true i = true →
      s.b.ownerFits i (byteAt (keyBody q.pay) 9) = true → s.b.keyLocked (keyBody q.pay) = false → s.b.keyGlitch = false →
      s.b.keyStale (keyBody q.pay) = false → s.b.keys.unwrap (keyBody q.pay) = some key → s.b.passes 0x7002 q = true →
      4 ≤ q.room → s.b.keys.shadows < 4 → i < 256 → (s.b.slot i).type ≠ 0 → (s.b.slot i).type = (keyOf (keyBody q.pay) key).type →
      (s.b.slot i).owner = (keyOf (keyBody q.pay) key).owner → (s.b.slot i).uses = (keyOf (keyBody q.pay) key).uses →
      ∃ b1 : Block, HoldsFrom (.keyReplace q) s b1 q 0x7002 (.keyReplace i (keyOf (keyBody q.pay) key) [] false) true ∧
        b1.keys.shadows = s.b.keys.shadows + 1 ∧ b1.slot i = { s.b.slot i with replacing := true }) ∧
    (∀ n, byteAt q.pay 0 = n → q.pay.length = 4 → zerosAt q.pay 1 3 = true → 4 ≤ q.room → (n = 2 ∨ tenantNode n = true) →
      s.b.passes 0x7003 q = true → s.b.keys.life ≠ .retired →
      (s.otp.destroyed < 1024 → ∃ t, exec (.keyDestroy q) s = .next t ∧ t.b.keys.gen n = s.b.keys.gen n + 1 ∧
        t.otp.destroyed = s.otp.destroyed + 1 ∧
        q.response 0x7003 .ok (leBytes 2 (s.b.keys.gen n + 1).toNat ++ zeroBytes 2) (.keyDestroy n) ∈ t.b.mail.done) ∧
      (1024 ≤ s.otp.destroyed → ∃ t, exec (.keyDestroy q) s = .next t ∧ t.otp = s.otp ∧ t.b.keys = s.b.keys ∧
        q.response 0x7003 .locked [] .none ∈ t.b.mail.done)) ∧
    (∀ i, fieldAt q.pay 0 2 = i → q.pay.length = 4 → zerosAt q.pay 2 2 = true → s.b.passes 0x7004 q = true →
      s.b.keys.life ≠ .retired →
      (i < 254 → AnswersFrom (.keyEvict q) s (s.b.heard q) (q.response 0x7004 .ok [] (.keyEvict i))) ∧
      (i = 254 ∨ i = 255 → AnswersFrom (.keyEvict q) s (s.b.heard q) (q.response 0x7004 .denied [] .none))) ∧
    (∀ (slot : Fin 255) e k blob, s.b.mail.pend = [e] →
      (e.kind = .keyImport slot.val k blob → ∃ b', Becomes (.keyOperationDone slot) s b' ∧ b'.mail.pend = [] ∧
        e.req.answer e.opcode .ok (keyReply slot.val blob) (.keyLoad slot.val k) true true ∈ b'.mail.done) ∧
      (e.kind = .keyReplace slot.val k blob false → ∃ b', Becomes (.keyOperationDone slot) s b' ∧
        (Config.selfTestOk k.material = true → b'.mail.pend = [{ e with kind := .keyReplace slot.val k blob true }]) ∧
        (Config.selfTestOk k.material = false → b'.mail.pend = [] ∧ b'.keys.shadows = s.b.keys.shadows - 1 ∧
          e.req.answer e.opcode .badCheck [] .none true true ∈ b'.mail.done)) ∧
      (e.kind = .keyReplace slot.val k blob true → slot.val < 240 → s.b.keySwaps.slot slot.val = k ∧
        s.b.keySwaps.mail.pend = [])) ∧
    (s.b.mail.pend = [] → ∀ slot, Becomes (.keyOperationDone slot) s s.b)

/-- Alarms and the life cycle. An alarm outside sleep is counted with its cause and waits; at its boundary an intrusion blocks loads and
wipes every slot below 240, a glitch suspends key service until the condition is clear. TAMPER_ACK without a condition present
unblocks at visibility. LIFECYCLE_SET of an allowed step answers PENDING, of another one LOCKED; once both writes are complete the new state
stands in one-time memory and the request ends OK (R114, R460, R461, R463, R464,
R466, R468). -/
def Obligations.AlarmsAndLifeCycle : Prop :=
  ∀ (s : State) (q : Req) (l : Lane),
    (∀ k, s.b.nw.state ≠ 3 → ∃ b', Becomes (.tamperAlarm l k) s b' ∧ b'.keys.alarms = satNat 0xFFFFFFFF (s.b.keys.alarms + 1) ∧
      b'.keys.cause = k.code ∧ (b'.lane l).tamperCode = k.code ∧ b'.keys.pendingAlarm.isSome = true ∧
      b'.keys.slots = s.b.keys.slots) ∧
    (∀ e, s.b.keys.pendingAlarm = some (true, e) → e < s.b.mod.epoch → s.b.keys.slots.length = 256 →
      s.b.alarmNow.keys.blocked = true ∧ s.b.alarmNow.keys.state = 3 ∧ s.b.alarmNow.keys.pendingAlarm = none ∧
      ∀ i < 240, s.b.alarmNow.slot i = KeySlot.empty) ∧
    (∀ e, s.b.keys.pendingAlarm = some (false, e) → e < s.b.mod.epoch → s.b.keys.state = 0 →
      s.b.alarmNow.keys.state = 1 ∧ s.b.alarmNow.keys.blocked = s.b.keys.blocked) ∧
    (s.b.keys.state = 1 → ∃ b', Becomes .glitchClear s b' ∧ b'.keys.state = 0 ∧ ∀ k, (b'.lane k).glitchPresent = false) ∧
    (s.b.keys.state = 0 → ∃ b', Becomes .glitchClear s b' ∧ b'.keys = s.b.keys) ∧
    (s.b.passes 0x7005 q = true → q.pay.length = 4 → byteAt q.pay 0 = 1 → zerosAt q.pay 1 3 = true →
      (∀ k, (s.b.lane k).intrusionPresent = false) →
      AnswersFrom (.tamperAck q) s (s.b.heard q) (q.response 0x7005 .ok [] .tamperAck)) ∧
    ((s.b.effect .tamperAck).keys.blocked = false ∧ ∀ k, ((s.b.effect .tamperAck).lane k).intrusionPresent = false) ∧
    (s.b.passes 0x8020 q = true → q.pay.length = 4 → byteAt q.pay 0 ≤ 4 → zerosAt q.pay 1 3 = true →
      (lifeStep s.b.keys.life (byteAt q.pay 0) = true →
        HoldsFrom (.lifecycleSet q) s (s.b.heard q) q 0x8020 (.lifecycle (byteAt q.pay 0)) true) ∧
      (lifeStep s.b.keys.life (byteAt q.pay 0) = false →
        AnswersFrom (.lifecycleSet q) s (s.b.heard q) (q.response 0x8020 .locked [] .none))) ∧
    (∀ e n t, s.b.mail.pend = [e] → e.kind = .lifecycle n → lifecycleOf? n = some t → ∃ u,
      exec .lifecycleWritten s = .next u ∧ u.otp = { s.otp with lifecycle := t } ∧ u.b.mail.pend = [] ∧
      e.req.answer e.opcode .ok [] .lifeRestart true true ∈ u.b.mail.done) ∧
    (s.b.mail.pend = [] → exec .lifecycleWritten s = .next s)

/-- The cipher engine and external storage. A context that passes its checks takes its place at visibility under its key's check value;
a GCM encryption takes the next counter value and never the last one, and starts once its partition has the tokens, or a full bucket,
and a core is free (log entry 116); an operation on a core that ends writes its output into both lanes' memory or, when its tag is
wrong, nothing. Storage requests inside the partition's XTS ranges pend until the devices are done,
and then the ended request is answered; a core reads a range that its slice does not hold as an access fault, and so does a core of a lane
without a device. CIPHER_CTX_FREE takes
effect at visibility (R52, R147, R273, R472, R473, R474, R475, R477, R478, R480, R481, R484). -/
def Obligations.CipherAndStorageRun : Prop :=
  ∀ (s : State) (q : Req), s.b.cipher.ctxs.length = 256 →
    let share := s.b.part.ciSched.credit.length = 32 ∧ 0 < s.b.p 0x1002 q.path.prid ∧ s.b.part.rates.length = 32
    let starts := fun (n : Nat) => !(s.b.slice q.path.prid).frozen &&
      decide (min (8 * n) (s.b.p 0x100B q.path.prid * 8192) ≤ (s.b.rates q.path.prid).cipherTok)
    (let i := fieldAt q.pay 0 2
     let c := ctxOfBytes (bytesAt q.pay 4 48)
     let k := s.b.slot c.slot
     s.b.passes 0x7801 q = true → q.pay.length = 52 → i < 240 → zerosAt q.pay 2 2 = true → ctxBytesOk (bytesAt q.pay 4 48) = true →
      48 ≤ q.room → ∀ h, s.b.ctxHolder? i = some h → inCounts (s.b.slice h).slots c.slot = true → c.mode = 1 ∨ c.mode = 2 →
      (k.type = 0 → AnswersFrom (.cipherCtxSet q) s (s.b.heard q) (q.response 0x7801 .badParam [] .none)) ∧
      (k.type ≠ 0 → modeFits c.mode k = true → counterOk (s.b.ctxAhead i) c k.kcv = true →
        let new := { c with kcv := k.kcv, ops := (s.b.ctxAhead i).ops, tagFails := (s.b.ctxAhead i).tagFails }
        AnswersFrom (.cipherCtxSet q) s (s.b.heard q) (q.response 0x7801 .ok new.bytes (.ctxSet i new)))) ∧
    (s.b.passes 0x7803 q = true → q.pay.length = 4 → fieldAt q.pay 0 2 < 240 → zerosAt q.pay 2 2 = true →
      AnswersFrom (.cipherCtxFree q) s (s.b.heard q) (q.response 0x7803 .ok [] (.ctxFree (fieldAt q.pay 0 2)))) ∧
    (let i := fieldAt q.pay 0 2
     let c := s.b.ctx i
     s.b.passes 0x7802 q = true → cipherPayOk q.pay = true → byteAt q.pay 2 = 0 → 12 ≤ byteAt q.pay 3 → 32 ≤ q.room →
      s.b.cipherLocked = false → c.mode = 1 → cipherUseOk (s.b.slot c.slot) 1 0 = true →
      (s.b.slice q.path.prid).holdsSram (fieldAt q.pay 20 8) (fieldAt q.pay 4 4) = true →
      (c.counter ≠ c.top → s.b.mail.pend = [] → share → let n := fieldAt q.pay 4 4
        ∃ b', Becomes (.cipherRun q) s b' ∧ (b'.ctx i).counter = c.counter + 1 ∧
          b'.mail.pend = [{ req := q, opcode := 0x7802, epoch := s.b.taken.1, told := s.b.taken.2,
                            kind := .cipher i (s.b.slot c.slot).material (c.iv i) (starts n) }] ∧
          (b'.rates q.path.prid).cipherTok = (s.b.rates q.path.prid).cipherTok - (if starts n then 8 * n else 0)) ∧
      (c.counter = c.top → ∃ b1 : Block, AnswersFrom (.cipherRun q) s b1 (q.response 0x7802 .nonceExhausted [] .none) ∧
        (b1.ctx i).counter = c.counter)) ∧
    (∀ (i : Fin 240) e key iv, s.b.mail.pend = [e] → e.kind = .cipher i.val key iv false →
      Becomes (.cipherOperationDone i) s s.b) ∧
    (∀ (i : Fin 240) e key iv, s.b.mail.pend = [e] → e.kind = .cipher i.val key iv true →
      ((s.b.slice e.req.path.prid).frozen = true → Becomes (.cipherOperationDone i) s s.b) ∧
      ((s.b.slice e.req.path.prid).frozen = false → iv ≠ [] → byteAt e.req.pay 2 = 0 → s.b.anyServes = true →
        s.mem.Wf →
        ∃ t, exec (.cipherOperationDone i) s = .next t ∧ t.b.mail.pend = [] ∧ (t.b.ctx i).ops = (s.b.ctx i).ops + 1 ∧
          ∀ l, s.b.serves l = true → t.mem.read l (fieldAt e.req.pay 20 8) (fieldAt e.req.pay 4 4) =
            Config.gcmText key iv (s.mem.read l (fieldAt e.req.pay 12 8) (fieldAt e.req.pay 4 4)))) ∧
    (s.b.mail.pend = [] → ∀ i p, Becomes (.cipherOperationDone i) s s.b ∧ Becomes (.storageDeviceDone p) s s.b) ∧
    (let off := fieldAt q.pay 0 4
     let len := fieldAt q.pay 4 4
     q.pay.length = 16 → s.b.xtsHolds q.path.prid off len = true → s.b.cipherLocked = false →
      (off % 4096 = 0 → len % 4096 = 0 → 4096 ≤ len → len ≤ 65536 → s.b.passes 0x7810 q = true →
        (s.b.deviceThere = false → AnswersFrom (.storageWrite q) s (s.b.heard q) (q.response 0x7810 .notActive [] .none)) ∧
        (s.b.deviceThere = true → s.b.mail.pend = [] → share → ∃ b' data, Becomes (.storageWrite q) s b' ∧
          b'.mail.pend = [{ req := q, opcode := 0x7810, epoch := s.b.taken.1, told := s.b.taken.2,
                            kind := .storage true off len data (starts len) }])) ∧
      (off % granule = 0 → len % granule = 0 → granule ≤ len → zerosAt q.pay 8 8 = true → s.b.passes 0x7811 q = true →
        (s.b.deviceThere = false → AnswersFrom (.storageErase q) s (s.b.heard q) (q.response 0x7811 .notActive [] .none)) ∧
        (s.b.deviceThere = true → HoldsFrom (.storageErase q) s (s.b.heard q) q 0x7811 (.storage false off len [] true) false))) ∧
    (∀ (p : Prid) e off len, s.b.mail.pend = [e] → e.kind = .storage false off len [] true → e.req.path.prid = p.val →
      ∃ t, exec (.storageDeviceDone p) s = .next t ∧ t.b.mail.pend = [] ∧ t.mem.sram = s.mem.sram ∧
        e.req.answer e.opcode .ok [] .none true true ∈ t.b.mail.done ∧
        ∀ l x, s.b.serves l = true → (s.b.lane l).device = true → s.mem.Wf → off ≤ x → x < off + len → t.mem.readExt l x 1 = [0xFF]) ∧
    (∀ l (k : Pair) virt x n, s.b.serves l = true → (s.b.lane l).pairs.length = 6 → x + n ≤ storageSize → s.b.pairsHeld = false →
      ((s.b.lane l).pair k).fifo.length < 2 →
      let h := s.b.slice (s.b.accPrid l k virt)
      (h.holdsStorage x n = false ∨ (s.b.lane l).device = false ∧ h.frozen = false → ∃ b',
        Becomes (.externalStorageRead l k virt x n) s b' ∧ ((b'.lane l).pair k).result = .fault) ∧
      (∀ data, h.holdsStorage x n = true → h.phase ≠ .none → h.frozen = false → (s.b.lane l).device = true →
        ((s.b.lane l).pair k).units = [(x / 4096, data)] → (x + n - 1) / 4096 = x / 4096 → ∃ b',
        Becomes (.externalStorageRead l k virt x n) s b' ∧ ((b'.lane l).pair k).result = .done (bytesAt data (x % 4096) n) ∧
        ((b'.lane l).pair k).units = [(x / 4096, data)]))

/-- Firmware images. UPDATE_BEGIN with a payload of its form is BUSY in an update or a restart, else discards what the staging slot of
each lane that runs holds and erases it; a background erase that ends makes it ready; a block
with a right check value, inside the declared length and not yet written otherwise, is written into the slots of the lanes that run;
UPDATE_VERIFY goes on behind PENDING and, when it is done, answers with the results; UPDATE_ACTIVATE of a lane without an accepted
image is BAD_CHECK, and without the lane to carry the zone NOT_ACTIVE (R280, R281, R493, R494, R495, R496). -/
def Obligations.FirmwareIsStaged : Prop :=
  ∀ (s : State) (q : Req),
    (s.b.passes 0x8001 q = true → q.pay.length ≠ 8 ∨ fieldAt q.pay 0 4 < 400 ∨ 6291456 < fieldAt q.pay 0 4 ∨ zerosAt q.pay 4 4 = false →
      AnswersFrom (.updateBegin q) s (s.b.heard q) (q.response 0x8001 .badParam [] .none)) ∧
    (s.b.passes 0x8001 q = true → q.pay.length = 8 → 400 ≤ fieldAt q.pay 0 4 → fieldAt q.pay 0 4 ≤ 6291456 →
      zerosAt q.pay 4 4 = true →
      (s.b.activating = true ∨ s.b.restarting = true →
        AnswersFrom (.updateBegin q) s (s.b.heard q) (q.response 0x8001 .busy [] .none)) ∧
      (s.b.activating = false → s.b.restarting = false → ∃ b1 : Block,
        AnswersFrom (.updateBegin q) s b1 (q.response 0x8001 .ok [] .none) ∧
        ∀ l, (2 ≤ (s.b.lane l).st → (b1.lane l).staging = { Staging.empty with st := .erasing, declared := fieldAt q.pay 0 4 }) ∧
          ((s.b.lane l).st < 2 → (b1.lane l).staging = (s.b.lane l).staging))) ∧
    (∀ l, ∃ b', Becomes (.stagingEraseDone (.firmware l)) s b' ∧
      (b'.lane l).staging.st = (if (s.b.lane l).staging.st = .erasing then .receiving else (s.b.lane l).staging.st) ∧
      b'.lane l.other = s.b.lane l.other) ∧
    (s.b.passes 0x8002 q = true → blockPayOk q.pay = true →
      (blockSumOk q.pay = false → AnswersFrom (.updateBlock q) s (s.b.heard q) (q.response 0x8002 .badCheck [] .none)) ∧
      (blockSumOk q.pay = true →
        let o := fun (l : Lane) => blockOutcome (s.b.lane l).staging.declared ((s.b.lane l).staging.st == .erasing)
          (s.b.lane l).staging.bytes (fieldAt q.pay 0 4) (q.pay.drop 12)
        ∃ b1 : Block, AnswersFrom (.updateBlock q) s b1 (q.response 0x8002 (o s.b.act).1 [] .none) ∧
          ∀ l, 2 ≤ (s.b.lane l).st → (b1.lane l).staging.bytes = (o l).2)) ∧
    (s.b.passes 0x8003 q = true → q.pay = [] → 8 ≤ q.room →
      (s.b.authLess = true → AnswersFrom (.updateVerify q) s (s.b.heard q) (q.response 0x8003 .locked
        (s.b.verifyPay (s.b.lane .a).staging.result (s.b.lane .b).staging.result) .none)) ∧
      (s.b.authLess = false → ∃ b1 : Block, HoldsFrom (.updateVerify q) s b1 q 0x8003 .updVerify true ∧
        ∀ l, (s.b.lane l).transferred = true → (b1.lane l).staging.verifying = true)) ∧
    (∀ e, s.b.mail.pend = [e] → e.kind = .updVerify → ∃ b', Becomes .updateVerifyDone s b' ∧ b'.mail.pend = [] ∧
      ∀ l, (s.b.lane l).staging.verifying = true → 2 ≤ (s.b.lane l).st → (b'.lane l).staging.verifying = false ∧
        ((b'.lane l).staging.result = 0 ↔ imageFault s.b.keys (s.otp.rollback.get l) true (s.b.lane l).staging = none)) ∧
    (s.b.mail.pend = [] → Becomes .updateVerifyDone s s.b) ∧
    (∀ l : Lane, s.b.passes 0x8004 q = true → q.pay.length = 4 → byteAt q.pay 0 = l.num + 1 → byteAt q.pay 1 = 0 →
      zerosAt q.pay 2 2 = true → 8 ≤ q.room →
      ((s.b.lane l).staging.st ≠ .accepted → AnswersFrom (.updateActivate q) s (s.b.heard q) (q.response 0x8004 .badCheck [] .none)) ∧
      ((s.b.lane l).staging.st = .accepted →
        (∀ k, levelsApart (fieldAt (s.b.lane l).staging.image 12 2) (s.b.lane k).image.level = false) →
        (s.b.serves l.other = false → AnswersFrom (.updateActivate q) s (s.b.heard q) (q.response 0x8004 .notActive [] .none)) ∧
        (s.b.serves l.other = true → s.b.settled = true → s.b.activating = false → s.b.isActive l = false →
          s.b.isActive l.other = true → ∃ b', Becomes (.updateActivate q) s b' ∧ (b'.lane l).st = 0 ∧ (b'.lane l).rolling = true)))

/-- Configuration images. A first block of a new image finds the old one and starts the erase; a block with a right check value is
staged; a commit goes on behind PENDING, and when it is written either the failing check with its record, or OK with the version:
the lanes in service hold the new image, staging is empty and the commit is counted. A commit of mode 2 restarts both lanes once its
response is visible (R506, R507, R508). -/
def Obligations.ConfigurationIsCommitted : Prop :=
  ∀ (s : State) (q : Req),
    (s.b.passes 0x8010 q = true → blockPayOk q.pay = true → fieldAt q.pay 0 4 + (q.pay.drop 12).length ≤ 524288 →
      (blockSumOk q.pay = false → AnswersFrom (.configBlock q) s (s.b.heard q) (q.response 0x8010 .badCheck [] .none)) ∧
      (blockSumOk q.pay = true → fieldAt q.pay 0 4 = 0 → s.b.img.staging ≠ [] → ∃ b1 : Block,
        AnswersFrom (.configBlock q) s b1 (q.response 0x8010 .busy [] .none) ∧ b1.img.cfgSt = 1 ∧ b1.img.staging = []) ∧
      (blockSumOk q.pay = true → s.b.img.staging = [] → s.b.img.cfgSt ≠ 1 → ∃ b1 : Block,
        AnswersFrom (.configBlock q) s b1 (q.response 0x8010 .ok [] .none) ∧ b1.img.cfgSt = 2 ∧
        b1.img.staging = bytesPut [] (fieldAt q.pay 0 4) (q.pay.drop 12))) ∧
    (∃ b', Becomes (.stagingEraseDone .config) s b' ∧ b'.img.cfgSt = (if s.b.img.cfgSt = 1 then 0 else s.b.img.cfgSt)) ∧
    (s.b.passes 0x8011 q = true → q.pay.length = 4 → byteAt q.pay 0 ≤ 2 → zerosAt q.pay 1 3 = true → 8 ≤ q.room →
      (s.b.activating = true ∨ s.b.settled = false →
        AnswersFrom (.configCommit q) s (s.b.heard q) (q.response 0x8011 .busy [] .none)) ∧
      (s.b.activating = false → s.b.settled = true →
        HoldsFrom (.configCommit q) s ((s.b.heard q).modImg fun i => { i with cfgSt := 3 }) q 0x8011
          (.cfgCommit (byteAt q.pay 0)) true)) ∧
    (∀ e mode, s.b.mail.pend = [e] → e.kind = .cfgCommit mode →
      (∀ st i, s.b.commitCheck s.otp.codeAE = .error (st, i) → ∃ b', Becomes .configCommitWritten s b' ∧ b'.mail.pend = [] ∧
        b'.img.accepted = s.b.img.accepted ∧ e.req.answer e.opcode st (leBytes 4 i) .none true true ∈ b'.mail.done) ∧
      (∀ pl c, s.b.commitCheck s.otp.codeAE = .ok (pl, c) → s.b.bothServe = true → ∃ b', Becomes .configCommitWritten s b' ∧
        b'.mail.pend = [] ∧ (∀ l, b'.img.bank l = pl) ∧ b'.img.staging = [] ∧
        b'.img.commits = satNat 0xFFFFFFFF (s.b.img.commits + 1))) ∧
    (s.b.mail.pend = [] → Becomes .configCommitWritten s s.b) ∧
    (s.b.img.commitRestart = true → ∃ b', Becomes .commitRestart s b' ∧ (∀ l, (b'.lane l).st = 0) ∧ b'.mod.active = none ∧
      b'.img.commitRestart = false) ∧
    (s.b.img.commitRestart = false → Becomes .commitRestart s s.b)

/-- Faults and their records. A scrub pass adds its corrections, raises EV025 when the hour's number passes the limit and ends in a lane
fault on an uncorrectable word; two missed reads of its always-on domain fault a lane; the coolant estimate follows its rule; a die
at 125 degrees sets the critical flag and one at 140 degrees takes its lane out; the fault log takes the oldest waiting record unless 64
went in this hour. EVENT_READ and FAULT_LOG_READ answer the counts and records, FAULT_CLEAR empties them at visibility (R114, R516, R517, R522, R524,
R530, R531, R532, R533). -/
def Obligations.FaultsAreRecorded : Prop :=
  ∀ (s : State) (l : Lane) (q : Req),
    (∀ r : ScrubFind, 2 ≤ (s.b.lane l).st → r.flashPages = [] → r.overran = false →
      (r.uncorrectableLane = false → ∃ b', Becomes (.scrubPass l r) s b' ∧ (b'.lane l).eccCorrected =
        satNat 0xFFFFFFFF ((s.b.lane l).eccCorrected + (r.corrected + r.freeGranule.length)) ∧ (b'.lane l).st = (s.b.lane l).st) ∧
      (r.uncorrectableLane = true → ∃ b', Becomes (.scrubPass l r) s b' ∧ (b'.lane l).st = 0 ∧
        (b'.lane l).aonCause = some (7, 0))) ∧
    (∀ readOk rtcOk, s.b.runs l = true → ∃ b', Becomes (.aonCheck l readOk rtcOk) s b' ∧
      (b'.lane l).aonMiss = (if readOk then 0 else (s.b.lane l).aonMiss + 1) ∧
      (b'.lane l).aonFault = ((s.b.lane l).aonFault || decide (2 ≤ (b'.lane l).aonMiss) || !rtcOk)) ∧
    (∀ m, s.b.runs l = true → ∃ b', Becomes (.coolantEstimate m) s b' ∧ b'.cool.est10 = coolantEstimate m ∧
      (criticalNow m = true → b'.cool.flags.getLsbD 2 = true)) ∧
    (∀ t : Int, t < 1250 → ∃ b', Becomes (.dieTemperature (.compute l) t) s b' ∧ (b'.lane l).temps = (t, (s.b.lane l).temps.2)) ∧
    (∀ t : Int, (s.b.lane l).temps.2 < 1250 → 1250 ≤ t → t < 1400 → ∃ b', Becomes (.dieTemperature (.network l) t) s b' ∧
      (b'.lane l).temps.2 = t ∧ b'.cool.flags.getLsbD 2 = true ∧ (b'.lane l).st = (s.b.lane l).st) ∧
    (∀ t : Int, 1400 ≤ t → 2 ≤ (s.b.lane l).st → ∃ b', Becomes (.dieTemperature (.compute l) t) s b' ∧ (b'.lane l).st = 0 ∧
      (b'.lane l).aonCause = some (0x0C, 0)) ∧
    (∀ (d : Die) (t : Int), ∃ b', Becomes (.dieTemperature (.power d) t) s b' ∧ b'.cool.sub.getD d 0 = t ∧
      (s.b.cool.sub.getD d 0 < 1400 → 1400 ≤ t → b'.cool.flags.getLsbD 2 = true)) ∧
    (∀ net (t : Int), 2 ≤ (s.b.lane l).st → 1250 ≤ t → t < 1400 → s.b.serves l.other = true → ∃ b',
      Becomes (.dieOvertempTimeout net l t) s b' ∧ (b'.lane l).st = 0 ∧ (b'.lane l).aonCause = some (0x0C, 0)) ∧
    (s.b.runs l = true → ∀ r t, (s.b.lane l).logQueue = r :: t → (s.b.lane l).log.length < 256 →
      ∃ b', Becomes (.faultLogAppend l) s b' ∧ (b'.lane l).logQueue = t ∧
        (b'.lane l).log = (if 64 ≤ (s.b.lane l).logHour then (s.b.lane l).log
          else (s.b.lane l).log ++ [{ r with seq := (s.b.lane l).logTotal }])) ∧
    (∃ b', Becomes (.logHourEnd l) s b' ∧ (b'.lane l).logHour = 0 ∧ (b'.lane l).log = (s.b.lane l).log) ∧
    (s.b.passes 0x9001 q = true → q.pay.length = 4 → 1 ≤ byteAt q.pay 1 → byteAt q.pay 1 ≤ 64 →
      byteAt q.pay 0 + byteAt q.pay 1 ≤ 256 → zerosAt q.pay 2 2 = true → 16 * byteAt q.pay 1 ≤ q.room →
      AnswersFrom (.eventRead q) s (s.b.heard q) (q.response 0x9001 .ok
        ((List.range (byteAt q.pay 1)).flatMap fun i => (s.b.evCount (byteAt q.pay 0 + i)).bytes) .none)) ∧
    (s.b.passes 0x9002 q = true → q.pay.length = 4 → 1 ≤ fieldAt q.pay 2 2 → fieldAt q.pay 2 2 ≤ 64 →
      8 + 32 * fieldAt q.pay 2 2 ≤ q.room → ∃ pay, AnswersFrom (.faultLogRead q) s (s.b.heard q) (q.response 0x9002 .ok pay .none) ∧
        fieldAt pay 0 2 = (s.b.lane s.b.act).log.length % 65536) ∧
    (let r := q.withByte 0 0
     s.b.passes 0x9003 r = true → r.pay.length = 4 → byteAt r.pay 0 = 0 → zerosAt r.pay 1 3 = true →
      AnswersFrom (.faultClearLog q) s (s.b.heard r) (r.response 0x9003 .ok [] (.faultClear 0))) ∧
    (let r := q.withByte 0 1
     s.b.passes 0x9003 r = true → r.pay.length = 4 → byteAt r.pay 0 = 1 → zerosAt r.pay 1 3 = true →
      AnswersFrom (.faultClearCounts q) s (s.b.heard r) (r.response 0x9003 .ok [] (.faultClear 1))) ∧
    (let x := s.b.effect (.faultClear 0)
     x.ev = s.b.ev ∧ ∀ k, (x.lane k).log = []) ∧
    (let x := s.b.effect (.faultClear 1)
     (∀ c ∈ x.ev.counts, c.count = 0) ∧ ∀ k, (x.lane k).log = (s.b.lane k).log ∧ (x.lane k).eccCorrected = 0)

/-! ## Ring and switch (11, 12) -/

/-- The node of a lane. RING_BID is DENIED without permission and NOT_ACTIVE outside a running ring, OK where its hand is in force, else
every lane bids and the request goes on behind PENDING; a withdrawal clears the bid and a timeout ends it. A round start counts the
round and the silence, makes the bid of the lowest node the Dealer's Call, and puts a confirmed hand in force two rounds after its
announcement, and has the Dealer send its beacon. A beacon of wrong version or FCS is discarded; one of other hands makes the node passive, a listening node joins by one of its hands, and the Dealer yields to
lower ranks alone. After two silent rounds a candidate is Dealer; after the grace every node listens again; a candidate that
has heard no beacon cold-starts (R310, R312, R313, R319, R321, R322, R323, R325, R326, R335, R336,
R339). -/
def Obligations.NodesKeepTheRound : Prop :=
  ∀ (s : State) (q : Req) (l : Lane),
    let r := s.b.ring l
    (let h := Fin.ofNat 8 (byteAt q.pay 0)
     s.b.passes 0x4001 q = true → q.pay.length = 4 → byteAt q.pay 0 < 8 → byteAt q.pay 1 < 2 → zerosAt q.pay 2 2 = true →
      ((s.b.p 0x400D 0).testBit q.path.prid = false →
        AnswersFrom (.ringBid q) s (s.b.heard q) (q.response 0x4001 .denied [] .none)) ∧
      ((s.b.p 0x400D 0).testBit q.path.prid = true →
        ((s.b.ring s.b.act).running = false →
          AnswersFrom (.ringBid q) s (s.b.heard q) (q.response 0x4001 .notActive [] .none)) ∧
        ((s.b.ring s.b.act).running = true → byteAt q.pay 1 = 0 → (∀ k, s.b.serves k = true → (s.b.ring k).hand = h) →
          AnswersFrom (.ringBid q) s (s.b.heard q) (q.response 0x4001 .ok [] .none)) ∧
        ((s.b.ring s.b.act).running = true → byteAt q.pay 1 = 0 → s.b.mail.pend = [] →
          (∃ k, s.b.serves k = true ∧ (s.b.ring k).hand ≠ h) → ∃ b', Becomes (.ringBid q) s b' ∧
          b'.mail.pend.map (·.kind) = [.ringBid h ((s.b.ring .a).hand == h) ((s.b.ring .b).hand == h)] ∧
          q.response 0x4001 .pending [] .none ∈ b'.mail.done ∧
          ∀ k, (b'.ring k).ownBid = if (s.b.ring k).hand = h then none else some h) ∧
        ((s.b.ring s.b.act).running = true → byteAt q.pay 1 = 1 → ∃ b1 : Block,
          AnswersFrom (.ringBid q) s b1 (q.response 0x4001 .ok [] .none) ∧
          ∀ k, (s.b.ring k).callState ≠ .confirmed → (b1.ring k).ownBid = none))) ∧
    (r.ownBid = none → s.b.bidWaits l = false → Becomes (.ringBidTimeout l) s s.b) ∧
    (r.ownBid ≠ none ∨ s.b.bidWaits l = true → ∃ b', Becomes (.ringBidTimeout l) s b' ∧ (∀ k, (b'.ring k).ownBid = none) ∧
      ∀ e ∈ b'.mail.pend, ∀ g x y, e.kind ≠ .ringBid g x y) ∧
    (r.follows = false → Becomes (.roundStart l) s s.b) ∧
    (r.follows = true → r.callKind = .none → ∃ b', Becomes (.roundStart l) s b' ∧ (b'.ring l).round = r.round + 1 ∧
      (b'.ring l).aliveLast = (r.aliveNow ||| r.alivePrev) ∧ (b'.ring l).aliveNow = 0 ∧
      (b'.ring l).silent = (if r.gotBeacon || r.iAmDealer then 0 else r.silent + 1) ∧
      ((b'.ring l).originates = true → (b'.ring l).iAmDealer = true → ∃ c, (b'.ring l).beacon = some c ∧
        c.wire.dst = 0x0342454C0000 ∧ c.round = (b'.ring l).round ∧ c.hand = (b'.ring l).hand ∧ c.crc = s.b.net.handsCrc) ∧
      (r.st = .synchronised → r.originates = true → r.claims = [] → r.dealer = some (Fin.ofNat 16 r.cfg.node) → r.bids ≠ [] →
        (∀ x ∈ r.bids, x.2 ≠ r.hand) → (b'.ring l).callKind = .hand ∧ (b'.ring l).callState = .announced ∧
          (b'.ring l).callRound = r.round + 1 ∧ ∃ n, (n, (b'.ring l).callTarget) ∈ r.bids ∧ ∀ x ∈ r.bids, n ≤ x.1)) ∧
    (r.follows = true → r.callKind = .hand → r.callState = .confirmed → r.callRound + 1 ≤ r.round →
      ∃ b', Becomes (.roundStart l) s b' ∧ (b'.ring l).hand = r.callTarget) ∧
    (∀ c : Beacon, c.wire.version ≠ 1 ∨ c.wire.fcsOk = false → Becomes (.beaconReceived l c) s s.b) ∧
    (∀ c : Beacon, c.wire.version = 1 → c.wire.fcsOk = true → r.sleepCommit = false → r.st ≠ .asleep →
      (r.st = .off → Becomes (.beaconReceived l c) s s.b) ∧
      (r.st ≠ .off → c.crc ≠ s.b.net.handsCrc → ∃ b', Becomes (.beaconReceived l c) s b' ∧ (b'.ring l).st = .passive) ∧
      (c.crc = s.b.net.handsCrc → r.st = .listening → ∃ b', Becomes (.beaconReceived l c) s b' ∧
        (b'.ring l).st = .integrating ∧ (b'.ring l).round = c.round ∧ (b'.ring l).hand = c.hand ∧
        (b'.ring l).dealer = some c.dealer ∧ (b'.ring l).gotBeacon = true) ∧
      (c.crc = s.b.net.handsCrc → r.st = .synchronised → r.iAmDealer = false → ∃ b', Becomes (.beaconReceived l c) s b' ∧
        (b'.ring l).round = c.round ∧ (b'.ring l).dealer = some c.dealer ∧ (b'.ring l).silent = 0) ∧
      (c.crc = s.b.net.handsCrc → r.running = true → r.iAmDealer = true → r.cfg.rank ≤ c.rank →
        Becomes (.beaconReceived l c) s s.b)) ∧
    (r.silent < 2 → Becomes (.dealerSilent l) s s.b) ∧
    (2 ≤ r.silent → r.originates = true → r.iAmDealer = false → ∃ b', Becomes (.dealerSilent l) s b' ∧
      (b'.ring l).iAmDealer = r.candidate ∧
      (b'.ring l).dealer = if r.candidate then some (Fin.ofNat 16 r.cfg.node) else none) ∧
    (r.silent < s.b.p 0x4005 0 → Becomes (.ringGraceExpired l) s s.b) ∧
    (s.b.p 0x4005 0 ≤ r.silent → r.running = true ∨ r.st = .integrating → r.iAmDealer = false → ∃ b',
      Becomes (.ringGraceExpired l) s b' ∧ (b'.ring l).st = s.b.ringIdle l ∧ (b'.ring l).dealer = none ∧
      (b'.ring l).beaconSeen = false) ∧
    (r.st ≠ .listening → Becomes (.coldStart l) s s.b) ∧
    (r.st = .listening → r.beaconSeen = false → r.candidate = true → (s.b.lane l).ready = true → ∃ b',
      Becomes (.coldStart l) s b' ∧ (b'.ring l).st = .coldStarting ∧ (b'.ring l).round = 0 ∧ (b'.ring l).iAmDealer = true)

/-- What a node sends, repeats and measures. A node that may originate sends a null frame, or the frame that waits, in its slot, polls
when it is the Dealer, and answers a poll that names it in this round; a control frame has the address of R313 and the port's own, and a
frame of wrong version or FCS is discarded. A slot frame of another node that a running node has not seen
is repeated with one more hop, up to 32 hops; an own one that it did not send is reported. Open-window frames carry link checks
and wait for the other port within 65,536 bytes. Delays are medians, a change beyond 50 ns ends synchronisation; the average is
taken over its values and the correction keeps within its limit; the guard applies it. The Keep, a cut, a broken link and a healthy
one, and line energy on a committed ring act as their rules say (R308, R310, R311, R313,
R314, R315, R317, R318, R319, R320, R327, R330, R336,
R341, R344, R346, R413). -/
def Obligations.NodesCarryFrames : Prop :=
  ∀ (s : State) (l : Lane) (slot : Fin 64) (port : RingPort) (f : RingFrame),
    let r := s.b.ring l
    let quiet := (s.b.lane l).sw.queue 1 7 = [] ∧ (s.b.lane l).sw.queue 2 7 = []
    let good := fun (w : RingWire) => w.version = 1 ∧ w.fcsOk = true
    let control := fun (g : RingFrame) => { g with wire :=
      { dst := 0x0342454C0000, src := portMac l (dirPort g.west).num, version := 1, fcsOk := true } }
    (r.originates = false → Becomes (.ownSlotStart l slot) s s.b ∧ Becomes (.polledSlotStart l slot) s s.b) ∧
    (∀ sl, (s.b.handOf l).slots[slot.val]? = some sl → r.originates = true → r.looped.get (dirPort sl.west).side = false →
      (sl.polled = false → sl.owner = r.cfg.node →
        (quiet → ∃ b', Becomes (.ownSlotStart l slot) s b' ∧ (b'.ring l).sent = control (r.header 2 slot sl.west) :: r.sent) ∧
        (∀ id x, (s.b.lane l).sw.queue 1 7 = [id] → (s.b.lane l).sw.frame? id = some x → x.slot = slot → s.b.aged x = false →
          ∃ b', Becomes (.ownSlotStart l slot) s b' ∧
            (b'.ring l).sent = { r.header 1 slot sl.west with carried := some x.frame, wire :=
              { dst := x.frame.dst, src := x.frame.src, version := 1, fcsOk := true } } :: r.sent)) ∧
      (sl.polled = true →
        (r.iAmDealer = true → (s.b.handOf l).polledNode r.round slot ≠ 255 → (s.b.handOf l).polledNode r.round slot ≠ r.cfg.node →
          ∃ b', Becomes (.polledSlotStart l slot) s b' ∧ (b'.ring l).sent = control (r.header 3 slot sl.west) :: r.sent) ∧
        (quiet → ∀ w (round : Word), good w → round.toNat = r.round % 2 ^ 32 → ∃ b',
          Becomes (.pollReceived l w slot ⟨r.cfg.node, round⟩) s b' ∧ (b'.ring l).sent = control (r.header 5 slot sl.west) :: r.sent ∧ (b'.ring l).polledSlots = slot.val :: r.polledSlots))) ∧
    (∀ w node round, node ≠ r.cfg.node ∨ ¬good w → Becomes (.pollReceived l w slot ⟨node, round⟩) s s.b) ∧
    (¬good f.wire → Becomes (.slotFrameReceived l port f) s s.b ∧ Becomes (.openWindowFrame l port f) s s.b) ∧
    (good f.wire → r.sleepCommit = false → r.running = true → f.kind = 2 ∨ f.kind = 3 ∨ f.kind = 5 → f.wrap.val ≠ 3 → f.feed = false →
      f.carried = none →
      (f.origin.val ≠ r.cfg.node → r.seen.contains (f.origin.val, f.round.toNat, f.slot) = false →
        ∃ b', Becomes (.slotFrameReceived l port f) s b' ∧
          (b'.ring l).seen = (f.origin.val, f.round.toNat, f.slot) :: r.seen ∧
          (f.hops < 32 → r.looped.get port.other.side = false → ∃ res,
            (b'.ring l).sent = { f with hops := f.hops + 1, corr := f.corr + r.delays.get port.side + res } :: r.sent) ∧
          (32 ≤ f.hops → (b'.ring l).sent = r.sent)) ∧
      (f.origin.val = r.cfg.node → r.sent = [] →
        Becomes (.slotFrameReceived l port f) s (s.b.ringEv l 180 0 f.slot))) ∧
    (good f.wire → r.sleepCommit = false → r.follows = true →
      (f.kind = 7 → ∃ b', Becomes (.openWindowFrame l port f) s b' ∧ (b'.ring l).peerNow.get port.side = f.healthy) ∧
      (∀ e, f.kind = 6 → f.carried = some e → classifyIn s.b.net.entries port.num none (e.vid.getD (s.b.p 0x4805 port.num)) e = none →
        ∃ b', Becomes (.openWindowFrame l port f) s b' ∧ (b'.ring l).openTransit.get port.other.side =
          if r.openTransit.get port.other.side + e.len ≤ 65536 then r.openTransit.get port.other.side + e.len
          else r.openTransit.get port.other.side)) ∧
    (r.follows = true → ∀ m ≠ [], ∃ b', Becomes (.delayMeasurementDue l [] m) s b' ∧
      (b'.ring l).delays = ⟨r.delays.a, median m⟩ ∧ (b'.ring l).st =
        if r.running = true ∧ (r.delays.b + 50 < median m ∨ median m + 50 < r.delays.b) then s.b.ringIdle l else r.st) ∧
    (r.follows = true → ∃ b', Becomes (.slotsEnd l) s b' ∧ (b'.ring l).syncN = r.values.length ∧
      -(s.b.p 0x400B 0 : Int) ≤ (b'.ring l).pendingCorr ∧ (b'.ring l).pendingCorr ≤ (s.b.p 0x400B 0 : Int) ∧
      (r.st = .synchronised → r.callKind = .hand → r.callState = .announced → r.callRound = r.round →
        (b'.ring l).st = .synchronised →
        (b'.ring l).callState = if r.aliveLast &&& ~~~ r.acks = 0 then .confirmed else .withdrawn)) ∧
    (r.follows = true → ∃ b', Becomes (.guardEnd l) s b' ∧ (b'.ring l).offset = r.pendingCorr ∧ (b'.ring l).pendingCorr = 0 ∧
      ∀ p : RingPort, (b'.ring l).looped.get p.side =
        (r.looped.get p.side && !(r.healthy.get p.side && r.peerHealthy.get p.side))) ∧
    (r.st = .off → Becomes (.keepBlock l port) s s.b ∧ Becomes (.repeatCut l port) s s.b ∧ Becomes (.ringLinkBreak l port) s s.b ∧
      Becomes (.linkHealthy l port) s s.b) ∧
    (r.st ≠ .off →
      (let n := (r.blockedRecent.filter fun t => decide (s.b.mod.epoch < t + epochsPerSec)).length
       ∃ b', Becomes (.keepBlock l port) s b' ∧
        (n < 2 → (b'.ring l).blocked = satNat 0xFFFFFFFF (r.blocked + 1) ∧ (b'.ring l).st = r.st ∧
          (b'.ring l).keepShut = r.keepShut) ∧
        (2 ≤ n → r.keepShut = false → (s.b.serves l && s.b.serves l.other) = false → (b'.ring l).keepShut = true ∧
          (b'.ring l).st = .passive)) ∧
      (∃ b', Becomes (.repeatCut l port) s b' ∧ (b'.ring l).cut = satNat 0xFFFFFFFF (r.cut + 1) ∧ (b'.ring l).cutThisRound = true) ∧
      (r.st ≠ .asleep → ∃ b', Becomes (.ringLinkBreak l port) s b' ∧ (b'.ring l).looped.get port.side = true ∧
        (b'.ring l).looped.get port.other.side = r.looped.get port.other.side ∧ (b'.ring l).healthy.get port.side = false) ∧
      (r.st ≠ .asleep → ∃ b', Becomes (.linkHealthy l port) s b' ∧ (b'.ring l).healthy.get port.side = true)) ∧
    (r.sleepCommit = false → r.st ≠ .asleep → Becomes (.ringLineEnergy l port) s s.b) ∧
    (r.sleepCommit = true → s.b.nw.state = 2 → s.b.nw.latched = none → ∃ b', Becomes (.ringLineEnergy l port) s b' ∧
      b'.nw.latched = some (5, l.num))

/-- Entries, statistics and MACsec associations. A change of an entry against its rules is BAD_PARAM and with another generation than the
present one STALE_GENERATION; else the generation counts on, the change waits for its boundary and the request goes on behind PENDING
until every lane in service has no frame of an older generation. PORT_STATS answers 64 bytes of the active lane's counts. MACSEC_SA
installs, makes current or retires an association at visibility, BUSY on the transmit association in use (R362, R363, R365, R379,
R380). -/
def Obligations.EntriesAndAssociationsChange : Prop :=
  ∀ (s : State) (q : Req) (l : Lane),
    (let i := fieldAt q.pay 0 2
     let e := swEntryOf (bytesAt q.pay 4 32)
     let fresh := fieldAt q.pay 2 2 = 0xFFFF ∨ fieldAt q.pay 2 2 = s.b.net.gen i
     let g := if s.b.net.gen i = 65534 then 0 else s.b.net.gen i + 1
     i < 4096 → 4 ≤ q.room →
      (s.b.passes 0x4801 q = true → q.pay.length = 36 → swEntryBytesOk (bytesAt q.pay 4 32) = true →
        (e.valid = true → s.b.entryRules i e = false →
          AnswersFrom (.switchEntrySet q) s (s.b.heard q) (q.response 0x4801 .badParam [] .none)) ∧
        (e.valid = false ∨ s.b.entryRules i e = true →
          (¬fresh → AnswersFrom (.switchEntrySet q) s (s.b.heard q) (q.response 0x4801 .staleGeneration [] .none)) ∧
          (fresh → ∃ b1 : Block, HoldsFrom (.switchEntrySet q) s b1 q 0x4801 (.swEntry i g false false) true ∧
            b1.net.gen i = g ∧ b1.net.cuts = s.b.net.cuts ++ [(i, e)] ∧ b1.net.entries = s.b.net.entries))) ∧
      (s.b.passes 0x4802 q = true → q.pay.length = 4 →
        (¬fresh → AnswersFrom (.switchEntryDel q) s (s.b.heard q) (q.response 0x4802 .staleGeneration [] .none)) ∧
        (fresh → ∃ b1 : Block, HoldsFrom (.switchEntryDel q) s b1 q 0x4802 (.swEntry i g false false) true ∧
          b1.net.gen i = g ∧ ∃ x, b1.net.cuts = s.b.net.cuts ++ [(i, x)] ∧ x.valid = false))) ∧
    (∀ i : Fin 4096, (s.b.lane l).drained i (s.b.net.gen i) = false → Becomes (.generationDrained l i) s s.b) ∧
    (∀ (i : Fin 4096) e g da db, s.b.mail.pend = [e] → e.kind = .swEntry i g da db → s.b.net.cuts = [] →
      (s.b.lane l).drained i (s.b.net.gen i) = true →
      let da' := da || l == .a
      let db' := db || l == .b
      ∃ b', Becomes (.generationDrained l i) s b' ∧
        (((da' || !s.b.serves .a) && (db' || !s.b.serves .b)) = true → b'.mail.pend = [] ∧
          e.req.answer e.opcode .ok (leBytes 2 (s.b.net.gen i) ++ zeroBytes 2) .none true true ∈ b'.mail.done) ∧
        (((da' || !s.b.serves .a) && (db' || !s.b.serves .b)) = false →
          b'.mail.pend = [{ e with kind := .swEntry i g da' db' }])) ∧
    (s.b.passes 0x4803 q = true → q.pay.length = 4 → byteAt q.pay 0 ≤ 38 → zerosAt q.pay 1 3 = true → 64 ≤ q.room → ∃ pay,
      AnswersFrom (.portStats q) s (s.b.heard q) (q.response 0x4803 .ok pay .none) ∧ pay.length = 64 ∧
      let t := (s.b.lane s.b.act).sw.stats.getD (byteAt q.pay 0) PortStats.zero
      fieldAt pay 0 8 = satNat (2 ^ 64 - 1) t.rxF ∧ fieldAt pay 24 8 = satNat (2 ^ 64 - 1) t.txB ∧
      fieldAt pay 32 4 = satNat 0xFFFFFFFF t.noEntry ∧ fieldAt pay 60 4 = satNat 0xFFFFFFFF t.errs) ∧
    (let r := q.withByte 0 0
     let n := byteAt r.pay 1
     let k := saIndex n
     let idle : Sa := { installed := false, inUse := false, an := 0, pn := 0 }
     let other := s.b.net.sas.getD (if k % 2 = 0 then k + 1 else k - 1) idle
     s.b.passes 0x4804 r = true → r.pay.length = 16 → byteAt r.pay 0 = 0 → n < 16 → n.testBit 1 = true ∨ n < 4 → byteAt r.pay 2 < 4 →
      byteAt r.pay 3 = 0 → zerosAt r.pay 12 4 = true →
      (s.b.slot (saSlot k)).type = (if s.b.p 0x4841 0 % 2 = 0 then 1 else 2) → (s.b.slot (saSlot k)).uses.getLsbD 2 = true →
      (k < 2 → fieldAt r.pay 4 8 ≠ 0) → (other.installed = true → other.an.val ≠ byteAt r.pay 2) →
      (k < 2 → (s.b.net.sas.getD k idle).inUse = true →
        AnswersFrom (.macsecSaInstall q) s (s.b.heard r) (r.response 0x4804 .busy [] .none)) ∧
      ((k < 2 → (s.b.net.sas.getD k idle).inUse = false) →
        AnswersFrom (.macsecSaInstall q) s (s.b.heard r) (r.response 0x4804 .ok []
          (.saInstall (Fin.ofNat 10 k) (Fin.ofNat 4 (byteAt r.pay 2)) (fieldAt r.pay 4 8))))) ∧
    (∀ k : Fin 2, let r := q.withByte 0 1
     let sa := s.b.net.sas.getD k { installed := false, inUse := false, an := 0, pn := 0 }
     s.b.passes 0x4804 r = true → r.pay.length = 16 → byteAt r.pay 0 = 1 → byteAt r.pay 1 = k.val → zerosAt r.pay 2 14 = true →
      (sa.installed = false → AnswersFrom (.macsecSaMakeCurrent q) s (s.b.heard r) (r.response 0x4804 .badParam [] .none)) ∧
      (sa.installed = true → sa.inUse = true →
        AnswersFrom (.macsecSaMakeCurrent q) s (s.b.heard r) (r.response 0x4804 .ok [] .none)) ∧
      (sa.installed = true → sa.inUse = false →
        AnswersFrom (.macsecSaMakeCurrent q) s (s.b.heard r) (r.response 0x4804 .ok [] (.saCurrent k)))) ∧
    (∀ k : Fin 2, let r := q.withByte 0 2
     let sa := s.b.net.sas.getD k { installed := false, inUse := false, an := 0, pn := 0 }
     s.b.passes 0x4804 r = true → r.pay.length = 16 → byteAt r.pay 0 = 2 → byteAt r.pay 1 = k.val → zerosAt r.pay 2 14 = true →
      (sa.inUse = true → AnswersFrom (.macsecSaRetire q) s (s.b.heard r) (r.response 0x4804 .busy [] .none)) ∧
      (sa.inUse = false → AnswersFrom (.macsecSaRetire q) s (s.b.heard r)
        (r.response 0x4804 .ok [] (.saRetire (Fin.ofNat 10 k)))))

/-- Frames through a lane's switch core. A frame at a port that is down, disabled or out of service is lost; else it is counted, counted as an
error when it is too long; a management frame is Ottum's on the uplink alone, taken in or dropped and counted; another is counted when no
entry matches, enters
the queue of its one port, or waits as an agreement item for its virtual ports. A transmit descriptor handed over is taken, its flag
cleared, whether its frame is malformed, has no entry or goes on; a frame goes on when it is its virtual port's turn. A port sends the head its scheduler picks, or drops it when its
lifetime is over. Links, the hold, the audit of cells, the sweep, recovery resets and the MACsec wait follow their rules (R124, R148,
R356, R357, R360, R369, R371, R372, R373, R374, R375, R376, R485). -/
def Obligations.FramesAreSwitched : Prop :=
  ∀ (s : State) (l : Lane) (port : PhyPort) (sec : Option SecTag) (f : EthFrame),
    let sw := (s.b.lane l).sw
    let st := fun (b : Block) (p : Nat) => (b.lane l).sw.stats.getD p PortStats.zero
    let live := s.b.serves l = true ∧ s.b.p 0x4801 port ≠ 0 ∧ sw.links.getD port .down = .up
    let found := classifyIn s.b.net.entries port none (f.vid.getD (s.b.p 0x4805 port)) f
    sw.stats.length = 39 → sw.links.length = 7 →
    (¬live → Becomes (.frameIngress l port sec f) s s.b ∧ Becomes (.egressTransmit l port) s s.b) ∧
    (live → ∃ b', Becomes (.frameIngress l port sec f) s b' ∧ (st b' port).rxF = (st s.b port).rxF + 1 ∧
      (st b' port).rxB = (st s.b port).rxB + f.len ∧
      (s.b.p 0x4804 port < f.len → (st b' port).errs = (st s.b port).errs + 1 ∧ (b'.lane l).sw.frames = sw.frames) ∧
      (f.len ≤ s.b.p 0x4804 port →
        (f.etype = 0x88B5 → (b'.lane l).sw.frames = sw.frames ∧
          (port ≠ 0 → b'.mail.mgDrop = (s.b.mail.mgDrop + 1) % 2 ^ 32 ∧ (b'.lane l).own = (s.b.lane l).own) ∧
          (port = 0 → sec = none → ∃ g : MgmtFrame, g.body = f.data ∧ g.rtag = f.rtag ∧ g.secTag = false ∧
            ((s.b.lane l).defaults = false ∨ g.forMe s.otp.identity = false ∨ 4200 < g.len ∨ 16 ≤ s.b.mgmtInFlight →
              b'.mail.mgDrop = (s.b.mail.mgDrop + 1) % 2 ^ 32 ∧ (b'.lane l).own = (s.b.lane l).own) ∧
            ((s.b.lane l).defaults = true → g.forMe s.otp.identity = true → g.len ≤ 4200 → s.b.mgmtInFlight < 16 →
              b'.mail.mgRx = (s.b.mail.mgRx + 1) % 2 ^ 32 ∧
              (b'.lane l).own = (s.b.lane l).own ++ [{ epoch := s.b.mod.epoch, body := .mgmt g }]))) ∧
        (port ≠ 0 → f.etype ≠ 0x88B5 → found = none → (st b' port).noEntry = (st s.b port).noEntry + 1 ∧ (b'.lane l).sw.queues = sw.queues) ∧
        (∀ i e, port ≠ 0 → f.etype ≠ 0x88B5 → found = some (i, e) → e.police = false → e.action = 0 →
          (e.toVirtual = true → e.physical = [] → (b'.lane l).own = (s.b.lane l).own ++ [{ epoch := s.b.mod.epoch, body := .eth i (s.b.net.inForce i) port f }]) ∧
          (∀ p, e.toVirtual = false → e.physical = [p] → p = 0 ∨ 3 ≤ p ∨ e.queue ≠ 7 → p < 7 → e.queue < 8 → s.b.portDown l p = false →
            f.len ≤ s.b.p 0x4804 p → sw.reserve + cellsOf f.len ≤ 8192 → sw.queues.length = 7 → (∀ x ∈ sw.queues, x.length = 8) →
            sw.queue p e.queue = [] → (sw.avg.getD p []).getD e.queue 0 = 0 → cellsOf f.len ≤ s.b.queueLimit p e.queue →
            0 < byteAt (bytesAt (pbytes s.b.params 0x4812 p 96) (12 * e.queue) 4) 0 →
            (b'.lane l).sw.queue p e.queue = [sw.nextId] ∧
            ∃ x ∈ (b'.lane l).sw.frames, x.id = sw.nextId ∧ x.frame = f ∧ x.gen = s.b.net.inForce i)))) ∧
    (∀ (p : Prid) n dest g, s.b.vpHead s.mem l p = .frame n dest g → s.b.vpTurn s.mem l p = none →
      exec (.vpTransmitDescriptor l p) s = .next s) ∧
    (∀ p : Prid, let base := s.b.p 0x4820 (7 + p.val)
      let head := sw.txHead.getD p 0
      let addr := base + 16 * (head % s.b.p 0x4821 (7 + p.val))
      let d := s.mem.read l addr 16
      (s.b.serves l = false ∨ base = 0 ∨ (s.b.slice p).phase = .none ∨ (s.b.slice p).frozen = true →
        exec (.vpTransmitDescriptor l p) s = .next s) ∧
      (s.b.serves l = true → base ≠ 0 → (s.b.slice p).phase ≠ .none → (s.b.slice p).frozen = false → s.mem.Wf → sw.txHead.length = 32 →
        ((s.b.slice p).holdsSram addr 16 = false → ∃ t, exec (.vpTransmitDescriptor l p) s = .next t ∧ t.mem = s.mem ∧
          (t.b.lane l).sw.txHead = sw.txHead) ∧
        ((s.b.slice p).holdsSram addr 16 = true →
          ((byteAt d 11).testBit 7 = false → exec (.vpTransmitDescriptor l p) s = .next s) ∧
          ((byteAt d 11).testBit 7 = true →
            let g := EthFrame.ofBytes (s.mem.read l (fieldAt d 0 8) (fieldAt d 8 2))
            let hit := classifyIn (s.b.tableFor l p) (7 + p.val) (some p.val) (g.vid.getD 1) g
            let taken := fun (t : State) => (t.b.lane l).sw.txHead.getD p 0 = head + 1 ∧
              t.mem.read l (addr + 11) 1 = [BitVec.ofNat 8 (byteAt d 11 % 128)] ∧
              ∀ a, a ≠ addr + 11 → t.mem.read l a 1 = s.mem.read l a 1
            (fieldAt d 8 2 < 60 → ∃ t, exec (.vpTransmitDescriptor l p) s = .next t ∧ taken t ∧
              (st t.b (7 + p.val)).errs = (st s.b (7 + p.val)).errs + 1) ∧
            (60 ≤ fieldAt d 8 2 → byteAt d 10 = 0 → byteAt d 11 = 128 → zerosAt d 12 4 = true → 0 < s.b.p 0x1003 p →
              (s.b.lane l).vpSched.credit.length = 32 → (∀ q : Prid, q ≠ p → s.b.p 0x4820 (7 + q.val) = 0) →
              (s.b.slice p).holdsSram (fieldAt d 0 8) (fieldAt d 8 2) = true →
              (hit = none → ∃ t, exec (.vpTransmitDescriptor l p) s = .next t ∧ taken t ∧
                (st t.b (7 + p.val)).noEntry = (st s.b (7 + p.val)).noEntry + 1) ∧
              (∀ i e, hit = some (i, e) → e.police = false → e.action = 0 → e.toVirtual = true → e.physical = [] →
                fieldAt d 8 2 ≤ s.b.rxBuffer →
                sw.quotaUsed p + (s.b.lane l).boundFor s.b.net p + cellsOf g.len ≤ (s.b.slice p).quota →
                ∃ t, exec (.vpTransmitDescriptor l p) s = .next t ∧ taken t ∧
                  (t.b.lane l).own = (s.b.lane l).own ++ [{ epoch := s.b.mod.epoch, body := .eth i (s.b.genFor l (7 + p.val) i) (7 + p.val) g }])))))) ∧
    (live → s.b.pickQueue l port = none → Becomes (.egressTransmit l port) s s.b) ∧
    (∀ n x f, live → s.b.pickQueue l port = some (n, x) → ((sw.queue port n).head?.bind sw.frame?) = some f → port ≠ 0 →
      sw.residue.getD port [] = [] → ∃ b', Becomes (.egressTransmit l port) s b' ∧ (b'.lane l).sw.queue port n = (sw.queue port n).erase f.id ∧
        (s.b.aged f = false → (st b' port).txF = (st s.b port).txF + 1 ∧ (st b' port).txB = (st s.b port).txB + f.frame.len) ∧
        (s.b.aged f = true → (st b' port).life = (st s.b port).life + 1 ∧ (st b' port).txF = (st s.b port).txF)) ∧
    (sw.links.getD port .down ≠ .up → Becomes (.portLinkDown l port) s s.b) ∧
    (sw.links.getD port .down = .up → ∃ b', Becomes (.portLinkDown l port) s b' ∧
      (s.b.p 0x4803 port = 0 → (b'.lane l).sw.links.getD port .up = .down ∧ ∀ n, (b'.lane l).sw.queue port n = []) ∧
      (s.b.p 0x4803 port ≠ 0 → (b'.lane l).sw.links.getD port .up = .hold ∧ (b'.lane l).sw.queues = sw.queues)) ∧
    (sw.links.getD port .down ≠ .up → s.b.p 0x4801 port ≠ 0 → s.b.serves l = true → ∃ b', Becomes (.portLinkUp l port) s b' ∧
      (b'.lane l).sw.links.getD port .down = .up) ∧
    (sw.links.getD port .down = .up → Becomes (.portLinkUp l port) s s.b) ∧
    (sw.links.getD port .down = .hold → ∃ b', Becomes (.portHoldExpiry l port) s b' ∧
      (b'.lane l).sw.links.getD port .up = .down ∧ ∀ n, (b'.lane l).sw.queue port n = []) ∧
    (sw.links.getD port .down = .down → Becomes (.portHoldExpiry l port) s s.b) ∧
    (∀ free linked flight, s.b.serves l = true → ∃ b', Becomes (.deckCount l free linked flight) s b' ∧
      (free + linked + flight = 32768 → (b'.lane l).sw.mismatch = 0 ∧ (b'.lane l).sw.sweeping = sw.sweeping) ∧
      (free + linked + flight ≠ 32768 → (b'.lane l).sw.mismatch = sw.mismatch + 1 ∧
        (b'.lane l).sw.sweeping = (sw.sweeping || (decide (1 ≤ sw.mismatch) && s.b.p 0x4832 0 == 1)))) ∧
    (∀ n, (sw.sweeping = false → Becomes (.reclaimSweepEnd l n) s s.b) ∧
      (sw.sweeping = true → ∃ b', Becomes (.reclaimSweepEnd l n) s b' ∧ (b'.lane l).sw.sweeping = false ∧
        (b'.lane l).sw.leaked = satNat 0xFFFFFFFF (sw.leaked + n))) ∧
    (∀ h : Fin 1024, ((∀ x ∈ sw.recov, x.handle ≠ h.val) → Becomes (.sequenceRecoveryReset l h) s s.b) ∧
      ∃ b', Becomes (.sequenceRecoveryReset l h) s b' ∧ (∀ x ∈ (b'.lane l).sw.recov, x.handle ≠ h.val) ∧
        ∀ x ∈ sw.recov, x.handle ≠ h.val → x ∈ (b'.lane l).sw.recov) ∧
    ∃ b', Becomes (.macsecRxWaitExpiry l) s b' ∧ b'.cipher.drops =
      if s.b.serves l = true ∧ s.b.p 0x4840 0 = 1 then satNat 0xFFFFFFFF (s.b.cipher.drops + 1) else s.b.cipher.drops

end Statements
end

