-- ==== Sys2Proof/Laws/State.lean ====
section
/-! SUPPORT. One lemma for each field of the state and of the block under each of their updates, so that no proof unfolds a
record update. -/

namespace Sys2Proof.Machine

@[simp] theorem State.withBlock_pending (s : State) (b : Block) : (s.withBlock b).pending = s.pending := rfl
@[simp] theorem State.withBlock_otp (s : State) (b : Block) : (s.withBlock b).otp = s.otp := rfl
@[simp] theorem State.withBlock_mem (s : State) (b : Block) : (s.withBlock b).mem = s.mem := rfl
@[simp] theorem State.withBlock_b (s : State) (b : Block) : (s.withBlock b).b = b := rfl
@[simp] theorem State.withMem_pending (s : State) (m : MemSt) : (s.withMem m).pending = s.pending := rfl
@[simp] theorem State.withMem_otp (s : State) (m : MemSt) : (s.withMem m).otp = s.otp := rfl
@[simp] theorem State.withMem_mem (s : State) (m : MemSt) : (s.withMem m).mem = m := rfl
@[simp] theorem State.withMem_b (s : State) (m : MemSt) : (s.withMem m).b = s.b := rfl
@[simp] theorem State.withOtp_pending (s : State) (o : Otp) : (s.withOtp o).pending = s.pending := rfl
@[simp] theorem State.withOtp_otp (s : State) (o : Otp) : (s.withOtp o).otp = o := rfl
@[simp] theorem State.withOtp_mem (s : State) (o : Otp) : (s.withOtp o).mem = s.mem := rfl
@[simp] theorem State.withOtp_b (s : State) (o : Otp) : (s.withOtp o).b = s.b := rfl

/-- A meaning that changes the block alone answers the state with its block replaced. -/
theorem onBlock_eq (f : Block → Block) (s : State) : onBlock f s = .next (s.withBlock (f s.b)) := rfl

end Sys2Proof.Machine

namespace Sys2Proof

@[simp] theorem Block.modLane_free (b : Block) (l : Lane) (f : LaneSt → LaneSt) : (b.modLane l f).free = b.free := rfl
@[simp] theorem Block.modLane_mod (b : Block) (l : Lane) (f : LaneSt → LaneSt) : (b.modLane l f).mod = b.mod := rfl
@[simp] theorem Block.modLane_lanes (b : Block) (l : Lane) (f : LaneSt → LaneSt) :
    (b.modLane l f).lanes = b.lanes.upd l f := rfl
@[simp] theorem Block.modLane_mail (b : Block) (l : Lane) (f : LaneSt → LaneSt) : (b.modLane l f).mail = b.mail := rfl
@[simp] theorem Block.modLane_part (b : Block) (l : Lane) (f : LaneSt → LaneSt) : (b.modLane l f).part = b.part := rfl
@[simp] theorem Block.modLane_dies (b : Block) (l : Lane) (f : LaneSt → LaneSt) : (b.modLane l f).dies = b.dies := rfl
@[simp] theorem Block.modLane_links (b : Block) (l : Lane) (f : LaneSt → LaneSt) : (b.modLane l f).links = b.links := rfl
@[simp] theorem Block.modLane_inputs (b : Block) (l : Lane) (f : LaneSt → LaneSt) : (b.modLane l f).inputs = b.inputs := rfl
@[simp] theorem Block.modLane_can (b : Block) (l : Lane) (f : LaneSt → LaneSt) : (b.modLane l f).can = b.can := rfl
@[simp] theorem Block.modLane_net (b : Block) (l : Lane) (f : LaneSt → LaneSt) : (b.modLane l f).net = b.net := rfl
@[simp] theorem Block.modLane_nw (b : Block) (l : Lane) (f : LaneSt → LaneSt) : (b.modLane l f).nw = b.nw := rfl
@[simp] theorem Block.modLane_bridge (b : Block) (l : Lane) (f : LaneSt → LaneSt) : (b.modLane l f).bridge = b.bridge := rfl
@[simp] theorem Block.modLane_keys (b : Block) (l : Lane) (f : LaneSt → LaneSt) : (b.modLane l f).keys = b.keys := rfl
@[simp] theorem Block.modLane_cipher (b : Block) (l : Lane) (f : LaneSt → LaneSt) : (b.modLane l f).cipher = b.cipher := rfl
@[simp] theorem Block.modLane_img (b : Block) (l : Lane) (f : LaneSt → LaneSt) : (b.modLane l f).img = b.img := rfl
@[simp] theorem Block.modLane_ev (b : Block) (l : Lane) (f : LaneSt → LaneSt) : (b.modLane l f).ev = b.ev := rfl
@[simp] theorem Block.modLane_cool (b : Block) (l : Lane) (f : LaneSt → LaneSt) : (b.modLane l f).cool = b.cool := rfl
@[simp] theorem Block.modLane_params (b : Block) (l : Lane) (f : LaneSt → LaneSt) : (b.modLane l f).params = b.params := rfl

@[simp] theorem Block.modLanes_free (b : Block) (f : LaneSt → LaneSt) : (b.modLanes f).free = b.free := rfl
@[simp] theorem Block.modLanes_mod (b : Block) (f : LaneSt → LaneSt) : (b.modLanes f).mod = b.mod := rfl
@[simp] theorem Block.modLanes_lanes (b : Block) (f : LaneSt → LaneSt) : (b.modLanes f).lanes = b.lanes.map f := rfl
@[simp] theorem Block.modLanes_mail (b : Block) (f : LaneSt → LaneSt) : (b.modLanes f).mail = b.mail := rfl
@[simp] theorem Block.modLanes_part (b : Block) (f : LaneSt → LaneSt) : (b.modLanes f).part = b.part := rfl
@[simp] theorem Block.modLanes_dies (b : Block) (f : LaneSt → LaneSt) : (b.modLanes f).dies = b.dies := rfl
@[simp] theorem Block.modLanes_links (b : Block) (f : LaneSt → LaneSt) : (b.modLanes f).links = b.links := rfl
@[simp] theorem Block.modLanes_inputs (b : Block) (f : LaneSt → LaneSt) : (b.modLanes f).inputs = b.inputs := rfl
@[simp] theorem Block.modLanes_can (b : Block) (f : LaneSt → LaneSt) : (b.modLanes f).can = b.can := rfl
@[simp] theorem Block.modLanes_net (b : Block) (f : LaneSt → LaneSt) : (b.modLanes f).net = b.net := rfl
@[simp] theorem Block.modLanes_nw (b : Block) (f : LaneSt → LaneSt) : (b.modLanes f).nw = b.nw := rfl
@[simp] theorem Block.modLanes_bridge (b : Block) (f : LaneSt → LaneSt) : (b.modLanes f).bridge = b.bridge := rfl
@[simp] theorem Block.modLanes_keys (b : Block) (f : LaneSt → LaneSt) : (b.modLanes f).keys = b.keys := rfl
@[simp] theorem Block.modLanes_cipher (b : Block) (f : LaneSt → LaneSt) : (b.modLanes f).cipher = b.cipher := rfl
@[simp] theorem Block.modLanes_img (b : Block) (f : LaneSt → LaneSt) : (b.modLanes f).img = b.img := rfl
@[simp] theorem Block.modLanes_ev (b : Block) (f : LaneSt → LaneSt) : (b.modLanes f).ev = b.ev := rfl
@[simp] theorem Block.modLanes_cool (b : Block) (f : LaneSt → LaneSt) : (b.modLanes f).cool = b.cool := rfl
@[simp] theorem Block.modLanes_params (b : Block) (f : LaneSt → LaneSt) : (b.modLanes f).params = b.params := rfl

@[simp] theorem Block.modMod_free (b : Block) (f : ModuleSt → ModuleSt) : (b.modMod f).free = b.free := rfl
@[simp] theorem Block.modMod_mod (b : Block) (f : ModuleSt → ModuleSt) : (b.modMod f).mod = f b.mod := rfl
@[simp] theorem Block.modMod_lanes (b : Block) (f : ModuleSt → ModuleSt) : (b.modMod f).lanes = b.lanes := rfl
@[simp] theorem Block.modMod_mail (b : Block) (f : ModuleSt → ModuleSt) : (b.modMod f).mail = b.mail := rfl
@[simp] theorem Block.modMod_part (b : Block) (f : ModuleSt → ModuleSt) : (b.modMod f).part = b.part := rfl
@[simp] theorem Block.modMod_dies (b : Block) (f : ModuleSt → ModuleSt) : (b.modMod f).dies = b.dies := rfl
@[simp] theorem Block.modMod_links (b : Block) (f : ModuleSt → ModuleSt) : (b.modMod f).links = b.links := rfl
@[simp] theorem Block.modMod_inputs (b : Block) (f : ModuleSt → ModuleSt) : (b.modMod f).inputs = b.inputs := rfl
@[simp] theorem Block.modMod_can (b : Block) (f : ModuleSt → ModuleSt) : (b.modMod f).can = b.can := rfl
@[simp] theorem Block.modMod_net (b : Block) (f : ModuleSt → ModuleSt) : (b.modMod f).net = b.net := rfl
@[simp] theorem Block.modMod_nw (b : Block) (f : ModuleSt → ModuleSt) : (b.modMod f).nw = b.nw := rfl
@[simp] theorem Block.modMod_bridge (b : Block) (f : ModuleSt → ModuleSt) : (b.modMod f).bridge = b.bridge := rfl
@[simp] theorem Block.modMod_keys (b : Block) (f : ModuleSt → ModuleSt) : (b.modMod f).keys = b.keys := rfl
@[simp] theorem Block.modMod_cipher (b : Block) (f : ModuleSt → ModuleSt) : (b.modMod f).cipher = b.cipher := rfl
@[simp] theorem Block.modMod_img (b : Block) (f : ModuleSt → ModuleSt) : (b.modMod f).img = b.img := rfl
@[simp] theorem Block.modMod_ev (b : Block) (f : ModuleSt → ModuleSt) : (b.modMod f).ev = b.ev := rfl
@[simp] theorem Block.modMod_cool (b : Block) (f : ModuleSt → ModuleSt) : (b.modMod f).cool = b.cool := rfl
@[simp] theorem Block.modMod_params (b : Block) (f : ModuleSt → ModuleSt) : (b.modMod f).params = b.params := rfl

@[simp] theorem Block.modDie_free (b : Block) (d : Nat) (f : DieSt → DieSt) : (b.modDie d f).free = b.free := rfl
@[simp] theorem Block.modDie_mod (b : Block) (d : Nat) (f : DieSt → DieSt) : (b.modDie d f).mod = b.mod := rfl
@[simp] theorem Block.modDie_lanes (b : Block) (d : Nat) (f : DieSt → DieSt) : (b.modDie d f).lanes = b.lanes := rfl
@[simp] theorem Block.modDie_mail (b : Block) (d : Nat) (f : DieSt → DieSt) : (b.modDie d f).mail = b.mail := rfl
@[simp] theorem Block.modDie_part (b : Block) (d : Nat) (f : DieSt → DieSt) : (b.modDie d f).part = b.part := rfl
@[simp] theorem Block.modDie_dies (b : Block) (d : Nat) (f : DieSt → DieSt) : (b.modDie d f).dies = updAt b.dies d f := rfl
@[simp] theorem Block.modDie_links (b : Block) (d : Nat) (f : DieSt → DieSt) : (b.modDie d f).links = b.links := rfl
@[simp] theorem Block.modDie_inputs (b : Block) (d : Nat) (f : DieSt → DieSt) : (b.modDie d f).inputs = b.inputs := rfl
@[simp] theorem Block.modDie_can (b : Block) (d : Nat) (f : DieSt → DieSt) : (b.modDie d f).can = b.can := rfl
@[simp] theorem Block.modDie_net (b : Block) (d : Nat) (f : DieSt → DieSt) : (b.modDie d f).net = b.net := rfl
@[simp] theorem Block.modDie_nw (b : Block) (d : Nat) (f : DieSt → DieSt) : (b.modDie d f).nw = b.nw := rfl
@[simp] theorem Block.modDie_bridge (b : Block) (d : Nat) (f : DieSt → DieSt) : (b.modDie d f).bridge = b.bridge := rfl
@[simp] theorem Block.modDie_keys (b : Block) (d : Nat) (f : DieSt → DieSt) : (b.modDie d f).keys = b.keys := rfl
@[simp] theorem Block.modDie_cipher (b : Block) (d : Nat) (f : DieSt → DieSt) : (b.modDie d f).cipher = b.cipher := rfl
@[simp] theorem Block.modDie_img (b : Block) (d : Nat) (f : DieSt → DieSt) : (b.modDie d f).img = b.img := rfl
@[simp] theorem Block.modDie_ev (b : Block) (d : Nat) (f : DieSt → DieSt) : (b.modDie d f).ev = b.ev := rfl
@[simp] theorem Block.modDie_cool (b : Block) (d : Nat) (f : DieSt → DieSt) : (b.modDie d f).cool = b.cool := rfl
@[simp] theorem Block.modDie_params (b : Block) (d : Nat) (f : DieSt → DieSt) : (b.modDie d f).params = b.params := rfl

@[simp] theorem Block.modChan_free (b : Block) (c : Nat) (f : ChanSt → ChanSt) : (b.modChan c f).free = b.free := rfl
@[simp] theorem Block.modChan_mod (b : Block) (c : Nat) (f : ChanSt → ChanSt) : (b.modChan c f).mod = b.mod := rfl
@[simp] theorem Block.modChan_lanes (b : Block) (c : Nat) (f : ChanSt → ChanSt) : (b.modChan c f).lanes = b.lanes := rfl
@[simp] theorem Block.modChan_mail (b : Block) (c : Nat) (f : ChanSt → ChanSt) : (b.modChan c f).mail = b.mail := rfl
@[simp] theorem Block.modChan_part (b : Block) (c : Nat) (f : ChanSt → ChanSt) : (b.modChan c f).part = b.part := rfl
@[simp] theorem Block.modChan_dies (b : Block) (c : Nat) (f : ChanSt → ChanSt) :
    (b.modChan c f).dies = updAt b.dies (c / 16) fun d => d.modChan (c % 16) f := rfl
@[simp] theorem Block.modChan_links (b : Block) (c : Nat) (f : ChanSt → ChanSt) : (b.modChan c f).links = b.links := rfl
@[simp] theorem Block.modChan_inputs (b : Block) (c : Nat) (f : ChanSt → ChanSt) : (b.modChan c f).inputs = b.inputs := rfl
@[simp] theorem Block.modChan_can (b : Block) (c : Nat) (f : ChanSt → ChanSt) : (b.modChan c f).can = b.can := rfl
@[simp] theorem Block.modChan_net (b : Block) (c : Nat) (f : ChanSt → ChanSt) : (b.modChan c f).net = b.net := rfl
@[simp] theorem Block.modChan_nw (b : Block) (c : Nat) (f : ChanSt → ChanSt) : (b.modChan c f).nw = b.nw := rfl
@[simp] theorem Block.modChan_bridge (b : Block) (c : Nat) (f : ChanSt → ChanSt) : (b.modChan c f).bridge = b.bridge := rfl
@[simp] theorem Block.modChan_keys (b : Block) (c : Nat) (f : ChanSt → ChanSt) : (b.modChan c f).keys = b.keys := rfl
@[simp] theorem Block.modChan_cipher (b : Block) (c : Nat) (f : ChanSt → ChanSt) : (b.modChan c f).cipher = b.cipher := rfl
@[simp] theorem Block.modChan_img (b : Block) (c : Nat) (f : ChanSt → ChanSt) : (b.modChan c f).img = b.img := rfl
@[simp] theorem Block.modChan_ev (b : Block) (c : Nat) (f : ChanSt → ChanSt) : (b.modChan c f).ev = b.ev := rfl
@[simp] theorem Block.modChan_cool (b : Block) (c : Nat) (f : ChanSt → ChanSt) : (b.modChan c f).cool = b.cool := rfl
@[simp] theorem Block.modChan_params (b : Block) (c : Nat) (f : ChanSt → ChanSt) : (b.modChan c f).params = b.params := rfl

@[simp] theorem Block.modLink_free (b : Block) (d : Nat) (f : DieLink → DieLink) : (b.modLink d f).free = b.free := rfl
@[simp] theorem Block.modLink_mod (b : Block) (d : Nat) (f : DieLink → DieLink) : (b.modLink d f).mod = b.mod := rfl
@[simp] theorem Block.modLink_lanes (b : Block) (d : Nat) (f : DieLink → DieLink) : (b.modLink d f).lanes = b.lanes := rfl
@[simp] theorem Block.modLink_mail (b : Block) (d : Nat) (f : DieLink → DieLink) : (b.modLink d f).mail = b.mail := rfl
@[simp] theorem Block.modLink_part (b : Block) (d : Nat) (f : DieLink → DieLink) : (b.modLink d f).part = b.part := rfl
@[simp] theorem Block.modLink_dies (b : Block) (d : Nat) (f : DieLink → DieLink) : (b.modLink d f).dies = b.dies := rfl
@[simp] theorem Block.modLink_links (b : Block) (d : Nat) (f : DieLink → DieLink) :
    (b.modLink d f).links = updAt b.links d f := rfl
@[simp] theorem Block.modLink_inputs (b : Block) (d : Nat) (f : DieLink → DieLink) : (b.modLink d f).inputs = b.inputs := rfl
@[simp] theorem Block.modLink_can (b : Block) (d : Nat) (f : DieLink → DieLink) : (b.modLink d f).can = b.can := rfl
@[simp] theorem Block.modLink_net (b : Block) (d : Nat) (f : DieLink → DieLink) : (b.modLink d f).net = b.net := rfl
@[simp] theorem Block.modLink_nw (b : Block) (d : Nat) (f : DieLink → DieLink) : (b.modLink d f).nw = b.nw := rfl
@[simp] theorem Block.modLink_bridge (b : Block) (d : Nat) (f : DieLink → DieLink) : (b.modLink d f).bridge = b.bridge := rfl
@[simp] theorem Block.modLink_keys (b : Block) (d : Nat) (f : DieLink → DieLink) : (b.modLink d f).keys = b.keys := rfl
@[simp] theorem Block.modLink_cipher (b : Block) (d : Nat) (f : DieLink → DieLink) : (b.modLink d f).cipher = b.cipher := rfl
@[simp] theorem Block.modLink_img (b : Block) (d : Nat) (f : DieLink → DieLink) : (b.modLink d f).img = b.img := rfl
@[simp] theorem Block.modLink_ev (b : Block) (d : Nat) (f : DieLink → DieLink) : (b.modLink d f).ev = b.ev := rfl
@[simp] theorem Block.modLink_cool (b : Block) (d : Nat) (f : DieLink → DieLink) : (b.modLink d f).cool = b.cool := rfl
@[simp] theorem Block.modLink_params (b : Block) (d : Nat) (f : DieLink → DieLink) : (b.modLink d f).params = b.params := rfl

@[simp] theorem Block.modSlice_free (b : Block) (p : Nat) (f : Slice → Slice) : (b.modSlice p f).free = b.free := rfl
@[simp] theorem Block.modSlice_mod (b : Block) (p : Nat) (f : Slice → Slice) : (b.modSlice p f).mod = b.mod := rfl
@[simp] theorem Block.modSlice_lanes (b : Block) (p : Nat) (f : Slice → Slice) : (b.modSlice p f).lanes = b.lanes := rfl
@[simp] theorem Block.modSlice_mail (b : Block) (p : Nat) (f : Slice → Slice) : (b.modSlice p f).mail = b.mail := rfl
@[simp] theorem Block.modSlice_part (b : Block) (p : Nat) (f : Slice → Slice) :
    (b.modSlice p f).part = { b.part with slices := updAt b.part.slices p f } := rfl
@[simp] theorem Block.modSlice_dies (b : Block) (p : Nat) (f : Slice → Slice) : (b.modSlice p f).dies = b.dies := rfl
@[simp] theorem Block.modSlice_links (b : Block) (p : Nat) (f : Slice → Slice) : (b.modSlice p f).links = b.links := rfl
@[simp] theorem Block.modSlice_inputs (b : Block) (p : Nat) (f : Slice → Slice) : (b.modSlice p f).inputs = b.inputs := rfl
@[simp] theorem Block.modSlice_can (b : Block) (p : Nat) (f : Slice → Slice) : (b.modSlice p f).can = b.can := rfl
@[simp] theorem Block.modSlice_net (b : Block) (p : Nat) (f : Slice → Slice) : (b.modSlice p f).net = b.net := rfl
@[simp] theorem Block.modSlice_nw (b : Block) (p : Nat) (f : Slice → Slice) : (b.modSlice p f).nw = b.nw := rfl
@[simp] theorem Block.modSlice_bridge (b : Block) (p : Nat) (f : Slice → Slice) : (b.modSlice p f).bridge = b.bridge := rfl
@[simp] theorem Block.modSlice_keys (b : Block) (p : Nat) (f : Slice → Slice) : (b.modSlice p f).keys = b.keys := rfl
@[simp] theorem Block.modSlice_cipher (b : Block) (p : Nat) (f : Slice → Slice) : (b.modSlice p f).cipher = b.cipher := rfl
@[simp] theorem Block.modSlice_img (b : Block) (p : Nat) (f : Slice → Slice) : (b.modSlice p f).img = b.img := rfl
@[simp] theorem Block.modSlice_ev (b : Block) (p : Nat) (f : Slice → Slice) : (b.modSlice p f).ev = b.ev := rfl
@[simp] theorem Block.modSlice_cool (b : Block) (p : Nat) (f : Slice → Slice) : (b.modSlice p f).cool = b.cool := rfl
@[simp] theorem Block.modSlice_params (b : Block) (p : Nat) (f : Slice → Slice) : (b.modSlice p f).params = b.params := rfl

@[simp] theorem Block.modRates_free (b : Block) (p : Nat) (f : Rates → Rates) : (b.modRates p f).free = b.free := rfl
@[simp] theorem Block.modRates_mod (b : Block) (p : Nat) (f : Rates → Rates) : (b.modRates p f).mod = b.mod := rfl
@[simp] theorem Block.modRates_lanes (b : Block) (p : Nat) (f : Rates → Rates) : (b.modRates p f).lanes = b.lanes := rfl
@[simp] theorem Block.modRates_mail (b : Block) (p : Nat) (f : Rates → Rates) : (b.modRates p f).mail = b.mail := rfl
@[simp] theorem Block.modRates_part (b : Block) (p : Nat) (f : Rates → Rates) :
    (b.modRates p f).part = { b.part with rates := updAt b.part.rates p f } := rfl
@[simp] theorem Block.modRates_dies (b : Block) (p : Nat) (f : Rates → Rates) : (b.modRates p f).dies = b.dies := rfl
@[simp] theorem Block.modRates_links (b : Block) (p : Nat) (f : Rates → Rates) : (b.modRates p f).links = b.links := rfl
@[simp] theorem Block.modRates_inputs (b : Block) (p : Nat) (f : Rates → Rates) : (b.modRates p f).inputs = b.inputs := rfl
@[simp] theorem Block.modRates_can (b : Block) (p : Nat) (f : Rates → Rates) : (b.modRates p f).can = b.can := rfl
@[simp] theorem Block.modRates_net (b : Block) (p : Nat) (f : Rates → Rates) : (b.modRates p f).net = b.net := rfl
@[simp] theorem Block.modRates_nw (b : Block) (p : Nat) (f : Rates → Rates) : (b.modRates p f).nw = b.nw := rfl
@[simp] theorem Block.modRates_bridge (b : Block) (p : Nat) (f : Rates → Rates) : (b.modRates p f).bridge = b.bridge := rfl
@[simp] theorem Block.modRates_keys (b : Block) (p : Nat) (f : Rates → Rates) : (b.modRates p f).keys = b.keys := rfl
@[simp] theorem Block.modRates_cipher (b : Block) (p : Nat) (f : Rates → Rates) : (b.modRates p f).cipher = b.cipher := rfl
@[simp] theorem Block.modRates_img (b : Block) (p : Nat) (f : Rates → Rates) : (b.modRates p f).img = b.img := rfl
@[simp] theorem Block.modRates_ev (b : Block) (p : Nat) (f : Rates → Rates) : (b.modRates p f).ev = b.ev := rfl
@[simp] theorem Block.modRates_cool (b : Block) (p : Nat) (f : Rates → Rates) : (b.modRates p f).cool = b.cool := rfl
@[simp] theorem Block.modRates_params (b : Block) (p : Nat) (f : Rates → Rates) : (b.modRates p f).params = b.params := rfl

@[simp] theorem Block.modViol_free (b : Block) (p : Nat) (f : Violations → Violations) : (b.modViol p f).free = b.free := rfl
@[simp] theorem Block.modViol_mod (b : Block) (p : Nat) (f : Violations → Violations) : (b.modViol p f).mod = b.mod := rfl
@[simp] theorem Block.modViol_lanes (b : Block) (p : Nat) (f : Violations → Violations) :
    (b.modViol p f).lanes = b.lanes := rfl
@[simp] theorem Block.modViol_mail (b : Block) (p : Nat) (f : Violations → Violations) : (b.modViol p f).mail = b.mail := rfl
@[simp] theorem Block.modViol_part (b : Block) (p : Nat) (f : Violations → Violations) :
    (b.modViol p f).part = { b.part with viol := updAt b.part.viol p f } := rfl
@[simp] theorem Block.modViol_dies (b : Block) (p : Nat) (f : Violations → Violations) : (b.modViol p f).dies = b.dies := rfl
@[simp] theorem Block.modViol_links (b : Block) (p : Nat) (f : Violations → Violations) :
    (b.modViol p f).links = b.links := rfl
@[simp] theorem Block.modViol_inputs (b : Block) (p : Nat) (f : Violations → Violations) :
    (b.modViol p f).inputs = b.inputs := rfl
@[simp] theorem Block.modViol_can (b : Block) (p : Nat) (f : Violations → Violations) : (b.modViol p f).can = b.can := rfl
@[simp] theorem Block.modViol_net (b : Block) (p : Nat) (f : Violations → Violations) : (b.modViol p f).net = b.net := rfl
@[simp] theorem Block.modViol_nw (b : Block) (p : Nat) (f : Violations → Violations) : (b.modViol p f).nw = b.nw := rfl
@[simp] theorem Block.modViol_bridge (b : Block) (p : Nat) (f : Violations → Violations) :
    (b.modViol p f).bridge = b.bridge := rfl
@[simp] theorem Block.modViol_keys (b : Block) (p : Nat) (f : Violations → Violations) : (b.modViol p f).keys = b.keys := rfl
@[simp] theorem Block.modViol_cipher (b : Block) (p : Nat) (f : Violations → Violations) :
    (b.modViol p f).cipher = b.cipher := rfl
@[simp] theorem Block.modViol_img (b : Block) (p : Nat) (f : Violations → Violations) : (b.modViol p f).img = b.img := rfl
@[simp] theorem Block.modViol_ev (b : Block) (p : Nat) (f : Violations → Violations) : (b.modViol p f).ev = b.ev := rfl
@[simp] theorem Block.modViol_cool (b : Block) (p : Nat) (f : Violations → Violations) : (b.modViol p f).cool = b.cool := rfl
@[simp] theorem Block.modViol_params (b : Block) (p : Nat) (f : Violations → Violations) :
    (b.modViol p f).params = b.params := rfl

@[simp] theorem Block.modInput_free (b : Block) (i : Nat) (f : InputSt → InputSt) : (b.modInput i f).free = b.free := rfl
@[simp] theorem Block.modInput_mod (b : Block) (i : Nat) (f : InputSt → InputSt) : (b.modInput i f).mod = b.mod := rfl
@[simp] theorem Block.modInput_lanes (b : Block) (i : Nat) (f : InputSt → InputSt) : (b.modInput i f).lanes = b.lanes := rfl
@[simp] theorem Block.modInput_mail (b : Block) (i : Nat) (f : InputSt → InputSt) : (b.modInput i f).mail = b.mail := rfl
@[simp] theorem Block.modInput_part (b : Block) (i : Nat) (f : InputSt → InputSt) : (b.modInput i f).part = b.part := rfl
@[simp] theorem Block.modInput_dies (b : Block) (i : Nat) (f : InputSt → InputSt) : (b.modInput i f).dies = b.dies := rfl
@[simp] theorem Block.modInput_links (b : Block) (i : Nat) (f : InputSt → InputSt) : (b.modInput i f).links = b.links := rfl
@[simp] theorem Block.modInput_inputs (b : Block) (i : Nat) (f : InputSt → InputSt) :
    (b.modInput i f).inputs = updAt b.inputs i f := rfl
@[simp] theorem Block.modInput_can (b : Block) (i : Nat) (f : InputSt → InputSt) : (b.modInput i f).can = b.can := rfl
@[simp] theorem Block.modInput_net (b : Block) (i : Nat) (f : InputSt → InputSt) : (b.modInput i f).net = b.net := rfl
@[simp] theorem Block.modInput_nw (b : Block) (i : Nat) (f : InputSt → InputSt) : (b.modInput i f).nw = b.nw := rfl
@[simp] theorem Block.modInput_bridge (b : Block) (i : Nat) (f : InputSt → InputSt) :
    (b.modInput i f).bridge = b.bridge := rfl
@[simp] theorem Block.modInput_keys (b : Block) (i : Nat) (f : InputSt → InputSt) : (b.modInput i f).keys = b.keys := rfl
@[simp] theorem Block.modInput_cipher (b : Block) (i : Nat) (f : InputSt → InputSt) :
    (b.modInput i f).cipher = b.cipher := rfl
@[simp] theorem Block.modInput_img (b : Block) (i : Nat) (f : InputSt → InputSt) : (b.modInput i f).img = b.img := rfl
@[simp] theorem Block.modInput_ev (b : Block) (i : Nat) (f : InputSt → InputSt) : (b.modInput i f).ev = b.ev := rfl
@[simp] theorem Block.modInput_cool (b : Block) (i : Nat) (f : InputSt → InputSt) : (b.modInput i f).cool = b.cool := rfl
@[simp] theorem Block.modInput_params (b : Block) (i : Nat) (f : InputSt → InputSt) :
    (b.modInput i f).params = b.params := rfl

@[simp] theorem Block.modBus_free (b : Block) (i : Nat) (f : CanBus → CanBus) : (b.modBus i f).free = b.free := rfl
@[simp] theorem Block.modBus_mod (b : Block) (i : Nat) (f : CanBus → CanBus) : (b.modBus i f).mod = b.mod := rfl
@[simp] theorem Block.modBus_lanes (b : Block) (i : Nat) (f : CanBus → CanBus) : (b.modBus i f).lanes = b.lanes := rfl
@[simp] theorem Block.modBus_mail (b : Block) (i : Nat) (f : CanBus → CanBus) : (b.modBus i f).mail = b.mail := rfl
@[simp] theorem Block.modBus_part (b : Block) (i : Nat) (f : CanBus → CanBus) : (b.modBus i f).part = b.part := rfl
@[simp] theorem Block.modBus_dies (b : Block) (i : Nat) (f : CanBus → CanBus) : (b.modBus i f).dies = b.dies := rfl
@[simp] theorem Block.modBus_links (b : Block) (i : Nat) (f : CanBus → CanBus) : (b.modBus i f).links = b.links := rfl
@[simp] theorem Block.modBus_inputs (b : Block) (i : Nat) (f : CanBus → CanBus) : (b.modBus i f).inputs = b.inputs := rfl
@[simp] theorem Block.modBus_can (b : Block) (i : Nat) (f : CanBus → CanBus) : (b.modBus i f).can = updAt b.can i f := rfl
@[simp] theorem Block.modBus_net (b : Block) (i : Nat) (f : CanBus → CanBus) : (b.modBus i f).net = b.net := rfl
@[simp] theorem Block.modBus_nw (b : Block) (i : Nat) (f : CanBus → CanBus) : (b.modBus i f).nw = b.nw := rfl
@[simp] theorem Block.modBus_bridge (b : Block) (i : Nat) (f : CanBus → CanBus) : (b.modBus i f).bridge = b.bridge := rfl
@[simp] theorem Block.modBus_keys (b : Block) (i : Nat) (f : CanBus → CanBus) : (b.modBus i f).keys = b.keys := rfl
@[simp] theorem Block.modBus_cipher (b : Block) (i : Nat) (f : CanBus → CanBus) : (b.modBus i f).cipher = b.cipher := rfl
@[simp] theorem Block.modBus_img (b : Block) (i : Nat) (f : CanBus → CanBus) : (b.modBus i f).img = b.img := rfl
@[simp] theorem Block.modBus_ev (b : Block) (i : Nat) (f : CanBus → CanBus) : (b.modBus i f).ev = b.ev := rfl
@[simp] theorem Block.modBus_cool (b : Block) (i : Nat) (f : CanBus → CanBus) : (b.modBus i f).cool = b.cool := rfl
@[simp] theorem Block.modBus_params (b : Block) (i : Nat) (f : CanBus → CanBus) : (b.modBus i f).params = b.params := rfl

@[simp] theorem Block.modKeys_free (b : Block) (f : KeySt → KeySt) : (b.modKeys f).free = b.free := rfl
@[simp] theorem Block.modKeys_mod (b : Block) (f : KeySt → KeySt) : (b.modKeys f).mod = b.mod := rfl
@[simp] theorem Block.modKeys_lanes (b : Block) (f : KeySt → KeySt) : (b.modKeys f).lanes = b.lanes := rfl
@[simp] theorem Block.modKeys_mail (b : Block) (f : KeySt → KeySt) : (b.modKeys f).mail = b.mail := rfl
@[simp] theorem Block.modKeys_part (b : Block) (f : KeySt → KeySt) : (b.modKeys f).part = b.part := rfl
@[simp] theorem Block.modKeys_dies (b : Block) (f : KeySt → KeySt) : (b.modKeys f).dies = b.dies := rfl
@[simp] theorem Block.modKeys_links (b : Block) (f : KeySt → KeySt) : (b.modKeys f).links = b.links := rfl
@[simp] theorem Block.modKeys_inputs (b : Block) (f : KeySt → KeySt) : (b.modKeys f).inputs = b.inputs := rfl
@[simp] theorem Block.modKeys_can (b : Block) (f : KeySt → KeySt) : (b.modKeys f).can = b.can := rfl
@[simp] theorem Block.modKeys_net (b : Block) (f : KeySt → KeySt) : (b.modKeys f).net = b.net := rfl
@[simp] theorem Block.modKeys_nw (b : Block) (f : KeySt → KeySt) : (b.modKeys f).nw = b.nw := rfl
@[simp] theorem Block.modKeys_bridge (b : Block) (f : KeySt → KeySt) : (b.modKeys f).bridge = b.bridge := rfl
@[simp] theorem Block.modKeys_keys (b : Block) (f : KeySt → KeySt) : (b.modKeys f).keys = f b.keys := rfl
@[simp] theorem Block.modKeys_cipher (b : Block) (f : KeySt → KeySt) : (b.modKeys f).cipher = b.cipher := rfl
@[simp] theorem Block.modKeys_img (b : Block) (f : KeySt → KeySt) : (b.modKeys f).img = b.img := rfl
@[simp] theorem Block.modKeys_ev (b : Block) (f : KeySt → KeySt) : (b.modKeys f).ev = b.ev := rfl
@[simp] theorem Block.modKeys_cool (b : Block) (f : KeySt → KeySt) : (b.modKeys f).cool = b.cool := rfl
@[simp] theorem Block.modKeys_params (b : Block) (f : KeySt → KeySt) : (b.modKeys f).params = b.params := rfl

@[simp] theorem Block.modSlot_free (b : Block) (i : Nat) (f : KeySlot → KeySlot) : (b.modSlot i f).free = b.free := rfl
@[simp] theorem Block.modSlot_mod (b : Block) (i : Nat) (f : KeySlot → KeySlot) : (b.modSlot i f).mod = b.mod := rfl
@[simp] theorem Block.modSlot_lanes (b : Block) (i : Nat) (f : KeySlot → KeySlot) : (b.modSlot i f).lanes = b.lanes := rfl
@[simp] theorem Block.modSlot_mail (b : Block) (i : Nat) (f : KeySlot → KeySlot) : (b.modSlot i f).mail = b.mail := rfl
@[simp] theorem Block.modSlot_part (b : Block) (i : Nat) (f : KeySlot → KeySlot) : (b.modSlot i f).part = b.part := rfl
@[simp] theorem Block.modSlot_dies (b : Block) (i : Nat) (f : KeySlot → KeySlot) : (b.modSlot i f).dies = b.dies := rfl
@[simp] theorem Block.modSlot_links (b : Block) (i : Nat) (f : KeySlot → KeySlot) : (b.modSlot i f).links = b.links := rfl
@[simp] theorem Block.modSlot_inputs (b : Block) (i : Nat) (f : KeySlot → KeySlot) : (b.modSlot i f).inputs = b.inputs := rfl
@[simp] theorem Block.modSlot_can (b : Block) (i : Nat) (f : KeySlot → KeySlot) : (b.modSlot i f).can = b.can := rfl
@[simp] theorem Block.modSlot_net (b : Block) (i : Nat) (f : KeySlot → KeySlot) : (b.modSlot i f).net = b.net := rfl
@[simp] theorem Block.modSlot_nw (b : Block) (i : Nat) (f : KeySlot → KeySlot) : (b.modSlot i f).nw = b.nw := rfl
@[simp] theorem Block.modSlot_bridge (b : Block) (i : Nat) (f : KeySlot → KeySlot) : (b.modSlot i f).bridge = b.bridge := rfl
@[simp] theorem Block.modSlot_keys (b : Block) (i : Nat) (f : KeySlot → KeySlot) :
    (b.modSlot i f).keys = { b.keys with slots := updAt b.keys.slots i f } := rfl
@[simp] theorem Block.modSlot_cipher (b : Block) (i : Nat) (f : KeySlot → KeySlot) : (b.modSlot i f).cipher = b.cipher := rfl
@[simp] theorem Block.modSlot_img (b : Block) (i : Nat) (f : KeySlot → KeySlot) : (b.modSlot i f).img = b.img := rfl
@[simp] theorem Block.modSlot_ev (b : Block) (i : Nat) (f : KeySlot → KeySlot) : (b.modSlot i f).ev = b.ev := rfl
@[simp] theorem Block.modSlot_cool (b : Block) (i : Nat) (f : KeySlot → KeySlot) : (b.modSlot i f).cool = b.cool := rfl
@[simp] theorem Block.modSlot_params (b : Block) (i : Nat) (f : KeySlot → KeySlot) : (b.modSlot i f).params = b.params := rfl

@[simp] theorem Block.modCtx_free (b : Block) (i : Nat) (f : CipherCtx → CipherCtx) : (b.modCtx i f).free = b.free := rfl
@[simp] theorem Block.modCtx_mod (b : Block) (i : Nat) (f : CipherCtx → CipherCtx) : (b.modCtx i f).mod = b.mod := rfl
@[simp] theorem Block.modCtx_lanes (b : Block) (i : Nat) (f : CipherCtx → CipherCtx) : (b.modCtx i f).lanes = b.lanes := rfl
@[simp] theorem Block.modCtx_mail (b : Block) (i : Nat) (f : CipherCtx → CipherCtx) : (b.modCtx i f).mail = b.mail := rfl
@[simp] theorem Block.modCtx_part (b : Block) (i : Nat) (f : CipherCtx → CipherCtx) : (b.modCtx i f).part = b.part := rfl
@[simp] theorem Block.modCtx_dies (b : Block) (i : Nat) (f : CipherCtx → CipherCtx) : (b.modCtx i f).dies = b.dies := rfl
@[simp] theorem Block.modCtx_links (b : Block) (i : Nat) (f : CipherCtx → CipherCtx) : (b.modCtx i f).links = b.links := rfl
@[simp] theorem Block.modCtx_inputs (b : Block) (i : Nat) (f : CipherCtx → CipherCtx) :
    (b.modCtx i f).inputs = b.inputs := rfl
@[simp] theorem Block.modCtx_can (b : Block) (i : Nat) (f : CipherCtx → CipherCtx) : (b.modCtx i f).can = b.can := rfl
@[simp] theorem Block.modCtx_net (b : Block) (i : Nat) (f : CipherCtx → CipherCtx) : (b.modCtx i f).net = b.net := rfl
@[simp] theorem Block.modCtx_nw (b : Block) (i : Nat) (f : CipherCtx → CipherCtx) : (b.modCtx i f).nw = b.nw := rfl
@[simp] theorem Block.modCtx_bridge (b : Block) (i : Nat) (f : CipherCtx → CipherCtx) :
    (b.modCtx i f).bridge = b.bridge := rfl
@[simp] theorem Block.modCtx_keys (b : Block) (i : Nat) (f : CipherCtx → CipherCtx) : (b.modCtx i f).keys = b.keys := rfl
@[simp] theorem Block.modCtx_cipher (b : Block) (i : Nat) (f : CipherCtx → CipherCtx) :
    (b.modCtx i f).cipher = { b.cipher with ctxs := updAt b.cipher.ctxs i f } := rfl
@[simp] theorem Block.modCtx_img (b : Block) (i : Nat) (f : CipherCtx → CipherCtx) : (b.modCtx i f).img = b.img := rfl
@[simp] theorem Block.modCtx_ev (b : Block) (i : Nat) (f : CipherCtx → CipherCtx) : (b.modCtx i f).ev = b.ev := rfl
@[simp] theorem Block.modCtx_cool (b : Block) (i : Nat) (f : CipherCtx → CipherCtx) : (b.modCtx i f).cool = b.cool := rfl
@[simp] theorem Block.modCtx_params (b : Block) (i : Nat) (f : CipherCtx → CipherCtx) :
    (b.modCtx i f).params = b.params := rfl

@[simp] theorem Block.modMail_free (b : Block) (f : MailSt → MailSt) : (b.modMail f).free = b.free := rfl
@[simp] theorem Block.modMail_mod (b : Block) (f : MailSt → MailSt) : (b.modMail f).mod = b.mod := rfl
@[simp] theorem Block.modMail_lanes (b : Block) (f : MailSt → MailSt) : (b.modMail f).lanes = b.lanes := rfl
@[simp] theorem Block.modMail_mail (b : Block) (f : MailSt → MailSt) : (b.modMail f).mail = f b.mail := rfl
@[simp] theorem Block.modMail_part (b : Block) (f : MailSt → MailSt) : (b.modMail f).part = b.part := rfl
@[simp] theorem Block.modMail_dies (b : Block) (f : MailSt → MailSt) : (b.modMail f).dies = b.dies := rfl
@[simp] theorem Block.modMail_links (b : Block) (f : MailSt → MailSt) : (b.modMail f).links = b.links := rfl
@[simp] theorem Block.modMail_inputs (b : Block) (f : MailSt → MailSt) : (b.modMail f).inputs = b.inputs := rfl
@[simp] theorem Block.modMail_can (b : Block) (f : MailSt → MailSt) : (b.modMail f).can = b.can := rfl
@[simp] theorem Block.modMail_net (b : Block) (f : MailSt → MailSt) : (b.modMail f).net = b.net := rfl
@[simp] theorem Block.modMail_nw (b : Block) (f : MailSt → MailSt) : (b.modMail f).nw = b.nw := rfl
@[simp] theorem Block.modMail_bridge (b : Block) (f : MailSt → MailSt) : (b.modMail f).bridge = b.bridge := rfl
@[simp] theorem Block.modMail_keys (b : Block) (f : MailSt → MailSt) : (b.modMail f).keys = b.keys := rfl
@[simp] theorem Block.modMail_cipher (b : Block) (f : MailSt → MailSt) : (b.modMail f).cipher = b.cipher := rfl
@[simp] theorem Block.modMail_img (b : Block) (f : MailSt → MailSt) : (b.modMail f).img = b.img := rfl
@[simp] theorem Block.modMail_ev (b : Block) (f : MailSt → MailSt) : (b.modMail f).ev = b.ev := rfl
@[simp] theorem Block.modMail_cool (b : Block) (f : MailSt → MailSt) : (b.modMail f).cool = b.cool := rfl
@[simp] theorem Block.modMail_params (b : Block) (f : MailSt → MailSt) : (b.modMail f).params = b.params := rfl

@[simp] theorem Block.modBridge_free (b : Block) (f : BridgeSt → BridgeSt) : (b.modBridge f).free = b.free := rfl
@[simp] theorem Block.modBridge_mod (b : Block) (f : BridgeSt → BridgeSt) : (b.modBridge f).mod = b.mod := rfl
@[simp] theorem Block.modBridge_lanes (b : Block) (f : BridgeSt → BridgeSt) : (b.modBridge f).lanes = b.lanes := rfl
@[simp] theorem Block.modBridge_mail (b : Block) (f : BridgeSt → BridgeSt) : (b.modBridge f).mail = b.mail := rfl
@[simp] theorem Block.modBridge_part (b : Block) (f : BridgeSt → BridgeSt) : (b.modBridge f).part = b.part := rfl
@[simp] theorem Block.modBridge_dies (b : Block) (f : BridgeSt → BridgeSt) : (b.modBridge f).dies = b.dies := rfl
@[simp] theorem Block.modBridge_links (b : Block) (f : BridgeSt → BridgeSt) : (b.modBridge f).links = b.links := rfl
@[simp] theorem Block.modBridge_inputs (b : Block) (f : BridgeSt → BridgeSt) : (b.modBridge f).inputs = b.inputs := rfl
@[simp] theorem Block.modBridge_can (b : Block) (f : BridgeSt → BridgeSt) : (b.modBridge f).can = b.can := rfl
@[simp] theorem Block.modBridge_net (b : Block) (f : BridgeSt → BridgeSt) : (b.modBridge f).net = b.net := rfl
@[simp] theorem Block.modBridge_nw (b : Block) (f : BridgeSt → BridgeSt) : (b.modBridge f).nw = b.nw := rfl
@[simp] theorem Block.modBridge_bridge (b : Block) (f : BridgeSt → BridgeSt) : (b.modBridge f).bridge = f b.bridge := rfl
@[simp] theorem Block.modBridge_keys (b : Block) (f : BridgeSt → BridgeSt) : (b.modBridge f).keys = b.keys := rfl
@[simp] theorem Block.modBridge_cipher (b : Block) (f : BridgeSt → BridgeSt) : (b.modBridge f).cipher = b.cipher := rfl
@[simp] theorem Block.modBridge_img (b : Block) (f : BridgeSt → BridgeSt) : (b.modBridge f).img = b.img := rfl
@[simp] theorem Block.modBridge_ev (b : Block) (f : BridgeSt → BridgeSt) : (b.modBridge f).ev = b.ev := rfl
@[simp] theorem Block.modBridge_cool (b : Block) (f : BridgeSt → BridgeSt) : (b.modBridge f).cool = b.cool := rfl
@[simp] theorem Block.modBridge_params (b : Block) (f : BridgeSt → BridgeSt) : (b.modBridge f).params = b.params := rfl

@[simp] theorem Block.modNw_free (b : Block) (f : NwSt → NwSt) : (b.modNw f).free = b.free := rfl
@[simp] theorem Block.modNw_mod (b : Block) (f : NwSt → NwSt) : (b.modNw f).mod = b.mod := rfl
@[simp] theorem Block.modNw_lanes (b : Block) (f : NwSt → NwSt) : (b.modNw f).lanes = b.lanes := rfl
@[simp] theorem Block.modNw_mail (b : Block) (f : NwSt → NwSt) : (b.modNw f).mail = b.mail := rfl
@[simp] theorem Block.modNw_part (b : Block) (f : NwSt → NwSt) : (b.modNw f).part = b.part := rfl
@[simp] theorem Block.modNw_dies (b : Block) (f : NwSt → NwSt) : (b.modNw f).dies = b.dies := rfl
@[simp] theorem Block.modNw_links (b : Block) (f : NwSt → NwSt) : (b.modNw f).links = b.links := rfl
@[simp] theorem Block.modNw_inputs (b : Block) (f : NwSt → NwSt) : (b.modNw f).inputs = b.inputs := rfl
@[simp] theorem Block.modNw_can (b : Block) (f : NwSt → NwSt) : (b.modNw f).can = b.can := rfl
@[simp] theorem Block.modNw_net (b : Block) (f : NwSt → NwSt) : (b.modNw f).net = b.net := rfl
@[simp] theorem Block.modNw_nw (b : Block) (f : NwSt → NwSt) : (b.modNw f).nw = f b.nw := rfl
@[simp] theorem Block.modNw_bridge (b : Block) (f : NwSt → NwSt) : (b.modNw f).bridge = b.bridge := rfl
@[simp] theorem Block.modNw_keys (b : Block) (f : NwSt → NwSt) : (b.modNw f).keys = b.keys := rfl
@[simp] theorem Block.modNw_cipher (b : Block) (f : NwSt → NwSt) : (b.modNw f).cipher = b.cipher := rfl
@[simp] theorem Block.modNw_img (b : Block) (f : NwSt → NwSt) : (b.modNw f).img = b.img := rfl
@[simp] theorem Block.modNw_ev (b : Block) (f : NwSt → NwSt) : (b.modNw f).ev = b.ev := rfl
@[simp] theorem Block.modNw_cool (b : Block) (f : NwSt → NwSt) : (b.modNw f).cool = b.cool := rfl
@[simp] theorem Block.modNw_params (b : Block) (f : NwSt → NwSt) : (b.modNw f).params = b.params := rfl

@[simp] theorem Block.modImg_free (b : Block) (f : ImgSt → ImgSt) : (b.modImg f).free = b.free := rfl
@[simp] theorem Block.modImg_mod (b : Block) (f : ImgSt → ImgSt) : (b.modImg f).mod = b.mod := rfl
@[simp] theorem Block.modImg_lanes (b : Block) (f : ImgSt → ImgSt) : (b.modImg f).lanes = b.lanes := rfl
@[simp] theorem Block.modImg_mail (b : Block) (f : ImgSt → ImgSt) : (b.modImg f).mail = b.mail := rfl
@[simp] theorem Block.modImg_part (b : Block) (f : ImgSt → ImgSt) : (b.modImg f).part = b.part := rfl
@[simp] theorem Block.modImg_dies (b : Block) (f : ImgSt → ImgSt) : (b.modImg f).dies = b.dies := rfl
@[simp] theorem Block.modImg_links (b : Block) (f : ImgSt → ImgSt) : (b.modImg f).links = b.links := rfl
@[simp] theorem Block.modImg_inputs (b : Block) (f : ImgSt → ImgSt) : (b.modImg f).inputs = b.inputs := rfl
@[simp] theorem Block.modImg_can (b : Block) (f : ImgSt → ImgSt) : (b.modImg f).can = b.can := rfl
@[simp] theorem Block.modImg_net (b : Block) (f : ImgSt → ImgSt) : (b.modImg f).net = b.net := rfl
@[simp] theorem Block.modImg_nw (b : Block) (f : ImgSt → ImgSt) : (b.modImg f).nw = b.nw := rfl
@[simp] theorem Block.modImg_bridge (b : Block) (f : ImgSt → ImgSt) : (b.modImg f).bridge = b.bridge := rfl
@[simp] theorem Block.modImg_keys (b : Block) (f : ImgSt → ImgSt) : (b.modImg f).keys = b.keys := rfl
@[simp] theorem Block.modImg_cipher (b : Block) (f : ImgSt → ImgSt) : (b.modImg f).cipher = b.cipher := rfl
@[simp] theorem Block.modImg_img (b : Block) (f : ImgSt → ImgSt) : (b.modImg f).img = f b.img := rfl
@[simp] theorem Block.modImg_ev (b : Block) (f : ImgSt → ImgSt) : (b.modImg f).ev = b.ev := rfl
@[simp] theorem Block.modImg_cool (b : Block) (f : ImgSt → ImgSt) : (b.modImg f).cool = b.cool := rfl
@[simp] theorem Block.modImg_params (b : Block) (f : ImgSt → ImgSt) : (b.modImg f).params = b.params := rfl

@[simp] theorem Block.modPart_free (b : Block) (f : PartSt → PartSt) : (b.modPart f).free = b.free := rfl
@[simp] theorem Block.modPart_mod (b : Block) (f : PartSt → PartSt) : (b.modPart f).mod = b.mod := rfl
@[simp] theorem Block.modPart_lanes (b : Block) (f : PartSt → PartSt) : (b.modPart f).lanes = b.lanes := rfl
@[simp] theorem Block.modPart_mail (b : Block) (f : PartSt → PartSt) : (b.modPart f).mail = b.mail := rfl
@[simp] theorem Block.modPart_part (b : Block) (f : PartSt → PartSt) : (b.modPart f).part = f b.part := rfl
@[simp] theorem Block.modPart_dies (b : Block) (f : PartSt → PartSt) : (b.modPart f).dies = b.dies := rfl
@[simp] theorem Block.modPart_links (b : Block) (f : PartSt → PartSt) : (b.modPart f).links = b.links := rfl
@[simp] theorem Block.modPart_inputs (b : Block) (f : PartSt → PartSt) : (b.modPart f).inputs = b.inputs := rfl
@[simp] theorem Block.modPart_can (b : Block) (f : PartSt → PartSt) : (b.modPart f).can = b.can := rfl
@[simp] theorem Block.modPart_net (b : Block) (f : PartSt → PartSt) : (b.modPart f).net = b.net := rfl
@[simp] theorem Block.modPart_nw (b : Block) (f : PartSt → PartSt) : (b.modPart f).nw = b.nw := rfl
@[simp] theorem Block.modPart_bridge (b : Block) (f : PartSt → PartSt) : (b.modPart f).bridge = b.bridge := rfl
@[simp] theorem Block.modPart_keys (b : Block) (f : PartSt → PartSt) : (b.modPart f).keys = b.keys := rfl
@[simp] theorem Block.modPart_cipher (b : Block) (f : PartSt → PartSt) : (b.modPart f).cipher = b.cipher := rfl
@[simp] theorem Block.modPart_img (b : Block) (f : PartSt → PartSt) : (b.modPart f).img = b.img := rfl
@[simp] theorem Block.modPart_ev (b : Block) (f : PartSt → PartSt) : (b.modPart f).ev = b.ev := rfl
@[simp] theorem Block.modPart_cool (b : Block) (f : PartSt → PartSt) : (b.modPart f).cool = b.cool := rfl
@[simp] theorem Block.modPart_params (b : Block) (f : PartSt → PartSt) : (b.modPart f).params = b.params := rfl

@[simp] theorem Block.modEv_free (b : Block) (f : EventSt → EventSt) : (b.modEv f).free = b.free := rfl
@[simp] theorem Block.modEv_mod (b : Block) (f : EventSt → EventSt) : (b.modEv f).mod = b.mod := rfl
@[simp] theorem Block.modEv_lanes (b : Block) (f : EventSt → EventSt) : (b.modEv f).lanes = b.lanes := rfl
@[simp] theorem Block.modEv_mail (b : Block) (f : EventSt → EventSt) : (b.modEv f).mail = b.mail := rfl
@[simp] theorem Block.modEv_part (b : Block) (f : EventSt → EventSt) : (b.modEv f).part = b.part := rfl
@[simp] theorem Block.modEv_dies (b : Block) (f : EventSt → EventSt) : (b.modEv f).dies = b.dies := rfl
@[simp] theorem Block.modEv_links (b : Block) (f : EventSt → EventSt) : (b.modEv f).links = b.links := rfl
@[simp] theorem Block.modEv_inputs (b : Block) (f : EventSt → EventSt) : (b.modEv f).inputs = b.inputs := rfl
@[simp] theorem Block.modEv_can (b : Block) (f : EventSt → EventSt) : (b.modEv f).can = b.can := rfl
@[simp] theorem Block.modEv_net (b : Block) (f : EventSt → EventSt) : (b.modEv f).net = b.net := rfl
@[simp] theorem Block.modEv_nw (b : Block) (f : EventSt → EventSt) : (b.modEv f).nw = b.nw := rfl
@[simp] theorem Block.modEv_bridge (b : Block) (f : EventSt → EventSt) : (b.modEv f).bridge = b.bridge := rfl
@[simp] theorem Block.modEv_keys (b : Block) (f : EventSt → EventSt) : (b.modEv f).keys = b.keys := rfl
@[simp] theorem Block.modEv_cipher (b : Block) (f : EventSt → EventSt) : (b.modEv f).cipher = b.cipher := rfl
@[simp] theorem Block.modEv_img (b : Block) (f : EventSt → EventSt) : (b.modEv f).img = b.img := rfl
@[simp] theorem Block.modEv_ev (b : Block) (f : EventSt → EventSt) : (b.modEv f).ev = f b.ev := rfl
@[simp] theorem Block.modEv_cool (b : Block) (f : EventSt → EventSt) : (b.modEv f).cool = b.cool := rfl
@[simp] theorem Block.modEv_params (b : Block) (f : EventSt → EventSt) : (b.modEv f).params = b.params := rfl

@[simp] theorem Block.modNet_free (b : Block) (f : NetTables → NetTables) : (b.modNet f).free = b.free := rfl
@[simp] theorem Block.modNet_mod (b : Block) (f : NetTables → NetTables) : (b.modNet f).mod = b.mod := rfl
@[simp] theorem Block.modNet_lanes (b : Block) (f : NetTables → NetTables) : (b.modNet f).lanes = b.lanes := rfl
@[simp] theorem Block.modNet_mail (b : Block) (f : NetTables → NetTables) : (b.modNet f).mail = b.mail := rfl
@[simp] theorem Block.modNet_part (b : Block) (f : NetTables → NetTables) : (b.modNet f).part = b.part := rfl
@[simp] theorem Block.modNet_dies (b : Block) (f : NetTables → NetTables) : (b.modNet f).dies = b.dies := rfl
@[simp] theorem Block.modNet_links (b : Block) (f : NetTables → NetTables) : (b.modNet f).links = b.links := rfl
@[simp] theorem Block.modNet_inputs (b : Block) (f : NetTables → NetTables) : (b.modNet f).inputs = b.inputs := rfl
@[simp] theorem Block.modNet_can (b : Block) (f : NetTables → NetTables) : (b.modNet f).can = b.can := rfl
@[simp] theorem Block.modNet_net (b : Block) (f : NetTables → NetTables) : (b.modNet f).net = f b.net := rfl
@[simp] theorem Block.modNet_nw (b : Block) (f : NetTables → NetTables) : (b.modNet f).nw = b.nw := rfl
@[simp] theorem Block.modNet_bridge (b : Block) (f : NetTables → NetTables) : (b.modNet f).bridge = b.bridge := rfl
@[simp] theorem Block.modNet_keys (b : Block) (f : NetTables → NetTables) : (b.modNet f).keys = b.keys := rfl
@[simp] theorem Block.modNet_cipher (b : Block) (f : NetTables → NetTables) : (b.modNet f).cipher = b.cipher := rfl
@[simp] theorem Block.modNet_img (b : Block) (f : NetTables → NetTables) : (b.modNet f).img = b.img := rfl
@[simp] theorem Block.modNet_ev (b : Block) (f : NetTables → NetTables) : (b.modNet f).ev = b.ev := rfl
@[simp] theorem Block.modNet_cool (b : Block) (f : NetTables → NetTables) : (b.modNet f).cool = b.cool := rfl
@[simp] theorem Block.modNet_params (b : Block) (f : NetTables → NetTables) : (b.modNet f).params = b.params := rfl

end Sys2Proof
end

