-- ==== Sys2Proof/Laws/Access.lean ====
section
/-! SUPPORT. Reading what an update of one list entry changes: dies, links, channels, slices, violations, slots, contexts,
buses and inputs, each at the entry updated and at the others. -/

namespace Sys2Proof

/-- What stands at each place after an update: the changed entry at its own, the old one at every other. -/
theorem updAt_getElem? {α : Type} (l : List α) (i j : Nat) (f : α → α) :
    (updAt l i f)[j]? = if j = i then (l[j]?).map f else l[j]? := by
  induction l generalizing i j with
  | nil => cases i <;> simp [updAt]
  | cons x t ih => cases i <;> cases j <;> simp [updAt, ih]

/-- An update keeps the length. -/
@[simp] theorem updAt_length {α : Type} (l : List α) (i : Nat) (f : α → α) : (updAt l i f).length = l.length := by
  induction l generalizing i with
  | nil => cases i <;> simp [updAt]
  | cons x t ih => cases i <;> simp [updAt, ih]

/-- The entry updated. -/
theorem updAt_getD_same {α : Type} (l : List α) (i : Nat) (f : α → α) (d : α) (h : i < l.length) :
    (updAt l i f).getD i d = f (l.getD i d) := by
  rw [List.getD_eq_getElem?_getD, updAt_getElem?]
  simp [h]

/-- The other entries. -/
theorem updAt_getD_other {α : Type} (l : List α) (i j : Nat) (f : α → α) (d : α) (h : j ≠ i) :
    (updAt l i f).getD j d = l.getD j d := by
  simp [List.getD_eq_getElem?_getD, updAt_getElem?, h]

/-- Updating an entry twice. -/
theorem updAt_updAt {α : Type} (l : List α) (i : Nat) (f g : α → α) : updAt (updAt l i f) i g = updAt l i fun x => g (f x) := by
  refine List.ext_getElem? fun j => ?_
  simp only [updAt_getElem?]
  split <;> simp [Function.comp_def]

/-- Updating an entry by itself. -/
theorem updAt_id {α : Type} (l : List α) (i : Nat) (f : α → α) (h : ∀ x, l[i]? = some x → f x = x) : updAt l i f = l := by
  refine List.ext_getElem? fun j => ?_
  rw [updAt_getElem?]
  split
  · subst_vars
    cases e : l[j]? <;> simp_all
  · rfl

/-! ## Dies and channels -/

/-- The die changed. -/
@[simp] theorem Block.die_modDie (b : Block) (d : Nat) (f : DieSt → DieSt) (h : d < b.dies.length) :
    (b.modDie d f).die d = f (b.die d) := updAt_getD_same _ _ _ _ h

/-- The other dies. -/
theorem Block.die_modDie_other (b : Block) (d e : Nat) (f : DieSt → DieSt) (h : e ≠ d) : (b.modDie d f).die e = b.die e :=
  updAt_getD_other _ _ _ _ _ h

/-- The channel changed. -/
@[simp] theorem DieSt.chan_modChan (x : DieSt) (i : Nat) (f : ChanSt → ChanSt) (h : i < x.chans.length) :
    (x.modChan i f).chan i = f (x.chan i) := updAt_getD_same _ _ _ _ h

/-- The other channels of the die. -/
theorem DieSt.chan_modChan_other (x : DieSt) (i j : Nat) (f : ChanSt → ChanSt) (h : j ≠ i) : (x.modChan i f).chan j = x.chan j :=
  updAt_getD_other _ _ _ _ _ h

/-- The load channel changed. -/
@[simp] theorem Block.chan_modChan (b : Block) (c : Nat) (f : ChanSt → ChanSt) (h : c / 16 < b.dies.length)
    (g : c % 16 < (b.die (c / 16)).chans.length) : (b.modChan c f).chan c = f (b.chan c) := by
  unfold Block.chan Block.modChan
  rw [Block.die_modDie _ _ _ h, DieSt.chan_modChan _ _ _ g]

/-- The die of a load channel changed. -/
@[simp] theorem Block.die_modChan (b : Block) (c : Nat) (f : ChanSt → ChanSt) (h : c / 16 < b.dies.length) :
    (b.modChan c f).die (c / 16) = (b.die (c / 16)).modChan (c % 16) f := Block.die_modDie _ _ _ h

/-! ## Links -/

/-- The link changed. -/
@[simp] theorem Block.link_modLink (b : Block) (d : Nat) (f : DieLink → DieLink) (h : d < b.links.length) :
    (b.modLink d f).link d = f (b.link d) := updAt_getD_same _ _ _ _ h

/-- The other links. -/
theorem Block.link_modLink_other (b : Block) (d e : Nat) (f : DieLink → DieLink) (h : e ≠ d) : (b.modLink d f).link e = b.link e :=
  updAt_getD_other _ _ _ _ _ h

/-! ## Slices -/

/-- The slice changed. -/
@[simp] theorem Block.slice_modSlice (b : Block) (p : Nat) (f : Slice → Slice) (h : p < b.part.slices.length) :
    (b.modSlice p f).slice p = f (b.slice p) := updAt_getD_same _ _ _ _ h

/-- The other slices. -/
theorem Block.slice_modSlice_other (b : Block) (p r : Nat) (f : Slice → Slice) (h : r ≠ p) :
    (b.modSlice p f).slice r = b.slice r := updAt_getD_other _ _ _ _ _ h

/-- The violation record changed. -/
@[simp] theorem Block.viol_modViol (b : Block) (p : Nat) (f : Violations → Violations) (h : p < b.part.viol.length) :
    (b.modViol p f).viol p = f (b.viol p) := updAt_getD_same _ _ _ _ h

/-- The other violation records. -/
theorem Block.viol_modViol_other (b : Block) (p r : Nat) (f : Violations → Violations) (h : r ≠ p) :
    (b.modViol p f).viol r = b.viol r := updAt_getD_other _ _ _ _ _ h

/-! ## Keys, contexts, inputs and buses -/

/-- The key slot changed. -/
@[simp] theorem Block.slot_modSlot (b : Block) (i : Nat) (f : KeySlot → KeySlot) (h : i < b.keys.slots.length) :
    (b.modSlot i f).slot i = f (b.slot i) := updAt_getD_same _ _ _ _ h

/-- The other key slots. -/
theorem Block.slot_modSlot_other (b : Block) (i j : Nat) (f : KeySlot → KeySlot) (h : j ≠ i) : (b.modSlot i f).slot j = b.slot j :=
  updAt_getD_other _ _ _ _ _ h

/-- The cipher context changed. -/
@[simp] theorem Block.ctx_modCtx (b : Block) (i : Nat) (f : CipherCtx → CipherCtx) (h : i < b.cipher.ctxs.length) :
    (b.modCtx i f).ctx i = f (b.ctx i) := updAt_getD_same _ _ _ _ h

/-- The input changed. -/
@[simp] theorem Block.input_modInput (b : Block) (i : Nat) (f : InputSt → InputSt) (h : i < b.inputs.length) :
    (b.modInput i f).input i = f (b.input i) := updAt_getD_same _ _ _ _ h

/-- The bus changed. -/
@[simp] theorem Block.bus_modBus (b : Block) (i : Nat) (f : CanBus → CanBus) (h : i < b.can.length) :
    (b.modBus i f).bus i = f (b.bus i) := updAt_getD_same _ _ _ _ h

/-! ## Lanes -/

/-- The lane changed. -/
@[simp] theorem Block.lane_modLane (b : Block) (l : Lane) (f : LaneSt → LaneSt) : (b.modLane l f).lane l = f (b.lane l) := by
  cases l <;> rfl

/-- The other lane. -/
@[simp] theorem Block.lane_modLane_other (b : Block) (l : Lane) (f : LaneSt → LaneSt) :
    (b.modLane l f).lane l.other = b.lane l.other := by
  cases l <;> rfl

/-! ## Events -/

/-- Raising an event changes the events and, before step 9, what the lane holds; nothing else. -/
theorem Block.raise_frame (b : Block) (l : Lane) (ev cause subject : Nat) (detail : Int) :
    ∃ lanes evs, b.raise l ev cause subject detail = { b with lanes := lanes, ev := evs } := by
  unfold Block.raise
  dsimp only
  repeat' split
  · exact ⟨b.lanes, _, rfl⟩
  · exact ⟨_, b.ev, rfl⟩
  · exact ⟨b.lanes, b.ev, rfl⟩

/-- The same for both lanes. -/
theorem Block.raiseAll_frame (b : Block) (ev cause subject : Nat) (detail : Int) :
    ∃ lanes evs, b.raiseAll ev cause subject detail = { b with lanes := lanes, ev := evs } := by
  unfold Block.raiseAll
  obtain ⟨l1, e1, h1⟩ := Block.raise_frame b .a ev cause subject detail
  obtain ⟨l2, e2, h2⟩ := Block.raise_frame (b.raise .a ev cause subject detail) .b ev cause subject detail
  exact ⟨l2, e2, by rw [h2, h1]⟩

/-- A violation changes the partition's record, the events and what lanes hold. -/
theorem Block.violate_frame (b : Block) (p cause addr : Nat) : ∃ lanes evs, b.violate p cause addr =
    { b.modViol p (fun v => { v with count := satNat 0xFFFFFFFF (v.count + 1), cause := cause, addr := addr, decided := true }) with
      lanes := lanes, ev := evs } := by
  unfold Block.violate
  exact Block.raiseAll_frame _ _ _ _ _

end Sys2Proof
end

