-- ==== Sys2Proof/Laws/Memory.lean ====
section
/-! SUPPORT. The sparse memories: every operation keeps the canonical form, a read after a write gives what was written, and
a write leaves every other address alone (R34, R134; log entry 6). -/

namespace Sys2Proof

/-! ## One byte -/

/-- The form above a higher bound is the form above a lower one. -/
theorem memWfFrom_mono {d : Byte} {m : List (Nat × Byte)} {lo hi : Nat} (h : lo ≤ hi) (w : memWfFrom d hi m = true) :
    memWfFrom d lo m = true := by
  cases m with
  | nil => rfl
  | cons e t =>
    obtain ⟨k, v⟩ := e
    simp only [memWfFrom, Bool.and_eq_true, decide_eq_true_eq] at w ⊢
    exact ⟨⟨by omega, w.1.2⟩, w.2⟩

/-- An address below the bound of the form is not listed. -/
theorem memGet_below {d : Byte} {m : List (Nat × Byte)} {lo a : Nat} (w : memWfFrom d lo m = true) (h : a < lo) :
    memGet d m a = d := by
  induction m generalizing lo with
  | nil => rfl
  | cons e t ih =>
    obtain ⟨k, v⟩ := e
    simp only [memWfFrom, Bool.and_eq_true, decide_eq_true_eq] at w
    have hk : k ≠ a := by omega
    simp only [memGet, hk, if_false]
    exact ih w.2 (by omega)

/-- Writing one byte keeps the canonical form. -/
theorem memSet_wfFrom {d : Byte} {m : List (Nat × Byte)} {lo a : Nat} {v : Byte} (w : memWfFrom d lo m = true)
    (h : lo ≤ a) : memWfFrom d lo (memSet d m a v) = true := by
  induction m generalizing lo with
  | nil =>
    by_cases hv : v = d
    · simp [memSet, hv, memWfFrom]
    · simp [memSet, hv, memWfFrom, h]
  | cons e t ih =>
    obtain ⟨k, x⟩ := e
    simp only [memWfFrom, Bool.and_eq_true, decide_eq_true_eq] at w
    by_cases h1 : a < k
    · by_cases hv : v = d
      · simp [memSet, h1, hv, memWfFrom, w]
      · simp [memSet, h1, hv, memWfFrom, w, h, Nat.succ_le_of_lt h1]
    · by_cases h2 : a = k
      · by_cases hv : v = d
        · simp only [memSet, h2, hv, if_true, if_false, Nat.lt_irrefl]
          exact memWfFrom_mono (by omega) w.2
        · simp [memSet, h2, hv, memWfFrom, w]
      · simp only [memSet, h1, h2, if_false, memWfFrom, Bool.and_eq_true, decide_eq_true_eq]
        exact ⟨w.1, ih w.2 (by omega)⟩

/-- Writing one byte keeps the canonical form of a memory. -/
theorem memSet_wf {d : Byte} {m : List (Nat × Byte)} (a : Nat) (v : Byte) (w : Memory.wf d m = true) :
    Memory.wf d (memSet d m a v) = true := memSet_wfFrom w (Nat.zero_le a)

/-- A byte written reads back. -/
theorem memGet_memSet_same {d : Byte} {m : List (Nat × Byte)} {lo a : Nat} {v : Byte} (w : memWfFrom d lo m = true) :
    memGet d (memSet d m a v) a = v := by
  induction m generalizing lo with
  | nil =>
    by_cases hv : v = d
    · simp [memSet, hv, memGet]
    · simp [memSet, hv, memGet]
  | cons e t ih =>
    obtain ⟨k, x⟩ := e
    simp only [memWfFrom, Bool.and_eq_true, decide_eq_true_eq] at w
    by_cases h1 : a < k
    · have hk : k ≠ a := by omega
      by_cases hv : v = d
      · simp only [memSet, h1, hv, if_true, memGet, hk, if_false]
        exact memGet_below w.2 (by omega)
      · simp [memSet, h1, hv, memGet]
    · by_cases h2 : a = k
      · by_cases hv : v = d
        · simp only [memSet, h2, hv, if_true, if_false, Nat.lt_irrefl]
          exact memGet_below w.2 (by omega)
        · simp [memSet, h2, hv, memGet]
      · have hk : k ≠ a := by omega
        simp only [memSet, h1, h2, if_false, memGet, hk]
        exact ih w.2

/-- A write of one byte leaves every other address alone. -/
theorem memGet_memSet_other {d : Byte} {m : List (Nat × Byte)} {a c : Nat} {v : Byte} (h : a ≠ c) :
    memGet d (memSet d m a v) c = memGet d m c := by
  induction m with
  | nil =>
    by_cases hv : v = d
    · simp [memSet, hv, memGet]
    · simp [memSet, hv, memGet, h]
  | cons e t ih =>
    obtain ⟨k, x⟩ := e
    by_cases h1 : a < k
    · by_cases hv : v = d <;> simp [memSet, h1, hv, memGet, h]
    · by_cases h2 : a = k
      · have hk : k ≠ c := by omega
        by_cases hv : v = d <;> simp [memSet, h2, hv, memGet, hk]
      · by_cases hk : k = c
        · subst hk
          simp [memSet, h1, h, memGet]
        · simp only [memSet, h1, h2, if_false, memGet, hk]
          exact ih

/-! ## Ranges -/

/-- Writing bytes keeps the canonical form. -/
theorem memWrite_wf {d : Byte} {m : List (Nat × Byte)} (a : Nat) (l : List Byte) (w : Memory.wf d m = true) :
    Memory.wf d (memWrite d m a l) = true := by
  induction l generalizing m a with
  | nil => exact w
  | cons v t ih => exact ih (a + 1) (memSet_wf a v w)

/-- A write leaves every address outside the written bytes alone. -/
theorem memGet_memWrite_outside {d : Byte} {m : List (Nat × Byte)} {a c : Nat} {l : List Byte}
    (h : c < a ∨ a + l.length ≤ c) : memGet d (memWrite d m a l) c = memGet d m c := by
  induction l generalizing m a with
  | nil => rfl
  | cons v t ih =>
    simp only [memWrite]
    rw [ih (by simp only [List.length_cons] at h; omega), memGet_memSet_other (by simp only [List.length_cons] at h; omega)]

/-- Erasing a range keeps the form above a bound. -/
theorem memErase_wfFrom {d : Byte} {m : List (Nat × Byte)} {lo : Nat} (a n : Nat) (w : memWfFrom d lo m = true) :
    memWfFrom d lo (memErase m a n) = true := by
  induction m generalizing lo with
  | nil => rfl
  | cons e t ih =>
    obtain ⟨k, v⟩ := e
    simp only [memWfFrom, Bool.and_eq_true, decide_eq_true_eq] at w
    have ht := ih w.2
    unfold memErase at ht ⊢
    rw [List.filter_cons]
    split
    · simp only [memWfFrom, Bool.and_eq_true, decide_eq_true_eq]
      exact ⟨w.1, ht⟩
    · exact memWfFrom_mono (by omega) ht

/-- Erasing a range keeps the canonical form. -/
theorem memErase_wf {d : Byte} {m : List (Nat × Byte)} (a n : Nat) (w : Memory.wf d m = true) :
    Memory.wf d (memErase m a n) = true := memErase_wfFrom a n w

/-- An erased address reads as an unlisted one. -/
theorem memGet_memErase_inside {d : Byte} {m : List (Nat × Byte)} {a n c : Nat} (h : a ≤ c) (g : c < a + n) :
    memGet d (memErase m a n) c = d := by
  induction m with
  | nil => rfl
  | cons e t ih =>
    obtain ⟨k, v⟩ := e
    unfold memErase at ih ⊢
    rw [List.filter_cons]
    split
    · next hk =>
      simp only [Bool.or_eq_true, decide_eq_true_eq] at hk
      have : k ≠ c := by omega
      simp only [memGet, this, if_false]
      exact ih
    · exact ih

/-- An erase leaves every address outside the range alone. -/
theorem memGet_memErase_outside {d : Byte} {m : List (Nat × Byte)} {a n c : Nat} (h : c < a ∨ a + n ≤ c) :
    memGet d (memErase m a n) c = memGet d m c := by
  induction m with
  | nil => rfl
  | cons e t ih =>
    obtain ⟨k, v⟩ := e
    unfold memErase at ih ⊢
    rw [List.filter_cons]
    split
    · simp only [memGet]
      split
      · rfl
      · exact ih
    · next hk =>
      simp only [Bool.or_eq_true, decide_eq_true_eq] at hk
      have : k ≠ c := by omega
      simp only [memGet, this, if_false]
      exact ih

/-- A read of zero-based bytes agrees with single reads. -/
theorem memRead_length {d : Byte} {m : List (Nat × Byte)} (a n : Nat) : (memRead d m a n).length = n := by
  induction n generalizing a with
  | zero => rfl
  | succ n ih => simp [memRead, ih]

/-- Bytes written read back. -/
theorem memRead_memWrite {d : Byte} {m : List (Nat × Byte)} (a : Nat) (l : List Byte) (w : Memory.wf d m = true) :
    memRead d (memWrite d m a l) a l.length = l := by
  induction l generalizing m a with
  | nil => rfl
  | cons v t ih =>
    simp only [memWrite, List.length_cons, memRead]
    rw [memGet_memWrite_outside (by omega), memGet_memSet_same w, ih (a + 1) (memSet_wf a v w)]

/-! ## The memories of both lanes -/

/-- A write into a lane's tenant SRAM keeps the form. -/
theorem MemSt.write_wf {m : MemSt} (l : Lane) (a : Nat) (v : List Byte) (w : m.Wf) : (m.write l a v).Wf := by
  obtain ⟨h1, h2, h3, h4⟩ := w
  cases l
  · exact ⟨memWrite_wf a v h1, h2, h3, h4⟩
  · exact ⟨h1, memWrite_wf a v h2, h3, h4⟩

/-- A write into a lane's external storage keeps the form. -/
theorem MemSt.writeExt_wf {m : MemSt} (l : Lane) (a : Nat) (v : List Byte) (w : m.Wf) : (m.writeExt l a v).Wf := by
  obtain ⟨h1, h2, h3, h4⟩ := w
  cases l
  · exact ⟨h1, h2, memWrite_wf a v h3, h4⟩
  · exact ⟨h1, h2, h3, memWrite_wf a v h4⟩

/-- Zeroing a range in both lanes keeps the form. -/
theorem MemSt.zero_wf {m : MemSt} (a n : Nat) (w : m.Wf) : (m.zero a n).Wf :=
  ⟨memErase_wf a n w.1, memErase_wf a n w.2.1, w.2.2.1, w.2.2.2⟩

/-- Programming storage units keeps the form. -/
theorem MemSt.program_wf {m : MemSt} (l : Lane) (off : Nat) (v : List Byte) (k : Nat) (w : m.Wf) :
    (m.program l off v k).Wf := by
  unfold MemSt.program
  generalize List.range (v.length / 4096) = u
  induction u generalizing m with
  | nil => exact w
  | cons i t ih =>
    rw [List.foldl_cons]
    exact ih (MemSt.writeExt_wf _ _ _ w)

/-- The memory after reset has the form. -/
theorem MemSt.delivered_wf : MemSt.delivered.Wf := by
  refine ⟨rfl, rfl, rfl, rfl⟩

end Sys2Proof
end

