-- ==== Sys2Proof/Laws/Serve.lean ====
section
/-! SUPPORT. Carrying out requests: what a request that passes its checks runs, and everything that answering it and leaving it
pending change. -/

namespace Sys2Proof

/-- Behind its checks a request runs its opcode's own part. -/
theorem Block.serve_passes (b : Block) (op : Nat) (q : Req) (run : Block → Block) (h : b.passes op q = true) :
    b.serve op q run = run (b.heard q) := by
  simp only [Block.passes, opInfo, Bool.and_eq_true, Bool.not_eq_true', Bool.or_eq_true] at h
  obtain ⟨⟨⟨⟨⟨⟨⟨⟨⟨h1, h2⟩, h3⟩, h4⟩, h5⟩, h6⟩, h7⟩, h8⟩, h9⟩, h10⟩ := h
  unfold Block.serve
  simp only [h1, h2, h3, h4, h5, h7, h10, Option.isNone_iff_eq_none.mp h6]
  cases ha : q.auth <;> simp_all [Block.heard]

/-- Remembering a final response changes what is remembered and gives the duplicates their copies. -/
theorem Block.remember_spec (b : Block) (a : Response) : ∃ copies recent,
    b.remember a = b.modMail (fun m => { m with done := m.done ++ copies, recent := recent }) ∧
    ∀ c ∈ copies, c.tag = a.tag ∧ c.seq = a.seq ∧ c.opcode = a.opcode ∧ c.effect = .none := by
  refine ⟨_, _, rfl, ?_⟩
  intro c hc
  simp only [List.mem_flatMap, List.mem_map] at hc
  obtain ⟨e, -, q, -, rfl⟩ := hc
  unfold Response.forAsker
  dsimp only
  split <;> exact ⟨rfl, rfl, rfl, rfl⟩

/-- A final response completed. -/
theorem Block.post_answered (b : Block) (a : Response) (hf : a.status.final = true) : b.Answered (b.post a) a := by
  unfold Block.post
  simp only [hf, if_true]
  obtain ⟨copies, recent, h1, h2⟩ := Block.remember_spec (b.modMail fun m => { m with done := m.done ++ [a] }) a
  refine ⟨copies, recent, ?_, h2⟩
  rw [h1]
  simp [Block.modMail]

/-- A final response with room for its payload. -/
theorem Block.finish_answered (b : Block) (q : Req) (op : Nat) (st : Status) (pay : List Byte) (eff : Effect)
    (hr : pay.length ≤ q.room) (hf : st.final = true) : b.Answered (b.finish q op st pay eff) (q.response op st pay eff) := by
  have ha : q.answer op st pay eff true true = q.response op st pay eff := by simp [Req.answer, hr, Req.response]
  unfold Block.finish
  rw [ha]
  exact b.post_answered _ hf

/-- A final response without a payload. -/
theorem Block.reply_answered (b : Block) (q : Req) (op : Nat) (st : Status) (hf : st.final = true) :
    b.Answered (b.reply q op st) (q.response op st [] .none) :=
  Block.finish_answered b q op st [] .none (Nat.zero_le _) hf

/-- A final response whose payload does not fit carries the length required, NO_RESOURCE and no effect (R107). -/
theorem Block.finish_noRoom (b : Block) (q : Req) (op : Nat) (st : Status) (pay : List Byte) (eff : Effect)
    (hr : q.room < pay.length) :
    b.Answered (b.finish q op st pay eff) { q.response op .noResource [] .none with length := pay.length } := by
  have ha : q.answer op st pay eff true true = { q.response op .noResource [] .none with length := pay.length } := by
    simp [Req.answer, Nat.not_le.mpr hr, Req.response]
  unfold Block.finish
  rw [ha]
  exact b.post_answered _ rfl

/-- A request left pending. -/
theorem Block.hold_held (b : Block) (q : Req) (op : Nat) (k : PendKind) (now : Bool) :
    b.Held (b.hold q op k now) q op k now := by
  unfold Block.Held Block.hold
  cases now <;> cases h : b.taken.2 <;>
    simp [h, Block.modMail, Block.post, Req.answer, Req.response, Status.final]

/-- With room enough a request goes on. -/
theorem Block.needRoom_enough (b : Block) (q : Req) (op n : Nat) (k : Block → Block) (h : n ≤ q.room) :
    b.needRoom q op n k = k b := by
  simp [Block.needRoom, Nat.not_lt.mpr h]

/-- With check 7 passed a request goes on. -/
theorem Block.check7_good (b : Block) (q : Req) (op : Nat) (k : Block → Block) : b.check7 q op true k = k b := rfl

/-- Using the challenge up changes the mailboxes alone. -/
theorem Block.heard_eq (b : Block) (q : Req) : b.heard q = { b with mail := (b.heard q).mail } := by
  unfold Block.heard Block.setChallenge
  cases q.auth
  · rfl
  · cases q.path <;> rfl

/-- Answering changes the mailboxes alone, and only the completed responses and the remembered answers in them; nothing
completed before is lost. -/
theorem Block.finish_frame (b : Block) (q : Req) (op : Nat) (st : Status) (pay : List Byte) (eff : Effect) :
    ∃ more recent, b.finish q op st pay eff = b.modMail (fun m => { m with done := m.done ++ more, recent := recent }) ∧
      q.answer op st pay eff true true ∈ more := by
  unfold Block.finish Block.post
  dsimp only
  split
  · obtain ⟨copies, recent, h1, -⟩ := Block.remember_spec
      (b.modMail fun m => { m with done := m.done ++ [q.answer op st pay eff true true] }) (q.answer op st pay eff true true)
    exact ⟨q.answer op st pay eff true true :: copies, recent, by rw [h1]; simp [Block.modMail], List.mem_cons_self ..⟩
  · exact ⟨[q.answer op st pay eff true true], b.mail.recent, rfl, List.mem_cons_self ..⟩

/-- Finishing the pending requests of a kind: each is answered, none of them pends any more, and nothing but the mailboxes
changes. -/
theorem Block.finishWhere_spec (b : Block) (sel : Pend → Bool) (st : Status) (pay : List Byte) (eff : Effect) :
    ∃ more recent, b.finishWhere sel st pay eff = b.modMail (fun m =>
        { m with pend := m.pend.filter (fun e => !sel e), done := m.done ++ more, recent := recent }) ∧
      ∀ e ∈ b.mail.pend, sel e = true → e.req.answer e.opcode st pay eff true true ∈ more := by
  unfold Block.finishWhere
  dsimp only
  suffices h : ∀ (l : List Pend) (c : Block), ∃ more recent,
      l.foldl (fun b e => b.finish e.req e.opcode st pay eff) c =
        c.modMail (fun m => { m with done := m.done ++ more, recent := recent }) ∧
      ∀ e ∈ l, e.req.answer e.opcode st pay eff true true ∈ more by
    obtain ⟨more, recent, h1, h2⟩ := h (b.mail.pend.filter sel)
      (b.modMail fun m => { m with pend := m.pend.filter (fun e => !sel e) })
    exact ⟨more, recent, by rw [h1]; rfl, fun e he hs => h2 e (List.mem_filter.mpr ⟨he, hs⟩)⟩
  intro l
  induction l with
  | nil => exact fun c => ⟨[], c.mail.recent, by simp [Block.modMail], fun e he => by cases he⟩
  | cons x t ih =>
    intro c
    obtain ⟨m1, r1, h1, h2⟩ := Block.finish_frame c x.req x.opcode st pay eff
    obtain ⟨m2, r2, h3, h4⟩ := ih (c.finish x.req x.opcode st pay eff)
    refine ⟨m1 ++ m2, r2, ?_, ?_⟩
    · rw [List.foldl_cons, h3, h1]
      simp [Block.modMail]
    · intro e he
      rcases List.mem_cons.mp he with rfl | he
      · exact List.mem_append_left _ h2
      · exact List.mem_append_right _ (h4 e he)

end Sys2Proof
end

