-- ==== Sys2Proof/Laws/Request.lean ====
section
/-! SUPPORT. Every request command is its opcode's run behind the shared checks. -/

namespace Sys2Proof.Machine

/-- A meaning that carries a request out on the block alone has the form below. -/
theorem onBlock_request (s : State) (op : Nat) (q : Req) (run : Block → Block → Block) :
    ∃ run' : Block → Block, ∃ n : Nat, onBlock (fun b => b.serve op q (run b)) s =
      .next ((s.withBlock (s.b.serve op q run')).withOtp { s.otp with destroyed := n }) ∧
      ((s.b.serve op q run').keys.gens = s.b.keys.gens → n = s.otp.destroyed) :=
  ⟨run s.b, s.otp.destroyed, rfl, fun _ => rfl⟩

/-- A request command carries its request out; KEY_DESTROY alone may advance the destroy counter, and only when a generation
changes. -/
theorem exec_request {c : Instr} {op : Nat} {q : Req} (s : State) (h : c.request? = some (op, q)) :
    ∃ run : Block → Block, ∃ n : Nat, exec c s = .next ((s.withBlock (s.b.serve op q run)).withOtp { s.otp with destroyed := n }) ∧
      ((s.b.serve op q run).keys.gens = s.b.keys.gens → n = s.otp.destroyed) := by
  cases c <;> simp only [Instr.request?, Option.some.injEq, Prod.mk.injEq, reduceCtorEq] at h
  case keyDestroy q' =>
    obtain ⟨rfl, rfl⟩ := h
    simp only [exec, execKeyDestroy]
    exact ⟨_, _, rfl, fun h => if_pos h⟩
  all_goals
    obtain ⟨rfl, rfl⟩ := h
    simp only [exec]
    exact onBlock_request s _ _ _

/-- The shared checks answer before any run: one statement per way they end a request. -/
theorem exec_request_of {c : Instr} {op : Nat} {q : Req} {s : State} {b' : Block} (h : c.request? = some (op, q))
    (hs : ∀ run, s.b.serve op q run = b') (hk : b'.keys.gens = s.b.keys.gens) : Becomes c s b' := by
  obtain ⟨run, n, he, hn⟩ := exec_request s h
  unfold Becomes
  rw [hs run] at he hn
  rw [he, hn hk]
  rfl

/-- A request that passes its checks and is answered. -/
theorem answersFrom_of {c : Instr} {op : Nat} {q : Req} {s : State} {b : Block} {a : Response} (run : Block → Block)
    (he : exec c s = .next (s.withBlock (s.b.serve op q run))) (hp : s.b.passes op q = true)
    (ha : b.Answered (run (s.b.heard q)) a) : AnswersFrom c s b a := by
  refine ⟨run (s.b.heard q), ?_, ha⟩
  rw [he, Block.serve_passes _ _ _ _ hp]

/-- A request that passes its checks and is left pending. -/
theorem holdsFrom_of {c : Instr} {op : Nat} {q : Req} {s : State} {b : Block} {k : PendKind} {now : Bool} (run : Block → Block)
    (he : exec c s = .next (s.withBlock (s.b.serve op q run))) (hp : s.b.passes op q = true)
    (ha : b.Held (run (s.b.heard q)) q op k now) : HoldsFrom c s b q op k now := by
  refine ⟨run (s.b.heard q), ?_, ha⟩
  rw [he, Block.serve_passes _ _ _ _ hp]

end Sys2Proof.Machine
end

