-- ==== Sys2Proof/Laws/Keeps.lean ====
section
/-! SUPPORT. What the commands keep: every operation that touches the byte memories keeps their canonical form, and carrying a
request out changes neither the queue nor the memories. -/

namespace Sys2Proof

/-- What every step of a fold keeps, the fold keeps. -/
theorem foldl_keeps {S I : Type} (keep : S → Prop) {step : S → I → S} {items : List I} {start : S} (now : keep start)
    (each : ∀ s i, keep s → keep (step s i)) : keep (items.foldl step start) :=
  List.foldlRecOn items step now fun s hs i _ => each s i hs

/-- A write made in each of several lanes keeps the form. -/
theorem MemSt.writeAll_wf {m : MemSt} (ls : List Lane) (a : Nat) (v : MemSt → Lane → List Byte) (w : m.Wf) :
    (ls.foldl (fun (m : MemSt) l => m.write l a (v m l)) m).Wf :=
  foldl_keeps MemSt.Wf w fun _ l h => MemSt.write_wf l a _ h

/-- A read at the far port that consumes keeps the form. -/
theorem MemSt.farRead_wf {m : MemSt} (far : Lane) (marks : List (Nat × Nat)) (a n : Nat) (w : m.Wf) :
    (m.farRead far marks a n).2.Wf :=
  foldl_keeps MemSt.Wf w fun _ _ h => MemSt.write_wf far _ _ h

/-- Fetching lines keeps the form. -/
theorem MemSt.fetchLines_wf {m : MemSt} (far : Lane) (marks : List (Nat × Nat)) (l : List Nat) (w : m.Wf) :
    (m.fetchLines far marks l).2.Wf := by
  induction l generalizing m with
  | nil => exact w
  | cons x t ih => exact ih (MemSt.farRead_wf far marks x 64 w)

/-- A bridge operation keeps the form. -/
theorem Block.bridgePerform_wf {b : Block} {m : MemSt} (l : Lane) (pair p : Nat) (op : BridgeOp) (a n : Nat) (w : m.Wf) :
    (b.bridgePerform m l pair p op a n).2.Wf := by
  unfold Block.bridgePerform
  repeat' first | split | dsimp only
  all_goals first
    | exact w
    | exact MemSt.fetchLines_wf _ _ _ (MemSt.farRead_wf _ _ _ _ w)
    | exact MemSt.write_wf _ _ _ w

/-- A bridge access keeps the form. -/
theorem Block.bridgeAccess_wf {b : Block} {m : MemSt} (l : Lane) (pair : Nat) (virt : Bool) (op : BridgeOp) (a n : Nat)
    (w : m.Wf) : (b.bridgeAccess m l pair virt op a n).2.Wf := by
  unfold Block.bridgeAccess
  repeat' first | split | dsimp only
  all_goals first
    | exact w
    | exact Block.bridgePerform_wf _ _ _ _ _ _ w

/-- An access at the gate keeps the form. -/
theorem Block.fabric_wf {b : Block} {m : MemSt} (l : Lane) (a : Access) (w : m.Wf) : (b.fabric m l a).2.Wf := by
  unfold Block.fabric
  repeat' first | split | dsimp only
  all_goals first
    | exact w
    | exact Block.bridgeAccess_wf _ _ _ _ _ _ w
    | (unfold Block.sramAccess; split <;> first | exact w | exact MemSt.write_wf _ _ _ w)

/-- What goes through a pair keeps the form where the access itself does. -/
theorem Block.throughPair_wf {b : Block} {m : MemSt} (l : Lane) (k : Nat) (tok : Token) (held : Bool) {act : Block × MemSt}
    (w : m.Wf) (g : act.2.Wf) : (b.throughPair m l k tok held act).2.Wf := by
  unfold Block.throughPair
  repeat' split
  all_goals first
    | exact w
    | exact g

/-- An access of a pair or of a DMA engine keeps the form. -/
theorem Block.fabricThrough_wf {b : Block} {m : MemSt} (l : Lane) (a : Access) (w : m.Wf) : (b.fabricThrough m l a).2.Wf := by
  unfold Block.fabricThrough
  split
  · exact Block.fabric_wf _ _ w
  · exact Block.throughPair_wf _ _ _ _ w (Block.fabric_wf _ _ w)

/-- An access of a pair through the window keeps the form. -/
theorem Block.bridgeThrough_wf {b : Block} {m : MemSt} (l : Lane) (k : Nat) (virt : Bool) (op : BridgeOp) (a n : Nat) (w : m.Wf) :
    (b.bridgeThrough m l k virt op a n).2.Wf :=
  Block.throughPair_wf _ _ _ _ w (Block.bridgeAccess_wf _ _ _ _ _ _ w)

/-- The turns of the accesses that wait at the bridge keep the form. -/
theorem Block.bridgeTurns_wf {b : Block} {m : MemSt} (l : Lane) (w : m.Wf) : (b.bridgeTurns m l).2.Wf := by
  unfold Block.bridgeTurns
  refine foldl_keeps (fun acc : Block × MemSt × List Nat => acc.2.1.Wf) w fun acc _ h => ?_
  unfold Block.bridgeTurn
  dsimp only
  repeat' split
  all_goals first
    | exact h
    | exact Block.bridgeThrough_wf _ _ _ _ _ _ h

/-- A time word keeps the form. -/
theorem Block.timeWord_wf {b : Block} {m : MemSt} (l : Lane) (w : m.Wf) : (b.timeWord m l).2.Wf := by
  unfold Block.timeWord
  split
  · exact w
  · exact Block.bridgeTurns_wf _ w

/-- The end of a cipher operation keeps the form. -/
theorem Block.cipherDone_wf {b : Block} {m : MemSt} (i : Nat) (w : m.Wf) : (b.cipherDone m i).2.Wf := by
  unfold Block.cipherDone
  repeat' split
  all_goals first
    | exact w
    | (dsimp only; exact foldl_keeps MemSt.Wf w fun m l h => MemSt.write_wf l _ _ h)

/-- The end of a storage operation keeps the form. -/
theorem Block.storageDone_wf {b : Block} {m : MemSt} (p : Nat) (w : m.Wf) : (b.storageDone m p).2.Wf := by
  unfold Block.storageDone
  repeat' split
  all_goals first
    | exact w
    | (dsimp only
       refine foldl_keeps MemSt.Wf w fun m l h => ?_
       first
         | exact MemSt.program_wf _ _ _ _ h
         | (obtain ⟨h1, h2, h3, h4⟩ := h
            cases l
            · exact ⟨h1, h2, memErase_wf _ _ h3, h4⟩
            · exact ⟨h1, h2, h3, memErase_wf _ _ h4⟩))

/-- Loading the boot image keeps the form. -/
theorem Block.loadBoot_wf {b : Block} {m : MemSt} (otp : Otp) (l : Lane) (w : m.Wf) : (b.loadBoot otp m l).2.Wf := by
  unfold Block.loadBoot
  repeat' split
  all_goals first
    | exact w
    | (dsimp only
       repeat' split
       all_goals first
         | exact w
         | exact MemSt.write_wf _ _ _ w
         | exact MemSt.write_wf _ _ _ (MemSt.write_wf _ _ _ w))

/-- Taking control keeps the form. -/
theorem Block.takeControl_wf {b : Block} {m : MemSt} (otp : Otp) (l : Lane) (w : m.Wf) : (b.takeControl otp m l).2.Wf := by
  unfold Block.takeControl
  exact Block.loadBoot_wf otp l w

/-- Reaching step 9 keeps the form. -/
theorem Block.laneReady_wf {b : Block} {m : MemSt} (otp : Otp) (l : Lane) (w : m.Wf) : (b.laneReady otp m l).2.Wf := by
  unfold Block.laneReady
  dsimp only
  repeat' split
  all_goals first
    | exact w
    | exact Block.takeControl_wf _ _ w

/-- Pairing keeps the form. -/
theorem Block.pairs_wf {b : Block} {m : MemSt} (otp : Otp) (l : Lane) (found : PairingFound) (w : m.Wf) :
    (b.pairs otp m l found).2.Wf := by
  unfold Block.pairs
  repeat' split
  all_goals first
    | exact w
    | (dsimp only
       repeat' split
       all_goals first
         | exact w
         | exact Block.takeControl_wf _ _ w)

/-- The copy of storage keeps the form. -/
theorem Block.storageCopy_wf {b : Block} {m : MemSt} (l : Lane) (w : m.Wf) : (b.storageCopy m l).Wf := by
  unfold Block.storageCopy
  dsimp only
  repeat' split
  all_goals first
    | exact w
    | exact foldl_keeps MemSt.Wf w fun m r h => MemSt.writeExt_wf l _ _ h

/-- One lane's tenant SRAM taken whole from the other keeps the form. -/
theorem MemSt.mirror_wf {m : MemSt} (l : Lane) (w : m.Wf) : ({ m with sram := m.sram.set l (m.sram.get l.other) } : MemSt).Wf := by
  obtain ⟨ha, hb, he⟩ := w
  cases l
  · exact ⟨hb, hb, he⟩
  · exact ⟨ha, ha, he⟩

/-- A pass of the copying keeps the form. -/
theorem Block.copyPass_wf {b : Block} {m : MemSt} (w : m.Wf) : (b.copyPass m).Wf := by
  have noted : ∀ {m' : MemSt} (x : Option Lane), m'.Wf → ({ m' with watch := x, dirty := [] } : MemSt).Wf := fun _ h => h
  unfold Block.copyPass
  split
  · exact noted _ w
  · dsimp only
    split
    · exact noted _ (foldl_keeps MemSt.Wf w fun _ _ h => MemSt.write_wf _ _ _ h)
    · exact noted _ (MemSt.mirror_wf _ w)

/-- The cut of a resynchronisation keeps the form. -/
theorem Block.cutNow_wf {b : Block} {m : MemSt} (w : m.Wf) : (b.cutNow m).2.Wf := by
  unfold Block.cutNow
  split
  · exact w
  · dsimp only
    split
    · exact w
    · exact Block.copyPass_wf (MemSt.mirror_wf _ w)

/-- The end of a resynchronisation keeps the form. -/
theorem Block.resynced_wf {b : Block} {m : MemSt} (w : m.Wf) : (b.resynced m).2.Wf := by
  unfold Block.resynced
  split
  · exact w
  · exact Block.storageCopy_wf _ w

/-- Starting the pairs keeps the form. -/
theorem Block.startPairs_wf {b : Block} {m : MemSt} (otp : Otp) (w : m.Wf) : (b.startPairs otp m).2.Wf := by
  unfold Block.startPairs
  repeat' split
  all_goals first
    | exact w
    | (dsimp only
       refine foldl_keeps (fun acc : Block × MemSt => acc.2.Wf) w fun acc l h => ?_
       exact MemSt.write_wf l _ _ h)

/-- Taking a transmit descriptor keeps the form. -/
theorem Block.vpTransmit_wf {b : Block} {m : MemSt} (l : Lane) (p : Prid) (w : m.Wf) : (b.vpTransmit m l p).2.Wf := by
  unfold Block.vpTransmit
  dsimp only
  repeat' split
  all_goals first
    | exact w
    | exact MemSt.write_wf _ _ _ w

/-- Writing a received frame keeps the form. -/
theorem Block.vpWrite_wf {b : Block} {m : MemSt} (l : Lane) (p : Nat) (f : SwFrame) (q : Nat) (w : m.Wf) :
    (b.vpWrite m l p f q).2.Wf := by
  unfold Block.vpWrite
  dsimp only
  split
  · exact w
  · exact MemSt.write_wf _ _ _ (MemSt.write_wf _ _ _ w)

/-- Delivering a virtual port's frames keeps the form. -/
theorem Block.vpDeliver_wf {b : Block} {m : MemSt} (p : Nat) (w : m.Wf) : (b.vpDeliver m p).2.Wf := by
  unfold Block.vpDeliver
  split
  · exact w
  · dsimp only
    refine foldl_keeps (fun acc : Block × MemSt => acc.2.Wf) w fun acc l h => ?_
    exact foldl_keeps (fun acc : Block × MemSt => acc.2.Wf) h fun acc x h => Block.vpWrite_wf _ _ _ _ h

/-- Delivering the networks keeps the form. -/
theorem Block.deliverNet_wf {b : Block} {m : MemSt} (l : Lane) (own far : List Item) (w : m.Wf) :
    (b.deliverNet m l own far).2.Wf := by
  unfold Block.deliverNet
  dsimp only
  exact foldl_keeps (fun acc : Block × MemSt => acc.2.Wf) w fun acc p h => Block.vpDeliver_wf p h

/-- A response that becomes visible keeps the form. -/
theorem Block.show_wf {b : Block} {m : MemSt} (a : Response) (w : m.Wf) : (b.show m a).2.Wf := by
  unfold Block.show
  split
  · exact w
  · dsimp only
    split
    · exact w
    · dsimp only
      split
      · exact MemSt.writeAll_wf _ _ _ w
      · exact w

/-- The responses of a boundary keep the form. -/
theorem Block.showAll_wf {b : Block} {m : MemSt} (w : m.Wf) : (b.showAll m).2.Wf := by
  unfold Block.showAll
  dsimp only
  exact foldl_keeps (fun acc : Block × MemSt => acc.2.Wf) w fun acc a h => Block.show_wf a h

end Sys2Proof

namespace Sys2Proof.Machine

/-- Carrying a request out changes the block and, in one-time memory, at most advances the destroy counter. -/
def State.Serves (s t : State) : Prop :=
  ∃ b n, s.otp.destroyed ≤ n ∧ t = (s.withBlock b).withOtp { s.otp with destroyed := n }

/-- A change of the block alone. -/
theorem State.Serves.block (s : State) (b : Block) : s.Serves (s.withBlock b) := ⟨b, s.otp.destroyed, Nat.le_refl _, rfl⟩

/-- Nothing done. -/
theorem State.Serves.refl (s : State) : s.Serves s := State.Serves.block s s.b

/-- One after the other. -/
theorem State.Serves.trans {s t u : State} (h : s.Serves t) (g : t.Serves u) : s.Serves u := by
  obtain ⟨_, n, hn, rfl⟩ := h
  obtain ⟨b, k, hk, rfl⟩ := g
  exact ⟨b, k, Nat.le_trans hn hk, rfl⟩

/-- KEY_DESTROY burns at most one step of the destroy counter. -/
theorem execKeyDestroy_serves (q : Req) (s : State) : s.Serves (outState s (execKeyDestroy q s)) := by
  refine ⟨_, _, ?_, rfl⟩
  split <;> omega

/-- A request carried out. -/
theorem serveOp_serves (op : Nat) (q : Req) (s : State) : s.Serves (outState s (serveOp op q s)) := by
  unfold serveOp
  split
  all_goals first
    | exact State.Serves.block s _
    | exact execKeyDestroy_serves q s

/-- A request that has waited carried out. -/
theorem serveOp_resumed (op : Nat) (q : Req) (s : State) (b : Block) : s.Serves (outState s (serveOp op q (s.withBlock b))) := by
  have h := (State.Serves.block s b).trans (serveOp_serves op q (s.withBlock b))
  unfold outState at *
  split <;> rename_i g <;> simp only [g] at h
  · exact h
  · exact State.Serves.refl s

/-- A copied request carried out. -/
theorem State.accept_serves (s : State) (path : Path) (c : List Byte) (stamp : Nat) (open' : Bool) :
    s.Serves (s.accept path c stamp open') := by
  have twice : ∀ (a b : Block), s.Serves ((s.withBlock a).withBlock b) := fun a b => State.Serves.block s b
  unfold State.accept
  dsimp only
  iterate 4 (split; (first | exact State.Serves.block s _ | exact twice _ _))
  refine State.Serves.trans ?_ (serveOp_serves _ _ _)
  split
  · exact twice _ _
  · exact State.Serves.block s _

/-- A request taken up. -/
theorem State.takeUp_serves (s : State) (l : Lane) (w : Win) : s.Serves (s.takeUp l w) := by
  unfold State.takeUp
  dsimp only
  repeat' split
  all_goals first
    | with_reducible exact State.Serves.refl s
    | with_reducible exact State.Serves.block s _
    | with_reducible exact (State.Serves.block s _).trans (State.accept_serves _ _ _ _ _)

/-- Management frames taken up. -/
theorem State.takeMgmt_serves (s : State) (k : Nat) : s.Serves (s.takeMgmt k) := by
  unfold State.takeMgmt
  refine foldl_keeps (State.Serves s) (State.Serves.block s _) fun t e h => ?_
  split
  · exact h.trans (State.accept_serves _ _ _ _ _)
  · exact h.trans (State.Serves.block t _)

/-- Waiting requests tried again. -/
theorem State.resumeWaiting_serves (s : State) : s.Serves s.resumeWaiting := by
  unfold State.resumeWaiting
  dsimp only
  refine State.Serves.trans (foldl_keeps (State.Serves s) (State.Serves.block s _) fun t e h => h.trans ?_)
    (State.Serves.block _ _)
  exact serveOp_resumed _ _ _ _

/-- A part of a boundary changes the block, the memories, whose form it keeps, and at most advances the destroy counter. -/
def State.Bounds (s t : State) : Prop :=
  ∃ b m n, (s.mem.Wf → m.Wf) ∧ s.otp.destroyed ≤ n ∧
    t = ((s.withBlock b).withMem m).withOtp { s.otp with destroyed := n }

/-- A change of the block and of the memories that keeps their form. -/
theorem State.Bounds.mems (s : State) (b : Block) (m : MemSt) (h : s.mem.Wf → m.Wf) : s.Bounds ((s.withBlock b).withMem m) :=
  ⟨b, m, s.otp.destroyed, h, Nat.le_refl _, rfl⟩

/-- One part of a boundary after the other. -/
theorem State.Bounds.trans {s t u : State} (h : s.Bounds t) (g : t.Bounds u) : s.Bounds u := by
  obtain ⟨_, _, _, hw, hn, rfl⟩ := h
  obtain ⟨b, m, n, gw, gn, rfl⟩ := g
  exact ⟨b, m, n, fun w => gw (hw w), Nat.le_trans hn gn, rfl⟩

/-- A request carried out within a boundary. -/
theorem State.Bounds.serves {s t u : State} (h : s.Bounds t) (g : t.Serves u) : s.Bounds u := by
  obtain ⟨b, n, hn, rfl⟩ := g
  exact h.trans ⟨b, t.mem, n, id, hn, rfl⟩

/-- A delivery. -/
theorem State.deliver_bounds (s : State) (k : Nat) : s.Bounds (s.deliver k) := by
  unfold State.deliver
  dsimp only
  generalize hr : Block.deliverNet _ _ _ _ _ = r
  have h : ∀ b, s.Bounds ((s.withBlock b).withMem r.2) := fun b => State.Bounds.mems s b _ fun w => hr ▸ Block.deliverNet_wf _ _ _ w
  exact (((h _).serves (State.Serves.block _ _)).serves (State.takeMgmt_serves _ _)).serves (State.Serves.block _ _)

end Sys2Proof.Machine

namespace Sys2Proof.Machine

/-- The level that is burned lies above both counters. -/
theorem rollbackTo_above {b : Block} {otp : Otp} {v : Nat} (h : b.rollbackTo? otp = some v) :
    otp.rollback.a < v ∧ otp.rollback.b < v := by
  simp only [Block.rollbackTo?] at h
  split at h
  · rename_i g
    simp only [Bool.and_eq_true, decide_eq_true_eq] at g
    obtain rfl := Option.some.inj h
    exact ⟨g.1.2, g.2⟩
  · cases h

/-- Burning the anti-rollback counters: each rises or stays, and nothing else of one-time memory changes. -/
theorem State.burn_keeps (s : State) :
    s.burn.pending = s.pending ∧ s.burn.mem = s.mem ∧ s.burn.otp.codeAE = s.otp.codeAE ∧ s.burn.otp.identity = s.otp.identity ∧
      s.burn.otp.lifecycle = s.otp.lifecycle ∧ s.burn.otp.destroyed = s.otp.destroyed ∧
      s.otp.rollback.a ≤ s.burn.otp.rollback.a ∧ s.otp.rollback.b ≤ s.burn.otp.rollback.b := by
  unfold State.burn
  split
  · rename_i v hv
    obtain ⟨ha, hb⟩ := rollbackTo_above hv
    exact ⟨rfl, rfl, rfl, rfl, rfl, rfl, Nat.le_of_lt ha, Nat.le_of_lt hb⟩
  · exact ⟨rfl, rfl, rfl, rfl, rfl, rfl, Nat.le_refl _, Nat.le_refl _⟩

/-- The end of a boundary changes the block and keeps the form of the memories. -/
theorem State.boundaryEnds_bounds (s : State) (k : Nat) : s.Bounds (s.boundaryEnds k) := by
  unfold State.boundaryEnds
  dsimp only
  generalize s.b.afterDelivery k = a
  have h : s.Bounds (s.withBlock a) := State.Bounds.mems s a s.mem id
  generalize s.withBlock a = t at h ⊢
  generalize hr : t.b.resynced t.mem = r
  generalize hc : r.1.cutNow (r.1.copyPass r.2) = c
  exact h.trans (State.Bounds.mems t _ _ fun w => hc ▸ Block.cutNow_wf (Block.copyPass_wf (hr ▸ Block.resynced_wf w)))

/-- A boundary with a lane in service: an anti-rollback counter is burned only to a level above both. -/
theorem State.boundary_keeps (s : State) (ns : Int) :
    (s.boundary ns).pending = s.pending ∧ (s.mem.Wf → (s.boundary ns).mem.Wf) ∧
      (s.boundary ns).otp.codeAE = s.otp.codeAE ∧ (s.boundary ns).otp.identity = s.otp.identity ∧
      (s.boundary ns).otp.lifecycle = s.otp.lifecycle ∧ s.otp.destroyed ≤ (s.boundary ns).otp.destroyed ∧
      s.otp.rollback.a ≤ (s.boundary ns).otp.rollback.a ∧ s.otp.rollback.b ≤ (s.boundary ns).otp.rollback.b := by
  unfold State.boundary
  dsimp only
  generalize h1 : (Block.beforeDelivery s.b ns).showAll s.mem = r1
  generalize h2 : Block.startPairs r1.1.cutEntries s.otp r1.2 = r2
  generalize (if r2.1.net.saSwap = true then _ else r2.1 : Block) = b2
  have w0 : s.Bounds ((s.withBlock b2).withMem r2.2) :=
    State.Bounds.mems s _ _ fun w => h2 ▸ Block.startPairs_wf _ (h1 ▸ Block.showAll_wf w)
  generalize (s.withBlock b2).withMem r2.2 = s1 at w0
  generalize s1.b.mod.epoch - 1 = k
  have w2 : s.Bounds (if s1.b.mod.epoch = 0 ∨ s1.b.anyServes = false then s1 else s1.deliver k) := by
    split
    · exact w0
    · exact w0.trans (State.deliver_bounds _ _)
  have w3 := w2.serves (State.resumeWaiting_serves _)
  generalize (if s1.b.mod.epoch = 0 ∨ s1.b.anyServes = false then s1 else s1.deliver k).resumeWaiting = s3 at w3 ⊢
  obtain ⟨g1, g2, g3, g4, g5, g6, g7, g8⟩ := State.burn_keeps s3
  obtain ⟨_, _, _, ew, en, e⟩ := State.boundaryEnds_bounds s3.burn k
  obtain ⟨_, _, _, w, wn, rfl⟩ := w3
  rw [e]
  exact ⟨g1, fun h => ew (g2 ▸ w h), g3, g4, g5, Nat.le_trans wn (Nat.le_trans (Nat.le_of_eq g6.symm) en), g7, g8⟩

end Sys2Proof.Machine
end

