-- ==== Sys2Proof/Laws/PerInstr.lean ====
section
/-! SUPPORT. No statement of this package is made per command as syntax; the families would stand here. -/
end

