-- ==== Sys2Proof/Tests/Slice0.lean ====
section
/-! SUPPORT. Tests: ill-formed operands that WellFormed refuses, and for every statement concrete states and operands that meet its
hypotheses, clause by clause. -/

namespace Sys2Proof.Tests

open Sys2Proof Sys2Proof.Machine

set_option Elab.async false

/-! ## The state the tests start from -/

/-- A slice that holds everything a partition can hold. -/
def wide : Slice :=
  { phase := .running, frozen := false, chans := -1, inputs := -1, buses := -1, queues := -1, quota := 1000, slots := [(0, 240)],
    ctxs := [(0, 240)], events := [-1, -1, -1, -1], sram := [{ base := 0, len := 0x1000000, shared := true }],
    storage := [{ base := 0, len := 0x1000000, shared := true }], cores := [1, 1, 1, 1, 1, 1] }

/-- A lane in service. -/
def onLane (x : LaneSt) : LaneSt := { x with st := 4, ready := true, railsLow := false, band := 2, device := true, released := false }

/-- Both lanes in service, Lane A active, every die powered, PRIDs 0 and 3 with wide slices. -/
def up : State :=
  { State.reset with
    b := { Block.delivered with
      lanes := .both (onLane LaneSt.off), mod := { ModuleSt.off with active := some .a, epoch := 100000, t30Valid := true },
      part := { PartSt.fresh with slices := setAt (setAt (List.replicate 32 Slice.empty) 3 wide) 0 wide },
      dies := List.replicate 4 { DieSt.delivered with powered := true },
      nw := { NwSt.off with state := 0 }, bridge := { BridgeSt.off with link := 1 },
      keys := { KeySt.delivered with state := 0, unlocked := true } } }

/-- That state with its block changed. -/
def upWith (f : Block → Block) : State := up.withBlock (f up.b)

/-- That state with one request left pending. -/
def holding (q : Req) (op : Nat) (k : PendKind) : State :=
  upWith fun b => b.modMail fun m => { m with pend := [{ req := q, opcode := op, kind := k, epoch := 0, told := true }] }

/-- A plain request on a path. -/
def ask (path : Path) (pay : List Byte) : Req :=
  { path := path, auth := false, fence := false, tag := 1, seq := 1, payload := pay, payAddr := 0, respAddr := 8192, cap := 4096,
    stamp := 0, unsecured := false }

/-- A request of PRID 3's window. -/
def part3 (pay : List Byte) : Req := ask (.part 3) pay

/-- A request on the management channel. -/
def mgmt (pay : List Byte) : Req := ask .mgmt pay


/-! ## Well-formed operands: one ill-formed term for each check -/

/-- A well-formed request, access and frames of each kind. -/
def okReq : Req := { path := .mgmt, auth := false, fence := false, tag := 0, seq := 0, payload := [], payAddr := 0, respAddr := 0, cap := 0,
                     stamp := 0, unsecured := false }

def okAccess : Access := { pair := some 0, dma := 0, virt := false, kind := .read, addr := 0, size := 8, data := [] }

def okCan : CanFrame := { ident := 1, ide := false, fdf := false, brs := false, esi := false, rtr := false, dlc := 1, data := [0] }

def okEth : EthFrame := { dst := 0, src := 0, vid := none, dei := false, rtag := none, etype := 0, len := 60, data := [] }

def okMgmt : MgmtFrame :=
  { dst := 0, src := 0, secTag := true, scOk := true, verified := true, vlan := none, rtag := none, body := zeroBytes 44 }

/-- Requests, accesses, link frames and management frames outside their fields. -/
theorem test_wf_requests :
    (Instr.nop okReq).wf = true ∧ (Instr.nop { okReq with payload := zeroBytes 4097 }).wf = false ∧
    (Instr.keyLoad { okReq with payAddr := 2 ^ 64 }).wf = false ∧ (Instr.canSend { okReq with respAddr := 2 ^ 64 }).wf = false ∧
    (Instr.thaw { okReq with cap := 2 ^ 32 }).wf = false ∧
    (Instr.fabricAccess .a okAccess).wf = true ∧ (Instr.fabricAccess .a { okAccess with size := 0 }).wf = false ∧
    (Instr.fabricAccess .a { okAccess with size := 65 }).wf = false ∧ (Instr.fabricAccess .a { okAccess with addr := 2 ^ 64 }).wf = false ∧
    (Instr.fabricAccess .a { okAccess with data := [1] }).wf = false ∧
    (Instr.fabricAccess .a { okAccess with kind := .write, data := [1] }).wf = false ∧
    (Instr.set 0 .a { num := 0, idx := 0, arg := zeroBytes 6 }).wf = true ∧ (Instr.set 0 .a { num := 0, idx := 0, arg := [] }).wf = false ∧
    (Instr.managementFrame .a okMgmt).wf = true ∧ (Instr.managementFrame .a { okMgmt with dst := 2 ^ 48 }).wf = false ∧
    (Instr.managementFrame .a { okMgmt with src := 2 ^ 48 }).wf = false := by decide +kernel

/-- CAN and Ethernet frames and agreement items that carry them, ill formed in each field. -/
theorem test_wf_frames :
    let can := fun f => (Instr.canFrameReceived .a 0 f).wf
    let eth := fun f => (Instr.frameIngress .a 0 none f).wf
    let item := fun x => (Instr.agreementItemReceived .a { epoch := 0, body := x }).wf
    can okCan = true ∧ can { okCan with ident := 2 ^ 11 } = false ∧ can { okCan with ide := true, ident := 2 ^ 29 } = false ∧
    can { okCan with dlc := 16 } = false ∧ can { okCan with fdf := true, data := zeroBytes 65 } = false ∧
    can { okCan with data := zeroBytes 9 } = false ∧ can { okCan with fdf := true, rtr := true } = false ∧
    eth okEth = true ∧ eth { okEth with dst := 2 ^ 48 } = false ∧ eth { okEth with src := 2 ^ 48 } = false ∧
    eth { okEth with vid := some 4096 } = false ∧ eth { okEth with etype := 65536 } = false ∧ eth { okEth with len := 59 } = false ∧
    eth { okEth with data := zeroBytes 61 } = false ∧
    item (.can 0 { okCan with dlc := 16 }) = false ∧ item (.eth 4096 0 0 okEth) = false ∧ item (.eth 0 0 39 okEth) = false ∧
    item (.eth 0 0 0 { okEth with len := 0 }) = false ∧ item (.mgmt { okMgmt with dst := 2 ^ 48 }) = false ∧ item (.hash 33 0) = false ∧
    item (.hash 32 0) = true := by decide +kernel

/-- Operands of the other commands outside their ranges. -/
theorem test_wf_operands :
    (Instr.externalStorageRead .a 0 false 0 0).wf = false ∧ (Instr.externalStorageRead .a 0 false (2 ^ 28) 1).wf = false ∧
    (Instr.bridgeWindowAccess .a 0 false .read 0 0).wf = false ∧ (Instr.bridgeWindowAccess .a 0 false .read 0x3000000 8).wf = false ∧
    (Instr.registerWrite .a false .gov 2 0).wf = false ∧ (Instr.registerWrite .a false .gov 0x10000 0).wf = false ∧
    (Instr.registerWrite .a false (.part 3) 0x4000 0).wf = false ∧ (Instr.registerWrite .a true .gov 0x1000 0).wf = false ∧
    (Instr.laneFault .a 0).wf = false ∧ (Instr.laneFault .a 0x0F).wf = false ∧ (Instr.laneDownReceived .a 0 0).wf = false ∧
    (Instr.laneDownReceived .a 1 7).wf = false ∧
    (Instr.laneStart .a { injectFail := 9, selfTestOk := true, tamper := none, device := true }).wf = false ∧
    (Instr.read 0 .a 256).wf = false ∧ (Instr.canBusError .a 0 257 0).wf = false ∧ (Instr.canBusError .a 0 0 257).wf = false ∧
    (Instr.keepawakeThreshold 0 256).wf = false ∧ (Instr.fuseModelUpdate 0 0 (List.replicate 17 { i2 := 0, pwr := 0, ma := 0, v10 := 0, local10 := 0 })).wf = false ∧
    (Instr.coolantEstimate { substrate := [], power := [0, 0, 0, 0], computeNet := [0, 0, 0, 0], module := 0 }).wf = false ∧
    (Instr.coolantEstimate { substrate := [0, 0, 0, 0], power := [], computeNet := [0, 0, 0, 0], module := 0 }).wf = false ∧
    (Instr.coolantEstimate { substrate := [0, 0, 0, 0], power := [0, 0, 0, 0], computeNet := [], module := 0 }).wf = false ∧
    (Instr.coolantEstimate { substrate := [0, 0, 0, 0], power := [0, 0, 0, 0], computeNet := [0, 0, 0, 0], module := 0 }).wf = true := by
  decide +kernel

/-- No row of the table gives bits: no word spells a command, and a word changes no state. -/
theorem test_no_word (s : State) (n w : Nat) : decodeTableWord n w = none ∧ s.withFetchWord n w = s := ⟨rfl, rfl⟩
/-! ## The machine as a whole, and the checks of requests -/

/-- An access of pair 0 of Lane A as PRID 0. -/
def acc (k : AccKind) (a : Nat) : Access :=
  { pair := some 0, dma := 0, virt := false, kind := k, addr := a, size := 8, data := match k with | .read => [] | .write => zeroBytes 8 }

/-- A shrink by channel 5 and the granule at 0x10000. -/
def drain5 : Drain :=
  { recs := [{ kind := 1, shared := false, move := false, first := 0, value := 32 },
             { kind := 9, shared := false, move := false, first := 65536, value := 65536 }],
    destroy := false, begun := true, ended := false, total := 0, resized := 0, cut := 0 }

/-- PRIDs 0 and 3 shrink by it. -/
def shrinking : State := upWith fun b => b.modPart fun x => { x with drains := [(3, drain5), (0, drain5)] }

/-- A token whose parity is wrong. -/
def spoiled : Token :=
  { kind := .ordinary, cause := 0, fetch := 0, load := 0, scOk := false, csrIn := 0, out := 0, sweep := 0, parity := 1, virt := false,
    guest := none }

/-- Such a token stands in the delay FIFO of a pair, so the comparison before its next output fails. -/
def apart (l : Lane) (k : Pair) : State :=
  upWith fun b => b.modLane l fun x => x.modPair k fun p => { p with fifo := [(spoiled, p.main)] }

/-- A resynchronisation holds the pairs. -/
def holdsPairs : State := upWith fun b => b.modLane .b fun x => { x with resyncStage := 3 }

/-- The state the tests start from has every size. -/
theorem test_up_sized : up.b.Sized := by
  unfold Block.Sized LaneSt.Sized
  and_intros
  all_goals first
    | decide +kernel
    | intro l; cases l <;> decide +kernel

/-- Steps of states that hold the invariants, a command that may not write memory, and one that burns. -/
theorem test_steps_of_invariants :
    (∃ t, up.mem.Wf ∧ step up = .next t) ∧ (∃ t, up.b.Sized ∧ step { up with pending := [.epochBoundary 0] } = .next t) ∧
    (∃ t, Instr.writesMemory .glitchClear = false ∧ exec .glitchClear up = .next t) ∧ up.pending = [] ∧
    (∃ t, exec .lifecycleWritten (holding (mgmt []) 0x8020 (.lifecycle 3)) = .next t ∧ t.otp.lifecycle ≠ Lifecycle.production) :=
  ⟨⟨_, MemSt.delivered_wf, rfl⟩, ⟨_, test_up_sized, rfl⟩, ⟨_, rfl, rfl⟩, rfl, ⟨_, rfl, by decide +kernel⟩⟩

/-- An access of a core and one through the bridge window answer. -/
theorem test_access_hyps :
    (∃ t, exec (.fabricAccess .a (acc .write 0)) up = .next t) ∧
    (∃ t, exec (.bridgeWindowAccess .a 0 false (.write (zeroBytes 8)) 0 8) up = .next t) := by
  have h : ∀ (s : State) (a : Access), ∃ t, exec (.fabricAccess .a a) s = .next t := fun _ _ => ⟨_, rfl⟩
  exact ⟨h _ _, ⟨_, rfl⟩⟩

/-- Such accesses inside and outside a slice, while it is frozen, in a range under drain, held, and with a checker that differs. -/
theorem test_access_cases_hyps :
    (up.b.slice (up.b.pridOf .a (acc .write 0))).holdsSram 0x1000000 1 = false ∧
    (up.b.slice (up.b.accPrid .a 0 false)).holdsSram 0x1000000 1 = false ∧
    (acc .read 0).pair = some 0 ∧ (up.b.lane .a).st = 4 ∧ ((up.b.slice 0).phase == SlicePhase.none) = false ∧
    regionOf 0 = .sram ∧ regionOf 0x1000000 = .sram ∧ regionOf 0x2FFFFF8 = .sram ∧
    up.b.pairsHeld = false ∧ holdsPairs.b.pairsHeld = true ∧ (holdsPairs.b.lane .a).st = 4 ∧
    up.b.outputEqual .a 0 (up.b.accToken .a 0 false 0 8 1) = true ∧
    (apart .a 0).b.outputEqual .a 0 ((apart .a 0).b.accToken .a 0 false 0 8 1) = false ∧ (apart .a 0).b.pairsHeld = false ∧
    shrinking.b.drainsRange 0 0x1FFF8 8 = true ∧ up.b.drainsRange 0 0x1FFF8 8 = false ∧
    (up.b.slice 0).holdsSram 0x1000000 8 = false ∧ (up.b.slice 0).holdsSram 0xFFFFF8 8 = true ∧ (up.b.slice 0).frozen = false ∧
    ((upWith fun b => b.modSlice 0 fun s => { s with frozen := true }).b.slice 0).frozen = true ∧
    (up.b.modBridge fun r => { r with token := some (.b, 0, 1) }).lineLocked .a 64 = true ∧ up.b.lineLocked .a 64 = false ∧
    up.b.lineLocked .a (64 + 8 - 1) = false := by
  decide +kernel

/-- PARAM_GET of the instance 0 of fs.wdt.timeout alone. -/
def askTimeout (path : Path) : Req := ask path [1, 0, 0, 0, 0x01, 0x28, 0, 0]

/-- Requests that wait, that their issuer may not send and that name a removed channel. -/
theorem test_gate_hyps :
    (Instr.nop (mgmt [])).request? = some (0x0001, mgmt []) ∧ State.reset.b.anyServes = false ∧ up.b.anyServes = true ∧
    (holding (part3 [5, 0, 0, 0]) 0x2001 (.chan 0 1 5)).b.mustWait 0x2001 (part3 [5, 1, 0, 0]) = true ∧
    (let q := { part3 [] with cap := 4097 }; up.b.mustWait 0x0001 q = false ∧ q.slotOk = false) ∧
    (part3 [5, 1, 0, 0]).slotOk = true ∧ (mgmt [5, 1, 0, 0]).slotOk = true ∧ (part3 []).unsecured = false ∧
    up.b.mustWait 0x2001 (mgmt [5, 1, 0, 0]) = false ∧ (opInfo 0x2001).permits .mgmt = false ∧
    shrinking.b.mustWait 0x2001 (part3 [5, 1, 0, 0]) = false ∧ (opInfo 0x2001).permits (.part 3) = true ∧
    shrinking.b.resizedBy (part3 [5, 1, 0, 0]) (namedObjects 0x2001 (part3 [5, 1, 0, 0]).pay) = true := by
  decide +kernel

/-- Requests outside the slice, of a partition and of the governor window, one denied without a violation, and ones that are not
authentic. -/
theorem test_check5_check6_hyps :
    (let s := upWith fun b => b.modSlice 3 fun s => { s with chans := 31 }
     let q := part3 [5, 1, 0, 0]
     s.b.mustWait 0x2001 q = false ∧ s.b.resizedBy q (namedObjects 0x2001 q.pay) = false ∧
     s.b.check5 0x2001 q (namedObjects 0x2001 q.pay) = some (some 0) ∧ s.b.part.viol.length = 32) ∧
    (let q := { ask .gov [] with respAddr := 0x1000000, cap := 8 }
     up.b.mustWait 0x0001 q = false ∧ q.slotOk = true ∧ (opInfo 0x0001).permits q.path = true ∧
     up.b.check5 0x0001 q (namedObjects 0x0001 q.pay) = some (some 0x1000000)) ∧
    (let q := part3 [4, 0, 0, 0, 0, 0, 0, 0]
     up.b.mustWait 0x1005 q = false ∧ (opInfo 0x1005).permits q.path = true ∧ up.b.resizedBy q (namedObjects 0x1005 q.pay) = false ∧
     up.b.check5 0x1005 q (namedObjects 0x1005 q.pay) = some none) ∧
    (let q := mgmt [3, 0, 0, 0, 0, 0, 0, 0]
     up.b.mustWait 0x1006 q = false ∧ (opInfo 0x1006).permits .mgmt = true ∧ up.b.check5 0x1006 q (namedObjects 0x1006 q.pay) = none ∧
     (opInfo 0x1006).auth = true ∧ q.auth = false ∧ q.slotOk = true) ∧
    (let q := { mgmt (zeroBytes 32) with auth := true }
     up.b.mustWait 0x1006 q = false ∧ up.b.check5 0x1006 q (namedObjects 0x1006 q.pay) = none ∧ q.auth = true ∧ up.b.authLess = false ∧
     q.slotOk = true ∧ up.b.trailerOk q 0x1006 = false ∧ (upWith fun b => b.modKeys fun k => { k with state := 3 }).b.authLess = true) := by
  decide +kernel

/-! ## Services, parameters and slices -/

/-- NOP with and without room, MODULE_INFO and AUTH_CHALLENGE. -/
theorem test_services_hyps :
    (up.b.passes 0x0001 (mgmt [1]) = true ∧ (mgmt [1]).pay.length ≤ (mgmt [1]).room) ∧
    (let q := { part3 (zeroBytes 16) with cap := 8 }; up.b.passes 0x0001 q = true ∧ q.room < q.pay.length) ∧
    (up.b.passes 0x0002 (mgmt []) = true ∧ (mgmt []).pay = [] ∧ 32 ≤ (mgmt []).room) ∧
    (up.b.passes 0x0012 (mgmt []) = true ∧ (mgmt []).path = .mgmt ∧ 8 ≤ (mgmt []).room) ∧
    (up.b.passes 0x0012 (ask .gov []) = true ∧ (ask .gov []).path = .gov) ∧
    ({ mgmt [] with auth := true } : Req).path.isGov = true := by
  decide +kernel

/-- PARAM_GET of chan.retry.mode of channel 5. -/
theorem test_param_get_hyps :
    let q := part3 [1, 0, 0, 0, 0x01, 0x20, 5, 0]
    let es := (paramEntries q.pay).filterMap id
    up.b.passes 0x0010 q = true ∧ paramGetOk q.pay = true ∧ paramEntries q.pay = es.map some ∧ es.length = 1 ∧
    (leBytes 2 es.length ++ zeroBytes 2 ++ es.flatMap fun e =>
      leBytes 2 e.1.id ++ leBytes 1 e.2 ++ leBytes 1 e.1.ty.code ++ leBytes 2 e.1.ty.len ++ zeroBytes 2 ++
        leBytes e.1.ty.len (up.b.paramVal up.otp e.1 e.2) ++ zeroBytes (padded e.1.ty.len - e.1.ty.len)).length ≤ q.room := by
  decide +kernel

/-- One PARAM_SET record with a value of `n` bytes. -/
def rec1 (id inst ty n v : Nat) : List Byte :=
  [1, 0, 0, 0] ++ leBytes 2 id ++ leBytes 1 inst ++ leBytes 1 ty ++ leBytes 2 n ++ zeroBytes 2 ++ leBytes n v ++ zeroBytes (padded n - n)

/-- Channel 15 carries its nominal current, in a module of code GZ864-AE. -/
def carrying : State :=
  { upWith fun b => { b with params := psetAll b.params [(pkey 0x2001 15, 1), (pkey 0x200B 15, 50)] } with
    otp := { up.otp with codeAE := true } }

/-- PARAM_SET of a status, of values against the rules and against the limits, and of one that is taken. -/
theorem test_param_set_hyps :
    let form := fun (s : State) (q : Req) => s.b.passes 0x0011 q = true ∧ 4 ≤ q.pay.length ∧ fieldAt q.pay 0 2 = 1 ∧ zerosAt q.pay 2 2 = true ∧
      (paramRecs q.pay 1 4).isSome = true
    let recs := fun (q : Req) => (paramRecs q.pay 1 4).getD []
    let after := fun (s : State) (q : Req) => psetAll s.b.paramsAhead ((recs q).map ParamRec.pair)
    let ro := mgmt (rec1 0x2005 5 2 2 100)
    let bad := mgmt (rec1 0x8010 0 0x11 1 80)
    let much := mgmt (rec1 0x8010 0 0x11 1 85)
    let good := mgmt (rec1 0x2001 5 1 1 1)
    (form up ro ∧ ∃ r ∈ recs ro, r.d.acc = .ro ∨ r.d.acc = .r) ∧
    (form up bad ∧ (∀ r ∈ recs bad, r.d.acc = .rw ∨ r.d.acc = .g) ∧
      paramRulesOk up.otp.codeAE (after up bad) up.b.part.slices up.b.net.hands (recs bad) = false) ∧
    (form carrying much ∧ (∀ r ∈ recs much, r.d.acc = .rw ∨ r.d.acc = .g) ∧
      paramRulesOk carrying.otp.codeAE (after carrying much) carrying.b.part.slices carrying.b.net.hands (recs much) = true ∧ paramLimitsOk (after carrying much) = false) ∧
    (form up good ∧ (∀ r ∈ recs good, r.d.acc = .rw ∨ r.d.acc = .g) ∧
      paramRulesOk up.otp.codeAE (after up good) up.b.part.slices up.b.net.hands (recs good) = true ∧ paramLimitsOk (after up good) = true) := by
  decide +kernel

/-- One record of kind 8: event 0. -/
def evRec8 : List Byte := [8, 0, 0, 0, 0, 0, 0, 0, 1, 0, 0, 0, 0, 0, 0, 0]

/-- One record of kind 1: channel 5. -/
def chRec5 : List Byte := [1, 0, 0, 0, 0, 0, 0, 0, 32, 0, 0, 0, 0, 0, 0, 0]

/-- PRID 5 with a phase. -/
def with5 (ph : SlicePhase) : State := upWith fun b => b.modSlice 5 fun _ => { wide with phase := ph, events := [0, 0, 0, 0] }

/-- A request of one record for PRID 5. -/
def one5 (rec : List Byte) : Req := mgmt ([5, 0, 0, 0, 1, 0, 0, 0] ++ rec)

/-- The record of channel 5 as a value. -/
def res5 : ResRec := { kind := 1, shared := false, move := false, first := 0, value := 32 }

/-- SLICE_CREATE with status OK, another status, of a PRID that has a slice and behind a teardown. -/
theorem test_slice_create_hyps :
    let st := fun (s : State) (q : Req) => sliceStatus s.b.ahead s.b.part.drains s.b.busyGranules 5 (resRecs q.pay (fieldAt q.pay 4 2))
    byteAt (one5 evRec8).pay 0 = 5 ∧ slicePayOk (one5 evRec8).pay true = true ∧ slicePayOk (one5 chRec5).pay true = true ∧
    up.b.passes 0x1001 (one5 evRec8) = true ∧ up.b.passes 0x1001 (one5 chRec5) = true ∧ up.b.tearing 5 = false ∧
    (up.b.ahead.getD 5 Slice.empty).phase = .none ∧ st up (one5 evRec8) = .ok ∧ st up (one5 chRec5) ≠ .ok ∧
    (with5 .running).b.passes 0x1001 (one5 evRec8) = true ∧ (with5 .running).b.tearing 5 = false ∧
    (((with5 .running).b.ahead.getD 5 Slice.empty).phase == SlicePhase.none) = false ∧
    (with5 .tearing).b.passes 0x1001 (one5 evRec8) = true ∧ (with5 .tearing).b.tearing 5 = true := by decide +kernel

/-- SLICE_GROW with OK, another status and of a PRID that has no slice; one record of each of the two kinds spelled out; a block of
32 slices. -/
theorem test_slice_grow_hyps :
    let st := fun (s : State) (q : Req) => sliceStatus s.b.ahead s.b.part.drains s.b.busyGranules 5 (resRecs q.pay (fieldAt q.pay 4 2))
    (with5 .running).b.passes 0x1002 (one5 evRec8) = true ∧ (with5 .running).b.passes 0x1002 (one5 chRec5) = true ∧
    (((with5 .running).b.ahead.getD 5 Slice.empty).phase == SlicePhase.none) = false ∧ (with5 .running).b.tearing 5 = false ∧
    st (with5 .running) (one5 evRec8) = .ok ∧ st (with5 .running) (one5 chRec5) ≠ .ok ∧
    up.b.passes 0x1002 (one5 evRec8) = true ∧ (up.b.ahead.getD 5 Slice.empty).phase = .none ∧
    (res5.kind = 1 ∧ res5.shared = false ∧ res5.move = false) ∧
    (let r := drain5.recs.getD 1 res5; r.kind = 9 ∧ r.shared = false ∧ r.move = false) ∧ up.b.part.slices.length = 32 ∧
    (5 : Prid) ≠ 0 := by decide +kernel

/-- SLICE_SHRINK of what the slice holds, of what it does not hold and of a PRID without one; SLICE_DESTROY of a PRID with and without
a slice. -/
theorem test_slice_shrink_hyps :
    let q := one5 chRec5
    let e := one5 evRec8
    let recs := resRecs q.pay (fieldAt q.pay 4 2)
    let s := with5 .running
    let d := mgmt [5, 0, 0, 0, 0, 0, 0, 0]
    slicePayOk q.pay false = true ∧ 16 ≤ q.room ∧ (∀ r ∈ recs, (s.b.ahead.getD 5 Slice.empty).holdsRec r = true) ∧
    s.b.passes 0x1003 q = true ∧ s.b.tearing 5 = false ∧ ((s.b.ahead.getD 5 Slice.empty).phase == SlicePhase.none) = false ∧
    slicePayOk e.pay false = true ∧ s.b.passes 0x1003 e = true ∧
    (∃ r ∈ resRecs e.pay (fieldAt e.pay 4 2), (s.b.ahead.getD 5 Slice.empty).holdsRec r = false) ∧
    up.b.passes 0x1003 q = true ∧ (up.b.ahead.getD 5 Slice.empty).phase = .none ∧ up.b.tearing 5 = false ∧
    s.b.passes 0x1004 d = true ∧ up.b.passes 0x1004 d = true ∧ headOk d.pay 31 = true := by decide +kernel

/-- PRID 5's drain of channel 5 that has not begun, its SLICE_SHRINK pending, with frames unacknowledged. -/
def begins5 (destroy : Bool) (us : List Unacked) : Block :=
  let b := ((with5 .running).b.modLink 0 fun x => { x with unacked := us }).addDrain 5 [res5] destroy
  b.modMail fun m => { m with pend := [{ req := one5 chRec5, opcode := 0x1003, kind := .shrink 5, epoch := 0, told := false }] }

/-- At the boundary: with nothing and with a frame in flight, and a teardown. -/
theorem test_drain_begins_hyps :
    let d : Drain := { recs := [res5], destroy := false, begun := false, ended := false, total := 0, resized := 0, cut := 0 }
    let out := [Unacked.fresh 1 .set 5 [1, 0, 0, 0, 0, 0] []]
    (begins5 false []).part.slices.length = 32 ∧
    ((begins5 false []).part.drains.filter fun e => !e.2.begun) = [(5, d)] ∧
    ((begins5 false out).part.drains.filter fun e => !e.2.begun) = [(5, d)] ∧
    ((begins5 true []).part.drains.filter fun e => !e.2.begun) = [(5, { d with destroy := true })] ∧
    ((begins5 false []).takeAway 5 [res5]).inFlight 5 [res5] = 0 ∧ ((begins5 false out).takeAway 5 [res5]).inFlight 5 [res5] ≠ 0 ∧
    (∃ e ∈ (begins5 false out).mail.pend, e.kind = .shrink 5 ∧ e.told = false) := by decide +kernel

/-- SLICE_QUERY by the governor, of the free pool, by a partition of its own slice and of another one. -/
theorem test_slice_query_hyps :
    let q := mgmt [3, 0, 0, 0, 0, 0, 0, 0]
    let f := mgmt [32, 0, 0, 0, 0, 0, 0, 0]
    let x := part3 [4, 0, 0, 0, 0, 0, 0, 0]
    up.b.passes 0x1005 q = true ∧ headOk q.pay 31 = true ∧ (queryPay 3 (up.b.partState 3) (up.b.slice 3).recs).length ≤ q.room ∧
    up.b.passes 0x1005 (part3 [3, 0, 0, 0, 0, 0, 0, 0]) = true ∧
    (queryPay 3 (up.b.partState 3) (up.b.slice 3).recs).length ≤ (part3 []).room ∧
    up.b.passes 0x1005 f = true ∧ headOk f.pay 32 = true ∧ f.path.isGov = true ∧ (queryPay 32 0 up.b.freePool).length ≤ f.room ∧
    up.b.mustWait 0x1005 x = false ∧ x.slotOk = true ∧ x.path = .part 3 ∧ up.b.resizedBy x (namedObjects 0x1005 x.pay) = false ∧
    up.b.outside? x (namedObjects 0x1005 x.pay) = none := by decide +kernel

/-- A signed request: its trailer is the challenge and the CMAC of R122. -/
def signed (b : Block) (op : Nat) (c : DWord) (r : Req) : Req :=
  let r' := { r with auth := true, payload := r.payload ++ zeroBytes 24 }
  { r' with payload := r.payload ++ leBytes 8 c.toNat ++ Config.cmac b.authKeyMaterial (r'.header op ++ r.payload ++ leBytes 8 c.toNat) }

/-- A challenge waits on the management channel. -/
def challenged : State := upWith fun b => b.setChallenge .mgmt (some 7)

/-- The length of a CMAC. -/
theorem cmac_length (k m : List Byte) : (Config.cmac k m).length = 16 := by simp [Config.cmac]

/-- A drain at its limit and at its end, a shrink whose response is visible, a teardown that ends and a granule that is zeroed. -/
theorem test_drain_hyps :
    shrinking.b.drainOf? 3 = some drain5 ∧ drain5.begun = true ∧ drain5.ended = false ∧ drain5.destroy = false ∧
    shrinking.b.inFlight 3 drain5.recs = 0 ∧ shrinking.b.part.slices.length = 32 ∧
    ((with5 .shrinking).b.slice 5).phase = .shrinking ∧ (∀ e ∈ (with5 .shrinking).b.part.drains, e.1 = 5 → e.2.destroy = false) ∧
    (let d := { drain5 with destroy := true, ended := true }
     let s := upWith fun b => b.modPart fun x => { x with drains := [(3, d)], zeroing := [767] }
     s.b.drainOf? 3 = some d ∧ d.destroy = true ∧ d.ended = true ∧ s.b.part.slices.length = 32 ∧ 767 ∈ s.b.part.zeroing ∧
     0 ∉ s.b.part.zeroing) := by decide +kernel

/-- Whatever the key state, if it allows authentication, a signed management request passes every check before its opcode's own, and its
payload stands without the trailer. -/
theorem test_signed_passes_with (f : KeySt → KeySt) (hf : (challenged.b.modKeys f).authLess = false) (op : Nat) (pay : List Byte)
    (h : (opInfo op).permits .mgmt = true) :
    (challenged.b.modKeys f).passes op (signed (challenged.b.modKeys f) op 7 (mgmt pay)) = true ∧ (signed (challenged.b.modKeys f) op 7 (mgmt pay)).pay = pay := by
  have hp : (signed (challenged.b.modKeys f) op 7 (mgmt pay)).pay = pay := by
    unfold Req.pay signed mgmt ask
    simp [cmac_length, show (leBytes 8 7).length = 8 from rfl]
  have ht : (signed (challenged.b.modKeys f) op 7 (mgmt pay)).trailer = leBytes 8 7 ++ Config.cmac (challenged.b.modKeys f).authKeyMaterial
      (({ mgmt pay with auth := true, payload := pay ++ zeroBytes 24 } : Req).header op ++ pay ++ leBytes 8 7) := by
    unfold Req.trailer signed mgmt ask
    simp [cmac_length, show (leBytes 8 7).length = 8 from rfl]
  have hh : (signed (challenged.b.modKeys f) op 7 (mgmt pay)).header op =
      ({ mgmt pay with auth := true, payload := pay ++ zeroBytes 24 } : Req).header op := by
    unfold Req.header signed mgmt ask
    simp [cmac_length, show (leBytes 8 7).length = 8 from rfl, show (zeroBytes 24).length = 24 from rfl]; rfl
  have hc : (challenged.b.modKeys f).challenge (signed (challenged.b.modKeys f) op 7 (mgmt pay)).path = some 7 := rfl
  have hk : (challenged.b.modKeys f).trailerOk (signed (challenged.b.modKeys f) op 7 (mgmt pay)) op = true := by
    unfold Block.trailerOk
    rw [hc, ht, hh, hp]
    have h24 : 24 ≤ (signed (challenged.b.modKeys f) op 7 (mgmt pay)).payload.length := by
      unfold signed mgmt ask; simp [cmac_length, show (leBytes 8 7).length = 8 from rfl]
    have h8 : ∀ l : List Byte, (leBytes 8 7 ++ l).take 8 = leBytes 8 7 ∧ (leBytes 8 7 ++ l).drop 8 = l := fun l => ⟨rfl, rfl⟩
    simp only [(h8 _).1, (h8 _).2, h24]
    simp [show leNat (leBytes 8 7) = 7 from by decide]
  refine ⟨?_, hp⟩
  unfold Block.passes
  rw [hk]
  simp only [show (challenged.b.modKeys f).anyServes = true from rfl, hf,
    show (challenged.b.modKeys f).mustWait op (signed (challenged.b.modKeys f) op 7 (mgmt pay)) = false from rfl,
    show (signed (challenged.b.modKeys f) op 7 (mgmt pay)).path = .mgmt from rfl, h, show (signed (challenged.b.modKeys f) op 7 (mgmt pay)).unsecured = false from rfl,
    show (signed (challenged.b.modKeys f) op 7 (mgmt pay)).auth = true from rfl]
  simp only [Bool.not_false, Bool.true_and, Bool.and_true, Bool.not_true, Bool.or_true, Bool.false_and, Bool.and_false,
    Bool.and_eq_true]
  exact ⟨⟨rfl, rfl⟩, rfl⟩

/-- So it does in the example state. -/
theorem test_signed_passes (op : Nat) (pay : List Byte) (h : (opInfo op).permits .mgmt = true) :
    challenged.b.passes op (signed challenged.b op 7 (mgmt pay)) = true ∧ (signed challenged.b op 7 (mgmt pay)).pay = pay :=
  test_signed_passes_with id (by decide +kernel) op pay h

/-- THAW with a valid trailer. -/
theorem test_thaw_hyps : ∃ q, challenged.b.passes 0x1006 q = true ∧ headOk q.pay 31 = true ∧ byteAt q.pay 0 = 3 ∧
    challenged.b.part.slices.length = 32 :=
  let h := test_signed_passes 0x1006 [3, 0, 0, 0, 0, 0, 0, 0] (by decide)
  ⟨_, h.1, by rw [h.2]; decide, by rw [h.2]; decide, by decide +kernel⟩

/-- A frozen and a thawed PRID, and an access that stalled. -/
theorem test_thaw_effect_hyps :
    let b := (challenged.b.modPart fun p => { p with slices := setAt p.slices 3 { wide with frozen := true } }).modLane .a fun x =>
      x.modPair 0 fun p => { p with stalled := some (acc .write 0, 3) }
    (b.slice 3).frozen = true ∧ b.part.rates.length = 32 ∧ (challenged.b.slice 3).frozen = false ∧
    ((b.lane .a).pair 0).stalled = some (acc .write 0, 3) := by decide +kernel

/-- The opening of a signed request. -/
theorem test_signed_shape : ∀ c : DWord, (signed challenged.b 0x1006 c (mgmt [])).path.isGov = true ∧
    (signed challenged.b 0x1006 c (mgmt [])).auth = true := fun _ => ⟨rfl, rfl⟩

/-! ## Channels and power dies -/

/-- Channel 5 is enabled by its configuration and in the die, both feeds are valid. -/
def fed (f : ChanSt → ChanSt) : State := upWith fun b =>
  ({ b with params := [(pkey 0x2001 5, 1)], mod := { b.mod with feedA := { band := .valid, mv := 12000 },
                                                                 feedB := { band := .valid, mv := 12000 } } } : Block).modChan 5
    fun x => f { x with enabled := true }

/-- That state with channel 5 in a phase. -/
def phased (p : Phase) : State := fed fun x => { x with phase := p }

/-- That state with die 0 changed. -/
def fedDie (f : DieSt → DieSt) : State := (fed id).withBlock ((fed id).b.modDie 0 f)

/-- CHAN_SET, CHAN_PWM and UNLOCK of an active channel and of one that is not; a lock that may and may not go. -/
theorem test_chan_hyps :
    let set := part3 [5, 1, 0, 0]
    let pwm := part3 [5, 0, 25, 0, 0xE8, 0x03, 0, 0]
    let un := part3 [5, 0, 0, 0]
    let locked := fed fun x => { x with lock := 2 }
    let hot := fed fun x => { x with lock := 2, bins := 2000000000 :: x.bins }
    (phased .off).b.chanActive 5 = true ∧ up.b.chanActive 5 = false ∧ (phased .off).b.links.length = 4 ∧
    (phased .off).b.passes 0x2001 set = true ∧ up.b.passes 0x2001 set = true ∧ 4 ≤ set.room ∧
    (phased .off).b.passes 0x2002 pwm = true ∧ up.b.passes 0x2002 pwm = true ∧ freqOk 5 (fieldAt pwm.pay 2 2) = true ∧
    fieldAt pwm.pay 4 2 = 1000 ∧ zerosAt pwm.pay 6 2 = true ∧ byteAt pwm.pay 1 = 0 ∧
    up.b.passes 0x2004 un = true ∧ (phased .off).b.passes 0x2004 un = true ∧ ((phased .off).b.chan 5).lock = 0 ∧
    locked.b.passes 0x2004 un = true ∧ locked.b.chanActive 5 = true ∧ windowRecovered 5 (locked.b.chan 5) = true ∧
    hot.b.passes 0x2004 un = true ∧ (hot.b.chan 5).lock ≠ 0 ∧ windowRecovered 5 (hot.b.chan 5) = false ∧ hot.b.chanActive 5 = true := by
  decide +kernel

/-- CHAN_MULTI with an active channel, with none selected and with one that is not active. -/
theorem test_multi_hyps :
    let one := part3 ([32, 0, 0, 0, 0, 0, 0, 0] ++ [32, 0, 0, 0, 0, 0, 0, 0])
    let two := part3 ([96, 0, 0, 0, 0, 0, 0, 0] ++ zeroBytes 8)
    (phased .off).b.passes 0x2003 one = true ∧ one.pay.length = 16 ∧ 24 ≤ one.room ∧
    (∀ c ∈ bitIdx 64 (fieldAt one.pay 0 8), (phased .off).b.chanActive c = true) ∧
    ((List.range 4).filter fun d => (fieldAt one.pay 0 8 >>> (16 * d)) % 65536 != 0) = [0] ∧
    up.b.passes 0x2003 (part3 (zeroBytes 16)) = true ∧ bitIdx 64 (fieldAt (part3 (zeroBytes 16)).pay 0 8) = [] ∧
    (phased .off).b.passes 0x2003 two = true ∧ 6 ∈ bitIdx 64 (fieldAt two.pay 0 8) ∧ (phased .off).b.chanActive 6 = false := by
  decide +kernel

/-- CHAN_STATUS of an active channel and of one that is not, and the update it reads. -/
theorem test_chan_status_hyps :
    let st := mgmt [5, 0, 0, 0]
    (phased .off).b.passes 0x2005 st = true ∧ up.b.passes 0x2005 st = true ∧ st.pay.length = 4 ∧ zerosAt st.pay 1 3 = true ∧
    32 ≤ st.room ∧ (phased .off).b.chanActive 5 = true ∧ up.b.chanActive 5 = false ∧ up.b.dies.length = 4 ∧
    (up.b.die 0).powered = true := by decide +kernel

/-- DIE_ISOLATE's function `n` of die 0. -/
def isoReq (n pol : Nat) : Req := (mgmt [0, 0, BitVec.ofNat 8 pol, 0]).withByte 1 n

/-- The three functions of DIE_ISOLATE on a served die in each position of its switch. -/
theorem test_isolate_hyps :
    let opened := upWith fun b => b.modDie 0 fun x => { x with iso := .opened }
    let worn := upWith fun b => b.modDie 0 fun x => { x with isoBanks := .both (IsoBank.of 0 false 10000) }
    (up.b.passes 0x2006 (isoReq 1 0) = true ∧ (isoReq 1 0).pay.length = 4 ∧ byteAt (isoReq 1 0).pay 1 = 1 ∧
      byteAt (isoReq 1 0).pay 3 = 0 ∧ 4 ≤ (isoReq 1 0).room ∧ up.b.dieServed 0 = true ∧ (up.b.die 0).powered = true ∧
      (up.b.die 0).iso = .closed ∧ up.b.passes 0x2006 (isoReq 0 0) = true ∧ up.b.passes 0x2006 (isoReq 2 2) = true ∧
      byteAt (isoReq 2 2).pay 2 = 2 ∧ (up.b.die 0).isoCount < 10000) ∧
    (opened.b.passes 0x2006 (isoReq 0 0) = true ∧ (opened.b.die 0).iso = .opened ∧ opened.b.dieServed 0 = true ∧
      opened.b.feedValid 0 = false ∧ (opened.b.die 0).powered = true) ∧
    (worn.b.passes 0x2006 (isoReq 2 2) = true ∧ worn.b.dieServed 0 = true ∧ 10000 ≤ (worn.b.die 0).isoCount) ∧
    ((fedDie fun x => { x with iso := .opened }).b.passes 0x2006 (isoReq 0 0) = true ∧
      (fedDie fun x => { x with iso := .opened }).b.feedValid 0 = true) ∧
    ((upWith fun b => b.modDie 0 fun x => { x with powered := false }).b.passes 0x2006 (isoReq 1 0) = true) ∧
    ((fedDie fun x => { x with iso := .closing }).b.die 0).iso = .closing ∧
    ((fedDie fun x => { x with iso := .opening }).b.die 0).iso = .opening := by decide +kernel

/-- FAILSAFE_STORE, a die whose store is in the bank of Lane A, and the end of the request. -/
theorem test_failsafe_hyps :
    let q := mgmt [1, 0, 0, 0]
    let s := holding q 0x2801 (.failsafe [0] [0, 0, 0, 0] [])
    (up.b.passes 0x2801 (mgmt [15, 0, 0, 0]) = true ∧ 16 ≤ (mgmt []).room ∧
      (∀ d ∈ bitIdx 4 15, up.b.dieServed d = true ∧ (up.b.die d).storeCount < 99999)) ∧
    ((DieSt.delivered.writeStore []).storeLane).isSome = true ∧
    (s.b.mail.pend = [{ req := q, opcode := 0x2801, kind := .failsafe [0] [0, 0, 0, 0] [], epoch := 0, told := true }] ∧
      s.b.dies.length = 4 ∧ (s.b.die 0).storeCount = [0, 0, 0, 0].getD 0 0) := by
  decide +kernel

/-- A frame for channel 5. -/
def frame5 : LinkFrame := { num := 1024, idx := 5, arg := zeroBytes 6 }

/-- That frame as a die holds it. -/
def held5 : DieFrame := { kind := .set, frame := frame5, ms := 0 }

/-- Frames on both ports of a die, in fail-safe mode and out of it, with none, one and 16 held copies. -/
theorem test_die_link_hyps :
    let d := up.b.die 0
    d.powered = true ∧ (up.b.lane .a).released = false ∧ frame5.arg.length = 6 ∧ d.failSafe = false ∧ seqNew 1024 d.lnum = true ∧
    d.storeBad = false ∧ d.isoBad = false ∧ d.preferred = .a ∧ d.held = [] ∧ up.b.dies.length = 4 ∧
    ((upWith fun b => b.modDie 0 fun x => { x with held := [held5] }).b.die 0).held = [held5] ∧
    seqDist held5.frame.num d.lnum ≤ 1024 ∧
    ((upWith fun b => b.modDie 0 fun x => { x with held := held5 :: List.replicate 15 held5 }).b.die 0).held =
      held5 :: List.replicate 15 held5 ∧ (List.replicate 15 held5).length = 15 ∧ Lane.b ≠ d.preferred ∧
    ((upWith fun b => b.modDie 0 fun x => { x with failSafe := true }).b.die 0).failSafe = true ∧
    up.b.logicSource? = some 0 ∧ ((upWith fun b => b.modDie 0 fun x => { x with powered := false }).b.die 0).powered = false ∧
    State.reset.b.logicSource? = none := by decide +kernel

/-- Channel 5 in the phases and marks that commands meet. -/
theorem test_chan_phase_hyps :
    let x := fun (p : Phase) => (phased p).b.chan 5
    (phased .off).b.dies.length = 4 ∧ ((phased .off).b.die 0).chans.length = 16 ∧ (x .off).enabled = true ∧ (x .off).lock = 0 ∧
    (x .off).inHold = false ∧ (x .off).inLatch = false ∧ ((phased .off).b.die 0).iso = .closed ∧ (phased .off).b.feedGone 0 = false ∧
    (x .off).phase = .off ∧ (x .falling).phase = .falling ∧ (x .clamp).phase = .clamp ∧ (x .on).phase = .on ∧ (x .off).stuck = false ∧
    (x .off).queued = .none ∧ (x .off).waitFeed = false ∧
    ((fed fun y => { y with tripHold := true }).b.chan 5).inHold = true ∧
    ((fed fun y => { y with lock := 1 }).b.chan 5).lock ≠ 0 ∧ ((fed fun y => { y with thermLatch := true }).b.chan 5).inLatch = true ∧
    ((fedDie fun y => { y with iso := .opening }).b.die 0).iso ≠ .closed ∧
    ((fedDie fun y => { y with iso := .opening }).b.chan 5).lock = 0 := by decide +kernel

/-- Channel 5 at the edges of its switching. -/
theorem test_chan_edge_hyps :
    let x := fun (p : Phase) => (phased p).b.chan 5
    (x .rising).phase = .rising ∧ (x .falling).phase = .falling ∧ (x .falling).command = .off ∧ (x .falling).queued = .none ∧
    ((phased .off).b.die 0).failSafe = false ∧ (x .pwmOn).phase = .pwmOn ∧ (x .pwmOff).phase = .pwmOff ∧ (x .pwmOff).nextPwm = none ∧
    ((fed fun y => { y with phase := .pwmOff, nextPwm := some (100, 500) }).b.chan 5).nextPwm = some (100, 500) ∧
    (x .falling).lock = 0 ∧ ((fed fun y => { y with phase := .falling, lock := 2 }).b.chan 5).lock ≠ 0 ∧
    pulseLimitUj 5 1500 < 500 ∧ pulseLimitUj 5 1400 < 1000000 ∧ (850 : Int) < 851 ∧ (851 : Int) < 1500 := by decide +kernel

/-- Channel 5 where its protection acts and where it does not. -/
theorem test_protection_hyps :
    let x := (phased .on).b.chan 5
    x.enabled = true ∧ x.phase ≠ .off ∧ ((phased .falling).b.chan 5).phase ≠ .off ∧ (up.b.chan 5).enabled = false ∧
    (up.b.chan 5).phase = .off ∧ x.inrush = false ∧ (x.phase).drives = true ∧ (up.b.chan 5).phase.drives = false ∧
    ((fed fun y => { y with phase := .on, inrush := true }).b.chan 5).inrush = true ∧
    x.thermHold = false ∧ x.thermLatch = false ∧ (phased .on).b.trippedNeighbour? 5 = none ∧
    (((phased .on).b.modChan 6 fun y => { y with lastTripMs := some 0 }).trippedNeighbour? 5).isSome = true ∧
    ((phased .on).b.die 0).substrate10 < 1100 ∧ ((fedDie fun y => { y with substrate10 := 1100 }).b.die 0).substrate10 = 1100 ∧
    ((fed fun y => { y with tripHold := true }).b.chan 5).tripHold = true ∧
    ((fed fun y => { y with thermHold := true }).b.chan 5).thermHold = true ∧ x.inHold = false ∧ x.inLatch = false := by decide +kernel

/-- Channel 5 where its checks run. -/
theorem test_check_hyps :
    let on := (phased .on).b
    let off := (phased .off).b
    let s := ({ off with params := [(pkey 0x2001 5, 1), (pkey 0x2042 5, 1)] } : Block)
    on.checkRuns 5 = true ∧ (on.chan 5).phase = .on ∧ (on.chan 5).inrush = false ∧ on.feedValid 0 = true ∧ on.feedGone 0 = false ∧
    off.checkRuns 5 = true ∧ (off.chan 5).phase = .off ∧ off.feedValid 0 = true ∧ (off.die 0).isoPolicy = 0 ∧ (off.chan 5).stuck = false ∧
    (((fedDie fun x => { x with isoBanks := .both (IsoBank.of 1 false 1) }).b.die 0).isoPolicy = 1 ∧ (fedDie fun x => { x with isoBanks := .both (IsoBank.of 1 false 1) }).b.checkRuns 5 = true ∧
      (fedDie fun x => { x with isoBanks := .both (IsoBank.of 1 false 1) }).b.feedValid 0 = true) ∧
    (s.cp 0x42 5 = 1 ∧ s.checkRuns 5 = true ∧ s.feedValid 0 = true ∧ (s.chan 5).openRun = 0) ∧
    ((fed fun y => { y with openRun := 1 }).b.chan 5).openRun = 1 ∧ (on.chan 5).enabled = true ∧ (on.chan 5).phase.drives = true := by
  decide +kernel

/-- A message waits at die 0 for Lane A. -/
def waits (f : DieMsg) : Block := (upWith fun b => b.modDie 0 fun x => { x with toLane := x.toLane.upd .a fun _ => [f] }).b

/-- A frame is unacknowledged; each lane has asked for it as `asked` says. -/
def unackedBy (asked : PerLane Bool) : Unacked := { Unacked.fresh 1 .set 5 (zeroBytes 6) [] with asked := asked }

/-- What waits at a die for a lane, frames not acknowledged, silent polls. -/
theorem test_die_answers_hyps :
    let ev : DieReport := { ev := 11, cause := 1, subject := 5, detail := 0 }
    (waits (.ack 1 0 0 0 0 0)).dies.length = 4 ∧ up.b.links.length = 4 ∧ up.b.runs .a = true ∧ up.b.serves .a = true ∧
    up.b.configured = true ∧ State.reset.b.serves .a = false ∧
    ((waits (.ack 1 0 0 0 0 0)).die 0).toLane.get .a = [.ack 1 0 0 0 0 0] ∧
    ((waits (.status 0 0 true true false [])).die 0).toLane.get .a = [.status 0 0 true true false []] ∧
    (let b := (waits (.status 0 0 true true false [])).modLink 0 fun x => { x with unacked := [unackedBy (.both true)] }
     (b.link 0).unacked = [unackedBy (.both true)] ∧ (unackedBy (.both true)).asked.get .a = true ∧
     seqNew (unackedBy (.both true)).num 0 = true ∧ b.runs .a = true ∧ (unackedBy (.both true)).doneA = false ∧
     (unackedBy (.both true)).doneB = false) ∧
    (unackedBy (.both false)).asked.get .a = false ∧
    ((waits (.event ev)).die 0).toLane.get .a = [.event ev] ∧ ev.ev ≠ portReport ∧ ev.ev ≠ 19 ∧ ev.ev ≠ 12 ∧
    ((upWith fun b => b.modLink 0 fun x => { x with missed := .both 2 }).b.link 0).missed.get .b = 2 := by decide +kernel

/-- The positions of an isolation switch; the ledger. -/
theorem test_isolation_ledger_hyps :
    ((fedDie fun x => { x with iso := .opening }).b.die 0).iso = .opening ∧
    ((fedDie fun x => { x with iso := .closing }).b.die 0).iso = .closing ∧
    ((fedDie fun x => { x with iso := .opened }).b.die 0).iso = .opened ∧ (up.b.die 0).iso = .closed ∧
    ((phased .on).b.chan 5).enabled = true ∧ ((phased .on).b.chan 5).phase = .on ∧ up.b.anyServes = true ∧
    ((upWith fun b => b.modDie 0 fun x => { x with powered := false }).b.die 0).powered = false ∧
    ((fed fun x => { x with ledgerSteps := 1000 }).b.chan 5).ledgerSteps ≠ 0 := by decide +kernel

/-! ## Mailboxes and epochs -/

/-- A request as Ottum copies it, its check word right. -/
def copied (op : Nat) (word4 : Nat) (pay : List Byte) : List Byte :=
  let h := leBytes 2 op ++ zeroBytes 2 ++ leBytes 4 1 ++ leBytes 4 pay.length ++ leBytes 4 1 ++ leBytes 4 word4 ++ zeroBytes 8
  h ++ leBytes 4 (crc32c (h ++ pay)) ++ zeroBytes 32 ++ pay

/-- PRID 3's window with one request waiting in both lanes; the far lane's copies are given, and how many have been admitted. -/
def rung (tok : Nat) (admitted : Word) (far : List (Word × Bool × List Byte)) : Block :=
  (up.b.modRates 3 fun r => { r with mailTok := tok }).modWin (.part 3) fun w =>
    { w with admitted := admitted, lanes := ⟨{ w.lanes.a with reqProd := 1, copies := far }, { w.lanes.b with reqProd := 1 }⟩ }

/-- The management prefix: version 1, a kind, the module's identity in network order; then a header of zeros. -/
def frame88 (kind : Byte) : MgmtFrame :=
  { dst := 0, src := 0, secTag := true, scOk := true, verified := true, vlan := none, rtag := none,
    body := [1, kind, 0, 0] ++ beBytes 8 Config.identity.toNat ++ zeroBytes 32 }

/-- Open and closed windows; a request that waits, with and without a token, in an unpaced and in a full ring. -/
theorem test_window_hyps :
    up.b.mail.parts.length = 32 ∧ up.b.part.rates.length = 32 ∧ up.b.ev.queues.length = 32 ∧
    up.b.winOpen (.part 3) = true ∧ up.b.winOpen .gov = true ∧ up.b.winOpen (.part 4) = false ∧ up.b.act = .a ∧ 2 ≤ (up.b.lane .a).st ∧
    State.reset.b.serves .a = false ∧ State.reset.b.mail.mgQueue = [] ∧
    (∀ tok ∈ [mailToken, mailToken - 1], (rung tok 0 []).serves .a = true ∧ (rung tok 0 []).act = .a ∧
      (rung tok 0 []).nextStamp? .a (.part 3) = some 0 ∧ (((rung tok 0 []).win (.part 3)).lanes.get .b).copies = [] ∧
      (((rung tok 0 []).win (.part 3)).lanes.get .a).taken = ((rung tok 0 []).win (.part 3)).admitted ∧
      (rung tok 0 []).winOpen (.part 3) = true ∧ (rung tok 0 []).ringRoom (.part 3) = true ∧
      (rung tok 0 []).othersFirst .a (.part 3) 0 = false) ∧
    (rung mailToken 0 []).paceOk (.part 3) = true ∧ (rung (mailToken - 1) 0 []).paceOk (.part 3) = false := by
  decide +kernel

/-- A request that the other lane has copied first, and a window whose turn another one has. -/
theorem test_second_copy_hyps :
    (let c := copied 1 3 []
     let b := rung mailToken 1 [(0, true, c)]
     b.serves .b = true ∧ b.nextStamp? .b (.part 3) = some 0 ∧ ((b.win (.part 3)).lanes.get .b).taken ≠ (b.win (.part 3)).admitted ∧
     b.act ≠ .b ∧ ((b.win (.part 3)).lanes.get .a).copies = [(((b.win (.part 3)).lanes.get .b).taken, true, c)]) ∧
    (let b := (rung mailToken 0 []).modWin .gov fun w => { w with lanes := w.lanes.upd .a fun x => { x with reqProd := 1 } }
     b.nextStamp? .a (.part 3) = some 0 ∧ b.othersFirst .a (.part 3) 0 = true) := by decide +kernel

/-- A management frame that waits for its turn. -/
theorem test_management_queue_hyps :
    let b := up.b.modMail fun m => { m with mgQueue := [(okMgmt, 4)] }
    b.mail.mgQueue = [(okMgmt, 4)] ∧ 4 < 5 ∧ b.windowsFirst b.act none 4 1 = false ∧ up.b.mod.provision = false ∧
    up.b.serves .a = true ∧ up.b.mgmtInFlight < 16 ∧ byteAt (frame88 2).body 1 ≠ 1 := by decide +kernel

/-- A frame that carries a request to this module. -/
theorem test_frame_good : ((frame88 1).scOk && (frame88 1).verified) = true ∧ byteAt (frame88 1).body 0 = 1 ∧
    byteAt (frame88 1).body 1 = 1 ∧ beNat (bytesAt (frame88 1).body 4 8) = up.otp.identity.toNat ∧ (frame88 1).len ≤ 4200 := by
  refine ⟨by decide, rfl, rfl, ?_, by decide⟩
  show leNat (leBytes 8 Config.identity.toNat) = Config.identity.toNat
  have h := Config.identity.isLt
  simp only [leBytes, leNat, BitVec.toNat_ofNat]
  omega

/-- Copies with a wrong check word, of a duplicate, with a wrong header, with an unknown opcode, and right. -/
theorem test_copy_hyps :
    let dup := up.b.modMail fun m =>
      { m with recent := [{ gov := true, prid := 0, tag := 1, seq := 1, epoch := 80000, answer := some ((mgmt []).response 1 .ok [] .none), askers := [] }] }
    let c := copied 0x0002 0 []
    checkWordOk (zeroBytes 64 ++ [1]) = false ∧ checkWordOk c = true ∧ (dup.duplicate? (reqOf .mgmt c 0 false)).isSome = true ∧
    up.b.duplicate? (reqOf .mgmt c 0 false) = none ∧ checkWordOk (copied 0x0002 1 []) = true ∧ headerOk 0 (copied 0x0002 1 []) = false ∧
    checkWordOk (copied 0x0003 0 []) = true ∧ headerOk 0 (copied 0x0003 0 []) = true ∧ fieldAt (copied 0x0003 0 []) 0 2 = 3 ∧
    opInfo? 3 = none ∧ headerOk 0 c = true ∧ fieldAt c 0 2 = 2 ∧ (opInfo? 2).isSome = true ∧
    confirmsWake 2 (reqOf .mgmt c 0 false) = false ∧
    (Instr.moduleInfo (reqOf .mgmt c 0 false)).request? = some (2, reqOf .mgmt c 0 false) := by decide +kernel

/-- Responses that wait for a match, for room, and that become visible, on a window and on the management channel. -/
theorem test_visible_hyps :
    let a := (part3 []).response 1 .ok [1, 2, 3, 4] .none
    let held := (up.b.modMail fun m => { m with done := [a] }).modWin (.part 3) fun w =>
      { w with lanes := w.lanes.upd .a fun x => { x with copies := [(0, true, copied 1 3 [])] } }
    let free := up.b.modMail fun m => { m with done := [a] }
    let full := free.modWin (.part 3) fun w => { w with respProd := 4 }
    held.mail.done = [a] ∧ a.effect = .none ∧ held.unmatched a = true ∧ free.mail.done = [a] ∧ free.unmatched a = false ∧
    a.path.win = some (.part 3) ∧ (free.slice 3).phase ≠ .none ∧ (free.slice 3).holdsSram a.addr a.payload.length = true ∧
    (free.win (.part 3)).slots.length = 4 ∧ free.mail.parts.length = 32 ∧ full.mail.done = [a] ∧ full.unmatched a = false ∧
    4 ≤ ((full.win (.part 3)).respProd - (full.win (.part 3)).respCons).toNat ∧
    up.b.unmatched ((mgmt []).response 1 .ok [] .none) = false ∧ ((mgmt []).response 1 .ok [] .none).path = .mgmt := by decide +kernel

/-- Lanes at a boundary. -/
theorem test_boundary_hyps :
    let alone := (up.b.modLanes fun x => { x with st := 3 })
    up.b.anyServes = true ∧ alone.anyServes = false ∧ alone.runs .a = true ∧ State.reset.b.runs .a = false ∧ State.reset.b.runs .b = false ∧
    State.reset.b.anyServes = false := by decide +kernel

/-- What takes effect at visibility rests on sizes, an empty list of pending requests and tables of marks and associations. -/
theorem test_effect_hyps :
    up.b.Sized ∧ up.b.mail.pend = [] ∧ 15 < up.b.bridge.prefetchMarks.length ∧ 15 < up.b.bridge.consumeMarks.length ∧
    up.b.net.sas.length = 10 ∧ (up.b.modKeys fun k => { k with blocked := true }).keys.blocked = true :=
  ⟨test_up_sized, by decide +kernel⟩

/-- A sample of an input. -/
def sample0 : Sample := { value := 0, volt := 0, duty := 0, state := false, lowF := false, highF := false, age := 0 }

/-- Items of each kind that concern a lane. -/
theorem test_item_hyps :
    let close : Item := { epoch := 1, body := .close 1 }
    2 ≤ (up.b.lane .a).st ∧ close.body = .close 1 ∧ ((up.b.lane .a).far.filter fun x => x.epoch == close.epoch).length < 1 ∧
    ({ epoch := 1, body := .close 0 } : Item).body = .close 0 ∧
    ({ epoch := 1, body := .input 0 sample0 } : Item).body = .input 0 sample0 ∧
    ((up.b.modLane .a fun x => { x with closeDue := some (1, 1) }).lane .a).closeDue = some (1, 1) ∧
    ({ epoch := 1, body := .check 1 2 3 } : Item).body = .check 1 2 3 ∧
    ((up.b.modLane .a fun x => { x with checks := [(1, 2, 3, 32)] }).lane .a).checks = [(1, 2, 3, 32)] ∧
    ((up.b.modLane .a fun x => { x with farChecks := [(1, 2, 3)] }).lane .a).farChecks = [(1, 2, 3)] := by decide +kernel

/-- A lane whose checkers have caught up; links with and without a flit sent again. -/
theorem test_link_hyps :
    (∀ k < 7, ((up.b.lane .a).lockPair k).fifo = []) ∧ (∀ k < 6, ((up.b.lane .a).pair k).waits = none) ∧ up.b.mail.pend = [] ∧
    up.b.isActive .a = true ∧ up.b.isActive .b = false ∧ 31 < up.b.part.rates.length ∧ (up.b.lane .a).resent = [] ∧
    2 ≤ (up.b.lane .b).st ∧ up.b.bridge.link = 1 ∧ State.reset.b.bridge.link ≠ 1 := by decide +kernel

/-! ## Lanes, supplies and starts -/

/-- The example state with a lane changed. -/
def laned (l : Lane) (f : LaneSt → LaneSt) : Block := up.b.modLane l f

/-- Lane A in service, with a broken pair and with two faults in the hour; a standby lane and the handover it is due. -/
theorem test_failover_hyps :
    2 ≤ (up.b.lane .a).st ∧ (up.b.lane .a).broken.getLsbD 0 = false ∧ up.b.serves .a = true ∧
    ((laned .a fun x => { x with broken := 65 }).lane .a).broken.getLsbD 0 = true ∧
    (let b := laned .a fun x => { x with faultEpochs := [99000, 99001] }
     b.serves .a = true ∧ 2 ≤ ((b.lane .a).faultEpochs.filter fun t => decide (b.mod.epoch < t + epochsPerHour)).length) ∧
    up.b.serves .b = true ∧ up.b.isActive .b = false ∧ (up.b.modMod fun m => { m with handTo := some .b }).mod.handTo = some .b ∧
    up.otp.lifecycle = .production ∧ 0 < ((laned .a fun x => { x with broken := 65 }).lane .a).pairs.length ∧
    ((laned .a fun x => { x with broken := 65 }).lane .a).broken.getLsbD 6 = true := by decide +kernel

/-- A pair after start with some tokens. -/
def pairWith (l : List Token) (f : CoreSt → CoreSt) : PairSt :=
  let p := (up.b.lane .a).pair 0
  { p with fifo := l.map fun t => (t, p.main), chk := f p.chk }

/-- FIFOs of no, one and two tokens, tokens of right and wrong parity, a checker that shows another guest. -/
theorem test_lockstep_hyps :
    let good := spoiled.sealed
    let other := fun (c : CoreSt) => { c with hgprid := 1 }
    (pairWith [] id).fifo = [] ∧ (pairWith [] id).chk = (pairWith [] id).main ∧ (pairWith [good] id).fifo.length < 2 ∧
    (pairWith [good, good] id).fifo = [(good, (pairWith [] id).main), (good, (pairWith [] id).main)] ∧
    spoiled.parity ≠ parityOf spoiled.bits ∧ good.parity = parityOf good.bits ∧ (pairWith [good] other).chk ≠ (pairWith [] id).main := by
  decide +kernel

/-- That checker's comparison differs. -/
theorem test_lockstep_shows : (({ (up.b.lane .a).pair 0 |>.chk with hgprid := 1 } : CoreSt).shows spoiled.sealed) ≠
    ((up.b.lane .a).pair 0).main.shows spoiled.sealed := by
  intro h
  have g := congrArg (fun x => x.2.2.1) h
  exact absurd g (by decide +kernel)

/-- Pairs that have caught up and stand alike; a pair 1 whose checker's registers differ. -/
theorem test_sweep_hyps :
    let b := laned .a fun x => x.modPair 1 fun p =>
      { p with main := { p.main with arch := { p.main.arch with x := [] } }, chk := { p.chk with arch := { p.chk.arch with x := [0, 1] } } }
    (∀ k < 7, ((up.b.lane .a).lockPair k).fifo = []) ∧
    (∀ k < 7, ((up.b.lane .a).lockPair k).chk = ((up.b.lane .a).lockPair k).main) ∧
    (∀ k < 7, ((b.lane .a).lockPair k).fifo = []) ∧ (b.lane .a).broken.getLsbD 1 = false ∧
    (∀ j < 1, ((b.lane .a).lockPair j).chk = ((b.lane .a).lockPair j).main) ∧
    hashesEqual 1 ((b.lane .a).lockPair 1).main ((b.lane .a).lockPair 1).chk = false := by decide +kernel

/-- ROLE_SET and LANE_RESTART toward lanes in and out of service, settled, in the middle of a switch and of an activation. -/
theorem test_handover_hyps :
    let q := mgmt [1, 0, 0, 0]
    let p := mgmt [0, 0, 0, 0]
    let out := laned .b fun x => { x with st := 2 }
    let act := (holding (mgmt []) 0x8004 (.updActivate 3 true .a (some .b) false false)).b
    let rolls := laned .b fun x => { x with rolling := true }
    (q.pay.length = 4 ∧ byteAt q.pay 0 = Lane.b.num ∧ byteAt p.pay 0 = Lane.a.num ∧ zerosAt q.pay 1 3 = true ∧ zerosAt p.pay 1 3 = true) ∧
    (out.passes 0x8030 q = true ∧ out.serves .b = false) ∧ act.activating = true ∧
    (rolls.passes 0x8030 q = true ∧ rolls.serves .b = true ∧ rolls.settled = false) ∧
    (up.b.passes 0x8030 q = true ∧ up.b.settled = true ∧ up.b.activating = false ∧ up.b.isActive .b = false ∧
      up.b.passes 0x8030 p = true ∧ up.b.isActive .a = true) ∧
    (out.passes 0x8031 p = true ∧ out.serves Lane.a.other = false) ∧
    (rolls.passes 0x8031 p = true ∧ rolls.serves Lane.a.other = true) ∧
    (up.b.passes 0x8031 p = true ∧ up.b.passes 0x8031 q = true ∧ up.b.serves Lane.a.other = true ∧ up.b.serves Lane.b.other = true) ∧
    ((up.b.lane .a).rolling = false ∧ (up.b.lane .b).rolling = false ∧ out.serves .a = true ∧ (out.lane .a).rolling = false) := by
  decide +kernel

/-- DEBUG_ENABLE of ordinary pairs and of the control pair, with a valid trailer. -/
theorem test_debug_hyps :
    challenged.otp.lifecycle = .production ∧ challenged.b.serves .a = true ∧ challenged.b.serves .b = true ∧
    ∀ ps ∈ [(1 : Byte), 64], ∃ q, challenged.b.passes 0x8021 q = true ∧ q.pay = [3, ps, 0, 0] := by
  and_intros
  case _ => decide +kernel
  case _ => decide +kernel
  case _ => decide +kernel
  intro ps _
  exact ⟨_, test_signed_passes 0x8021 [3, ps, 0, 0] (by decide)⟩

/-- A standby lane that missed the close of the round, with dies that do and do not hear the active lane; an update's restart. -/
theorem test_silence_hyps :
    (up.b.lane .b).missedClose = false ∧
    (∀ h ∈ [true, false], let b := laned .b fun x => { x with missedClose := true, diesSayActive := h }
      (b.lane .b).missedClose = true ∧ b.serves .b = true ∧ b.isActive .b = false ∧ b.isActive Lane.b.other = true ∧
      b.serves Lane.b.other = true ∧ b.bridge.link ≠ 0 ∧ (b.lane .b).diesSayActive = h) ∧
    up.b.activation = none ∧
    (let b := (holding (mgmt []) 0x8004 (.updActivate 3 true .a (some .b) false false)).b
     b.mail.pend = [{ req := mgmt [], opcode := 0x8004, kind := .updActivate 3 true .a (some .b) false false, epoch := 0, told := true }] ∧
     b.serves .b = true ∧ (b.modLane .b fun x => { x with st := 1 }).serves .b = false ∧
     (b.modLane .b fun x => { x with st := 1 }).mail.pend = b.mail.pend) ∧
    up.b.configured = true ∧ (up.b.link 0).lost = false ∧ (up.b.die 0).preferred = up.b.act ∧
    ((up.b.modDie 0 fun x => { x with preferred := .b }).die 0).preferred ≠ up.b.act ∧ State.reset.b.configured = false := by
  decide +kernel

/-- An image that may start in PRODUCTION. -/
def bootable : ImgInfo := { ImgInfo.delivered with cls := 1, root := .production, valid := true }

/-- Lane B in a state, Lane A in service. -/
def laneB (n : Nat) : Block := laned .b fun x => { x with st := n }

/-- Lane B in reset, its self-tests passing and failing. -/
theorem test_start_hyps :
    let env : StartEnv := { injectFail := 0, selfTestOk := true, tamper := none, device := true }
    let off := laned .b fun _ => { LaneSt.off with image := bootable }
    off.serves .b = false ∧ (off.lane .b).st = 0 ∧ off.mod.t30Valid = true ∧ off.nw.state ≠ 3 ∧ (off.lane .b).heldByFaults = false ∧
    (off.lane .b).asleep = false ∧ (off.lane .b).hotHeld = false ∧ up.otp.lifecycle = .production ∧
    (off.lane .b).staging.st ≠ .accepted ∧ (off.lane .b).image.boots .production (up.otp.rollback.get .b) = true ∧
    env.injectFail = 0 ∧ env.selfTestOk = true ∧ { env with selfTestOk := false }.selfTestOk = false ∧
    State.reset.b.mod.t30Valid = false := by decide +kernel

/-- Lane B ready, with Lane A in and out of service; pairing of equal and of unequal lanes. -/
theorem test_pairing_hyps :
    let alone := (laneB 1).modLane .a fun x => { x with st := 0 }
    let apart := (laneB 2).modLane .b fun x => { x with startCause := 2, image := { x.image with level := 9 } }
    ((laneB 1).lane .b).st = 1 ∧ (laneB 1).serves .b = false ∧ (laneB 1).keys.life = .production ∧
    (alone.lane .b).st = 1 ∧ alone.serves Lane.b.other = false ∧ alone.keys.life = .production ∧
    (laneB 1).serves Lane.b.other = true ∧ (laneB 1).mod.activeSince = none ∧
    ((laneB 2).lane .b).st = 2 ∧ ((laneB 2).lane .b).ready = true ∧ (laneB 2).bridge.link = 1 ∧ (laneB 2).runs Lane.b.other = true ∧
    levelsApart ((laneB 2).lane .b).image.level ((laneB 2).lane Lane.b.other).image.level = false ∧
    ((laneB 2).lane .b).defaults = ((laneB 2).lane Lane.b.other).defaults ∧ (laneB 2).img.bank .a = (laneB 2).img.bank .b ∧
    levelsApart (apart.lane .b).image.level (apart.lane Lane.b.other).image.level = true ∧ (apart.lane .b).startCause ≠ 0 ∧
    (apart.lane .b).st = 2 ∧ (apart.lane .b).ready = true := by decide +kernel

/-- Lane B in each stage of its resynchronisation, converged and not. -/
theorem test_resync_hyps :
    (∀ n ∈ [1, 2, 3, 4], let b := (laneB 3).modLane .b fun x => { x with resyncStage := n }
      (b.lane .b).st = 3 ∧ (b.lane .b).resyncStage = n ∧ b.serves Lane.b.other = true ∧ b.serves .b = false ∧ b.activation = none ∧
      b.bridge.link = 1 ∧ ∀ k < 7, ((b.lane Lane.b.other).lockPair k).fifo = []) ∧
    (let b := ((laneB 3).modLane .b fun x => { x with resyncStage := 1 }).modMod fun m => { m with resyncFrom := m.epoch }
     b.converged { up.mem with watch := some .a } = true ∧
     b.converged { up.mem with watch := some .a, dirty := List.range 600 } = false) := by decide +kernel

/-- Supplies valid and not, rails at their level and not. -/
theorem test_supply_hyps :
    State.reset.b.dies.length = 4 ∧ up.b.dies.length = 4 ∧ State.reset.b.mod.t30Valid = false ∧ up.b.mod.t30Valid = true ∧
    up.b.nw.state ≠ 3 ∧ (up.b.lane .a).st ≠ 0 ∧ (up.b.lane .a).railsLow = false ∧ up.b.runs .a = true ∧
    ((laned .a fun x => { x with railsLow := true }).lane .a).railsLow = true ∧
    (up.b.lane up.b.act).band ≠ 3 ∧ ((laned .a fun x => { x with band := 3 }).lane up.b.act).band = 3 := by decide +kernel

/-- Feeds in the bands the statements name, and what hangs on them. -/
theorem test_feed_hyps :
    let f := fun (b : FeedBand) => up.b.modMod fun m => { m with feedA := { band := b, mv := 12000 } }
    (FeedBand.lost).isValid = false ∧ ((f .valid).feed .a).band ≠ .lost ∧ (0 : Nat) ∈ Feed.a.dies ∧ ((f .valid).die 0).source = 0 ∧
    ((f .reversed).feed .a).band = .reversed ∧ (up.b.die 0).feedNext = none ∧
    (∀ c ∈ [Cmd.off, .on], let b := ((f .valid).modDie 0 fun x => { x with feedNext := some 0 }).modChan 5 fun x =>
        { x with enabled := true, phase := .off, command := c }
      (b.die 0).feedNext = some 0 ∧ b.feedValid 0 = true ∧ b.nextOn 0 0 = if c = .on then some 5 else none) ∧
    (f .valid).logicSource? = some 0 ∧ (((f .valid).modDie 0 fun x => { x with source := 1 }).die 0).powered = true ∧
    0 < (((f .valid).modDie 0 fun x => { x with source := 1 }).die 0).source ∧
    ((up.b.modDie 0 fun x => { x with powered := false }).die 0).powered = false := by decide +kernel

/-! ## Guests, rates and the bridge -/

/-- The block with pair 0 of Lane A changed. -/
def paired (f : PairSt → PairSt) : Block := laned .a fun x => x.modPair 0 f

/-- A pair's guest. -/
def guestOf (g : Fin 32) (p : PairSt) : PairSt := { p with main := { p.main with hgprid := g }, chk := { p.chk with hgprid := g } }

/-- Pairs that run a guest and the hypervisor, held and not, caught up, with one token and with the guest's last unit. -/
theorem test_guest_hyps :
    let g := paired (guestOf 3)
    (up.b.lane .a).pairs.length = 6 ∧ up.b.pairsHeld = false ∧ holdsPairs.b.pairsHeld = true ∧ (g.lane .a).pairs.length = 6 ∧
    ((up.b.lane .a).pair 0).fifo.length < 2 ∧ ((up.b.lane .a).pair 0).hgprid = 0 ∧ ((g.lane .a).pair 0).hgprid ≠ 0 ∧
    ((g.lane .a).pair 0).budget.length = 32 ∧ g.part.viol.length = 32 ∧ ((g.lane .a).pair 0).fifo = [] ∧
    ((g.lane .a).pair 0).chk = ((g.lane .a).pair 0).main ∧ ((g.lane .a).pair 0).budget.getD 3 0 ≤ 1 ∧
    (let i := { spoiled.sealed with virt := true }; i.kind ≠ .halt ∧ i.kind = .ordinary ∧ i.virt = true ∧ i.guest = none) ∧
    spoiled.virt = false := by decide +kernel

/-- A stalled access, an interrupt of PRID 3 routed to pair 0. -/
theorem test_interrupt_hyps :
    let b := (({ paired fun p => { p with stalled := some (acc .write 0, 3) } with params := [(pkey 0x1021 3, 1)] } : Block)).modPart fun x =>
      { x with irq := 8 }
    up.b.serves .a = true ∧ ((b.lane .a).pair 0).stalled.isSome = true ∧ b.part.irq.getLsbD 3 = true ∧ b.routed 3 0 = true ∧
    (∀ q < 3, b.part.irq.getLsbD q = false ∨ b.routed q 0 = false) := by decide +kernel

/-- A rate window with work above the limit and below it. -/
theorem test_rate_window_hyps :
    let r := up.b.modRates 3 fun x => { x with mailWork := 100000000, mailOver := 10 }
    State.reset.b.anyServes = false ∧ up.b.anyServes = true ∧ up.b.part.rates.length = 32 ∧ up.b.part.viol.length = 32 ∧
    4 * up.b.p 0x1008 3 + 1000 * up.b.p 0x1009 3 < 1000 * (r.rates 3).mailWork ∧ (r.rates 3).mailOver = 10 ∧
    (r.slice 3).phase ≠ .none := by decide +kernel

/-- PRID 3's guest on pair 0 of Lane A, with some bridge tokens. -/
def bridging (tok : Nat) : Block := (paired (guestOf 3)).modRates 3 fun x => { x with bridgeTok := tok }

/-- PRID 3's guest at the bridge window: inside and outside its slice, frozen, without the far lane, without tokens. -/
theorem test_bridge_access_hyps :
    let b := bridging 1000
    let frozen := b.modPart fun x => { x with slices := setAt x.slices 3 { wide with frozen := true } }
    let far := b.modLane .b fun x => { x with st := 2 }
    up.mem.sram = .both [] ∧ b.accPrid .a 0 true = 3 ∧ b.accPrid .a 0 false = 0 ∧ b.serves .a = true ∧ (b.lane .a).pairs.length = 6 ∧
    b.pairsHeld = false ∧ (b.lane .a).broken.getLsbD 0 = false ∧ ((b.lane .a).pair 0).fifo = [] ∧
    ((b.lane .a).pair 0).chk = ((b.lane .a).pair 0).main ∧ b.drainsRange 3 4104 8 = false ∧
    ¬((3 = 1 ∨ 3 = 2 ∨ 3 = 4 ∨ 3 = 8) ∧ 0 % 3 = 0) ∧ 4104 % 8 = 0 ∧
    ((b.slice 3).phase ≠ .none ∧ (b.slice 3).holdsSram 4104 8 = true) ∧ (b.slice 3).holdsSram 0x1000000 8 = false ∧
    (frozen.slice 3).frozen = true ∧ (frozen.slice 3).holdsSram 4104 8 = true ∧ (b.slice 3).frozen = false ∧
    far.serves Lane.a.other = false ∧ far.serves .a = true ∧ b.serves Lane.a.other = true ∧ 8 * 8 ≤ (b.rates 3).bridgeTok ∧
    ((bridging 63).rates 3).bridgeTok < 8 * 8 ∧ b.part.rates.length = 32 ∧ b.bridge.token = none ∧ b.lineLocked Lane.a.other 4104 = false ∧
    ([1, 2, 3, 4, 5, 6, 7, 8] : List Byte).length = 8 ∧ b.heldLine .a 0 4104 8 = none ∧ b.readRoom .a 0 = true := by decide +kernel

/-- A pair whose checker shows another guest: the comparison of a bridge write comes out unequal. -/
theorem test_bridge_unequal_hyps :
    let b := paired fun p => { p with chk := { p.chk with hgprid := 1 } }
    b.serves .a = true ∧ (b.lane .a).broken.getLsbD 0 = false ∧ ((b.lane .a).pair 0).fifo = [] ∧ b.pairsHeld = false := by
  decide +kernel

/-- It does so. -/
theorem test_bridge_unequal (t : Token) (h : t.guest = none) (k : t.kind ≠ .halt) :
    (paired fun p => { p with chk := { p.chk with hgprid := 1 } }).outputEqual .a 0 t = false := by
  have e : ¬ ({ (pairWith [] id).chk with hgprid := 1 } : CoreSt).shows t = (pairWith [] id).main.shows t := by
    intro g
    have g := congrArg (fun x => x.2.2.1) g
    simp only [CoreSt.shows, CoreSt.step, k, if_false, h] at g
    exact absurd g (by decide +kernel)
  have d : ¬ ({ (pairWith [] id).chk with hgprid := 1 } : CoreSt) = (pairWith [] id).main := by decide +kernel
  show (false || (true && verdictEq { (pairWith [] id).chk with hgprid := 1 } (pairWith [] id).main t)) = false
  simp [verdictEq, e, d]

/-- BRIDGE_RANGE_MARK that clears an entry of a table. -/
theorem test_mark_hyps :
    let q := mgmt [2, 2, 0, 0, 0, 0, 0, 0, 0, 0, 0, 0]
    up.b.passes 0x6001 q = true ∧ q.pay.length = 12 ∧ byteAt q.pay 0 < 16 ∧ byteAt q.pay 1 < 4 ∧ zerosAt q.pay 2 2 = true ∧
    (byteAt q.pay 1).testBit 0 = false ∧ fieldAt q.pay 4 4 = 0 ∧ fieldAt q.pay 8 4 = 0 := by decide +kernel

/-- A completion on its way and none, held lines, a held lock, an uncollected completion, a hold. -/
theorem test_bridge_end_hyps :
    let r : BridgeRead := { pair := 0, prid := 3, addr := 4104, data := [1, 2, 3, 4], lines := [], abandoned := false }
    let b := up.b.modBridge fun x => { x with reads := x.reads.set .a [r], uncollected := x.uncollected.set .a [r], token := some (.a, 0, 7) }
    let y := paired fun y => { y with lines := [{ addr := 4096, data := zeroBytes 64 }] }
    b.bridge.reads.get .a = [r] ∧ (b.lane .a).pairs.length = 6 ∧ ((b.lane .a).pair 0).fifo.length < 2 ∧ ((b.lane .a).pair 0).lines = [] ∧
    b.bridge.token = some (.a, 0, 7) ∧ b.bridge.uncollected.get .a = [r] ∧ up.b.bridge.reads.get .a = [] ∧ up.b.bridge.token = none ∧
    ((y.lane .a).pair 0).lines = [{ addr := 4096, data := zeroBytes 64 }] ∧ up.b.act = .a ∧ up.b.pairsHeld = false ∧
    holdsPairs.b.pairsHeld = true ∧ ((holdsPairs.b.lane .a).pair 0).fifo.length < 2 := by decide +kernel

/-! ## Inputs, CAN, sleep and wake -/

/-- Input 7 in a mode. -/
def wired (mode : Nat) : Block := { up.b with params := [(pkey 0x3001 7, mode)] }

/-- Inputs in and out of use, a lane in reset; INPUT_READ of one input that is in use and of one that is not. -/
theorem test_input_hyps :
    let q := part3 [128, 0, 0, 0, 0, 0, 0, 0]
    ((wired 1).lane .a).fronts.length = 48 ∧ ((wired 1).lane .a).st ≠ 0 ∧ (wired 1).p 0x3001 7 ≠ 0 ∧ (wired 1).p 0x3001 7 ≠ 4 ∧
    (((wired 1).lane .a).front 7).first = true ∧ (wired 4).p 0x3001 7 = 4 ∧ (State.reset.b.lane .a).st = 0 ∧
    (State.reset.b.lane .a).fronts.length = 48 ∧
    (wired 1).passes 0x3001 q = true ∧ up.b.passes 0x3001 q = true ∧ q.pay.length = 8 ∧ zerosAt q.pay 6 2 = true ∧
    bitIdx 48 (fieldAt q.pay 0 8) = [7] ∧ 12 * 1 ≤ q.room ∧ up.b.p 0x3001 7 = 0 := by decide +kernel

/-- Bus 2 in a mode, with four places in its queues. -/
def bused (mode : Nat) (f : CanCtl → CanCtl) : Block :=
  ({ up.b with params := [(pkey 0x5001 2, mode), (pkey 0x5010 2, 3), (pkey 0x5011 2, 1)] } : Block).modLane .a fun x => x.modCtl 2 f

/-- A frame of bus 2. -/
def frame2 : CanFrame :=
  { ident := 0x123, ide := false, fdf := false, brs := false, esi := false, rtr := false, dlc := 2, data := [1, 2] }

/-- A pending frame of bus 2. -/
def tx2 : CanTx := { frame := frame2, tries := 0, prid := some 3, final := false }

/-- CAN_SEND with and without room and on a bus of another mode. -/
theorem test_can_send_hyps :
    let single := fun (b : Block) => b.modLane .b fun x => { x with st := 2 }
    let send := part3 [2, 0, 2, 0, 0x23, 1, 0, 0, 0, 0, 0, 0, 1, 2]
    let full := bused 2 fun c => { c with tx := [tx2] }
    (∀ b ∈ [single (bused 2 id), single (bused 1 id), single full],
      b.passes 0x5001 send = true ∧ b.canSendOk send.pay = true ∧ b.standby? = none ∧ (b.lane b.act).can.length = 12) ∧
    byteAt send.pay 3 = 0 ∧ (single (bused 1 id)).canMode 2 ≠ 2 ∧ (bused 2 id).canMode 2 = 2 ∧
    full.p 0x5011 2 ≤ ((full.lane .a).ctl 2).tx.length ∧
    (((bused 2 id).lane .a).ctl 2).tx.length < (bused 2 id).p 0x5011 2 ∧ (((bused 2 id).lane .a).ctl 2).busOff = false := by decide +kernel

/-- CAN_FILTER_SET. -/
theorem test_can_filter_hyps :
    let filter := part3 [2, 1, 2, 0, 0x23, 1, 0, 0, 0xFF, 7, 0, 0, 0, 0, 0, 0]
    up.b.passes 0x5003 filter = true ∧ filter.pay.length = 16 ∧ byteAt filter.pay 1 < 16 ∧ byteAt filter.pay 2 < 16 ∧
    (byteAt filter.pay 2).testBit 0 = false ∧ [0, 4, 8, 12, 16].contains (canFilterOf filter.pay).maclen = true ∧
    (canFilterOf filter.pay).ident < 2 ^ 11 ∧ (canFilterOf filter.pay).mask < 2 ^ 29 ∧ (canFilterOf filter.pay).ctx = 0 ∧
    zerosAt filter.pay 14 2 = true := by decide +kernel

/-- CAN_READ with a queue and on a bus that is not in use. -/
theorem test_can_read_hyps :
    let read := part3 [2, 3, 0, 0]
    let rx : CanRx := { frame := frame2, filter := 1, mac := none, epoch := 0 }
    let held := (bused 2 id).modBus 2 fun u => { u with queues := [(3, [rx], 0)] }
    held.passes 0x5002 read = true ∧ read.pay.length = 4 ∧ byteAt read.pay 1 = 3 ∧ zerosAt read.pay 2 2 = true ∧
    8 + 72 * 3 ≤ read.room ∧ (bused 0 id).canMode 2 = 0 ∧ (bused 0 id).passes 0x5002 read = true ∧ held.canMode 2 ≠ 0 ∧
    held.can.length = 12 ∧ (held.bus 2).queues = [(read.path.prid, [rx], 0)] ∧ rx.epoch ≤ read.stamp ∧ rx.frame.data.length ≤ 64 := by
  decide +kernel

/-- Controllers that work and do not, with a frame pending; a bus with one filter. -/
theorem test_can_controller_hyps :
    let b := bused 2 fun c => { c with tx := [tx2] }
    let f : CanFilter := { fd := false, classical := true, ide := false, maclen := 0, ident := 0x123, mask := 0x7FF, ctx := 0 }
    let listen := (bused 1 id).modBus 2 fun u => { u with filters := [(3, 1, f)] }
    (b.lane .a).can.length = 12 ∧ b.can.length = 12 ∧ b.canWorks .a 2 = true ∧ ((b.lane .a).ctl 2).tx = [tx2] ∧ tx2.final = false ∧
    (bused 1 id).canWorks .a 2 = false ∧ (((bused 2 fun c => { c with busOff := true }).lane .a).ctl 2).busOff = true ∧
    b.runs .a = true ∧ b.canMode 2 ≠ 0 ∧ b.ev.lastSec = [] ∧
    2 ≤ (listen.lane .a).st ∧ listen.canMode 2 = 1 ∧ ((listen.lane .a).ctl 2).busOff = false ∧ ((listen.lane .a).ctl 2).tx = [] ∧
    ((listen.lane .a).ctl 2).recent = [] ∧ ((listen.lane .a).ctl 2).countsFrom ≤ listen.mod.epoch ∧
    (listen.bus 2).filters = [(3, 1, f)] ∧ f.hits frame2 = true ∧ f.hits { frame2 with ident := 0x124 } = false := by decide +kernel

/-- The module in a state of network management. -/
def resting (n : Nat) (f : NwSt → NwSt) : Block := up.b.modNw fun x => f { x with state := n }

/-- Sleep requests, their cancellation and wake holds. -/
theorem test_sleep_request_hyps :
    let q := mgmt [0, 0, 0, 0]
    (q.pay.length = 4 ∧ ∀ n < 2, zerosAt (q.withByte 0 n).pay 1 3 = true ∧ byteAt (q.withByte 0 n).pay 0 = n) ∧
    (∀ b ∈ [up.b, resting 1 id, resting 0 fun n => { n with holds := 1 }],
      b.passes 0x5801 (q.withByte 0 0) = true ∧ b.passes 0x5801 (q.withByte 0 1) = true) ∧
    up.b.nw.state = 0 ∧ up.b.nw.holds = 0 ∧ (resting 0 fun n => { n with holds := 1 }).nw.holds ≠ 0 ∧
    (∀ on < 2, up.b.passes 0x5802 (part3 [BitVec.ofNat 8 on, 0, 0, 0]) = true ∧ byteAt (part3 [BitVec.ofNat 8 on, 0, 0, 0]).pay 0 = on ∧
      zerosAt (part3 [BitVec.ofNat 8 on, 0, 0, 0]).pay 1 3 = true) := by decide +kernel

/-- The dies off or with a channel on while the module powers down. -/
theorem test_power_down_hyps :
    (resting 2 id).nw.state = 2 ∧ (∀ d ∈ (resting 2 id).dies, d.mayGoDown = true) ∧
    (resting 2 fun n => { n with latched := some (1, 2) }).nw.latched.isSome = true ∧ (resting 2 id).nw.latched = none ∧
    (let d := (phased .on).b.die 0
     d ∈ (phased .on).b.dies ∧ d.powered = true ∧ d.offSince = none ∧ (∃ c ∈ d.chans, c.phase.isOff = false) ∧ d.mayGoDown = false) := by
  decide +kernel

/-- Every state and source of a wake that the statements name. -/
theorem test_wake_hyps :
    let r : AwakeRun := { network := 2, node := 9, start := 5, epoch0 := 6, last := 7 }
    ((resting 3 id).wakeCode .a .pin).isSome = true ∧ (resting 3 id).nw.state = 3 ∧ (resting 3 id).wakeCode .a .timer = none ∧
    (resting 4 id).nw.state = 4 ∧ (resting 4 id).nw.linkFailed = false ∧ (∀ l ∈ [Lane.a, .b], ((resting 4 id).lane l).wakeAck = false) ∧
    (resting 4 fun n => { n with linkFailed := true }).nw.linkFailed = true ∧
    (∀ l ∈ [Lane.a, .b], ((resting 4 id).lane l).asleep = false) ∧
    up.otp.lifecycle ≠ .blank ∧ up.b.nw.confirmed = false ∧ up.b.anyServes = true ∧
    (resting 0 fun n => { n with confirmed := true }).nw.confirmed = true ∧
    (resting 1 fun n => { n with awake := [r] }).nw.awake = [r] ∧ (resting 1 fun n => { n with awake := [r] }).nw.log = [] := by
  decide +kernel

/-- A wake-enabled input whose checks find both levels, in a good and in a failed domain. -/
theorem test_wake_input_hyps :
    let wake := fun (n : Nat) => (({ resting 3 id with params := [(pkey 0x300C 7, 1)] } : Block).modInput 7 fun x =>
      { x with wakeLow := 5000, wakeHigh := 8000, wakeRun := x.wakeRun.set .a n })
    up.b.inputs.length = 48 ∧ up.b.can.length = 12 ∧
    (∀ n < 2, (wake n).nw.state = 3 ∧ (wake n).wakeInput 7 = true ∧ ((wake n).lane .a).aonFault = false ∧
      ((wake n).input 7).wakeRun.get .a = n ∧ ((wake n).input 7).atSleep = false ∧ 4999 < ((wake n).input 7).wakeLow ∧
      ((wake n).input 7).wakeLow ≤ 8001 ∧ ((wake n).input 7).wakeHigh < 8001) ∧
    ((laned .a fun x => { x with aonFault := true }).lane .a).aonFault = true := by decide +kernel

/-- An NM bus at each stage of its commit. -/
theorem test_network_hyps :
    let nm := fun (st : Nat) (fin : Bool) (ran : List AwakeRun) =>
      ((({ resting st fun n => { n with awake := ran } with params := [(pkey 0x5001 2, 2), (pkey 0x5810 0, 4), (pkey 0x5818 0, 1000)] } : Block).modBus
        2 fun u => { u with finalSent := fin }).modLane .b fun x => { x with st := 2 })
    let heard : AwakeRun := { network := 2, node := 9, start := 5, epoch0 := 6, last := 99999 }
    (∀ st < 2, (nm st false []).nmBuses = [2] ∧ ((nm st false []).bus 2).committed = false ∧ ((nm st false []).bus 2).finalSent = false ∧
      (nm st false []).nw.state = st ∧ (nm st false []).serving = [.a] ∧ ((nm st false []).lane .a).can.length = 12 ∧
      (((nm st false []).lane .a).ctl 2).busOff = false) ∧
    2 ≤ (resting 3 id).nw.state ∧ (nm 1 true []).nmBus 2 = true ∧ ((nm 1 true []).bus 2).finalSent = true ∧
    (nm 1 false []).busReady 2 = true ∧ (nm 1 false [heard]).busReady 2 = false ∧ ((nm 1 false [heard]).bus 2).finalSent = false := by
  decide +kernel

/-! ## Keys -/

/-- The head of a blob of an AES-128 key of node 8, PRID 0's, with a check value. -/
def blobHead (check : List Byte) : List Byte := [1, 1, 8, 0, 0, 0, 0, 0, 0, 0, 0, 0] ++ check

/-- A wrapped key under zero IV and ciphertext, or an import with a zero ephemeral key. -/
def blobWith (imported : Bool) (check tag : List Byte) : List Byte :=
  if imported then blobHead check ++ zeroBytes 124 ++ tag else blobHead check ++ zeroBytes 32 ++ tag

/-- The payload of a key request with that blob for slot 0. -/
def keyPay (imported : Bool) (check tag : List Byte) : List Byte :=
  (if imported then [0, 0, 1, 0, 156, 0, 0, 0] else [0, 0, 0, 0, 64, 0, 0, 0]) ++ blobWith imported check tag

/-- The key the blob's fields decrypt to. -/
def blobKey (imported : Bool) : List Byte :=
  Config.gcmText (if imported then (Config.kdf (Config.ecdh up.b.keys.importKey (zeroBytes 96)) [0x7D]
    (leBytes 8 Config.identity.toNat)).take 32 else up.b.keys.nodeKey 8) (zeroBytes 12) (zeroBytes 16)

/-- Its check value. -/
def blobCheck (imported : Bool) : List Byte := (Config.cmac (blobKey imported) []).take 4

/-- Its tag. -/
def blobTag (imported : Bool) : List Byte :=
  Config.gcmTag (if imported then (Config.kdf (Config.ecdh up.b.keys.importKey (zeroBytes 96)) [0x7D]
    (leBytes 8 Config.identity.toNat)).take 32 else up.b.keys.nodeKey 8) (zeroBytes 12) (blobHead (blobCheck imported)) (zeroBytes 16)

theorem blobCheck_length (i : Bool) : (blobCheck i).length = 4 := by simp [blobCheck, Config.cmac]

theorem blobTag_length (i : Bool) : (blobTag i).length = 16 := by simp [blobTag, Config.gcmTag]

/-- A list of four or sixteen elements is that many elements. -/
theorem four (l : List Byte) (h : l.length = 4) : ∃ a b c d, l = [a, b, c, d] := by
  match l, h with
  | [a, b, c, d], _ => exact ⟨a, b, c, d, rfl⟩

theorem sixteen (l : List Byte) (h : l.length = 16) :
    ∃ a b c d e f g i j k m n o r s t, l = [a, b, c, d, e, f, g, i, j, k, m, n, o, r, s, t] := by
  match l, h with
  | [a, b, c, d, e, f, g, i, j, k, m, n, o, r, s, t], _ => exact ⟨a, b, c, d, e, f, g, i, j, k, m, n, o, r, s, t, rfl⟩

set_option maxRecDepth 4000 in
/-- Whatever its check value and tag, the request is well formed, its owner is right and it passes the checks; its fields stand
where they belong. -/
theorem test_key_shape (i : Bool) (check tag : List Byte) (hc : check.length = 4) (ht : tag.length = 16) :
    let pay := keyPay i check tag
    let l := blobWith i check tag
    (fieldAt pay 0 2 = 0 ∧ byteAt pay 2 = b2n i ∧ keyBody pay = l ∧ keyPayOk pay = true ∧ (part3 pay).pay = pay) ∧
    (l.take 16 = blobHead check ∧ l.drop (l.length - 16) = tag ∧ fieldAt l 12 4 = leNat check ∧ byteAt l 1 = 1 ∧ byteAt l 2 = 8 ∧
      byteAt l 9 = 0 ∧ byteAt l 8 = 0) ∧
    (if i then bytesAt l 16 96 = zeroBytes 96 ∧ bytesAt l 112 12 = zeroBytes 12 ∧ bytesAt l 124 (l.length - 140) = zeroBytes 16
     else bytesAt l 16 12 = zeroBytes 12 ∧ bytesAt l 32 (l.length - 48) = zeroBytes 16) := by
  obtain ⟨_, _, _, _, rfl⟩ := four check hc
  obtain ⟨_, _, _, _, _, _, _, _, _, _, _, _, _, _, _, _, rfl⟩ := sixteen tag ht
  cases i
  all_goals
    simp only [Bool.false_eq_true, if_false, if_true]
    and_intros
    all_goals rfl

/-- The example state with a challenge and its key state changed: a glitch, another generation of PRID 0's node. -/
def keyed (n g : Bool) : Block :=
  challenged.b.modKeys fun k => { k with state := if n then 1 else 0, gens := setAt k.gens 8 (if g then 1 else 0) }

set_option maxRecDepth 4000 in
/-- A signed request with the payload passes the checks before its own in each of them, up to the check that is to stop it. -/
theorem test_key_passes (i : Bool) (check tag : List Byte) (hc : check.length = 4) (ht : tag.length = 16) (n g : Bool) :
    (∀ op, op = 0x7001 ∨ op = 0x7002 → ∃ q, (keyed n g).passes op q = true ∧ q.pay = keyPay i check tag ∧ q.room = 4096) ∧
    (keyed n g).ownerFits 0 0 = true ∧ (keyed n g).keyLocked (blobWith i check tag) = false ∧ (keyed n g).keyGlitch = n ∧
    (keyed n g).keyStale (blobWith i check tag) = g ∧ (keyed n g).slotOccupied 0 = false := by
  refine ⟨?_, ?_⟩
  · intro op hop
    have h := test_signed_passes_with (fun k => { k with state := if n then 1 else 0, gens := setAt k.gens 8 (if g then 1 else 0) })
      (by cases n <;> cases g <;> decide +kernel) op (keyPay i check tag) (by rcases hop with rfl | rfl <;> decide)
    exact ⟨_, h.1, h.2, rfl⟩
  · obtain ⟨_, _, _, _, rfl⟩ := four check hc
    obtain ⟨_, _, _, _, _, _, _, _, _, _, _, _, _, _, _, _, rfl⟩ := sixteen tag ht
    cases i <;> cases n <;> cases g <;> exact ⟨rfl, by with_unfolding_all rfl, rfl, rfl, rfl⟩

/-- The blob carries its key, for a load and for an import; with another tag it carries none where a wrong check value stands. -/
theorem test_key_blobs :
    up.b.keys.unwrap (blobWith false (blobCheck false) (blobTag false)) = some (blobKey false) ∧
    up.b.keys.import (blobWith true (blobCheck true) (blobTag true)) = some (blobKey true) := by
  have hf := test_key_shape false _ _ (blobCheck_length false) (blobTag_length false)
  have ht := test_key_shape true _ _ (blobCheck_length true) (blobTag_length true)
  obtain ⟨-, ⟨h1, h2, h3, h4, h5, -, -⟩, h8, h9⟩ := hf
  obtain ⟨-, ⟨g1, g2, g3, g4, g5, -, -⟩, g8, g9, g10⟩ := ht
  have e : ∀ i, kcvOf 1 (blobKey i) = BitVec.ofNat 32 (leNat (blobCheck i)) := fun i => rfl
  constructor
  · unfold KeySt.unwrap
    rw [h1, h2, h3, h4, h5, h8, h9]
    have k : Config.gcmText (up.b.keys.nodeKey 8) (zeroBytes 12) (zeroBytes 16) = blobKey false := rfl
    have m : Config.gcmTag (up.b.keys.nodeKey 8) (zeroBytes 12) (blobHead (blobCheck false)) (zeroBytes 16) = blobTag false := rfl
    simp only [k, m, e]; simp
  · unfold KeySt.import
    rw [g1, g2, g3, g4, g8, g9, g10]
    have k : Config.gcmText ((Config.kdf (Config.ecdh up.b.keys.importKey (zeroBytes 96)) [0x7D]
      (leBytes 8 Config.identity.toNat)).take 32) (zeroBytes 12) (zeroBytes 16) = blobKey true := rfl
    have m : Config.gcmTag ((Config.kdf (Config.ecdh up.b.keys.importKey (zeroBytes 96)) [0x7D]
      (leBytes 8 Config.identity.toNat)).take 32) (zeroBytes 12) (blobHead (blobCheck true)) (zeroBytes 16) = blobTag true := rfl
    simp only [k, m, e]; simp

/-- A blob whose check value is another one carries no key. -/
theorem test_key_wrong_blob : ∃ check tag : List Byte, check.length = 4 ∧ tag.length = 16 ∧
    up.b.keys.unwrap (blobWith false check tag) = none := by
  obtain ⟨a, c, d, e, h⟩ := four _ (blobCheck_length false)
  refine ⟨[~~~a, c, d, e], blobTag false, rfl, blobTag_length false, ?_⟩
  obtain ⟨-, ⟨h1, h2, h3, h4, h5, -, -⟩, h8, h9⟩ := test_key_shape false [~~~a, c, d, e] _ rfl (blobTag_length false)
  unfold KeySt.unwrap
  rw [h1, h2, h3, h4, h5, h8, h9]
  have e' : kcvOf 1 (blobKey false) = BitVec.ofNat 32 (leNat [a, c, d, e]) := by rw [← h]; rfl
  have k : Config.gcmText (up.b.keys.nodeKey 8) (zeroBytes 12) (zeroBytes 16) = blobKey false := rfl
  have n : BitVec.ofNat 32 (leNat [a, c, d, e]) ≠ BitVec.ofNat 32 (leNat [~~~a, c, d, e]) := by
    intro hh
    have := congrArg (fun w : Word => w.toNat % 256) hh
    simp [leNat] at this
    bv_omega
  simp only [k, e', beq_eq_false_iff_ne.mpr n, Bool.and_false, Bool.false_eq_true, if_false]

/-- What a KEY_LOAD meets in each clause: a blob with its key, one without, a glitch, another generation, an occupied slot; an
import; and a KEY_REPLACE of a loaded slot. -/
theorem test_key_load_hyps :
    (keyed false false).keys.unwrap (blobWith false (blobCheck false) (blobTag false)) = some (blobKey false) ∧
    (keyed false false).keys.import (blobWith true (blobCheck true) (blobTag true)) = some (blobKey true) ∧
    (keyed false false).keys.slots.length = 256 ∧ (keyed false false).keys.gens.length = 41 ∧ slotAllows false 0 = true ∧
    slotAllows true 0 = true ∧ (keyed false false).keys.shadows < 4 :=
  ⟨test_key_blobs.1, test_key_blobs.2, by decide +kernel⟩

/-- The example state with a challenge and that key loaded in slot 0. -/
def loaded (material : List Byte) : Block :=
  challenged.b.modKeys fun k => { k with slots := setAt k.slots 0 (keyOf (blobHead [0, 0, 0, 0]) material) }

set_option maxRecDepth 4000 in
/-- A KEY_LOAD finds that slot occupied, a KEY_REPLACE finds what it needs. -/
theorem test_key_replace_hyps (check tag : List Byte) (hc : check.length = 4) (ht : tag.length = 16) (m key : List Byte) :
    let l := blobWith false check tag
    (∃ q, (loaded m).passes 0x7002 q = true ∧ q.pay = keyPay false check tag ∧ q.room = 4096) ∧
    (∃ q, (loaded m).passes 0x7001 q = true ∧ q.pay = keyPay false check tag ∧ q.room = 4096) ∧
    (loaded m).ownerFits 0 0 = true ∧ (loaded m).keyLocked l = false ∧ (loaded m).keyGlitch = false ∧
    (loaded m).keyStale l = false ∧ (loaded m).slotOccupied 0 = true ∧ (loaded m).keys.shadows < 4 ∧
    ((loaded m).slot 0).type ≠ 0 ∧ ((loaded m).slot 0).type = (keyOf l key).type ∧
    ((loaded m).slot 0).owner = (keyOf l key).owner ∧ ((loaded m).slot 0).uses = (keyOf l key).uses ∧
    (loaded m).keys.unwrap (blobWith false (blobCheck false) (blobTag false)) = some (blobKey false) := by
  have h := fun op ho => test_signed_passes_with
    (fun k => { k with slots := setAt k.slots 0 (keyOf (blobHead [0, 0, 0, 0]) m) }) rfl op (keyPay false check tag) ho
  refine ⟨⟨_, (h 0x7002 rfl).1, (h 0x7002 rfl).2, rfl⟩, ⟨_, (h 0x7001 rfl).1, (h 0x7001 rfl).2, rfl⟩, ?_⟩
  obtain ⟨_, _, _, _, rfl⟩ := four check hc
  obtain ⟨_, _, _, _, _, _, _, _, _, _, _, _, _, _, _, _, rfl⟩ := sixteen tag ht
  exact ⟨rfl, by with_unfolding_all rfl, rfl, rfl, rfl, Nat.zero_lt_succ 3, Nat.one_ne_zero, rfl, rfl, rfl, test_key_blobs.1⟩

/-- KEY_DESTROY of a tenant's node below and at the limit, KEY_EVICT of ordinary and of fixed slots. -/
theorem test_key_destroy_hyps :
    let d := mgmt [8, 0, 0, 0]
    let e := fun n : Nat => mgmt [BitVec.ofNat 8 n, 0, 0, 0]
    (byteAt d.pay 0 = 8 ∧ d.pay.length = 4 ∧ zerosAt d.pay 1 3 = true ∧ 4 ≤ d.room ∧ tenantNode 8 = true ∧
      up.b.passes 0x7003 d = true ∧ up.b.keys.life ≠ .retired ∧ up.otp.destroyed < 1024 ∧
      1024 ≤ ({ up with otp := { up.otp with destroyed := 1024 } } : State).otp.destroyed) ∧
    (∀ n ∈ [3, 254, 255], fieldAt (e n).pay 0 2 = n ∧ (e n).pay.length = 4 ∧ zerosAt (e n).pay 2 2 = true ∧
      up.b.passes 0x7004 (e n) = true) ∧
    up.b.keys.slots.length = 256 ∧ up.b.keys.gens.length = 41 ∧ up.b.mail.pend = [] ∧
    (holding (mgmt []) 0x7001 (.keyImport 3 KeySlot.empty [])).b.mail.pend =
      [{ req := mgmt [], opcode := 0x7001, kind := .keyImport 3 KeySlot.empty [], epoch := 0, told := true }] ∧
    (∀ ok, (holding (mgmt []) 0x7002 (.keyReplace 3 KeySlot.empty [] ok)).b.mail.pend =
      [{ req := mgmt [], opcode := 0x7002, kind := .keyReplace 3 KeySlot.empty [] ok, epoch := 0, told := true }]) := by
  decide +kernel

/-! ## Alarms, life cycle, cipher, images and faults -/

/-- Alarms pending and states of the key store; life-cycle steps. -/
theorem test_alarm_hyps :
    let b := fun (p : Bool) => up.b.modKeys fun k => { k with pendingAlarm := some (p, 99999) }
    up.b.nw.state ≠ 3 ∧ (∀ p, (b p).keys.pendingAlarm = some (p, 99999) ∧ 99999 < (b p).mod.epoch ∧ (b p).keys.slots.length = 256 ∧
      (b p).keys.state = 0) ∧
    (up.b.modKeys fun k => { k with state := 1 }).keys.state = 1 ∧ up.b.keys.state = 0 ∧
    (∀ l ∈ [Lane.a, .b], (challenged.b.lane l).intrusionPresent = false) ∧ lifeStep challenged.b.keys.life 3 = true ∧
    lifeStep challenged.b.keys.life 0 = false ∧ lifecycleOf? 3 = some .fieldReturn ∧
    (holding (mgmt []) 0x8020 (.lifecycle 3)).b.mail.pend =
      [{ req := mgmt [], opcode := 0x8020, kind := .lifecycle 3, epoch := 0, told := true }] := by decide +kernel

/-- TAMPER_ACK and LIFECYCLE_SET with valid trailers. -/
theorem test_alarm_request_hyps :
    (∃ q, challenged.b.passes 0x7005 q = true ∧ q.pay = [1, 0, 0, 0]) ∧
    ∀ n ∈ [(0 : Byte), 3], ∃ q, challenged.b.passes 0x8020 q = true ∧ q.pay = [n, 0, 0, 0] :=
  ⟨let h := test_signed_passes 0x7005 [1, 0, 0, 0] (by decide); ⟨_, h.1, h.2⟩, fun n _ =>
    let h := test_signed_passes 0x8020 [n, 0, 0, 0] (by decide); ⟨_, h.1, h.2⟩⟩

/-- The example state with an AES-128 key of every use in slot 5 and a GCM context 9 on it, the counter at a value. -/
def ciphered (counter : Nat) : Block :=
  let key : KeySlot := { type := 1, uses := 0x1A, owner := 0, node := 8, kcv := 7, gen := 0, material := zeroBytes 16, replacing := false, ackOnly := false }
  (up.b.modKeys fun k => { k with slots := setAt k.slots 5 key }).modCtx 9 fun c =>
    { c with mode := 1, slot := 5, width := 16, counter := counter, kcv := 7 }

/-- CIPHER_CTX_SET on an empty and a loaded slot; CIPHER_CTX_FREE. -/
theorem test_cipher_context_hyps :
    let rec48 : List Byte := [1, 0, 0, 0, 5, 0, 0, 0, 16] ++ zeroBytes 7 ++ [4, 0, 0, 0, 0, 0, 0, 0] ++ zeroBytes 24
    let set := part3 ([9, 0, 0, 0] ++ rec48)
    let free := part3 [9, 0, 0, 0]
    up.b.cipher.ctxs.length = 256 ∧
    ((ciphered 3).passes 0x7801 set = true ∧ up.b.passes 0x7801 set = true ∧ set.pay.length = 52 ∧ fieldAt set.pay 0 2 = 9 ∧
      zerosAt set.pay 2 2 = true ∧ ctxBytesOk (bytesAt set.pay 4 48) = true ∧ 48 ≤ set.room ∧ up.b.ctxHolder? 9 = some 0 ∧
      (ciphered 3).ctxHolder? 9 = some 0 ∧ inCounts ((ciphered 3).slice 0).slots (ctxOfBytes (bytesAt set.pay 4 48)).slot = true ∧
      inCounts (up.b.slice 0).slots (ctxOfBytes (bytesAt set.pay 4 48)).slot = true ∧ (ctxOfBytes (bytesAt set.pay 4 48)).mode = 1 ∧
      (up.b.slot 5).type = 0 ∧ ((ciphered 3).slot 5).type ≠ 0 ∧ modeFits 1 ((ciphered 3).slot 5) = true ∧
      counterOk ((ciphered 3).ctxAhead 9) (ctxOfBytes (bytesAt set.pay 4 48)) ((ciphered 3).slot 5).kcv = true) ∧
    (up.b.passes 0x7803 free = true ∧ free.pay.length = 4 ∧ fieldAt free.pay 0 2 < 240 ∧ zerosAt free.pay 2 2 = true) := by
  decide +kernel

/-- A CIPHER_RUN of context 9, and the operation left pending. -/
def run9 : Req :=
  part3 ([9, 0, 0, 16, 64, 0, 0, 0] ++ zeroBytes 4 ++ [0, 16, 0, 0, 0, 0, 0, 0] ++ [0, 32, 0, 0, 0, 0, 0, 0] ++ zeroBytes 36)

def pend9 (core : Bool) : Pend := { req := run9, opcode := 0x7802, kind := .cipher 9 [] (zeroBytes 12) core, epoch := 0, told := true }

/-- CIPHER_RUN below and at the last counter value; its end on a core and without one, in a running and in a frozen slice. -/
theorem test_cipher_run_hyps :
    let going := fun c => (ciphered 3).modMail fun m => { m with pend := [pend9 c] }
    let still := (going true).modPart fun p => { p with slices := setAt p.slices 3 { wide with frozen := true } }
    (∀ n ∈ [3, 65535], (ciphered n).passes 0x7802 run9 = true ∧ (ciphered n).cipherLocked = false ∧ ((ciphered n).ctx 9).mode = 1 ∧
      cipherUseOk ((ciphered n).slot ((ciphered n).ctx 9).slot) 1 0 = true ∧
      ((ciphered n).slice run9.path.prid).holdsSram (fieldAt run9.pay 20 8) (fieldAt run9.pay 4 4) = true) ∧
    (cipherPayOk run9.pay = true ∧ fieldAt run9.pay 0 2 = 9 ∧ byteAt run9.pay 2 = 0 ∧ 12 ≤ byteAt run9.pay 3 ∧ 32 ≤ run9.room) ∧
    ((ciphered 3).ctx 9).counter ≠ ((ciphered 3).ctx 9).top ∧ ((ciphered 65535).ctx 9).counter = ((ciphered 65535).ctx 9).top ∧
    ((ciphered 3).mail.pend = [] ∧ (ciphered 3).part.ciSched.credit.length = 32 ∧ 0 < (ciphered 3).p 0x1002 run9.path.prid ∧
      (ciphered 3).part.rates.length = 32) ∧
    (∀ c, (going c).mail.pend = [pend9 c] ∧ ((going c).slice 3).frozen = false ∧ (going c).anyServes = true) ∧ zeroBytes 12 ≠ [] ∧
    still.mail.pend = [pend9 true] ∧ (still.slice 3).frozen = true := by decide +kernel

/-- Storage requests inside an XTS range with and without a device, and their ends. -/
theorem test_storage_hyps :
    let b := up.b.modCtx 9 fun c => { c with mode := 3, slot := 5, offset := 0, length := 65536 }
    let bare := b.modLanes fun x => { x with device := false }
    let w := part3 ([0, 0, 0, 0, 0, 16, 0, 0] ++ [0, 0, 1, 0, 0, 0, 0, 0])
    let e := part3 ([0, 0, 0, 0, 0, 0, 1, 0] ++ zeroBytes 8)
    let pend : Pend := { req := e, opcode := 0x7811, kind := .storage false 0 65536 [] true, epoch := 0, told := true }
    (∀ b' ∈ [b, bare], b'.passes 0x7810 w = true ∧ b'.passes 0x7811 e = true ∧ b'.cipherLocked = false ∧
      b'.xtsHolds w.path.prid 0 4096 = true ∧ b'.xtsHolds e.path.prid 0 65536 = true) ∧
    (w.pay.length = 16 ∧ fieldAt w.pay 0 4 = 0 ∧ fieldAt w.pay 4 4 = 4096) ∧
    (e.pay.length = 16 ∧ fieldAt e.pay 0 4 = 0 ∧ fieldAt e.pay 4 4 = 65536 ∧ 65536 % granule = 0 ∧ granule ≤ 65536 ∧
      zerosAt e.pay 8 8 = true) ∧ b.deviceThere = true ∧ bare.deviceThere = false ∧ b.mail.pend = [] ∧
    b.part.ciSched.credit.length = 32 ∧ 0 < b.p 0x1002 w.path.prid ∧
    (b.modMail fun m => { m with pend := [pend] }).mail.pend = [pend] ∧ e.path.prid = 3 ∧ b.serves .a = true ∧ (b.lane .a).device = true := by
  decide +kernel

/-- Reads of external storage by a core inside and outside its slice, with and without a device. -/
theorem test_storage_read_hyps :
    let kept := (paired (guestOf 3)).modLane .a fun x => x.modPair 0 fun y => { y with units := [(2, [7])] }
    let bare := kept.modLane .a fun x => { x with device := false }
    kept.serves .a = true ∧ (kept.lane .a).pairs.length = 6 ∧ 8200 + 8 ≤ storageSize ∧ kept.pairsHeld = false ∧
    ((kept.lane .a).pair 0).fifo.length < 2 ∧ (kept.slice (kept.accPrid .a 0 true)).holdsStorage 0x1000000 8 = false ∧
    0x1000000 + 8 ≤ storageSize ∧ (bare.lane .a).device = false ∧ bare.serves .a = true ∧
    (bare.slice (bare.accPrid .a 0 true)).frozen = false ∧
    (kept.slice (kept.accPrid .a 0 true)).holdsStorage 8200 8 = true ∧ (kept.slice (kept.accPrid .a 0 true)).phase ≠ .none ∧
    (kept.slice (kept.accPrid .a 0 true)).frozen = false ∧ (kept.lane .a).device = true ∧
    ((kept.lane .a).pair 0).units = [(8200 / 4096, [7])] ∧ (8200 + 8 - 1) / 4096 = 8200 / 4096 := by
  decide +kernel

/-- A block request of 16 zero bytes at an offset, its check value right or not. -/
def blockAsk (offset : Nat) (right : Bool) : Req :=
  mgmt (leBytes 4 offset ++ leBytes 4 16 ++ leBytes 4 (crc32c (zeroBytes 16) + b2n (!right)) ++ zeroBytes 16)

/-- A staged image of a level that Lane A's staging slot holds accepted. -/
def accepted : Block :=
  laned .a fun x => { x with staging := { x.staging with st := .accepted, declared := 16,
                                                          bytes := mapIdxFrom (fun i v => (i, v)) 0 (spliceAt (zeroBytes 16) 12 [1, 0]) } }

/-- UPDATE_ACTIVATE goes on, with Lane B as the lane that restarts. -/
def activating : Block := (holding (mgmt []) 0x8004 (.updActivate 3 true .a (some .b) false false)).b

/-- UPDATE_BEGIN in each case of its statement. -/
theorem test_update_begin_hyps :
    let begin' := mgmt ([0, 4, 0, 0] ++ zeroBytes 4)
    up.b.passes 0x8001 begin' = true ∧ activating.passes 0x8001 begin' = true ∧ begin'.pay.length = 8 ∧ fieldAt begin'.pay 0 4 = 1024 ∧
    zerosAt begin'.pay 4 4 = true ∧ up.b.passes 0x8001 (mgmt []) = true ∧ (mgmt []).pay.length ≠ 8 ∧ activating.activating = true ∧
    up.b.activating = false ∧ up.b.restarting = false ∧ (laned .b fun x => { x with rolling := true }).restarting = true ∧
    2 ≤ (up.b.lane .a).st ∧ ((laned .b fun x => { x with st := 1 }).lane .b).st < 2 := by decide +kernel

/-- UPDATE_BLOCK and UPDATE_VERIFY in each case of their statement. -/
theorem test_update_verify_hyps :
    let lost := up.b.modKeys fun k => { k with state := 3 }
    (∀ r, up.b.passes 0x8002 (blockAsk 0 r) = true ∧ blockPayOk (blockAsk 0 r).pay = true ∧ blockSumOk (blockAsk 0 r).pay = r) ∧
    (up.b.passes 0x8003 (mgmt []) = true ∧ lost.passes 0x8003 (mgmt []) = true ∧ 8 ≤ (mgmt []).room ∧ lost.authLess = true ∧
      up.b.authLess = false) ∧
    ((holding (mgmt []) 0x8003 .updVerify).b.mail.pend = [{ req := mgmt [], opcode := 0x8003, kind := .updVerify, epoch := 0, told := true }] ∧
      ((laned .a fun x => { x with staging := { x.staging with verifying := true } }).lane .a).staging.verifying = true) ∧
    (accepted.lane .a).transferred = true := by decide +kernel

/-- UPDATE_ACTIVATE in each case of its statement. -/
theorem test_update_activate_hyps :
    let act := mgmt [1, 0, 0, 0]
    let roles := accepted.modMod fun m => { m with active := some .b }
    let alone := roles.modLane .b fun x => { x with st := 2 }
    (∀ b ∈ [up.b, accepted, roles, alone], b.passes 0x8004 act = true) ∧
    (act.pay.length = 4 ∧ byteAt act.pay 0 = Lane.a.num + 1 ∧ byteAt act.pay 1 = 0 ∧ zerosAt act.pay 2 2 = true ∧ 8 ≤ act.room) ∧
    (up.b.lane .a).staging.st ≠ .accepted ∧ (accepted.lane .a).staging.st = .accepted ∧
    (∀ k ∈ [Lane.a, .b], levelsApart (fieldAt (accepted.lane .a).staging.image 12 2) (accepted.lane k).image.level = false) ∧
    alone.serves Lane.a.other = false ∧ roles.serves Lane.a.other = true ∧ roles.settled = true ∧ roles.activating = false ∧
    roles.isActive .a = false ∧ roles.isActive Lane.a.other = true := by decide +kernel

/-- A configuration image of one record, unencrypted. -/
def image1 : List Byte :=
  let head : List Byte := [0x47, 0x5A, 0x43, 0x46, 1, 0, 0, 0, 9, 0, 0, 0, 84, 0, 0, 0, 1, 0, 0, 0] ++ zeroBytes 44
  let l := head ++ [5, 0, 12, 0, 2, 0, 0, 0] ++ zeroBytes 8
  l ++ leBytes 4 (crc32c l)

/-- That image, or nothing, staged, with a commit going on. -/
def committing (l : List Byte) : Block :=
  (holding (mgmt []) 0x8011 (.cfgCommit 0)).b.modImg fun i => { i with staging := mapIdxFrom (fun i v => (i, v)) 0 l }

/-- CONFIG_BLOCK and CONFIG_COMMIT in each case of their statement; a commit whose image passes and one whose image does not. -/
theorem test_configuration_hyps :
    let old := up.b.modImg fun i => { i with staging := [(0, 1)] }
    let commit := mgmt [0, 0, 0, 0]
    (∀ r, up.b.passes 0x8010 (blockAsk 0 r) = true ∧ fieldAt (blockAsk 0 r).pay 0 4 + ((blockAsk 0 r).pay.drop 12).length ≤ 524288) ∧
    old.passes 0x8010 (blockAsk 0 true) = true ∧ fieldAt (blockAsk 0 true).pay 0 4 = 0 ∧ old.img.staging ≠ [] ∧
    up.b.img.staging = [] ∧ up.b.img.cfgSt ≠ 1 ∧
    (up.b.passes 0x8011 commit = true ∧ activating.passes 0x8011 commit = true ∧ commit.pay.length = 4 ∧ byteAt commit.pay 0 ≤ 2 ∧
      zerosAt commit.pay 1 3 = true ∧ 8 ≤ commit.room ∧ activating.activating = true ∧ up.b.activating = false ∧ up.b.settled = true) ∧
    (committing []).mail.pend = [{ req := mgmt [], opcode := 0x8011, kind := .cfgCommit 0, epoch := 0, told := true }] ∧
    (match (committing []).commitCheck false with | .error e => e.1 == .badCheck | .ok _ => false) = true ∧
    (match (committing image1).commitCheck false with | .error _ => false | .ok r => r.1 == image1) = true ∧
    (committing image1).bothServe = true ∧ (up.b.modImg fun i => { i with commitRestart := true }).img.commitRestart = true ∧
    up.b.img.commitRestart = false := by decide +kernel

/-- A scrub pass with and without an uncorrectable word; temperatures on both sides of their thresholds; logs, counts and the
requests that read and clear them. -/
theorem test_fault_hyps :
    let find := fun u : Bool => ({ corrected := 3, uncorrectableLane := u, freeGranule := [], flashPages := [], overran := false } : ScrubFind)
    let logged := laned .a fun x => { x with logQueue := [{ entry := up.b.evRec .a 25 1 noSubject 0, round := 0, offset := 0, seq := 0 }] }
    let ev := mgmt [0, 4, 0, 0]
    let rd := mgmt [0, 0, 4, 0]
    let cl := mgmt [0, 0, 0, 0]
    2 ≤ (up.b.lane .a).st ∧ (∀ u, (find u).flashPages = [] ∧ (find u).overran = false ∧ (find u).uncorrectableLane = u) ∧
    up.b.runs .a = true ∧ (up.b.lane .a).temps.2 < 1250 ∧ up.b.cool.sub.getD 0 0 < 1400 ∧ up.b.serves Lane.a.other = true ∧
    criticalNow { substrate := [], power := [], computeNet := [1250], module := 0 } = true ∧
    ((logged.lane .a).logQueue.length = 1 ∧ (logged.lane .a).log.length < 256 ∧ logged.runs .a = true) ∧
    (up.b.passes 0x9001 ev = true ∧ ev.pay.length = 4 ∧ 1 ≤ byteAt ev.pay 1 ∧ byteAt ev.pay 1 ≤ 64 ∧
      byteAt ev.pay 0 + byteAt ev.pay 1 ≤ 256 ∧ zerosAt ev.pay 2 2 = true ∧ 16 * byteAt ev.pay 1 ≤ ev.room) ∧
    (up.b.passes 0x9002 rd = true ∧ rd.pay.length = 4 ∧ 1 ≤ fieldAt rd.pay 2 2 ∧ fieldAt rd.pay 2 2 ≤ 64 ∧
      8 + 32 * fieldAt rd.pay 2 2 ≤ rd.room) ∧
    (∀ n < 2, up.b.passes 0x9003 (cl.withByte 0 n) = true ∧ (cl.withByte 0 n).pay.length = 4 ∧ byteAt (cl.withByte 0 n).pay 0 = n ∧
      zerosAt (cl.withByte 0 n).pay 1 3 = true) := by decide +kernel

/-! ## Ring and switch -/

/-- Lane A's node in a state, with permission for PRID 3 and a hand 1 of three slots: 0 and 1 own, 2 polled. -/
def noded (st : RingState) (f : RingNode → RingNode) : Block :=
  let hand : Hand := { slots := [{ start := 0, len := 100, owner := 3, polled := false, west := false, sync := true, frame := 0 },
    { start := 200, len := 100, owner := 3, polled := false, west := true, sync := false, frame := 0 },
    { start := 400, len := 100, owner := 0, polled := true, west := false, sync := false, frame := 0 }], polls := [[5]] }
  let b : Block := { up.b with params := [(pkey 0x400D 0, 8)], net := { up.b.net with hands := setAt up.b.net.hands 1 hand } }
  (b.modLanes fun x => { x with ring := { x.ring with st := st, hand := 1, cfg := { x.ring.cfg with node := 3, rank := 2 } } }).modNode .a f

/-- RING_BID with and without permission, outside a ring, to the hand in force, to another one, and its withdrawal. -/
theorem test_bid_hyps :
    let bid := fun (h fn : Nat) => part3 [BitVec.ofNat 8 h, BitVec.ofNat 8 fn, 0, 0]
    let ring := noded .synchronised id
    (∀ h < 3, ∀ fn < 2, up.b.passes 0x4001 (bid h fn) = true ∧ ring.passes 0x4001 (bid h fn) = true ∧ (bid h fn).pay.length = 4 ∧
      byteAt (bid h fn).pay 0 = h ∧ byteAt (bid h fn).pay 1 = fn ∧ zerosAt (bid h fn).pay 2 2 = true) ∧
    (up.b.p 0x400D 0).testBit 3 = false ∧ (ring.p 0x400D 0).testBit 3 = true ∧ (noded .listening id).passes 0x4001 (bid 1 0) = true ∧
    ((noded .listening id).ring (noded .listening id).act).running = false ∧ (ring.ring ring.act).running = true ∧
    (∀ k ∈ [Lane.a, .b], ring.serves k = true ∧ (ring.ring k).hand = 1) ∧ ring.mail.pend = [] ∧ (ring.ring .a).hand ≠ 2 ∧
    (∀ k ∈ [Lane.a, .b], (ring.ring k).callState ≠ .confirmed) ∧ (ring.ring .a).ownBid = none ∧
    ((noded .synchronised fun r => { r with ownBid := some 2 }).ring .a).ownBid = some 2 ∧ ring.bidWaits .a = false ∧
    (let wait := ring.modMail fun m =>
       { m with pend := [{ req := bid 2 0, opcode := 0x4001, kind := .ringBid 2 false true, epoch := 0, told := true }] }
     wait.bidWaits .a = true ∧ wait.bidWaits .b = false ∧ (wait.ring .b).ownBid = none) := by decide +kernel

/-- Rounds, Calls, beacons, silence and cold starts in every state the statement names. -/
theorem test_round_hyps :
    let r := fun (st : RingState) (f : RingNode → RingNode) => (noded st f).ring .a
    let s := r .synchronised id
    s.follows = true ∧ s.callKind = .none ∧ (r .off id).follows = false ∧ s.st = .synchronised ∧ s.originates = true ∧ s.claims = [] ∧
    (let x := r .synchronised fun r => { r with dealer := some 3, bids := [(5, 2), (1, 0)] }
     x.dealer = some (Fin.ofNat 16 x.cfg.node) ∧ x.bids ≠ [] ∧ ∀ y ∈ x.bids, y.2 ≠ x.hand) ∧
    (let x := r .synchronised fun r => { r with callKind := .hand, callState := .confirmed, callRound := 8, round := 9 }
     x.follows = true ∧ x.callKind = .hand ∧ x.callState = .confirmed ∧ x.callRound + 1 ≤ x.round) ∧
    s.sleepCommit = false ∧ s.st ≠ .asleep ∧ (r .off id).st = .off ∧ (noded .listening id).net.handsCrc = 0 ∧ (r .listening id).st = .listening ∧
    s.iAmDealer = false ∧
    (let x := r .synchronised fun r => { r with iAmDealer := true }
     x.running = true ∧ x.iAmDealer = true ∧ x.cfg.rank ≤ 2) ∧
    s.silent < 2 ∧ 2 ≤ (r .synchronised fun r => { r with silent := 200 }).silent ∧ s.silent < (noded .synchronised id).p 0x4005 0 ∧
    (noded .synchronised id).p 0x4005 0 ≤ (r .synchronised fun r => { r with silent := 200 }).silent ∧ s.running = true ∧
    s.st ≠ .listening ∧ (r .listening id).beaconSeen = false ∧ (r .listening id).candidate = true ∧
    ((noded .listening id).lane .a).ready = true := by decide +kernel

/-- The outer fields of a frame that arrives well formed, and of one whose FCS is wrong. -/
def wireWell : RingWire := { dst := 0x0342454C0000, src := 0, version := 1, fcsOk := true }

def wireBad : RingWire := { wireWell with fcsOk := false }

/-- A beacon of Node 5 over the hands in force. -/
def beacon5 (w : RingWire) : Beacon :=
  { wire := w, round := 7, dealer := 5, rank := 4, hand := 1, callKind := .none, callState := .announced, target := 0, callRound := 0, crc := 0 }

/-- Beacons that are discarded and that are taken, of the module's hands and of others; a Dealer's round. -/
theorem test_beacon_hyps :
    (beacon5 wireBad).wire.fcsOk = false ∧ (beacon5 wireWell).wire.version = 1 ∧ (beacon5 wireWell).wire.fcsOk = true ∧
    (beacon5 wireWell).crc = (noded .synchronised id).net.handsCrc ∧
    ({ beacon5 wireWell with crc := 1 } : Beacon).crc ≠ (noded .synchronised id).net.handsCrc ∧
    ((noded .synchronised id).ring .a).cfg.rank ≤ (beacon5 wireWell).rank ∧
    (let d := noded .synchronised fun r => { r with iAmDealer := true, dealer := some 3 }
     match exec (.roundStart .a) (up.withBlock d) with
     | .next t => (t.b.ring .a).iAmDealer && (t.b.ring .a).originates
     | _ => false) = true := by
  decide +kernel

/-- A ring frame of a kind and origin. -/
def ringFrame (kind : Fin 16) (origin : Fin 16) (hops : Nat) : RingFrame :=
  { wire := wireWell, kind := kind, origin := origin, wrap := 0, west := false, feed := false, hops := hops, claim := false, slot := 2, round := 0, depart := 0,
    corr := 0, bid := none, ack := false, healthy := true, sleepBid := false, deviation := 0, carried := none }

/-- A frame of 100 bytes. -/
def frame100 : EthFrame := { dst := 0x20000000001, src := 1, vid := none, dei := false, rtag := none, etype := 0x800, len := 100, data := [] }

/-- What nodes send: a null frame, the frame that waits, a poll and its answer. -/
theorem test_send_hyps :
    let b := noded .synchronised id
    let r := b.ring .a
    let wait : SwFrame := { id := 4, index := 0, gen := 0, src := 7, sender := none, frame := frame100, born := 99999, life := 10, slot := 0,
                            handle := none, colour := 0 }
    let queued := b.modLane .a fun x => { x with sw := { (x.sw.modQueue 1 7 fun _ => [4]) with frames := [wait] } }
    let dealer := noded .synchronised fun r => { r with iAmDealer := true }
    ((b.lane .a).sw.queue 1 7 = [] ∧ (b.lane .a).sw.queue 2 7 = [] ∧ r.originates = true ∧ ((noded .passive id).ring .a).originates = false) ∧
    ((b.handOf .a).slots.map (fun sl => (sl.polled, sl.owner == r.cfg.node)) = [(false, true), (false, true), (true, false)] ∧
      r.looped.get (dirPort false).side = false ∧ r.looped.get (dirPort true).side = false) ∧
    ((queued.lane .a).sw.queue 1 7 = [4] ∧ (queued.lane .a).sw.frame? 4 = some wait ∧ wait.slot = 0 ∧ queued.aged wait = false ∧
      (queued.ring .a).originates = true) ∧
    ((dealer.ring .a).iAmDealer = true ∧ (dealer.ring .a).originates = true ∧ (dealer.handOf .a).polledNode (dealer.ring .a).round 2 = 5 ∧
      (dealer.ring .a).cfg.node ≠ 5 ∧ (0 : Word).toNat = r.round % 2 ^ 32 ∧ r.cfg.node ≠ 4) := by decide +kernel

/-- Frames that a node repeats or reports, and frames of the open window. -/
theorem test_repeat_hyps :
    let b := noded .synchronised id
    let r := b.ring .a
    (r.sleepCommit = false ∧ r.running = true ∧ r.follows = true ∧ r.sent = [] ∧
      ∀ k ∈ [(2 : Fin 16), 3, 5], ∀ o ∈ [(3 : Fin 16), 9], ∀ h ∈ [31, 32], (ringFrame k o h).kind = k ∧ (ringFrame k o h).wrap.val ≠ 3 ∧
        (ringFrame k o h).feed = false ∧ (ringFrame k o h).carried = none ∧ (ringFrame k o h).hops = h ∧
        r.seen.contains ((ringFrame k o h).origin.val, (ringFrame k o h).round.toNat, (ringFrame k o h).slot) = false) ∧
    ((ringFrame 2 9 0).wire.version = 1 ∧ (ringFrame 2 9 0).wire.fcsOk = true ∧ wireBad.fcsOk = false) ∧
    (ringFrame 2 9 0).origin.val ≠ r.cfg.node ∧ (ringFrame 2 3 0).origin.val = r.cfg.node ∧
    r.looped.get RingPort.rge.other.side = false := by decide +kernel

/-- A frame that a repeated frame carries, and an entry for none. -/
theorem test_open_hyps :
    let b := noded .synchronised id
    (ringFrame 7 9 0).kind = 7 ∧ ({ ringFrame 6 9 0 with carried := some frame100 } : RingFrame).carried = some frame100 ∧
    classifyIn b.net.entries RingPort.rge.num none (frame100.vid.getD (b.p 0x4805 RingPort.rge.num)) frame100 = none := by decide +kernel

/-- An announced Call whose round ends. -/
def called : Block :=
  noded .synchronised fun r => { r with callKind := .hand, callState := .announced, callRound := 4, round := 4, aliveLast := 9, acks := 9 }

/-- Its node stays synchronised at the end of the slots. -/
theorem test_slots_end_hyps :
    ((called.ring .a).follows = true ∧ (called.ring .a).st = .synchronised ∧ (called.ring .a).callKind = .hand ∧
      (called.ring .a).callState = .announced ∧ (called.ring .a).callRound = (called.ring .a).round) ∧
    (match exec (.slotsEnd .a) (up.withBlock called) with | .next t => (t.b.ring .a).st == .synchronised | _ => false) = true := by
  decide +kernel

/-- A Keep that has blocked before, a commit to sleep. -/
theorem test_keep_hyps :
    let r := (noded .synchronised id).ring .a
    ((noded .off id).ring .a).st = .off ∧ r.st ≠ .off ∧ r.st ≠ .asleep ∧ r.keepShut = false ∧
    (let k := (noded .synchronised fun r => { r with blockedRecent := [99998, 99999] }).modLane .b fun x => { x with st := 2 }
     2 ≤ (((k.ring .a).blockedRecent.filter fun t => decide (k.mod.epoch < t + epochsPerSec)).length) ∧ (k.ring .a).keepShut = false ∧
     (k.serves .a && k.serves Lane.a.other) = false) ∧
    (let z := (noded .synchronised fun r => { r with sleepCommit := true }).modNw fun n => { n with state := 2 }
     (z.ring .a).sleepCommit = true ∧ z.nw.state = 2 ∧ z.nw.latched = none) := by decide +kernel

/-- SWITCH_ENTRY_SET and SWITCH_ENTRY_DEL: an entry that keeps its rules, one that does not, a generation of the past; drains. -/
theorem test_entry_hyps :
    let body := fun (queue slot : Nat) => leBytes 12 0 ++ [0, 0, 255, 128] ++ leBytes 8 2 ++ [BitVec.ofNat 8 (32 * queue), BitVec.ofNat 8 slot] ++ zeroBytes 6
    let set := fun (g queue slot : Nat) => mgmt ([4, 0] ++ leBytes 2 g ++ body queue slot)
    let del := fun (g : Nat) => mgmt ([4, 0] ++ leBytes 2 g)
    let pend : Pend := { req := del 0, opcode := 0x4802, kind := .swEntry 4 0 false false, epoch := 0, told := true }
    let held := up.b.modMail fun m => { m with pend := [pend] }
    let alone := held.modLane .b fun x => { x with st := 2 }
    let old : SwFrame := { id := 0, index := 4, gen := 65534, src := 7, sender := none, frame := frame100, born := 0, life := 10, slot := 255,
                           handle := none, colour := 0 }
    let filled := laned .a fun x => { x with sw := { x.sw with frames := [old] } }
    (∀ g ∈ [0, 0xFFFF, 7], up.b.passes 0x4801 (set g 2 255) = true ∧ up.b.passes 0x4802 (del g) = true ∧ (set g 2 255).pay.length = 36 ∧
      (del g).pay.length = 4 ∧ swEntryBytesOk (bytesAt (set g 2 255).pay 4 32) = true ∧ fieldAt (del g).pay 2 2 = g ∧
      fieldAt (set g 2 255).pay 2 2 = g) ∧
    fieldAt (set 0 2 255).pay 0 2 = 4 ∧ up.b.net.gen 4 = 0 ∧ (swEntryOf (bytesAt (set 0 2 255).pay 4 32)).valid = true ∧
    up.b.entryRules 4 (swEntryOf (bytesAt (set 0 2 255).pay 4 32)) = true ∧ swEntryBytesOk (bytesAt (set 0 2 9).pay 4 32) = true ∧
    up.b.entryRules 4 (swEntryOf (bytesAt (set 0 2 9).pay 4 32)) = false ∧ up.b.passes 0x4801 (set 0 2 9) = true ∧
    (filled.lane .a).drained 4 (filled.net.gen 4) = false ∧ (up.b.lane .a).drained 4 (up.b.net.gen 4) = true ∧ held.mail.pend = [pend] ∧
    held.net.cuts = [] ∧ (held.lane .a).drained 4 (held.net.gen 4) = true ∧
    held.serves Lane.a.other = true ∧ alone.serves Lane.a.other = false ∧ alone.mail.pend = [pend] := by decide +kernel

/-- PORT_STATS and the functions of MACSEC_SA, on associations in each state. -/
theorem test_association_hyps :
    let st := mgmt [3, 0, 0, 0]
    let key : KeySlot := { type := 2, uses := 4, owner := 255, node := 4, kcv := 0, gen := 0, material := zeroBytes 32, replacing := false, ackOnly := false }
    let b := fun (inst use : Bool) => ((up.b.modKeys fun k => { k with slots := setAt k.slots 242 key }).modNet fun n =>
      { n with sas := setAt n.sas 0 { installed := inst, inUse := use, an := 1, pn := 5 } })
    let q := mgmt ([9, 0, 1, 0, 1] ++ zeroBytes 11)
    let m := mgmt ([9, 0] ++ zeroBytes 14)
    let idle : Sa := { installed := false, inUse := false, an := 0, pn := 0 }
    (up.b.passes 0x4803 st = true ∧ st.pay.length = 4 ∧ byteAt st.pay 0 ≤ 38 ∧ zerosAt st.pay 1 3 = true ∧ 64 ≤ st.room) ∧
    (∀ i u, (b i u).passes 0x4804 (q.withByte 0 0) = true ∧ (b i u).passes 0x4804 (m.withByte 0 1) = true ∧
      (b i u).passes 0x4804 (m.withByte 0 2) = true ∧ ((b i u).net.sas.getD 0 idle).installed = i ∧ ((b i u).net.sas.getD 0 idle).inUse = u ∧
      ((b i u).slot (saSlot 0)).type = (if (b i u).p 0x4841 0 % 2 = 0 then 1 else 2) ∧ ((b i u).slot (saSlot 0)).uses.getLsbD 2 = true ∧
      ((b i u).net.sas.getD 1 idle).installed = false) ∧
    (let r := q.withByte 0 0
     r.pay.length = 16 ∧ byteAt r.pay 0 = 0 ∧ byteAt r.pay 1 = 0 ∧ saIndex 0 = 0 ∧ byteAt r.pay 2 < 4 ∧ byteAt r.pay 3 = 0 ∧
       zerosAt r.pay 12 4 = true ∧ fieldAt r.pay 4 8 ≠ 0) ∧
    (∀ n < 3, (m.withByte 0 n).pay.length = 16 ∧ byteAt (m.withByte 0 n).pay 0 = n ∧ byteAt (m.withByte 0 n).pay 1 = 0 ∧
      zerosAt (m.withByte 0 n).pay 2 14 = true) := by decide +kernel

/-- Port 3 and the uplink enabled with their links up, PRID 3's rings at 4096 in its slice, an entry to port 4. -/
def linked (f : SwitchSt → SwitchSt) (dests : BitVec 39) : Block :=
  let e : SwEntry := { mac := 0, macMask := 0, vidMatch := false, vid := 0, srcPort := 255, valid := true, pridMatch := false, prid := 0,
                       dests := dests, queue := 2, life := 0, slot := 255, policer := 0, police := false, action := 0, handle := 0 }
  let b : Block := { up.b with params := [(pkey 0x4801 0, 1), (pkey 0x4801 3, 1), (pkey 0x4801 4, 1), (pkey 0x4820 10, 4096), (pkey 0x4821 10, 4)],
                               net := { up.b.net with entries := if dests = 0 then [] else [(0, e)] } }
  b.modLane .a fun x => { x with sw := f { x.sw with links := [.up, .down, .down, .up, .up, .down, .down] } }

/-- Frames at ports in and out of service, with and without a matching entry, toward a port and toward virtual ports. -/
theorem test_ingress_hyps :
    let b := linked id 0
    let long := { frame100 with len := 2000 }
    ((b.lane .a).sw.stats.length = 39 ∧ (b.lane .a).sw.links.length = 7 ∧ b.serves .a = true ∧ b.p 0x4801 3 ≠ 0 ∧
      (b.lane .a).sw.links.getD 3 .down = .up ∧ (b.lane .a).sw.links.getD 0 .down = .up ∧ up.b.p 0x4801 3 = 0) ∧
    b.p 0x4804 3 < long.len ∧ frame100.len ≤ b.p 0x4804 3 ∧ ({ frame100 with etype := 0x88B5 } : EthFrame).etype = 0x88B5 ∧
    classifyIn b.net.entries 3 none (frame100.vid.getD (b.p 0x4805 3)) frame100 = none ∧
    (∀ d ∈ [(16 : BitVec 39), 1024], let c := linked id d
      ∃ i e, classifyIn c.net.entries 3 none (frame100.vid.getD (c.p 0x4805 3)) frame100 = some (i, e) ∧ e.police = false ∧ e.action = 0 ∧
        e.toVirtual = (d == 1024) ∧ e.physical = (if d = 16 then [4] else []) ∧ e.queue = 2) ∧
    (let c := linked id 16
     3 ≤ 4 ∧ c.portDown .a 4 = false ∧ frame100.len ≤ c.p 0x4804 4 ∧ (c.lane .a).sw.reserve + cellsOf frame100.len ≤ 8192 ∧
     (c.lane .a).sw.queues.length = 7 ∧ (∀ x ∈ (c.lane .a).sw.queues, x.length = 8) ∧ (c.lane .a).sw.queue 4 2 = [] ∧
     ((c.lane .a).sw.avg.getD 4 []).getD 2 0 = 0 ∧ cellsOf frame100.len ≤ c.queueLimit 4 2 ∧
     0 < byteAt (bytesAt (pbytes c.params 0x4812 4 96) (12 * 2) 4) 0) := by
  and_intros
  all_goals first
    | decide +kernel
    | intro d hd
      simp only [List.mem_cons, List.not_mem_nil, or_false] at hd
      rcases hd with rfl | rfl <;> exact ⟨0, _, rfl, by decide +kernel⟩

/-- A transmit descriptor of PRID 3 at 4096 in Lane A's memory: its frame at 8192. -/
def described (len flags : Nat) (b : Block) : State :=
  let d := leBytes 8 8192 ++ leBytes 2 len ++ [0, BitVec.ofNat 8 flags] ++ zeroBytes 4
  { up.withBlock b with mem := up.mem.write .a 4096 d }

/-- Descriptors not handed over, malformed, without an entry and of a frame that goes on; rings out of use and outside the slice. -/
theorem test_descriptor_hyps :
    let b := linked id 0
    let s := fun (n f : Nat) => described n f b
    let away : Block := { b with params := (pkey 0x4820 10, 0x1000000) :: b.params }
    (up.b.p 0x4820 10 = 0 ∧ (b.lane .a).sw.txHead.getD 3 0 = 0 ∧ b.p 0x4820 10 = 4096 ∧ b.p 0x4821 10 = 4 ∧ b.serves .a = true ∧
      (b.slice 3).phase ≠ .none ∧ (b.slice 3).frozen = false ∧ (b.lane .a).sw.txHead.length = 32 ∧ (b.slice 3).holdsSram 4096 16 = true ∧
      (away.slice 3).holdsSram 0x1000000 16 = false) ∧
    (byteAt ((s 64 0).mem.read .a 4096 16) 11).testBit 7 = false ∧
    (∀ n ∈ [59, 64], let d := (s n 128).mem.read .a 4096 16
      (byteAt d 11).testBit 7 = true ∧ fieldAt d 8 2 = n ∧ byteAt d 10 = 0 ∧ byteAt d 11 = 128 ∧ zerosAt d 12 4 = true ∧
      (b.slice 3).holdsSram (fieldAt d 0 8) n = true) ∧
    (let g := EthFrame.ofBytes ((s 64 128).mem.read .a 8192 64)
     classifyIn (b.tableFor .a 3) 10 (some 3) (g.vid.getD 1) g = none ∧
     (let c := linked id 1024
      ∃ i e, classifyIn (c.tableFor .a 3) 10 (some 3) (g.vid.getD 1) g = some (i, e) ∧ e.police = false ∧ e.action = 0 ∧ e.toVirtual = true ∧
        e.physical = [] ∧ 64 ≤ c.rxBuffer ∧
        (c.lane .a).sw.quotaUsed 3 + (c.lane .a).boundFor c.net 3 + cellsOf g.len ≤ (c.slice 3).quota)) := by
  and_intros
  all_goals first
    | decide +kernel
    | exact ⟨0, _, rfl, by decide +kernel⟩

/-- A virtual port whose turn comes at once, alone with a ring; one that another partition's port keeps waiting. -/
theorem test_turn_hyps :
    let b := linked id 0
    let both : Block := { b with params := (pkey 0x4820 7, 4096) :: (pkey 0x4821 7, 4) :: b.params }
    let head := fun (b : Block) => match b.vpHead (described 64 128 b).mem .a 3 with | .frame .. => true | _ => false
    (0 < b.p 0x1003 3 ∧ (b.lane .a).vpSched.credit.length = 32 ∧ ∀ q : Prid, q ≠ 3 → b.p 0x4820 (7 + q.val) = 0) ∧
    head b = true ∧ head both = true ∧ both.vpTurn (described 64 128 both).mem .a 3 = none := by decide +kernel

/-- Frames of the management channel at the uplink of a lane on defaults and of one that is not. -/
theorem test_uplink_hyps :
    let b := (linked id 0).modLane .a fun x => { x with defaults := true }
    let f : EthFrame := { frame100 with etype := 0x88B5 }
    b.serves .a = true ∧ b.p 0x4801 0 ≠ 0 ∧ (b.lane .a).sw.links.getD 0 .down = .up ∧ f.len ≤ b.p 0x4804 0 ∧ f.len ≤ b.p 0x4804 3 ∧
    (b.lane .a).defaults = true ∧ ((linked id 0).lane .a).defaults = false ∧ b.mgmtInFlight < 16 := by decide +kernel

/-- One of them names this module. -/
theorem test_uplink_names : (frame88 1).forMe up.otp.identity = true := by
  have h := test_frame_good
  simp only [MgmtFrame.forMe, Bool.and_eq_true, beq_iff_eq]
  exact ⟨⟨h.2.1, h.2.2.1⟩, h.2.2.2.1⟩

/-- The memory of that state keeps its form. -/
theorem test_descriptor_memory (n f : Nat) : (described n f (linked id 0)).mem.Wf := MemSt.write_wf _ _ _ ⟨rfl, rfl, rfl, rfl⟩

/-- Queues with a head that is fresh or aged, links in each state, cells under audit, recovery entries, the MACsec wait. -/
theorem test_port_hyps :
    let fr := fun (born : Nat) => ({ id := 4, index := 0, gen := 0, src := 7, sender := none, frame := frame100, born := born, life := 10, slot := 255,
                                     handle := none, colour := 0 } : SwFrame)
    let b := fun (born : Nat) => linked (fun x => { (x.modQueue 3 2 fun _ => [4]) with frames := [fr born] }) 0
    let held := linked (fun x => { x with links := [.hold] ++ x.links.drop 1 }) 0
    (linked id 0).pickQueue .a 3 = none ∧
    (∀ born ∈ [0, 99999], ((b born).pickQueue .a 3).map (·.1) = some 2 ∧
      (((b born).lane .a).sw.queue 3 2).head?.bind ((b born).lane .a).sw.frame? = some (fr born) ∧ ((b born).lane .a).sw.residue.getD 3 [] = [] ∧
      (b born).aged (fr born) = (born == 0)) ∧
    ((linked id 0).lane .a).sw.links.getD 3 .down = .up ∧ ((linked id 0).lane .a).sw.links.getD 5 .down = .down ∧
    (held.lane .a).sw.links.getD 0 .down = .hold ∧ (linked id 0).p 0x4803 3 ≠ 0 ∧
    ({ linked id 0 with params := [(pkey 0x4803 3, 0)] } : Block).p 0x4803 3 = 0 ∧ up.b.p 0x4801 3 = 0 ∧
    ((linked (fun x => { x with sweeping := true }) 0).lane .a).sw.sweeping = true ∧ ((linked id 0).lane .a).sw.sweeping = false ∧
    ((linked id 0).lane .a).sw.recov = [] ∧ (linked id 0).serves .a = true ∧ (held.p 0x4801 0 ≠ 0 ∧ held.serves .a = true) := by decide +kernel

/-! ## Single steps against the spec's own figures -/

/-- The check values of R102 and R194 over the nine ASCII digits. -/
theorem test_check_values :
    crc32c [0x31, 0x32, 0x33, 0x34, 0x35, 0x36, 0x37, 0x38, 0x39] = 0xE3069283 ∧
    crc16 [0x31, 0x32, 0x33, 0x34, 0x35, 0x36, 0x37, 0x38, 0x39] = 0x29B1 := by decide +kernel

/-- What an outcome leaves in the response list: opcode and status of each. -/
def answers (o : Host.Outcome State Fault Refusal) : List (Nat × Status) :=
  match o with
  | .next t => t.b.mail.done.map fun a => (a.opcode, a.status)
  | _ => []

/-- NOP of a partition is OK, MODULE_INFO with a payload BAD_PARAM (R120), a governor opcode from a partition DENIED (R105). -/
theorem test_requests_answer :
    answers (exec (.nop (part3 [1, 2, 3, 4])) up) = [(0x0001, .ok)] ∧
    answers (exec (.moduleInfo (part3 [1, 2, 3, 4])) up) = [(0x0002, .badParam)] ∧
    answers (exec (.sliceDestroy (part3 [3, 0, 0, 0, 0, 0, 0, 0])) up) = [(0x1004, .denied)] ∧
    answers (exec (.nop (part3 [])) State.reset) = [] := by decide +kernel

/-- CHAN_SET of a channel that is not enabled is NOT_ACTIVE, of an index beyond 63 BAD_PARAM (R168, R170). -/
theorem test_channel_answers :
    answers (exec (.chanSet (part3 [5, 1, 0, 0])) up) = [(0x2001, .notActive)] ∧
    answers (exec (.chanSet (part3 [64, 1, 0, 0])) up) = [(0x2001, .badParam)] := by decide +kernel

/-- The single-pulse limit at 85, 117.5 and 150 degrees: the class value, half of it and zero (R185). -/
theorem test_pulse_limit : pulseLimitUj 5 1175 * 2 = pulseLimitUj 5 850 ∧ pulseLimitUj 5 1500 = 0 ∧ 0 < pulseLimitUj 5 850 := by
  decide +kernel

end Sys2Proof.Tests
end

section
/-! PROOF. A copied request meets the checks 1 to 3 of R105: CRC-32C as R102 describes it, one equation for each way
`State.accept` ends, and the command that carries out a request that passes. -/

namespace Sys2Proof

/-- One byte of a reflected CRC is its eight bits in turn, behind the XOR with the byte. -/
theorem crcByteR_eq_eight_steps (poly x : Nat) (v : Byte) :
    let bit := crcStepR poly
    crcByteR poly x v = bit (bit (bit (bit (bit (bit (bit (bit (x ^^^ v.toNat)))))))) := by
  simp [crcByteR, List.range_succ]

/-- CRC-32C folds the eight bits of each byte between an initial value and a final XOR of ones (R102). -/
theorem crc32c_eq_foldl_steps (c : List Byte) :
    let bit := crcStepR 0x82F63B78
    crc32c c =
      (c.foldl (fun x v => bit (bit (bit (bit (bit (bit (bit (bit (x ^^^ v.toNat))))))))) 0xFFFFFFFF) ^^^ 0xFFFFFFFF := by
  simp only [crc32c, funext fun x => funext (crcByteR_eq_eight_steps 0x82F63B78 x)]

/-- The polynomial of the model is the one of R102 with its bits in reverse order. -/
theorem crc32c_poly_reflected : ∀ i < 32, (0x82F63B78).testBit i = (0x1EDC6F41).testBit (31 - i) := by decide

/-- The check value of R102 over the nine ASCII digits. -/
theorem crc32c_nine_digits : crc32c [0x31, 0x32, 0x33, 0x34, 0x35, 0x36, 0x37, 0x38, 0x39] = 0xE3069283 := by decide +kernel

/-- Check 1 compares the CRC of header bytes 0 to 27 and the payload with the little-endian word at byte 28 (R102). -/
theorem checkWordOk_iff (c : List Byte) :
    checkWordOk c = true ↔ crc32c (c.take 28 ++ c.drop 64) = leNat (bytesAt c 28 4) := beq_iff_eq

/-- A duplicate whose original has its final response gets a copy at once (R104). -/
theorem Block.askAgain_answered {b : Block} {r : Req} {e : Recent} {a : Response} (h : e.answer = some a) :
    b.askAgain r e = b.modMail fun m => { m with done := m.done ++ [a.forAsker r] } := by
  simp only [Block.askAgain, h]

end Sys2Proof

namespace Sys2Proof.Machine

/-- Of two blocks put in place the later one stands. -/
@[simp] theorem State.withBlock_withBlock (s : State) (b b' : Block) : (s.withBlock b).withBlock b' = s.withBlock b' := rfl

/-- A command that is a request does what its opcode does for a copied request. -/
theorem exec_eq_serveOp {c : Instr} {op : Nat} {q : Req} (s : State) (h : c.request? = some (op, q)) :
    exec c s = serveOp op q s := by
  cases c <;> simp only [Instr.request?, Option.some.injEq, Prod.mk.injEq, reduceCtorEq] at h
  all_goals
    obtain ⟨rfl, rfl⟩ := h
    rfl

/-- A request command answers a next state, the one its opcode's meaning leaves. -/
theorem exec_eq_next_outState {c : Instr} {op : Nat} {q : Req} (s : State) (h : c.request? = some (op, q)) :
    exec c s = .next (outState s (serveOp op q s)) := by
  obtain ⟨run, n, hnext, -⟩ := exec_request s h
  rw [← exec_eq_serveOp s h, hnext]
  rfl

section Accept

variable {s : State} {path : Path} {c : List Byte} {stamp : Nat} {un : Bool}

/-- Check 1 fails: BAD_CHECK is completed and nothing is remembered. -/
theorem State.accept_badCheck (hcheck : checkWordOk c = false) :
    s.accept path c stamp un = s.withBlock (s.b.modMail fun m => { m with done := m.done ++
      [{ (reqOf path c stamp un).answer (fieldAt c 0 2) .badCheck [] .none true true with asked := [] }] }) := by
  simp only [State.accept, hcheck, Bool.not_false, if_true]

/-- An accepted request asks again (R104). -/
theorem State.accept_duplicate {e : Recent} (hcheck : checkWordOk c = true)
    (hdup : s.b.duplicate? (reqOf path c stamp un) = some e) :
    s.accept path c stamp un = s.withBlock (s.b.askAgain (reqOf path c stamp un) e) := by
  simp [State.accept, hcheck, hdup]

/-- Check 2 fails. -/
theorem State.accept_badHeader (hcheck : checkWordOk c = true) (hnew : s.b.duplicate? (reqOf path c stamp un) = none)
    (hhead : headerOk path.prid c = false) :
    s.accept path c stamp un =
      s.withBlock ((s.b.accepted (reqOf path c stamp un)).reply (reqOf path c stamp un) (fieldAt c 0 2) .badParam) := by
  simp [State.accept, hcheck, hnew, hhead]

/-- Check 3 fails. -/
theorem State.accept_badOpcode (hcheck : checkWordOk c = true) (hnew : s.b.duplicate? (reqOf path c stamp un) = none)
    (hhead : headerOk path.prid c = true) (hop : opInfo? (fieldAt c 0 2) = none) :
    s.accept path c stamp un =
      s.withBlock ((s.b.accepted (reqOf path c stamp un)).reply (reqOf path c stamp un) (fieldAt c 0 2) .badOpcode) := by
  simp [State.accept, hcheck, hnew, hhead, hop]

/-- The checks 1 to 3 pass for a request that confirms no wake: its opcode's meaning runs. -/
theorem State.accept_served (hcheck : checkWordOk c = true) (hnew : s.b.duplicate? (reqOf path c stamp un) = none)
    (hhead : headerOk path.prid c = true) (hop : (opInfo? (fieldAt c 0 2)).isSome = true)
    (hwake : confirmsWake (fieldAt c 0 2) (reqOf path c stamp un) = false) :
    s.accept path c stamp un =
      let t := s.withBlock (s.b.accepted (reqOf path c stamp un))
      outState t (serveOp (fieldAt c 0 2) (reqOf path c stamp un) t) := by
  simp [State.accept, hcheck, hnew, hhead, Option.isSome_iff_ne_none.mp hop, hwake]

end Accept

/-- Settles O33: the CRC of R102, then one case for each of the first three checks and the duplicate rule. -/
theorem copiedRequestsMeetTheirChecks : Obligations.CopiedRequestsMeetTheirChecks := by
  intro s path c stamp un r op
  refine ⟨checkWordOk_iff c, ⟨crc32c_eq_foldl_steps c, crc32c_poly_reflected, crc32c_nine_digits⟩, State.accept_badCheck, ?_,
    fun hcheck hnew => ⟨?_, ?_, ?_⟩⟩
  · intro e a hcheck hdup hanswer
    rw [State.accept_duplicate hcheck hdup, Block.askAgain_answered hanswer]
  · exact fun hhead => ⟨_, State.accept_badHeader hcheck hnew hhead, Block.reply_answered _ r op .badParam rfl⟩
  · exact fun hhead hop => ⟨_, State.accept_badOpcode hcheck hnew hhead hop, Block.reply_answered _ r op .badOpcode rfl⟩
  · intro cmd hhead hop hwake hcmd
    rw [State.accept_served hcheck hnew hhead hop hwake]
    exact exec_eq_next_outState _ hcmd

end Sys2Proof.Machine
end

section
/-! PROOF. Slices are queried and thawed: what using a challenge up leaves of a slice, what SLICE_QUERY and THAW run behind
their checks, the request that check 5 refuses without a violation, and what a thaw changes at its boundary. -/

namespace Sys2Proof

/-! ## What a heard request finds -/

@[simp] theorem Block.heard_part (b : Block) (q : Req) : (b.heard q).part = b.part := by rw [Block.heard_eq]

/-- A challenge used up leaves the pending requests. -/
@[simp] theorem Block.heard_pend (b : Block) (q : Req) : (b.heard q).mail.pend = b.mail.pend := by
  unfold Block.heard Block.setChallenge
  cases q.auth
  · rfl
  · cases q.path <;> rfl

@[simp] theorem Block.slice_heard (b : Block) (q : Req) (p : Nat) : (b.heard q).slice p = b.slice p := by simp [Block.slice]

@[simp] theorem Block.partState_heard (b : Block) (q : Req) (p : Nat) : (b.heard q).partState p = b.partState p := by
  simp [Block.partState]

@[simp] theorem Block.freePool_heard (b : Block) (q : Req) : (b.heard q).freePool = b.freePool := by
  rw [Block.heard_eq]
  rfl

/-! ## SLICE_QUERY and THAW behind their checks -/

/-- A head that names a PRID stays well formed where the pool may be named too. -/
theorem headOk_mono {l : List Byte} {m n : Nat} (hmn : m ≤ n) (h : headOk l m = true) : headOk l n = true := by
  simp only [headOk, Bool.and_eq_true, decide_eq_true_eq] at h ⊢
  obtain ⟨⟨hlen, hprid⟩, hzero⟩ := h
  exact ⟨⟨hlen, Nat.le_trans hprid hmn⟩, hzero⟩

/-- SLICE_QUERY of a PRID answers the PRID's slice (R552). -/
theorem Block.runSliceQuery_slice {b : Block} {q : Req} {p : Prid} (hhead : headOk q.pay 31 = true)
    (hp : byteAt q.pay 0 = p.val) :
    b.runSliceQuery q = b.ok q 0x1005 (queryPay p (b.partState p) (b.slice p).recs) := by
  have hhead32 : headOk q.pay 32 = true := headOk_mono (by decide) hhead
  simp only [Block.runSliceQuery, hhead32, Block.check7_good, hp, if_neg (Nat.ne_of_lt p.isLt)]

/-- SLICE_QUERY of PRID field 0x20 answers the free pool (R552). -/
theorem Block.runSliceQuery_pool {b : Block} {q : Req} (hhead : headOk q.pay 32 = true) (hp : byteAt q.pay 0 = 32) :
    b.runSliceQuery q = b.ok q 0x1005 (queryPay 32 0 b.freePool) := by
  simp only [Block.runSliceQuery, hhead, Block.check7_good, hp, if_pos]

/-- THAW of a PRID answers OK, and the thaw waits for that response to become visible (R153). -/
theorem Block.runThaw_ok {b : Block} {q : Req} {p : Prid} (hhead : headOk q.pay 31 = true) (hp : byteAt q.pay 0 = p.val) :
    b.runThaw q = b.finish q 0x1006 .ok [] (.thaw p) := by
  simp only [Block.runThaw, hhead, Block.check7_good, hp, Fin.ofNat_val_eq_self]

/-! ## Check 5 without a violation -/

/-- A request that check 5 refuses without a violation is answered DENIED and nothing else (R105). -/
theorem Block.serve_deniedQuietly {b : Block} {op : Nat} {q : Req} (hserves : b.anyServes = true)
    (hfree : b.mustWait op q = false) (hslot : q.slotOk = true) (hpermit : (opInfo op).permits q.path = true)
    (hsecured : q.unsecured = false) (hkept : b.resizedBy q (namedObjects op q.pay) = false)
    (hdeny : b.check5 op q (namedObjects op q.pay) = some none) (run : Block → Block) :
    b.serve op q run = b.reply q op .denied := by
  rw [opInfo] at hpermit
  simp [Block.serve, hserves, hfree, hslot, hpermit, hsecured, hkept, hdeny]

/-- Check 5 refuses a partition the query of another PRID or of the pool, and calls it no violation (R552). -/
theorem Block.check5_queryOfAnother {b : Block} {q : Req} {p : Prid} {objs : List Named} (hpath : q.path = .part p)
    (hlen : q.pay.length = 8) (hother : byteAt q.pay 0 ≠ p.val) (hin : b.outside? q objs = none) :
    b.check5 0x1005 q objs = some none := by
  simp [Block.check5, hin, hpath, Block.denies, hlen, hother]

/-! ## The thaw at its boundary -/

/-- An access of the PRID that stalled at the gate is abandoned with an access fault (R152). -/
def PairSt.abandon (p : Nat) (x : PairSt) : PairSt :=
  match x.stalled with
  | some (_, q) => if q = p then { x with stalled := none, result := .fault } else x
  | none => x

/-- A stalled access of the PRID ends in a fault. -/
theorem PairSt.abandon_stalled {x : PairSt} {p : Nat} {a : Access} (h : x.stalled = some (a, p)) :
    x.abandon p = { x with stalled := none, result := .fault } := by
  simp [PairSt.abandon, h]

/-- The excess-window counts of a PRID start anew (R153). -/
def Rates.restart (x : Rates) : Rates := { x with mailOver := 0, cipherOver := 0, bridgeOver := 0 }

/-- The rate accounts changed. -/
@[simp] theorem Block.rates_modRates (b : Block) (p : Nat) (f : Rates → Rates) (h : p < b.part.rates.length) :
    (b.modRates p f).rates p = f (b.rates p) := updAt_getD_same _ _ _ _ h

/-- Either lane when both change. -/
@[simp] theorem Block.lane_modLanes (b : Block) (f : LaneSt → LaneSt) (l : Lane) : (b.modLanes f).lane l = f (b.lane l) := by
  cases l <;> rfl

/-- An event raised leaves the application pairs. -/
@[simp] theorem Block.raise_pairs (b : Block) (l m : Lane) (ev cause subject : Nat) (detail : Int) :
    ((b.raise l ev cause subject detail).lane m).pairs = (b.lane m).pairs := by
  unfold Block.raise
  dsimp only
  split
  case isTrue => rfl
  case isFalse =>
    split
    · cases l <;> cases m <;> rfl
    · rfl

@[simp] theorem Block.raiseAll_pairs (b : Block) (m : Lane) (ev cause subject : Nat) (detail : Int) :
    ((b.raiseAll ev cause subject detail).lane m).pairs = (b.lane m).pairs := by
  simp [Block.raiseAll]

@[simp] theorem Block.raiseAll_part (b : Block) (ev cause subject : Nat) (detail : Int) :
    (b.raiseAll ev cause subject detail).part = b.part := by
  obtain ⟨lanes, evs, h⟩ := Block.raiseAll_frame b ev cause subject detail
  rw [h]

/-- The thaw of a PRID that is not frozen changes nothing (R153). -/
theorem Block.thawNow_thawed {b : Block} {p : Nat} (h : (b.slice p).frozen = false) : b.thawNow p = b := by
  simp [Block.thawNow, h]

/-- The thaw of a frozen PRID: its slice, its rate accounts, the pairs of both lanes, and EV029 (R152, R153). -/
theorem Block.thawNow_frozen {b : Block} {p : Nat} (h : (b.slice p).frozen = true) :
    b.thawNow p = (((b.modSlice p fun s => { s with frozen := false }).modRates p Rates.restart).modLanes fun l =>
      { l with pairs := l.pairs.map (PairSt.abandon p) }).raiseAll 29 0 p (toSigned 4 ((b.viol p).addr % 2 ^ 32)) := by
  unfold Block.thawNow
  rw [h]
  rfl

/-- Of the partitions a thaw changes the slice and the rate accounts of the PRID alone. -/
theorem Block.thawNow_part {b : Block} {p : Nat} (h : (b.slice p).frozen = true) :
    (b.thawNow p).part = ((b.modSlice p fun s => { s with frozen := false }).modRates p Rates.restart).part := by
  rw [Block.thawNow_frozen h, Block.raiseAll_part, Block.modLanes_part]

/-- Behind a thaw the PRID is not frozen. -/
theorem Block.thawNow_notFrozen {b : Block} {p : Nat} (hp : p < b.part.slices.length) :
    ((b.thawNow p).slice p).frozen = false := by
  cases h : (b.slice p).frozen with
  | false => rw [Block.thawNow_thawed h, h]
  | true =>
    rw [Block.slice, Block.thawNow_part h]
    exact congrArg Slice.frozen (Block.slice_modSlice b p _ hp)

/-- A thaw restarts the excess-window counts of a frozen PRID. -/
theorem Block.rates_thawNow {b : Block} {p : Nat} (h : (b.slice p).frozen = true) (hp : p < b.part.rates.length) :
    (b.thawNow p).rates p = (b.rates p).restart := by
  rw [Block.rates, Block.thawNow_part h]
  exact Block.rates_modRates b p Rates.restart hp

/-- A thaw of a frozen PRID abandons what stalled, on every pair of both lanes. -/
theorem Block.pair_thawNow {b : Block} {p : Nat} (h : (b.slice p).frozen = true) (l : Lane) (k : Nat) :
    ((b.thawNow p).lane l).pair k = ((b.lane l).pair k).abandon p := by
  have hpairs : ((b.thawNow p).lane l).pairs = (b.lane l).pairs.map (PairSt.abandon p) := by
    rw [Block.thawNow_frozen h, Block.raiseAll_pairs, Block.lane_modLanes]
    rfl
  have hfresh : PairSt.fresh = PairSt.fresh.abandon p := rfl
  simp only [LaneSt.pair, hpairs, List.getD_eq_getElem?_getD, List.getElem?_map]
  rw [hfresh, Option.getD_map, ← hfresh]

end Sys2Proof

namespace Sys2Proof.Machine

/-- The query of another PRID by a partition is answered DENIED, from the block as it stands (R552). -/
theorem answersFrom_queryOfAnother {s : State} {q : Req} {p : Prid} (hheard : Heard (.sliceQuery q) s 0x1005 q)
    (hsecured : q.unsecured = false) (hpath : q.path = .part p) (hlen : q.pay.length = 8) (hother : byteAt q.pay 0 ≠ p.val)
    (hkept : s.b.resizedBy q (namedObjects 0x1005 q.pay) = false)
    (hin : s.b.outside? q (namedObjects 0x1005 q.pay) = none) :
    AnswersFrom (.sliceQuery q) s s.b (q.response 0x1005 .denied [] .none) := by
  obtain ⟨hreq, hserves, hfree, hslot⟩ := hheard
  have hpermit : (opInfo 0x1005).permits q.path = true := by rw [hpath]; rfl
  have hdeny := Block.check5_queryOfAnother hpath hlen hother hin
  exact ⟨_, exec_request_of hreq (Block.serve_deniedQuietly hserves hfree hslot hpermit hsecured hkept hdeny) rfl,
    Block.reply_answered _ q 0x1005 .denied rfl⟩

/-- Settles O17: the two answers of SLICE_QUERY and the refusal (R552; a refusal without a violation is the choice of log
entries 45 and 60, the payload that of entry 127), then THAW and what it does when its response is visible (R152, R153). -/
theorem slicesQueryAndThaw : Obligations.SlicesQueryAndThaw := by
  intro s q
  refine ⟨fun p hpass hhead hp _ hroom => ?_, fun hpass hhead hp _ hroom => ?_,
    fun p hheard hsecured hpath hlen hother hkept hin => ?_,
    fun p hpass hhead hp hslices => ⟨?_, ?_, Block.thawNow_thawed, fun hfrozen => ⟨fun hrates => ?_, fun l k a hstall => ?_⟩⟩⟩
  · refine answersFrom_of (fun b => b.runSliceQuery q) rfl hpass ?_
    rw [Block.runSliceQuery_slice hhead hp, Block.partState_heard, Block.slice_heard]
    exact Block.finish_answered _ q 0x1005 .ok _ .none hroom rfl
  · refine answersFrom_of (fun b => b.runSliceQuery q) rfl hpass ?_
    rw [Block.runSliceQuery_pool hhead hp, Block.freePool_heard]
    exact Block.finish_answered _ q 0x1005 .ok _ .none hroom rfl
  · exact answersFrom_queryOfAnother hheard hsecured hpath hlen hother hkept hin
  · refine answersFrom_of (fun b => b.runThaw q) rfl hpass ?_
    rw [Block.runThaw_ok hhead hp]
    exact Block.finish_answered _ q 0x1006 .ok [] (.thaw p) (Nat.zero_le _) rfl
  · exact Block.thawNow_notFrozen (Nat.lt_of_lt_of_eq p.isLt hslices.symm)
  · have hrestart : (s.b.thawNow p).rates p = (s.b.rates p).restart := Block.rates_thawNow hfrozen (Nat.lt_of_lt_of_eq p.isLt hrates.symm)
    exact ⟨congrArg Rates.mailOver hrestart, congrArg Rates.cipherOver hrestart, congrArg Rates.bridgeOver hrestart⟩
  · have habandon : ((s.b.thawNow p).lane l).pair k = ((s.b.lane l).pair k).abandon p := Block.pair_thawNow hfrozen l k
    rw [PairSt.abandon_stalled hstall] at habandon
    exact ⟨congrArg PairSt.result habandon, congrArg PairSt.stalled habandon⟩

end Sys2Proof.Machine
end

section
/-! PROOF. What switching a channel leaves of its die: a view of the dies that an operation keeps, and the operations of switching
and the commands of a channel under the view that forgets what they change. -/

namespace Sys2Proof

/-! ## What an operation keeps of every die -/

/-- An update that a view does not show leaves the view of the list. -/
theorem updAt_map_of_view {α β : Type} {view : α → β} {f : α → α} (l : List α) (i : Nat) (h : ∀ x, view (f x) = view x) :
    (updAt l i f).map view = l.map view := by
  refine List.ext_getElem? fun j => ?_
  rw [List.getElem?_map, List.getElem?_map, updAt_getElem?]
  split
  · simp [Function.comp_def, h]
  · rfl

/-- Every die shows under a view what it showed before. -/
def Block.Keeps {α : Type} (view : DieSt → α) (b t : Block) : Prop := t.dies.map view = b.dies.map view

section Keeps

variable {α β : Type} {view : DieSt → α} {b t u : Block}

theorem Block.Keeps.refl (view : DieSt → α) (b : Block) : b.Keeps view b := rfl

theorem Block.Keeps.trans (h : b.Keeps view t) (g : t.Keeps view u) : b.Keeps view u := Eq.trans g h

/-- What two blocks keep, the one that a condition chooses keeps. -/
theorem Block.Keeps.ite {q : Prop} [Decidable q] (ht : b.Keeps view t) (hu : b.Keeps view u) :
    b.Keeps view (if q then t else u) := by
  split
  · exact ht
  · exact hu

/-- A view of what a view shows is kept with it. -/
theorem Block.Keeps.mono {view' : DieSt → β} (h : b.Keeps view t) (g : α → β) (hg : ∀ x, view' x = g (view x)) :
    b.Keeps view' t := by
  have hcomp : view' = g ∘ view := funext hg
  have := congrArg (List.map g) h
  rwa [List.map_map, List.map_map, ← hcomp] at this

/-- No die came or went. -/
theorem Block.Keeps.length (h : b.Keeps view t) : t.dies.length = b.dies.length := by
  simpa using congrArg List.length h

/-- One die under the view. -/
theorem Block.Keeps.die (h : b.Keeps view t) (d : Nat) : view (t.die d) = view (b.die d) := by
  have hget := congrArg (fun l => l[d]?.getD (view DieSt.delivered)) h
  simpa [Block.die, List.getD_eq_getElem?_getD] using hget

/-- A change of one die that its view does not show. -/
theorem Block.modDie_keeps (b : Block) (d : Nat) {f : DieSt → DieSt} (h : ∀ x, view (f x) = view x := by intro; rfl) :
    b.Keeps view (b.modDie d f) := updAt_map_of_view b.dies d h

/-- A die changed twice. -/
theorem Block.modDie_modDie (b : Block) (d : Nat) (f g : DieSt → DieSt) :
    (b.modDie d f).modDie d g = b.modDie d fun x => g (f x) := by
  simp only [Block.modDie, updAt_updAt]

/-- A die changed into itself. -/
theorem Block.modDie_self {b : Block} {d : Nat} {f : DieSt → DieSt} (h : f (b.die d) = b.die d) : b.modDie d f = b := by
  have hlist : updAt b.dies d f = b.dies := updAt_id _ _ _ fun x hx => by
    simpa [Block.die, List.getD_eq_getElem?_getD, hx] using h
  rw [Block.modDie, hlist]

end Keeps

/-! ## Switching -/

/-- A channel without what switching and the commands of R171 change. -/
def ChanSt.unswitched (x : ChanSt) : ChanSt :=
  { x with phase := .off, command := .off, freq := 0, duty := 0, cmdDuty := 0, nextPwm := none, inSlot := false, queued := .none,
           onDue := false, waitFeed := false, inrush := false, stretched := false, clampMode := false, fastOff := false,
           thermHold := false, nbrHold := false, thermLatch := false, retryLatch := false, retryUsed := 0, openRun := 0,
           shortRun := 0 }

/-- A die without what switching its channels changes. -/
def DieSt.unswitched (x : DieSt) : DieSt := { x with chans := x.chans.map ChanSt.unswitched, pwmRefs := [] }

/-- What switching leaves of a channel. -/
theorem Block.Keeps.chan_unswitched {b t : Block} (h : b.Keeps DieSt.unswitched t) (c : Nat) :
    (t.chan c).unswitched = (b.chan c).unswitched := by
  have hchans : (t.die (c / 16)).chans.map ChanSt.unswitched = (b.die (c / 16)).chans.map ChanSt.unswitched :=
    congrArg DieSt.chans (h.die (c / 16))
  have hget := congrArg (fun l => l[c % 16]?.getD ChanSt.fresh.unswitched) hchans
  simpa [Block.chan, DieSt.chan, List.getD_eq_getElem?_getD] using hget

/-- A change of a channel within what switching changes. -/
theorem Block.modChan_switches (b : Block) (c : Nat) {f : ChanSt → ChanSt}
    (h : ∀ x, (f x).unswitched = x.unswitched := by intro; rfl) :
    b.Keeps DieSt.unswitched (b.modChan c f) :=
  Block.modDie_keeps b _ fun x => by
    rw [DieSt.modChan, DieSt.unswitched, updAt_map_of_view x.chans (c % 16) h]
    rfl

theorem Block.turnOn_switches (b : Block) (c : Nat) (ph : Phase) : b.Keeps DieSt.unswitched (b.turnOn c ph) :=
  Block.modChan_switches b c

theorem Block.turnOff_switches (b : Block) (c : Nat) (fast : Bool) : b.Keeps DieSt.unswitched (b.turnOff c fast) :=
  Block.modChan_switches b c fun _ => by dsimp only; split <;> rfl

theorem Block.setDuty_switches (b : Block) (c : Nat) : b.Keeps DieSt.unswitched (b.setDuty c) :=
  Block.modChan_switches b c

theorem Block.placeSlot_switches (b : Block) (c freq : Nat) : b.Keeps DieSt.unswitched (b.placeSlot c freq) :=
  (Block.modDie_keeps b (c / 16)).trans (Block.modChan_switches _ c)

theorem Block.startPwm_switches (b : Block) (c freq duty : Nat) : b.Keeps DieSt.unswitched (b.startPwm c freq duty) := by
  have hstart : b.Keeps DieSt.unswitched (if (b.chan c).phase.isOff then b.turnOn c .pwmOn
      else b.modChan c fun x => { x with phase := .pwmOn, onDue := false }) :=
    .ite (Block.turnOn_switches b c _) (Block.modChan_switches b c)
  exact ((hstart.trans (Block.modChan_switches _ c)).trans (Block.placeSlot_switches _ c freq)).trans
    (Block.setDuty_switches _ c)

theorem Block.goOn_switches (b : Block) (c : Nat) : b.Keeps DieSt.unswitched (b.goOn c) := by
  unfold Block.goOn
  dsimp only
  repeat' split
  · exact .refl _ b
  · exact Block.modChan_switches b c
  · exact .refl _ b
  · exact Block.turnOn_switches b c _
  · exact Block.startPwm_switches b c _ _

theorem Block.recallStored_switches (b : Block) (c : Nat) : b.Keeps DieSt.unswitched (b.recallStored c) := by
  unfold Block.recallStored
  dsimp only
  repeat' split
  · exact .refl _ b
  · exact Block.modChan_switches b c
  · exact Block.modChan_switches b c
  · exact .refl _ b

/-- What a channel does when its turn-off or a hold has ended is switching alone. -/
theorem Block.settle_switches (b : Block) (c : Nat) : b.Keeps DieSt.unswitched (b.settle c) := by
  unfold Block.settle
  split
  · exact .refl _ b
  · have hrecall := Block.recallStored_switches b c
    dsimp only
    repeat' split
    · exact hrecall.trans ((Block.modChan_switches _ c).trans (Block.goOn_switches _ c))
    · exact hrecall.trans ((Block.modChan_switches _ c).trans (Block.goOn_switches _ c))
    · exact hrecall
    · exact hrecall.trans (Block.modChan_switches _ c)
    · exact hrecall.trans (Block.goOn_switches _ c)

theorem Block.cmdOff_switches (b : Block) (c : Nat) : b.Keeps DieSt.unswitched (b.cmdOff c).1 :=
  (Block.modChan_switches b c).trans (Block.turnOff_switches _ c false)

theorem Block.nextPeriod_switches (b : Block) (c : Nat) (p : Nat × Nat) : b.Keeps DieSt.unswitched (b.nextPeriod c p).1 := by
  unfold Block.nextPeriod
  dsimp only
  split
  · exact .refl _ b
  · exact Block.modChan_switches b c

/-- An on-command or a PWM command, whatever it meets, is switching alone. -/
theorem Block.cmdOn_switches (b : Block) (c : Nat) (pwm : Option (Nat × Nat)) : b.Keeps DieSt.unswitched (b.cmdOn c pwm).1 := by
  unfold Block.cmdOn
  dsimp only
  repeat' split
  -- a refusal leaves the block, a command that is recorded or queued changes the channel alone
  any_goals exact .refl _ b
  any_goals exact Block.modChan_switches b c
  · exact Block.nextPeriod_switches b c _
  · exact Block.startPwm_switches b c _ _
  · exact Block.startPwm_switches b c _ _
  · exact Block.nextPeriod_switches b c _
  · exact Block.nextPeriod_switches b c _
  · exact (Block.modChan_switches b c).trans (Block.goOn_switches _ c)
  · exact (Block.modChan_switches b c).trans (Block.goOn_switches _ c)

theorem Block.cmdPwm_switches (b : Block) (c freq duty : Nat) : b.Keeps DieSt.unswitched (b.cmdPwm c freq duty).1 := by
  unfold Block.cmdPwm
  repeat' split
  · exact Block.cmdOff_switches b c
  · exact Block.cmdOn_switches b c none
  · exact Block.cmdOn_switches b c _

end Sys2Proof
end

section
/-! PROOF. Command frames at a power die: the bytes of a frame spell it, what carrying a frame out leaves of a die, what acting on
one records, and what a port does with a frame. -/

namespace Sys2Proof

/-! ## The bytes of a frame (R192-R194) -/

/-- The number that the bytes of a number spell. -/
theorem leNat_leBytes (n v : Nat) : leNat (leBytes n v) = v % 256 ^ n := by
  induction n generalizing v with
  | zero => simp [leBytes, leNat, Nat.mod_one]
  | succ n ih =>
    rw [leBytes, leNat, ih, BitVec.toNat_ofNat, Nat.pow_succ' (m := 256) (n := n)]
    exact Nat.mod_mul.symm

@[simp] theorem leBytes_length (n v : Nat) : (leBytes n v).length = n := by
  induction n generalizing v with
  | zero => rfl
  | succ n ih => simp [leBytes, ih]

/-- One bit of a CRC-16 stays within 16 bits. -/
theorem crcStepN_lt (c : Nat) : crcStepN 16 0x1021 c < 2 ^ 16 := by
  have hshift : 2 * c % 2 ^ 16 < 2 ^ 16 := Nat.mod_lt _ (by decide)
  unfold crcStepN
  split
  · exact Nat.xor_lt_two_pow hshift (by decide)
  · exact hshift

/-- A check word of a power command frame has 16 bits (R194). -/
theorem crc16_lt (l : List Byte) : crc16 l < 2 ^ 16 :=
  foldl_keeps (· < 2 ^ 16) (by decide) fun _ _ _ => crcStepN_lt _

/-- A port takes 12 bytes with their right check word and the nibble of a sequenced kind for a frame of that kind (R192, R193). -/
theorem portFrame_seq {l : List Byte} {k : SeqKind} (hlen : l.length = 12) (hcrc : crc16 (l.take 10) = fieldAt l 10 2)
    (hkind : byteAt l 0 / 16 = k.code) :
    portFrame l = .seq k { num := BitVec.ofNat 16 (fieldAt l 2 2), idx := Fin.ofNat 16 (byteAt l 0), arg := bytesAt l 4 6 } := by
  unfold portFrame
  rw [if_neg (by simp [hlen, hcrc]), hkind]
  cases k <;> rfl

/-- The first byte of a frame holds its kind nibble and its index. -/
theorem byteAt_bytes_zero (k : SeqKind) (f : LinkFrame) : byteAt (f.bytes k) 0 = 16 * k.code + f.idx.val := by
  have hcode : k.code ≤ 8 := by cases k <;> decide
  have hbyte : byteAt (f.bytes k) 0 = (16 * k.code + f.idx.val) % 2 ^ 8 := BitVec.toNat_ofNat ..
  omega

/-- The sequence number stands in bytes 2 and 3. -/
theorem fieldAt_bytes_num (k : SeqKind) (f : LinkFrame) : fieldAt (f.bytes k) 2 2 = f.num.toNat := by
  have hbytes : bytesAt (f.bytes k) 2 2 = leBytes 2 f.num.toNat := rfl
  rw [fieldAt, hbytes, leNat_leBytes]
  exact Nat.mod_eq_of_lt f.num.isLt

/-- The 12 bytes of a frame spell that frame (R192-R194). -/
theorem portFrame_bytes {k : SeqKind} {f : LinkFrame} (harg : f.arg.length = 6) : portFrame (f.bytes k) = .seq k f := by
  have hbody : (frameBody k.code f.idx.val 0 f.num.toNat f.arg).length = 10 := by simp [frameBody, harg]
  have hlen : (f.bytes k).length = 12 := by simp [LinkFrame.bytes, frameBytes, hbody]
  have hcrc : crc16 ((f.bytes k).take 10) = fieldAt (f.bytes k) 10 2 := by
    simp only [LinkFrame.bytes, frameBytes, fieldAt, bytesAt, List.take_left' hbody, List.drop_left' hbody]
    rw [List.take_of_length_le (by simp), leNat_leBytes]
    exact (Nat.mod_eq_of_lt (crc16_lt _)).symm
  have hfirst := byteAt_bytes_zero k f
  have hidx : Fin.ofNat 16 (byteAt (f.bytes k) 0) = f.idx := by
    ext
    rw [hfirst]
    simp only [Fin.ofNat]
    omega
  have harg' : bytesAt (f.bytes k) 4 6 = f.arg := List.take_left' harg
  have hkind : byteAt (f.bytes k) 0 / 16 = k.code := by omega
  rw [portFrame_seq hlen hcrc hkind, fieldAt_bytes_num, hidx, harg', BitVec.ofNat_toNat, BitVec.setWidth_eq]

/-! ## Carrying a frame out (R193) -/

/-- What no frame changes when a die carries it out: the standby copies held and the marks of invalid records. -/
def DieSt.standbyAndMarks (x : DieSt) : List DieFrame × Bool × Bool := (x.held, x.storeBad, x.isoBad)

/-- Switching leaves the standby copies and the marks. -/
theorem Block.Keeps.standbyAndMarks {b t : Block} (h : b.Keeps DieSt.unswitched t) : b.Keeps DieSt.standbyAndMarks t :=
  h.mono DieSt.standbyAndMarks fun _ => rfl

/-- Any change of a channel leaves the standby copies and the marks. -/
theorem Block.modChan_keeps_standbyAndMarks (b : Block) (c : Nat) (f : ChanSt → ChanSt) :
    b.Keeps DieSt.standbyAndMarks (b.modChan c f) :=
  Block.modDie_keeps b _

/-- Another preferred port leaves the standby copies and the marks. -/
theorem DieSt.prefer_standbyAndMarks (x : DieSt) (p : Lane) : (x.prefer p).standbyAndMarks = x.standbyAndMarks := by
  unfold DieSt.prefer
  split <;> rfl

@[simp] theorem DieSt.prefer_preferred (x : DieSt) (p : Lane) : (x.prefer p).preferred = p := by
  unfold DieSt.prefer
  split
  · assumption
  · rfl

@[simp] theorem DieSt.prefer_failSafe (x : DieSt) (p : Lane) : (x.prefer p).failSafe = x.failSafe := by
  unfold DieSt.prefer
  split <;> rfl

/-- A MULTI commands its channels one by one. -/
theorem Block.carryMulti_keeps (b : Block) (d : Nat) (f : DieFrame) (hkind : f.kind = .multi) :
    b.Keeps DieSt.standbyAndMarks (b.carryOut d f).1 := by
  simp only [Block.carryOut, hkind]
  refine foldl_keeps (fun acc : Block × List (Nat × Nat) => b.Keeps DieSt.standbyAndMarks acc.1) (.refl _ b) fun acc k hacc => ?_
  dsimp only
  split
  · exact hacc.trans (Block.cmdOn_switches acc.1 _ none).standbyAndMarks
  · exact hacc.trans (Block.cmdOff_switches acc.1 _).standbyAndMarks

/-- A KEEP takes the die over. -/
theorem Block.carryOut_keep {b : Block} {d : Nat} {f : DieFrame} (hkind : f.kind = .keep) :
    b.carryOut d f = (b.modDie d fun x => { x with taken := true }, []) := by
  simp only [Block.carryOut, hkind]

/-- A CONF takes up one value of a channel or of the die: of a channel its enable, its phase slot, its off-state check, or another. -/
theorem Block.carryConf_keeps (b : Block) (d : Nat) (f : DieFrame) (hkind : f.kind = .conf) :
    b.Keeps DieSt.standbyAndMarks (b.carryOut d f).1 := by
  simp only [Block.carryOut, hkind]
  repeat' split
  -- a value of the die's store or watchdog changes the die alone, an unknown member nothing
  any_goals exact Block.modDie_keeps b d
  any_goals exact .refl _ b
  · exact (Block.modChan_keeps_standbyAndMarks b _ _).trans (Block.turnOff_switches _ _ false).standbyAndMarks
  · exact Block.modChan_keeps_standbyAndMarks b _ _
  · exact (Block.modDie_keeps b d).trans (Block.modChan_keeps_standbyAndMarks _ _ _)
  · exact (Block.modDie_keeps b d).trans (Block.modChan_keeps_standbyAndMarks _ _ _)

/-- Carrying a frame out leaves the standby copies and the marks of invalid records. -/
theorem Block.carryOut_keeps (b : Block) (d : Nat) (f : DieFrame) : b.Keeps DieSt.standbyAndMarks (b.carryOut d f).1 := by
  cases hkind : f.kind
  case multi => exact Block.carryMulti_keeps b d f hkind
  case conf => exact Block.carryConf_keeps b d f hkind
  all_goals simp only [Block.carryOut, hkind]
  case set =>
    split
    · exact (Block.cmdOff_switches b _).standbyAndMarks
    · exact (Block.cmdOn_switches b _ none).standbyAndMarks
  case pwm => exact (Block.modChan_keeps_standbyAndMarks b _ _).trans (Block.cmdPwm_switches _ _ _ _).standbyAndMarks
  case keep => exact Block.modDie_keeps b d
  case role => exact Block.modDie_keeps b d fun x => DieSt.prefer_standbyAndMarks x _
  case unlock => exact Block.modChan_keeps_standbyAndMarks b _ _
  case store => exact Block.modDie_keeps b d

/-- The marks of invalid records (R77, R231). -/
def DieSt.marks (x : DieSt) : Bool × Bool := (x.storeBad, x.isoBad)

/-- What keeps the standby copies and the marks keeps the marks. -/
theorem Block.Keeps.marks {b t : Block} (h : b.Keeps DieSt.standbyAndMarks t) : b.Keeps DieSt.marks t :=
  h.mono Prod.snd fun _ => rfl

/-! ## Acting on a frame (R195, R196) -/

/-- What a die records of a frame it acts on, behind carrying it out: L, the record, and one ACK last on both ports. -/
theorem Block.die_actOn {b : Block} {d : Nat} (f : DieFrame) (copy : Fin 4) (hd : d < b.dies.length) :
    ∃ gaps recent count ok queued refused out, (b.actOn d f copy).die d =
      let x := (b.carryOut d f).1.die d
      { x with lnum := f.frame.num, gaps := gaps, acted := { f with ms := (b.die d).ms } :: recent, standbyActed := count,
               toLane := x.toLane.map (· ++ [DieMsg.ack f.frame.num copy ok queued refused out]) } :=
  ⟨_, _, _, _, _, _, _, Block.die_modDie _ _ _ (Nat.lt_of_lt_of_eq hd (Block.carryOut_keeps b d f).length.symm)⟩

/-- Acting on a frame sets L to its number (R195). -/
theorem Block.actOn_lnum {b : Block} {d : Nat} (f : DieFrame) (copy : Fin 4) (hd : d < b.dies.length) :
    ((b.actOn d f copy).die d).lnum = f.frame.num := by
  obtain ⟨_, _, _, _, _, _, _, hdie⟩ := Block.die_actOn f copy hd
  rw [hdie]

/-- Acting on a frame leaves the standby copies and the marks of invalid records. -/
theorem Block.actOn_keeps (b : Block) (d : Nat) (f : DieFrame) (copy : Fin 4) :
    b.Keeps DieSt.standbyAndMarks (b.actOn d f copy) :=
  (Block.carryOut_keeps b d f).trans (Block.modDie_keeps _ d)

/-! ## The reports of a take-over (R77, R231) -/

/-- A die without invalid records has nothing to report. -/
theorem Block.reportBadStores_clean {b : Block} {d : Nat} (hstore : (b.die d).storeBad = false) (hiso : (b.die d).isoBad = false) :
    b.reportBadStores d = b := by
  simp only [Block.reportBadStores, hstore, hiso, Bool.false_eq_true, if_false]
  refine Block.modDie_self ?_
  generalize b.die d = x at hstore hiso ⊢
  cases x
  cases hstore
  cases hiso
  rfl

/-- A die's mode, preferred port and L. -/
def DieSt.mastery (x : DieSt) : Bool × Lane × Half := (x.failSafe, x.preferred, x.lnum)

/-- The reports of a take-over change neither mode nor preferred port nor L. -/
theorem Block.reportBadStores_keeps (b : Block) (d : Nat) : b.Keeps DieSt.mastery (b.reportBadStores d) := by
  have hreports (t : Block) (cause chanCause : Nat) : t.Keeps DieSt.mastery
      ((List.range 16).foldl (fun b i => b.modDie d fun x => x.report (48 + (16 * d + i)) chanCause (16 * d + i) 0)
        (t.modDie d fun x => x.report 14 cause d 0)) :=
    foldl_keeps (t.Keeps DieSt.mastery) (Block.modDie_keeps t d) fun u _ hu => hu.trans (Block.modDie_keeps u d)
  unfold Block.reportBadStores
  dsimp only
  refine Block.Keeps.trans ?_ (Block.modDie_keeps _ d)
  have hstore : b.Keeps DieSt.mastery (if (b.die d).storeBad then
      (List.range 16).foldl (fun b i => b.modDie d fun x => x.report (48 + (16 * d + i)) 0x24 (16 * d + i) 0)
        (b.modDie d fun x => x.report 14 1 d 0) else b) := .ite (hreports b 1 0x24) (.refl _ b)
  exact .ite (hstore.trans (hreports _ 2 0x25)) hstore

/-! ## What feeding the watchdog leaves (R201, R202) -/

@[simp] theorem DieSt.feed_failSafe (x : DieSt) (p : Lane) : (x.feed p).failSafe = x.failSafe := rfl
@[simp] theorem DieSt.feed_lnum (x : DieSt) (p : Lane) : (x.feed p).lnum = x.lnum := rfl
@[simp] theorem DieSt.feed_preferred (x : DieSt) (p : Lane) : (x.feed p).preferred = x.preferred := rfl
@[simp] theorem DieSt.feed_held (x : DieSt) (p : Lane) : (x.feed p).held = x.held := rfl

/-! ## A frame at a port (R196, R198, R204) -/

section FrameAt

variable {b : Block} {d : Nat} {p : Lane} {k : SeqKind} {f : LinkFrame}

/-- In fail-safe mode a KEEP takes the die over and makes its port the preferred one (R204). -/
theorem Block.frameAt_takeOver (hquiet : b.portQuiet d p = false) (hd : d < b.dies.length) (hsafe : (b.die d).failSafe = true) :
    b.frameAt d p .keep f =
      (b.modDie d fun x => ({ x.feed p with failSafe := false, held := [], taken := true } : DieSt).prefer p).actOn d
      { kind := .keep, frame := f, ms := (b.die d).ms } 3 := by
  simp only [Block.frameAt, hquiet, Block.die_modDie _ _ _ hd, DieSt.feed_failSafe, hsafe, Block.modDie_modDie, if_true,
    Bool.false_eq_true, if_false]
  rfl

/-- In fail-safe mode every other frame feeds the watchdog alone (R204). -/
theorem Block.frameAt_failSafe (hquiet : b.portQuiet d p = false) (hd : d < b.dies.length) (hsafe : (b.die d).failSafe = true)
    (hkind : k ≠ .keep) : b.frameAt d p k f = b.modDie d (·.feed p) := by
  simp only [Block.frameAt, hquiet, Block.die_modDie _ _ _ hd, DieSt.feed_failSafe, hsafe, hkind, if_true,
    Bool.false_eq_true, if_false]

/-- A die without standby copies has none to release. -/
theorem Block.releaseUpTo_none (dist : Nat) (copy : Fin 4) (hheld : (b.die d).held = []) : b.releaseUpTo d dist copy = b := by
  have hbelow : (b.die d).heldBelow dist = [] := by simp [DieSt.heldBelow, hheld]
  rw [Block.releaseUpTo, hbelow]
  exact Block.modDie_self (by rw [hheld, List.filter_nil, ← hheld])

section Connected

variable (hquiet : b.portQuiet d p = false) (hd : d < b.dies.length) (hsafe : (b.die d).failSafe = false)
  (hnew : seqNew f.num (b.die d).lnum = true)

include hquiet hd hsafe hnew

/-- Out of fail-safe mode a new frame on the preferred port, with no standby copy held, is acted on with copy code 0 (R196). -/
theorem Block.frameAt_preferred (hport : p = (b.die d).preferred) (hheld : (b.die d).held = []) :
    b.frameAt d p k f = (b.modDie d (·.feed p)).actOn d { kind := k, frame := f, ms := (b.die d).ms } 0 := by
  have hdie : (b.modDie d (·.feed p)).die d = (b.die d).feed p := Block.die_modDie _ _ _ hd
  have hempty : ((b.modDie d (·.feed p)).die d).held = [] := by rw [hdie, DieSt.feed, hheld]
  have hkept : (b.modDie d (·.feed p)).modDie d (fun x => { x with held := x.held.filter fun g => g.frame.num != f.num }) =
      b.modDie d (·.feed p) := Block.modDie_self (by rw [hempty, List.filter_nil, ← hempty])
  simp only [Block.frameAt, hquiet, Bool.false_eq_true, if_false, hdie, DieSt.feed_failSafe, hsafe, DieSt.feed_lnum, hnew,
    Bool.not_true, DieSt.feed_preferred, ← hport, if_true, Block.releaseUpTo_none _ _ hempty, DieSt.feed_held, hheld,
    List.find?_nil, hkept]
  rfl

/-- On the other port a new frame is held as a standby copy, while fewer than 16 are (R198). -/
theorem Block.frameAt_held (hport : p ≠ (b.die d).preferred) (hroom : (b.die d).held.length < 16) :
    b.frameAt d p k f = b.modDie d fun x =>
      { x.feed p with held := x.held ++ [{ kind := k, frame := f, ms := (b.die d).ms }] } := by
  have hdie : (b.modDie d (·.feed p)).die d = (b.die d).feed p := Block.die_modDie _ _ _ hd
  simp only [Block.frameAt, hquiet, Bool.false_eq_true, if_false, hdie, DieSt.feed_failSafe, hsafe, DieSt.feed_lnum, hnew,
    Bool.not_true, DieSt.feed_preferred, hport, DieSt.feed_held, if_neg (Nat.not_le_of_lt hroom), Block.modDie_modDie]
  rfl

/-- With 16 held the oldest of them is released first, with copy code 1 (R198). -/
theorem Block.frameAt_full {h : DieFrame} {t : List DieFrame} (hport : p ≠ (b.die d).preferred) (hheld : (b.die d).held = h :: t)
    (hfull : t.length = 15) :
    b.frameAt d p k f = ((b.modDie d fun x => { x.feed p with held := t }).actOn d h 1).modDie d fun x =>
      { x with held := x.held ++ [{ kind := k, frame := f, ms := (b.die d).ms }] } := by
  have hdie : (b.modDie d (·.feed p)).die d = (b.die d).feed p := Block.die_modDie _ _ _ hd
  have hsixteen : 16 ≤ (h :: t).length := by simp [hfull]
  simp only [Block.frameAt, hquiet, Bool.false_eq_true, if_false, hdie, DieSt.feed_failSafe, hsafe, DieSt.feed_lnum, hnew,
    Bool.not_true, DieSt.feed_preferred, hport, DieSt.feed_held, hheld, hsixteen, if_true, Block.modDie_modDie]
  rfl

end Connected

end FrameAt

/-- A powered die's port hears the lane that has not released it. -/
theorem Block.portQuiet_false {b : Block} {d : Nat} {p : Lane} (hpower : (b.die d).powered = true)
    (hlane : (b.lane p).released = false) : b.portQuiet d p = false := by
  simp [Block.portQuiet, hpower, hlane]

end Sys2Proof

namespace Sys2Proof.Machine

/-- The commands that bring a sequenced frame to a port, with the kind of the frame (R193). -/
def frameCommands (d : Die) (p : Lane) (f : LinkFrame) : List (SeqKind × Instr) :=
  [(.set, .set d p f), (.pwm, .pwm d p f), (.multi, .multi d p f), (.keep, .keep d p f), (.role, .role d p f),
    (.unlock, .unlockFrame d p f), (.conf, .conf d p f), (.store, .store d p f)]

section Frames

variable {s : State} {k : SeqKind} {c : Instr} {d : Die} {p : Lane} {f : LinkFrame}

/-- Bytes that spell a frame bring that frame to the port. -/
theorem portSeq_frame (b : Block) (k : SeqKind) (harg : f.arg.length = 6) : b.portSeq d p k f = b.frameAt d p k f := by
  rw [Block.portSeq, Block.portBytes, portFrame_bytes harg]

/-- A frame of any kind but KEEP does what it does at the port. -/
theorem becomes_frame (hcmd : (k, c) ∈ frameCommands d p f) (harg : f.arg.length = 6) (hkind : k ≠ .keep) :
    Becomes c s (s.b.frameAt d p k f) := by
  rw [← portSeq_frame s.b k harg]
  simp only [frameCommands, List.mem_cons, Prod.mk.injEq, List.not_mem_nil, or_false] at hcmd
  rcases hcmd with ⟨rfl, rfl⟩ | ⟨rfl, rfl⟩ | ⟨rfl, rfl⟩ | ⟨rfl, -⟩ | ⟨rfl, rfl⟩ | ⟨rfl, rfl⟩ | ⟨rfl, rfl⟩ | ⟨rfl, rfl⟩
  case inr.inr.inr.inl => exact absurd rfl hkind
  all_goals rfl

/-- The command of a KEEP is that of its constructor. -/
theorem eq_keep_of_mem (hcmd : (SeqKind.keep, c) ∈ frameCommands d p f) : c = .keep d p f := by
  simpa [frameCommands] using hcmd

/-- What a KEEP leaves: the die with its invalid records reported where it was acted on. -/
def reported (s : State) (d : Die) (t : Block) : Block :=
  if (t.die d).lnum != (s.b.die d).lnum && (t.die d).powered then t.reportBadStores d else t

/-- A KEEP does what it does at the port, and the reports of a take-over follow (R77, R231). -/
theorem becomes_keep (harg : f.arg.length = 6) : Becomes (.keep d p f) s (reported s d (s.b.frameAt d p .keep f)) := by
  rw [← portSeq_frame s.b .keep harg]
  rfl

/-- At a die without invalid records a frame that marks none does what it does at the port, whatever its kind. -/
theorem becomes_frame_clean (hcmd : (k, c) ∈ frameCommands d p f) (harg : f.arg.length = 6)
    (hstore : (s.b.die d).storeBad = false) (hiso : (s.b.die d).isoBad = false)
    (hmarks : s.b.Keeps DieSt.marks (s.b.frameAt d p k f)) : Becomes c s (s.b.frameAt d p k f) := by
  by_cases hkind : k = .keep
  · subst hkind
    have hclean : reported s d (s.b.frameAt d p .keep f) = s.b.frameAt d p .keep f := by
      rw [reported, Block.reportBadStores_clean ((congrArg Prod.fst (hmarks.die d)).trans hstore)
        ((congrArg Prod.snd (hmarks.die d)).trans hiso), ite_self]
    rw [eq_keep_of_mem hcmd, ← hclean]
    exact becomes_keep harg
  · exact becomes_frame hcmd harg hkind

/-- The reports change neither mode nor preferred port nor L. -/
theorem reported_keeps (s : State) (d : Die) (t : Block) : t.Keeps DieSt.mastery (reported s d t) :=
  .ite (Block.reportBadStores_keeps t d) (.refl _ t)

/-- In fail-safe mode a KEEP ends that mode, makes its port the preferred one and sets L (R204). -/
theorem becomes_takenOver (harg : f.arg.length = 6) (hd : d.val < s.b.dies.length) (hquiet : s.b.portQuiet d p = false)
    (hsafe : (s.b.die d).failSafe = true) : ∃ b', Becomes (.keep d p f) s b' ∧
      (b'.die d).failSafe = false ∧ (b'.die d).preferred = p ∧ (b'.die d).lnum = f.num := by
  have hmastery : ((s.b.frameAt d p .keep f).die d).mastery = (false, p, f.num) := by
    rw [Block.frameAt_takeOver hquiet hd hsafe]
    obtain ⟨_, _, _, _, _, _, _, hacted⟩ := Block.die_actOn (b := s.b.modDie d fun x =>
      ({ x.feed p with failSafe := false, held := [], taken := true } : DieSt).prefer p) (d := d)
      { kind := .keep, frame := f, ms := (s.b.die d).ms } 3 (by simpa using hd)
    rw [hacted, Block.carryOut_keep rfl]
    simp [DieSt.mastery, hd]
  have hreported := ((reported_keeps s d _).die d).trans hmastery
  simp only [DieSt.mastery, Prod.mk.injEq] at hreported
  exact ⟨_, becomes_keep harg, hreported⟩

section Connected

variable (hcmd : (k, c) ∈ frameCommands d p f) (harg : f.arg.length = 6) (hd : d.val < s.b.dies.length)
  (hquiet : s.b.portQuiet d p = false) (hsafe : (s.b.die d).failSafe = false) (hnew : seqNew f.num (s.b.die d).lnum = true)
  (hstore : (s.b.die d).storeBad = false) (hiso : (s.b.die d).isoBad = false)

include hcmd harg hd hquiet hsafe hnew hstore hiso

/-- A new frame on the preferred port is acted on with copy code 0 (R196). -/
theorem becomes_actedOn (hport : p = (s.b.die d).preferred) (hheld : (s.b.die d).held = []) :
    Becomes c s ((s.b.modDie d (·.feed p)).actOn d { kind := k, frame := f, ms := (s.b.die d).ms } 0) := by
  have hframe := Block.frameAt_preferred (k := k) hquiet hd hsafe hnew hport hheld
  rw [← hframe]
  refine becomes_frame_clean hcmd harg hstore hiso ?_
  rw [hframe]
  exact (Block.modDie_keeps s.b d).trans (Block.actOn_keeps _ d _ 0).marks

/-- A new frame on the other port is held as a standby copy (R198). -/
theorem becomes_held (hport : p ≠ (s.b.die d).preferred) (hroom : (s.b.die d).held.length < 16) :
    Becomes c s (s.b.modDie d fun x =>
      { x.feed p with held := x.held ++ [{ kind := k, frame := f, ms := (s.b.die d).ms }] }) := by
  have hframe := Block.frameAt_held (k := k) hquiet hd hsafe hnew hport hroom
  rw [← hframe]
  refine becomes_frame_clean hcmd harg hstore hiso ?_
  rw [hframe]
  exact Block.modDie_keeps s.b d

/-- With 16 copies held the oldest is released with copy code 1, and 16 are held again (R198). -/
theorem becomes_released {h : DieFrame} {t : List DieFrame} (hport : p ≠ (s.b.die d).preferred)
    (hheld : (s.b.die d).held = h :: t) (hfull : t.length = 15) : ∃ b', Becomes c s b' ∧
      b'.die d = { ((s.b.modDie d fun x => { x.feed p with held := t }).actOn d h 1).die d with
        held := t ++ [{ kind := k, frame := f, ms := (s.b.die d).ms }] } := by
  have hframe := Block.frameAt_full (k := k) hquiet hd hsafe hnew hport hheld hfull
  have hacted := Block.actOn_keeps (s.b.modDie d fun x => { x.feed p with held := t }) d h 1
  refine ⟨s.b.frameAt d p k f, becomes_frame_clean hcmd harg hstore hiso ?_, ?_⟩
  · rw [hframe]
    exact ((Block.modDie_keeps s.b d).trans hacted.marks).trans (Block.modDie_keeps _ d)
  · have hleft : (((s.b.modDie d fun x => { x.feed p with held := t }).actOn d h 1).die d).held = t :=
      (congrArg Prod.fst (hacted.die d)).trans (by rw [Block.die_modDie _ _ _ hd]; rfl)
    rw [hframe, Block.die_modDie _ _ _ (Nat.lt_of_lt_of_eq hd (hacted.length.trans (updAt_length ..)).symm), hleft]

end Connected

end Frames

/-- Settles O23: one lemma for each way a frame meets a die, then the bytes of a frame and the record of acting on one. -/
theorem framesAreActedOnOrHeld : Obligations.FramesAreActedOnOrHeld := by
  refine ⟨fun s k c d p f hcmd hdies hpower hlane harg => ?_, fun k f => portFrame_bytes, fun b d f copy hdies => ?_⟩
  · have hd : d.val < s.b.dies.length := Nat.lt_of_lt_of_eq d.isLt hdies.symm
    have hquiet := Block.portQuiet_false hpower hlane
    refine ⟨fun hsafe => ⟨?_, fun hkind => ?_⟩, fun hsafe hnew hstore hiso => ⟨fun hport hheld => ?_, fun hport hroom => ?_,
      fun h t hport hheld hfull => ?_⟩⟩
    · rintro rfl
      rw [eq_keep_of_mem hcmd]
      exact becomes_takenOver harg hd hquiet hsafe
    · rw [← Block.frameAt_failSafe hquiet hd hsafe hkind]
      exact becomes_frame hcmd harg hkind
    · exact ⟨_, becomes_actedOn hcmd harg hd hquiet hsafe hnew hstore hiso hport hheld, rfl,
        Block.actOn_lnum _ 0 (by simpa using hd)⟩
    · exact ⟨_, becomes_held hcmd harg hd hquiet hsafe hnew hstore hiso hport hroom, Block.die_modDie _ _ _ hd,
        fun x hx => Block.die_modDie_other _ _ _ _ fun h => hx (Fin.ext h), rfl, rfl⟩
    · exact becomes_released hcmd harg hd hquiet hsafe hnew hstore hiso hport hheld hfull
  · obtain ⟨_, recent, _, ok, queued, refused, out, hacted⟩ :=
      Block.die_actOn f copy (Nat.lt_of_lt_of_eq d.isLt hdies.symm)
    rw [hacted]
    exact ⟨rfl, ⟨recent, rfl⟩, ok, queued, refused, out, fun l => by cases l <;> simp [PerLane.get, PerLane.map]⟩

end Sys2Proof.Machine
end

section
/-! PROOF. The edges of a channel's switching: what reports leave of the channels, what the end of a turn-off and of a clamp
records of a channel, and the phases that each edge of the switching brings. -/

namespace Sys2Proof

/-! ## A channel of a block -/

/-- The block has the die of a channel, and the die has the channel (R19). -/
def Block.HasChan (b : Block) (c : Nat) : Prop := c / 16 < b.dies.length ∧ c % 16 < (b.die (c / 16)).chans.length

/-- A die beside what its channels hold, its reports and the references of its PWM. -/
def DieSt.besideChans (x : DieSt) : DieSt × Nat := ({ x with chans := [], toLane := .both [], pwmRefs := [] }, x.chans.length)

section HasChan

variable {b t : Block} {c : Nat}

/-- A change of a channel changes nothing beside the channels. -/
theorem Block.modChan_keeps_besideChans (b : Block) (c : Nat) (f : ChanSt → ChanSt) : b.Keeps DieSt.besideChans (b.modChan c f) :=
  Block.modDie_keeps b _ fun x => by simp [DieSt.besideChans, DieSt.modChan]

/-- What changes nothing beside the channels keeps every channel at its place. -/
theorem Block.HasChan.of_keeps (h : b.HasChan c) (hk : b.Keeps DieSt.besideChans t) : t.HasChan c := by
  obtain ⟨hdie, hchan⟩ := h
  have hlen : (t.die (c / 16)).chans.length = (b.die (c / 16)).chans.length := congrArg Prod.snd (hk.die _)
  exact ⟨by rwa [hk.length], by rwa [hlen]⟩

/-- A change of a channel keeps every channel at its place. -/
theorem Block.HasChan.modChan (h : b.HasChan c) (f : ChanSt → ChanSt) : (b.modChan c f).HasChan c :=
  h.of_keeps (Block.modChan_keeps_besideChans b c f)

/-- The channel changed. -/
theorem Block.HasChan.chan_modChan (h : b.HasChan c) (f : ChanSt → ChanSt) : (b.modChan c f).chan c = f (b.chan c) :=
  Block.chan_modChan b c f h.1 h.2

/-- What changes nothing beside the channels leaves the die's mode. -/
theorem Block.Keeps.failSafe (hk : b.Keeps DieSt.besideChans t) (d : Nat) : (t.die d).failSafe = (b.die d).failSafe :=
  congrArg (fun x => x.1.failSafe) (hk.die d)

/-- What changes nothing beside the channels and no parameter leaves the configuration of a channel at its die (R193). -/
theorem Block.Keeps.cp (hk : b.Keeps DieSt.besideChans t) (hparams : t.params = b.params) (m c : Nat) : t.cp m c = b.cp m c := by
  have hconf : (t.die (c / 16)).conf = (b.die (c / 16)).conf := congrArg (fun x => x.1.conf) (hk.die _)
  rw [Block.cp, Block.cp, Block.p, Block.p, hparams, hconf]

end HasChan

/-! ## Reports -/

/-- A die without its reports. -/
def DieSt.unreported (x : DieSt) : DieSt := { x with toLane := .both [] }

/-- A channel event changes the reports alone. -/
theorem Block.chanReport_keeps (b : Block) (c cause : Nat) (detail : Int) :
    b.Keeps DieSt.unreported (b.chanReport c cause detail) := by
  unfold Block.chanReport
  split
  · exact Block.modDie_keeps b _
  · exact .refl _ b

/-- The events of the thresholds passed change the reports alone. -/
theorem Block.reportPassed_keeps (b : Block) (c cause old new : Nat) (ths : List Nat) :
    b.Keeps DieSt.unreported (b.reportPassed c cause old new ths) :=
  foldl_keeps (b.Keeps DieSt.unreported) (.refl _ b) fun t _ ht => ht.trans (Block.chanReport_keeps t ..)

/-- One more event on a condition. -/
theorem Block.Keeps.reportIf {b t : Block} (h : b.Keeps DieSt.unreported t) (q : Prop) [Decidable q] (c cause : Nat)
    (detail : Int) : b.Keeps DieSt.unreported (if q then t.chanReport c cause detail else t) :=
  .ite (h.trans (Block.chanReport_keeps t c cause detail)) h

/-- Reports leave every channel. -/
theorem Block.Keeps.chan {b t : Block} (h : b.Keeps DieSt.unreported t) (c : Nat) : t.chan c = b.chan c := by
  have hchan := congrArg (DieSt.chan · (c % 16)) (h.die (c / 16))
  exact hchan

/-- Reports change nothing beside the channels. -/
theorem Block.Keeps.besideChans {b t : Block} (h : b.Keeps DieSt.unreported t) : b.Keeps DieSt.besideChans t :=
  h.mono DieSt.besideChans fun _ => rfl

/-! ## What the end of a turn-off records (R182, R184, R190) -/

section Records

variable {b : Block} {c : Nat}

/-- One more switching cycle on the channel (R190). -/
theorem Block.countSwitch_chan (h : b.HasChan c) :
    (b.countSwitch c).chan c = { b.chan c with switchCount := satNat (2 ^ 64 - 1) ((b.chan c).switchCount + 1) } := by
  rw [Block.countSwitch, (Block.reportPassed_keeps ..).chan, h.chan_modChan]

/-- Counting a switching cycle changes nothing beside the channels. -/
theorem Block.countSwitch_keeps (b : Block) (c : Nat) : b.Keeps DieSt.besideChans (b.countSwitch c) :=
  (Block.modChan_keeps_besideChans b c _).trans (Block.reportPassed_keeps ..).besideChans

/-- The missing-freewheel check changes the flags of the channel alone (R182). -/
theorem Block.freewheel_chan (h : b.HasChan c) (missing : Bool) :
    ∃ w, (b.freewheel c missing).chan c = { b.chan c with flags := w } := by
  unfold Block.freewheel
  dsimp only
  repeat' split
  · exact ⟨_, rfl⟩
  · exact ⟨_, by rw [(Block.chanReport_keeps ..).chan, h.chan_modChan]⟩
  · exact ⟨_, h.chan_modChan _⟩

/-- The missing-freewheel check changes nothing beside the channels. -/
theorem Block.freewheel_keeps (b : Block) (c : Nat) (missing : Bool) : b.Keeps DieSt.besideChans (b.freewheel c missing) := by
  unfold Block.freewheel
  dsimp only
  repeat' split
  · exact .refl _ b
  · exact (Block.modChan_keeps_besideChans b c _).trans (Block.chanReport_keeps ..).besideChans
  · exact Block.modChan_keeps_besideChans b c _

/-- A turn-off that ends without clamping records an energy of 0 (R184). -/
theorem Block.unclamped_chan (h : b.HasChan c) (hoff : (b.chan c).phase.turningOff = true) :
    ∃ w, (b.unclamped c).chan c = { b.chan c with lastUj := 0, flags := w } := by
  rw [Block.unclamped, hoff]
  obtain ⟨w, hw⟩ := Block.freewheel_chan (h.modChan fun x => { x with lastUj := 0 }) false
  rw [h.chan_modChan] at hw
  exact ⟨w, hw⟩

/-- A turn-off that ends without clamping changes nothing beside the channels. -/
theorem Block.unclamped_keeps (b : Block) (c : Nat) : b.Keeps DieSt.besideChans (b.unclamped c) := by
  unfold Block.unclamped
  split
  · exact .refl _ b
  · exact (Block.modChan_keeps_besideChans b c _).trans (Block.freewheel_keeps _ c false)

/-- The bins behind a clamp: from 0.5 mJ on its energy enters the present one (R186). -/
def ChanSt.clampBins (x : ChanSt) (uj : Nat) : List Nat := if decide (500 ≤ uj) then updAt x.bins 0 (· + uj) else x.bins

/-- The lock that a clamp leaves: one that stands, else 1 above the limit of a single pulse, else 2 above the window's budget
(R185-R187; log entry 128). -/
def ChanSt.clampLock (x : ChanSt) (c uj : Nat) (start10 : Int) : Fin 3 :=
  if x.lock ≠ 0 then x.lock
  else if decide (500 ≤ uj) && decide (pulseLimitUj c start10 < uj) then 1
  else if decide (500 ≤ uj) && decide (budgetMj c * 1000 < (x.clampBins uj).sum) then 2 else 0

/-- A clamp of the channel `x` recorded in `y`: its energy; from 0.5 mJ on count, wear and bin; the lock, which empties the queue
where it is new (R184-R188, R190). -/
def ChanSt.recordClamp (x : ChanSt) (c uj : Nat) (start10 : Int) (y : ChanSt) : ChanSt :=
  { y with lastUj := uj, clampCount := if decide (500 ≤ uj) then satNat (2 ^ 64 - 1) (y.clampCount + 1) else y.clampCount,
           wear := x.wear + if decide (500 ≤ uj) then uj * 1000000 / (pulseMj c * 500) else 0, bins := x.clampBins uj,
           lock := x.clampLock c uj start10,
           queued := if x.lock == 0 && x.clampLock c uj start10 != 0 then .none else y.queued }

/-- A clamp that ends is recorded; behind the record stand the freewheel check and reports (R182, R184-R190). -/
theorem Block.countClamp_reports (b : Block) (c uj : Nat) (t : Int) :
    ((b.modChan c ((b.chan c).recordClamp c uj t)).freewheel c (decide (1000 < uj))).Keeps DieSt.unreported
      (b.countClamp c uj t) := by
  have hwear := Block.reportPassed_keeps ((b.modChan c ((b.chan c).recordClamp c uj t)).freewheel c (decide (1000 < uj))) c 0x27
    (b.chan c).wear ((b.chan c).recordClamp c uj t (b.chan c)).wear wearThresholds
  have hreport (cause : Nat) (detail : Int) := hwear.trans (Block.chanReport_keeps _ c cause detail)
  refine Block.Keeps.reportIf ?_ _ _ _ _
  exact .ite (.ite (hreport ..) (hreport ..)) hwear

/-- A clamp that ends changes of its channel what it records, and the flags. -/
theorem Block.countClamp_chan (h : b.HasChan c) (uj : Nat) (t : Int) :
    ∃ w, (b.countClamp c uj t).chan c = { (b.chan c).recordClamp c uj t (b.chan c) with flags := w } := by
  obtain ⟨w, hw⟩ := Block.freewheel_chan (h.modChan ((b.chan c).recordClamp c uj t)) (decide (1000 < uj))
  exact ⟨w, by rw [(Block.countClamp_reports b c uj t).chan, hw, h.chan_modChan]⟩

/-- A clamp that ends changes nothing beside the channels. -/
theorem Block.countClamp_keeps (b : Block) (c uj : Nat) (t : Int) : b.Keeps DieSt.besideChans (b.countClamp c uj t) := by
  exact ((Block.modChan_keeps_besideChans b c _).trans (Block.freewheel_keeps ..)).trans
    (Block.countClamp_reports b c uj t).besideChans

end Records

section ClampLock

variable {x : ChanSt} {c uj : Nat} {t : Int}

/-- A lock that stands stays (R187). -/
theorem ChanSt.clampLock_stands (hlock : x.lock ≠ 0) : x.clampLock c uj t = x.lock := if_pos hlock

/-- A clamp below 0.5 mJ locks nothing (R184). -/
theorem ChanSt.clampLock_small (hlock : x.lock = 0) (hsmall : uj < 500) : x.clampLock c uj t = 0 := by
  simp [ChanSt.clampLock, hlock, Nat.not_le_of_lt hsmall]

/-- A clamp above the limit of a single pulse sets lock 1 (R185). -/
theorem ChanSt.clampLock_pulse (hlock : x.lock = 0) (hcount : 500 ≤ uj) (hlimit : pulseLimitUj c t < uj) :
    x.clampLock c uj t = 1 := by
  simp [ChanSt.clampLock, hlock, hcount, hlimit]

end ClampLock

/-! ## The limit of a single pulse (R185) -/

section PulseLimit

variable {c : Nat} {t : Int}

/-- Up to 85 degrees it is the class value. -/
theorem pulseLimitUj_low (h : t ≤ 850) : pulseLimitUj c t = 1000 * pulseMj c := by
  rw [pulseLimitUj, if_pos h, Nat.mul_comm]

/-- From 150 degrees on it is zero. -/
theorem pulseLimitUj_high (h : 1500 ≤ t) : pulseLimitUj c t = 0 := by
  rw [pulseLimitUj, if_neg (by omega), if_pos h]

/-- Between them it falls in proportion. -/
theorem pulseLimitUj_between (hlow : 850 < t) (hhigh : t < 1500) :
    pulseLimitUj c t = 1000 * pulseMj c * (1500 - t).toNat / 650 := by
  rw [pulseLimitUj, if_neg (by omega), if_neg (by omega), Nat.mul_comm (pulseMj c)]

end PulseLimit

/-! ## The end of a turn-off (R174, R191) -/

section TurnOffEnds

variable {b : Block} {c : Nat}

/-- A channel that a lock keeps off stays as it is when its turn-off has ended (R187). -/
theorem Block.settle_locked (hlock : (b.chan c).lock ≠ 0) : b.settle c = b := by
  simp [Block.settle, ChanSt.free, hlock]

/-- Out of fail-safe mode a channel that is off by command, with nothing queued, stays as it is. -/
theorem Block.settle_off (hcommand : (b.chan c).command = .off) (hqueued : (b.chan c).queued = .none)
    (hsafe : (b.die (c / 16)).failSafe = false) : b.settle c = b := by
  have hrecall : b.recallStored c = b := by simp [Block.recallStored, hsafe]
  simp [Block.settle, hrecall, hcommand, hqueued]

/-- A turn-off that has ended, by its slope or its clamp, with its switching cycle counted. -/
def Block.nowOff (b : Block) (c : Nat) : Block := (b.modChan c fun x => { x with phase := .off, fastOff := false }).countSwitch c

/-- Behind the end of a turn-off the channel settles. -/
theorem Block.turnOffEnds_settles (hphase : (b.chan c).phase = .falling ∨ (b.chan c).phase = .clamp) :
    b.turnOffEnds c = (b.nowOff c).settle c := by
  rcases hphase with hphase | hphase <;> simp only [Block.turnOffEnds, hphase, Block.nowOff]

/-- The channel whose turn-off has ended is off, and one switching cycle is counted (R174, R190). -/
theorem Block.nowOff_chan (h : b.HasChan c) : (b.nowOff c).chan c =
    { b.chan c with phase := .off, fastOff := false, switchCount := satNat (2 ^ 64 - 1) ((b.chan c).switchCount + 1) } := by
  rw [Block.nowOff, Block.countSwitch_chan (h.modChan _), h.chan_modChan]

/-- The end of a turn-off changes nothing beside the channels. -/
theorem Block.nowOff_keeps (b : Block) (c : Nat) : b.Keeps DieSt.besideChans (b.nowOff c) :=
  (Block.modChan_keeps_besideChans b c _).trans (Block.countSwitch_keeps _ c)

/-- What the end of a turn-off leaves of the channel beside its switching: one more cycle counted. -/
theorem Block.turnOffEnds_unswitched (h : b.HasChan c) (hphase : (b.chan c).phase = .falling ∨ (b.chan c).phase = .clamp) :
    ((b.turnOffEnds c).chan c).unswitched =
      { b.chan c with switchCount := satNat (2 ^ 64 - 1) ((b.chan c).switchCount + 1) }.unswitched := by
  rw [Block.turnOffEnds_settles hphase, (Block.settle_switches (b.nowOff c) c).chan_unswitched, Block.nowOff_chan h]
  rfl

end TurnOffEnds

/-! ## The duty in force (R177) -/

/-- A place among the periods of a frequency: the references of the die, then the mark of the channel (R178). -/
theorem Block.placeSlot_eq (b : Block) (c freq : Nat) : b.placeSlot c freq =
    (b.modDie (c / 16) fun x => { x with pwmRefs := ((b.die (c / 16)).refFor (c % 16) freq).1 }).modChan c fun x =>
      { x with inSlot := ((b.die (c / 16)).refFor (c % 16) freq).2 } := rfl

/-- A place among the periods changes one mark of the channel. -/
theorem Block.placeSlot_chan {b : Block} {c : Nat} (h : b.HasChan c) (freq : Nat) :
    ∃ z, (b.placeSlot c freq).chan c = { b.chan c with inSlot := z } := by
  rw [Block.placeSlot_eq]
  generalize (b.die (c / 16)).refFor (c % 16) freq = r
  have hrefs {α : Type} (view : DieSt → α) (hview : ∀ x : DieSt, view { x with pwmRefs := r.1 } = view x) :
      b.Keeps view (b.modDie (c / 16) fun x => { x with pwmRefs := r.1 }) := Block.modDie_keeps b _ hview
  have hchan : (b.modDie (c / 16) fun x => { x with pwmRefs := r.1 }).chan c = b.chan c :=
    congrFun ((hrefs DieSt.chan fun _ => rfl).die (c / 16)) (c % 16)
  exact ⟨r.2, by rw [(h.of_keeps (hrefs DieSt.besideChans fun _ => rfl)).chan_modChan, hchan]⟩

/-- A place among the periods changes nothing beside the channels and the references. -/
theorem Block.placeSlot_keeps (b : Block) (c freq : Nat) : b.Keeps DieSt.besideChans (b.placeSlot c freq) :=
  (Block.modDie_keeps b (c / 16)).trans (Block.modChan_keeps_besideChans _ c _)

/-- The channel comes to its slot at a frequency: its present one, or one that is new to it (R178). -/
def Block.toSlot (b : Block) (c freq : Nat) : Block :=
  if freq = (b.chan c).freq then b.modChan c fun x => { x with inSlot := true } else b.placeSlot c freq

theorem Block.toSlot_chan {b : Block} {c : Nat} (h : b.HasChan c) (freq : Nat) :
    ∃ z, (b.toSlot c freq).chan c = { b.chan c with inSlot := z } := by
  unfold Block.toSlot
  split
  · exact ⟨_, h.chan_modChan _⟩
  · exact Block.placeSlot_chan h freq

theorem Block.toSlot_keeps (b : Block) (c freq : Nat) : b.Keeps DieSt.besideChans (b.toSlot c freq) := by
  unfold Block.toSlot
  split
  · exact Block.modChan_keeps_besideChans b c _
  · exact Block.placeSlot_keeps b c freq

@[simp] theorem Block.toSlot_params (b : Block) (c freq : Nat) : (b.toSlot c freq).params = b.params := by
  unfold Block.toSlot
  split <;> rfl

@[simp] theorem Block.toSlot_mod (b : Block) (c freq : Nat) : (b.toSlot c freq).mod = b.mod := by
  unfold Block.toSlot
  split <;> rfl

/-- The duty in force follows the duty and the frequency commanded, the slew rate and the feed, which stand as they stood before
changes of the channels (R177). -/
theorem Block.setDuty_duty {b w : Block} {c : Nat} (h : b.HasChan c) (hk : b.Keeps DieSt.besideChans w)
    (hparams : w.params = b.params) (hmod : w.mod = b.mod) : (w.setDuty c).chan c =
      let x := w.chan c
      { x with duty := dutyInForce x.cmdDuty x.freq (b.cp 0x04 c) (b.feedOf (c / 16)).mv.toNat } := by
  have hfeed : w.feedOf (c / 16) = b.feedOf (c / 16) := by simp only [Block.feedOf, hmod]
  rw [Block.setDuty, (h.of_keeps hk).chan_modChan, hk.cp hparams, hfeed]

end Sys2Proof

namespace Sys2Proof.Machine

/-- A command whose meaning changes the block alone leaves the block that its change makes. -/
theorem becomes_onBlock {e : Instr} {s : State} {f : Block → Block} {b' : Block} (hexec : exec e s = onBlock f s)
    (h : f s.b = b') : Becomes e s b' := by
  rw [Becomes, hexec, onBlock_eq, h]

section Edges

variable {s : State} {c : Chan}

/-- A turn-off slope that ends without a clamp: the energy is 0 and the turn-off has ended (R174, R184). -/
theorem becomes_slopeEnd (hphase : (s.b.chan c).phase = .falling) :
    Becomes (.slopeEnd c) s ((s.b.unclamped c).turnOffEnds c) :=
  becomes_onBlock (show _ = execSlopeEnd c s from rfl) (by simp only [hphase])

/-- A turn-on slope ends on (R174). -/
theorem becomes_on (hphase : (s.b.chan c).phase = .rising) :
    Becomes (.slopeEnd c) s (s.b.modChan c fun x => { x with phase := .on }) :=
  becomes_onBlock (show _ = execSlopeEnd c s from rfl) (by simp only [hphase])

/-- A turn-off slope without a further command ends off, with no clamp energy and one switching cycle more (R174, R184, R190;
log entry 49). -/
theorem becomes_off (h : s.b.HasChan c) (hphase : (s.b.chan c).phase = .falling) (hcommand : (s.b.chan c).command = .off)
    (hqueued : (s.b.chan c).queued = .none) (hsafe : (s.b.die (c / 16)).failSafe = false) : ∃ b',
      Becomes (.slopeEnd c) s b' ∧ (b'.chan c).phase = .off ∧ (b'.chan c).lastUj = 0 ∧
      (b'.chan c).switchCount = satNat (2 ^ 64 - 1) ((s.b.chan c).switchCount + 1) := by
  obtain ⟨w, hunclamped⟩ := Block.unclamped_chan h (by rw [hphase]; rfl)
  have hkeeps := Block.unclamped_keeps s.b c
  have hoff := Block.nowOff_chan (h.of_keeps hkeeps)
  rw [hunclamped] at hoff
  have hends : (s.b.unclamped c).turnOffEnds c = (s.b.unclamped c).nowOff c := by
    rw [Block.turnOffEnds_settles (.inl (by rw [hunclamped, hphase])), Block.settle_off]
    · rw [hoff, hcommand]
    · rw [hoff, hqueued]
    · rw [(hkeeps.trans (Block.nowOff_keeps _ c)).failSafe, hsafe]
  refine ⟨_, becomes_slopeEnd hphase, ?_⟩
  rw [hends, hoff]
  exact ⟨rfl, rfl, rfl⟩

/-- An on-edge without a PWM command that waits: the on-phase starts, in the channel's slot (R176, R178). -/
theorem becomes_nextOnPhase (h : s.b.HasChan c) (hphase : (s.b.chan c).phase = .pwmOff) (hnext : (s.b.chan c).nextPwm = none) :
    Becomes (.pwmEdge c true) s
      (((s.b.modChan c fun x => { x with phase := .pwmOn }).modChan c fun x => { x with inSlot := true }).setDuty c) :=
  becomes_onBlock (show _ = execPwmEdge c true s from rfl) (by simp only [hphase, h.chan_modChan, hnext])

/-- An on-edge with a PWM command that waits: the on-phase starts at its frequency and duty (R176, R178). -/
theorem becomes_newOnPhase (h : s.b.HasChan c) (hphase : (s.b.chan c).phase = .pwmOff) {f u : Nat}
    (hnext : (s.b.chan c).nextPwm = some (f, u)) :
    Becomes (.pwmEdge c true) s ((((s.b.modChan c fun x => { x with phase := .pwmOn }).toSlot c f).modChan c fun x =>
      { x with freq := f, cmdDuty := u, nextPwm := none }).setDuty c) :=
  becomes_onBlock (show _ = execPwmEdge c true s from rfl) (by simp only [hphase, h.chan_modChan, hnext, Block.toSlot])

/-- An off-phase of a PWM ends into an on-phase at the duty in force; a frequency and duty commanded since are taken up
(R176, R177). -/
theorem becomes_pwmOn (h : s.b.HasChan c) (hphase : (s.b.chan c).phase = .pwmOff) :
    ∃ b', Becomes (.pwmEdge c true) s b' ∧ (b'.chan c).phase = .pwmOn ∧
      (b'.chan c).duty = dutyInForce (b'.chan c).cmdDuty (b'.chan c).freq (s.b.cp 0x04 c) (s.b.feedOf (c / 16)).mv.toNat ∧
      ((s.b.chan c).nextPwm = none → (b'.chan c).freq = (s.b.chan c).freq ∧ (b'.chan c).cmdDuty = (s.b.chan c).cmdDuty) ∧
      ∀ f u, (s.b.chan c).nextPwm = some (f, u) →
        (b'.chan c).freq = f ∧ (b'.chan c).cmdDuty = u ∧ (b'.chan c).nextPwm = none := by
  have hon := Block.modChan_keeps_besideChans s.b c fun x => { x with phase := .pwmOn }
  have hone := h.modChan fun x => { x with phase := .pwmOn }
  cases hnext : (s.b.chan c).nextPwm with
  | none =>
    have hduty := Block.setDuty_duty h (hon.trans (Block.modChan_keeps_besideChans _ c fun x => { x with inSlot := true })) rfl rfl
    rw [hone.chan_modChan, h.chan_modChan] at hduty
    refine ⟨_, becomes_nextOnPhase h hphase hnext, ?_⟩
    rw [hduty]
    exact ⟨rfl, rfl, fun _ => ⟨rfl, rfl⟩, nofun⟩
  | some p =>
    obtain ⟨f, u⟩ := p
    have hslot := hon.trans (Block.toSlot_keeps _ c f)
    have hduty := Block.setDuty_duty h (hslot.trans (Block.modChan_keeps_besideChans _ c fun x =>
      { x with freq := f, cmdDuty := u, nextPwm := none })) (by simp) (by simp)
    obtain ⟨z, hz⟩ := Block.toSlot_chan hone f
    rw [(h.of_keeps hslot).chan_modChan, hz, h.chan_modChan] at hduty
    refine ⟨_, becomes_newOnPhase h hphase hnext, ?_⟩
    rw [hduty]
    refine ⟨rfl, rfl, nofun, fun f' u' heq => ?_⟩
    cases heq
    exact ⟨rfl, rfl, rfl⟩

/-- A clamp that ends is counted, and the turn-off has ended (R183-R191). -/
theorem becomes_clampEnd (uj : Nat) (t : Int) (hphase : (s.b.chan c).phase = .falling ∨ (s.b.chan c).phase = .clamp) :
    Becomes (.clampEnd c uj t) s ((s.b.countClamp c uj t).turnOffEnds c) := by
  have hoff : (s.b.chan c).phase.turningOff = true := by rcases hphase with hphase | hphase <;> rw [hphase] <;> rfl
  exact becomes_onBlock (show _ = execClampEnd c uj t s from rfl) (by simp only [hoff, if_true])

/-- What the end of a clamp records of its channel, and where its lock is new the channel stays off (R184-R191). -/
theorem becomes_clampEnded (h : s.b.HasChan c) (uj : Nat) (t : Int)
    (hphase : (s.b.chan c).phase = .falling ∨ (s.b.chan c).phase = .clamp) : ∃ b', Becomes (.clampEnd c uj t) s b' ∧
      (∃ w n, (b'.chan c).unswitched =
        { (s.b.chan c).recordClamp c uj t (s.b.chan c) with flags := w, switchCount := n }.unswitched) ∧
      ((s.b.chan c).lock = 0 → (s.b.chan c).clampLock c uj t ≠ 0 →
        (b'.chan c).queued = .none ∧ (b'.chan c).phase = .off) := by
  obtain ⟨w, hclamp⟩ := Block.countClamp_chan h uj t
  have hcounted := h.of_keeps (Block.countClamp_keeps s.b c uj t)
  have hphase' : ((s.b.countClamp c uj t).chan c).phase = .falling ∨ ((s.b.countClamp c uj t).chan c).phase = .clamp := by
    rw [hclamp]
    exact hphase
  have hrecord := Block.turnOffEnds_unswitched hcounted hphase'
  refine ⟨_, becomes_clampEnd uj t hphase, ⟨w, _, hrecord.trans (by rw [hclamp])⟩, fun hlock hnew => ?_⟩
  have hoff := Block.nowOff_chan hcounted
  rw [Block.turnOffEnds_settles hphase', Block.settle_locked (by rw [hoff, hclamp]; exact hnew), hoff, hclamp]
  exact ⟨by simp [ChanSt.recordClamp, hlock, hnew], rfl⟩

/-- The inrush window ends by its time or early (R181). -/
theorem becomes_inrushEnded {e : Instr} (he : e ∈ [Instr.inrushWindowEnd c, .inrushEarlyEnd c]) :
    Becomes e s (s.b.modChan c fun x => { x with inrush := false, stretched := false }) := by
  simp only [List.mem_cons, List.not_mem_nil, or_false] at he
  rcases he with rfl | rfl <;> rfl

/-- An on-phase of a PWM ends into its turn-off, under the clamp mode of the channel (R176, R182). -/
theorem becomes_pwmClamp (hphase : (s.b.chan c).phase = .pwmOn) : Becomes (.pwmEdge c false) s (s.b.modChan c fun x =>
    { x with phase := .pwmClamp, clampMode := s.b.cp 0x0A c == 1, onDue := false }) :=
  becomes_onBlock (show _ = execPwmEdge c false s from rfl) (by simp only [hphase])

end Edges

/-- Settles O27: one lemma for each edge. That a switching cycle is counted at the end of a turn-off is the reading of log entry 49;
the rounding of the limit and of the duty in force is the choice of log entry 11. -/
theorem channelsSwitch : Obligations.ChannelsSwitch := by
  intro s c hdies hchans x
  have h : s.b.HasChan c := ⟨by omega, by rw [hchans]; exact Nat.mod_lt _ (by decide)⟩
  have hdie (d : Die) : d.val < s.b.dies.length := Nat.lt_of_lt_of_eq d.isLt hdies.symm
  refine ⟨becomes_on, becomes_off h, fun e he => ⟨_, becomes_inrushEnded he, h.chan_modChan _⟩,
    fun hphase => ⟨_, becomes_pwmClamp hphase, congrArg ChanSt.phase (h.chan_modChan _)⟩, becomes_pwmOn h,
    fun uj t hphase => ?_, fun t => ⟨pulseLimitUj_low, pulseLimitUj_high, pulseLimitUj_between⟩,
    fun d => ⟨_, rfl, congrArg DieSt.chans (Block.die_modDie _ _ _ (hdie d))⟩,
    fun d => ⟨_, rfl, congrArg DieSt.chans (Block.die_modDie _ _ _ (hdie d))⟩⟩
  obtain ⟨b', hclamp, ⟨w, n, hrecord⟩, hlocked⟩ := becomes_clampEnded h uj t hphase
  have hlock : (b'.chan c).lock = x.clampLock c uj t := congrArg ChanSt.lock hrecord
  refine ⟨b', hclamp, congrArg ChanSt.lastUj hrecord, (congrArg ChanSt.clampCount hrecord).trans ?_,
    (congrArg ChanSt.bins hrecord).trans ?_, fun hstands => hlock.trans (ChanSt.clampLock_stands hstands),
    fun hfree hsmall => hlock.trans (ChanSt.clampLock_small hfree hsmall), fun hfree hcount hlimit => ?_⟩
  · simp [ChanSt.unswitched, ChanSt.recordClamp, x]
  · simp [ChanSt.unswitched, ChanSt.recordClamp, ChanSt.clampBins, x]
  · have hone : x.clampLock c uj t = 1 := ChanSt.clampLock_pulse hfree hcount hlimit
    exact ⟨hlock.trans hone, hlocked hfree (by rw [hone]; decide)⟩

end Sys2Proof.Machine
end

section
/-! PROOF. The statements of the family 'other'. Their proofs are elaborated one after the other: side by side, with a thread for each
proof that waits for another, the text compiled as one does not keep within the memory that the check allows. -/

set_option Elab.async false

section
/-! PROOF. Facts about lists that the proofs of this family use in several places. -/

namespace Sys2Proof

/-- An entry inside a list. -/
theorem getD_in {α : Type} (l : List α) (d : α) {n : Nat} (hn : n < l.length) : l.getD n d = l[n] := by
  rw [List.getD_eq_getElem?_getD, List.getElem?_eq_getElem hn, Option.getD_some]

/-- The value that stands for an entry outside a list. -/
theorem getD_out {α : Type} (l : List α) (d : α) {n : Nat} (hn : l.length ≤ n) : l.getD n d = d := by
  rw [List.getD_eq_getElem?_getD, List.getElem?_eq_none hn, Option.getD_none]

theorem getD_map {α β : Type} (l : List α) (d : α) {n : Nat} (f : α → β) : (l.map f).getD n (f d) = f (l.getD n d) := by
  rw [List.getD_eq_getElem?_getD, List.getD_eq_getElem?_getD, List.getElem?_map, Option.getD_map]

/-- Induction on a list by its last entry. -/
theorem snocInduction {α : Type} {P : List α → Prop} (nil : P []) (append_singleton : ∀ l x, P l → P (l ++ [x])) (l : List α) : P l := by
  rw [← l.reverse_reverse]
  induction l.reverse with
  | nil => exact nil
  | cons x t ih =>
    rw [List.reverse_cons]
    exact append_singleton _ x ih

theorem mem_pair {α : Type} {x y z : α} (h : x ∈ [y, z]) : x = y ∨ x = z := by
  rcases List.mem_cons.mp h with rfl | h
  · exact .inl rfl
  · exact .inr (List.mem_singleton.mp h)

theorem mem_takeWhile {α : Type} {p : α → Bool} {l : List α} {x : α} (h : x ∈ l.takeWhile p) : p x = true := by
  induction l with
  | nil => cases h
  | cons y ys ih =>
    rw [List.takeWhile_cons] at h
    split at h
    · rcases List.mem_cons.mp h with rfl | htail
      · assumption
      · exact ih htail
    · cases h

end Sys2Proof
end

section
/-! PROOF. The machine as a whole: which commands change the block alone, and what every command does to the queue, to the
byte memories and to one-time memory. -/

namespace Sys2Proof.Machine

/-- Nothing is unburned: the identity and the ordered code stand, and no counter falls (R2, R22, R447, R500). -/
def OtpBurns (o o' : Otp) : Prop :=
  o'.identity = o.identity ∧ o'.codeAE = o.codeAE ∧ o.rollback.a ≤ o'.rollback.a ∧ o.rollback.b ≤ o'.rollback.b ∧
    o.destroyed ≤ o'.destroyed

theorem OtpBurns.refl (o : Otp) : OtpBurns o o := ⟨rfl, rfl, Nat.le_refl _, Nat.le_refl _, Nat.le_refl _⟩

/-- What a command does beside the block: it leaves the queue, keeps the form of the byte memories, changes them only where it
may, burns one-time memory, and changes the life-cycle state only as LIFECYCLE_WRITTEN. -/
def Moves (c : Instr) (s t : State) : Prop :=
  t.pending = s.pending ∧ (s.mem.Wf → t.mem.Wf) ∧ (c.writesMemory = false → t.mem = s.mem) ∧ OtpBurns s.otp t.otp ∧
    (t.otp.lifecycle ≠ s.otp.lifecycle → c = .lifecycleWritten)

/-- The commands that change more than the block. -/
def reachesBeyondBlock : Instr → Bool
  | .vpTransmitDescriptor .. | .bridgeWindowAccess .. | .keyDestroy .. | .lifecycleWritten | .cipherOperationDone ..
  | .storageDeviceDone .. | .teardownEnd .. | .granuleZeroed .. | .requestTakeUp .. | .modulePowerUp .. | .laneStart ..
  | .laneReady .. | .lanePairing .. | .fabricAccess .. | .timeWord .. | .epochBoundary .. => true
  | _ => false

/-- Every other command answers the state with its block replaced. -/
theorem exec_block {c : Instr} (s : State) (h : reachesBeyondBlock c = false) : ∃ b, exec c s = .next (s.withBlock b) := by
  cases c <;> first | exact ⟨_, rfl⟩ | cases h

theorem Moves.block (c : Instr) (s : State) (b : Block) : Moves c s (s.withBlock b) :=
  ⟨rfl, id, fun _ => rfl, OtpBurns.refl _, fun h => absurd rfl h⟩

/-- A command that may write memory and keeps its form. -/
theorem Moves.mem {c : Instr} {s : State} (b : Block) {m : MemSt} (hc : c.writesMemory = true) (h : s.mem.Wf → m.Wf) :
    Moves c s ((s.withBlock b).withMem m) :=
  ⟨rfl, h, fun g => by simp [hc] at g, OtpBurns.refl _, fun g => absurd rfl g⟩

/-- Requests carried out: at most the destroy counter advances. -/
theorem Moves.serves {c : Instr} {s t : State} (h : s.Serves t) : Moves c s t := by
  obtain ⟨b, n, hn, rfl⟩ := h
  exact ⟨rfl, id, fun _ => rfl, ⟨rfl, rfl, Nat.le_refl _, Nat.le_refl _, hn⟩, fun g => absurd rfl g⟩

/-- The end of a life-cycle change burns its state alone. -/
theorem Moves.lifecycleWritten (s : State) : Moves .lifecycleWritten s (outState s (execLifecycleWritten s)) := by
  unfold execLifecycleWritten outState
  cases s.b.lifeTarget <;> exact ⟨rfl, id, fun _ => rfl, OtpBurns.refl _, fun _ => rfl⟩

/-- Tenant SRAM cleared keeps the form. -/
theorem MemSt.clear_wf {m : MemSt} (l : Lane) (w : m.Wf) : ({ m with sram := m.sram.set l [] } : MemSt).Wf := by
  obtain ⟨ha, hb, he⟩ := w
  cases l
  · exact ⟨rfl, hb, he⟩
  · exact ⟨ha, rfl, he⟩

/-- A boundary, with a lane in service, with a lane that runs alone, or without one. -/
theorem Moves.epochBoundary (s : State) (ns : Int) : Moves (.epochBoundary ns) s (outState s (execEpochBoundary ns s)) := by
  unfold execEpochBoundary outState
  dsimp only
  split
  · obtain ⟨hq, hw, hc, hi, hl, hd, ha, hb⟩ := State.boundary_keeps s ns
    exact ⟨hq, hw, nofun, ⟨hi, hc, ha, hb, hd⟩, fun h => absurd hl h⟩
  · split
    · exact Moves.block _ s _
    · exact Moves.block _ s s.b

/-- Every command answers a next state, and beside the block it does no more than `Moves` says. -/
theorem exec_moves (c : Instr) (s : State) : ∃ t, exec c s = .next t ∧ Moves c s t := by
  cases hc : reachesBeyondBlock c with
  | false =>
    obtain ⟨b, h⟩ := exec_block s hc
    exact ⟨_, h, Moves.block c s b⟩
  | true =>
    cases c
    case keyDestroy q => exact ⟨_, rfl, Moves.serves (execKeyDestroy_serves q s)⟩
    case lifecycleWritten => exact ⟨_, rfl, Moves.lifecycleWritten s⟩
    case epochBoundary ns => exact ⟨_, rfl, Moves.epochBoundary s ns⟩
    case requestTakeUp l w =>
      exact ⟨_, rfl, Moves.serves ((State.takeUp_serves s l w).trans (State.takeMgmt_serves _ _))⟩
    case vpTransmitDescriptor l p => exact ⟨_, rfl, Moves.mem _ rfl (Block.vpTransmit_wf l p)⟩
    case bridgeWindowAccess l k v op a n => exact ⟨_, rfl, Moves.mem _ rfl (Block.bridgeThrough_wf l _ v op a n)⟩
    case cipherOperationDone i => exact ⟨_, rfl, Moves.mem _ rfl (Block.cipherDone_wf i)⟩
    case storageDeviceDone p => exact ⟨_, rfl, Moves.mem _ rfl (Block.storageDone_wf p)⟩
    case laneReady l => exact ⟨_, rfl, Moves.mem _ rfl (Block.laneReady_wf s.otp l)⟩
    case lanePairing l f => exact ⟨_, rfl, Moves.mem _ rfl (Block.pairs_wf s.otp l f)⟩
    case fabricAccess l a => exact ⟨_, rfl, Moves.mem _ rfl (Block.fabricThrough_wf l a)⟩
    case timeWord l => exact ⟨_, rfl, Moves.mem _ rfl (Block.timeWord_wf l)⟩
    case teardownEnd p =>
      exact ⟨_, rfl, Moves.mem _ rfl fun w => foldl_keeps MemSt.Wf w fun _ _ h => MemSt.zero_wf _ _ h⟩
    case granuleZeroed g =>
      simp only [exec, execGranuleZeroed]
      split
      · exact ⟨_, rfl, Moves.mem _ rfl (MemSt.zero_wf _ _)⟩
      · exact ⟨_, rfl, Moves.block _ s s.b⟩
    case modulePowerUp mv =>
      refine ⟨_, rfl, ?_⟩
      split
      · exact Moves.block _ s s.b
      · exact Moves.mem _ rfl fun ⟨_, _, he⟩ => ⟨rfl, rfl, he⟩
    case laneStart l env =>
      refine ⟨_, rfl, Moves.mem _ rfl fun w => ?_⟩
      split
      · exact MemSt.clear_wf l w
      · exact w
    all_goals cases hc

/-- What a step that answers leads to: the front command's moves from the state with the queue's rest, or the state itself. -/
theorem step_moves {s t : State} (h : step s = .next t) :
    (s.pending = [] ∧ t = s) ∨
      ∃ c rest, s.pending = c :: rest ∧ exec c { s with pending := rest } = .next t ∧ Moves c { s with pending := rest } t := by
  unfold step at h
  split at h
  next hq =>
    injection h with h
    exact .inl ⟨hq, h.symm⟩
  next c rest hq =>
    obtain ⟨u, hu, hm⟩ := exec_moves c { s with pending := rest }
    rw [hu] at h
    injection h with h
    exact .inr ⟨c, rest, hq, h ▸ hu, h ▸ hm⟩

/-- Settles O4: what every command keeps of the memories' form, for the front command of the queue (log entry 6). -/
theorem memoryFormKept : Obligations.MemoryFormKept := by
  intro s t w h
  obtain ⟨-, rfl⟩ | ⟨c, rest, -, -, -, hw, -⟩ := step_moves h
  · exact w
  · exact hw w

/-- Settles O2: every command answers, and its moves leave the queue (log entry 1). -/
theorem everyCommandAnswers : Obligations.EveryCommandAnswers := by
  intro c s
  obtain ⟨t, ht, hq, -⟩ := exec_moves c s
  exact ⟨t, ht, hq⟩

/-- Settles O6: what a command burns of one-time memory. -/
theorem oneTimeMemoryOnlyBurns : Obligations.OneTimeMemoryOnlyBurns := by
  intro c s t h
  obtain ⟨u, hu, -, -, -, ⟨hi, hc, ha, hb, hd⟩, hl⟩ := exec_moves c s
  rw [hu] at h
  injection h with h
  subst h
  exact ⟨hi, hc, ha, hb, hd, hl⟩

/-- Settles O7: the commands that may not write memory leave it. -/
theorem otherCommandsKeepMemory : Obligations.OtherCommandsKeepMemory := by
  intro c s t hc h
  obtain ⟨u, hu, -, -, hm, -⟩ := exec_moves c s
  rw [hu] at h
  injection h with h
  exact h ▸ hm hc

/-- Settles O1: a step is the front command on the queue's rest (log entry 1). -/
theorem stepRunsTheFrontCommand : Obligations.StepRunsTheFrontCommand :=
  ⟨fun _ _ _ => rfl, fun s h => by simp only [step, h]⟩

/-- The tables of the delivered module have their sizes. -/
theorem Block.delivered_sized : Block.delivered.Sized := by
  have lanes : ∀ l : Lane, (Block.delivered.lane l).Sized := by
    intro l
    unfold LaneSt.Sized
    cases l <;> decide +kernel
  unfold Block.Sized
  have slots : Block.delivered.keys.slots.length = 256 := List.length_replicate
  have ctxs : Block.delivered.cipher.ctxs.length = 256 := List.length_replicate
  exact ⟨rfl, by decide +kernel, rfl, rfl, rfl, rfl, rfl, rfl, rfl, slots, rfl, ctxs, rfl, lanes⟩

/-- Settles O3: each part of the delivered module, and the size of each of its tables (log entry 2). -/
theorem resetIsDelivery : Obligations.ResetIsDelivery := by
  refine ⟨rfl, rfl, rfl, fun l => by cases l <;> rfl, fun p => ?_, fun d => ?_, fun l a => by cases l <;> rfl, rfl,
    MemSt.delivered_wf, ?_⟩
  · revert p
    decide +kernel
  · revert d
    decide +kernel
  · exact Block.delivered_sized

end Sys2Proof.Machine
end

section
/-! PROOF. Reading tenant SRAM: what a write, a zeroing and an erasure leave of a read, and the value of each lane after an
update of one (R34, R134). -/

namespace Sys2Proof

/-! ## Values by lane -/

section PerLane

variable {α β : Type} (p : PerLane α) (l : Lane) (v : α) (f : α → α)

@[simp] theorem Lane.other_other : l.other.other = l := by cases l <;> rfl

@[simp] theorem Lane.other_ne : l.other ≠ l := by cases l <;> decide

@[simp] theorem Lane.ne_other : l ≠ l.other := by cases l <;> decide

theorem Lane.eq_other {l k : Lane} (h : k ≠ l) : k = l.other := by cases l <;> cases k <;> first | rfl | exact absurd rfl h

@[simp] theorem PerLane.get_set : (p.set l v).get l = v := by cases l <;> rfl

@[simp] theorem PerLane.get_set_other : (p.set l v).get l.other = p.get l.other := by cases l <;> rfl

@[simp] theorem PerLane.get_upd : (p.upd l f).get l = f (p.get l) := by cases l <;> rfl

@[simp] theorem PerLane.get_upd_other : (p.upd l f).get l.other = p.get l.other := by cases l <;> rfl

@[simp] theorem PerLane.get_map (g : α → β) : (p.map g).get l = g (p.get l) := by cases l <;> rfl

@[simp] theorem PerLane.get_both : (PerLane.both v).get l = v := by cases l <;> rfl

end PerLane

/-! ## Reads -/

/-- A read depends on the bytes of its range alone. -/
theorem memRead_congr {d : Byte} {m m' : List (Nat × Byte)} {a n : Nat}
    (h : ∀ i, a ≤ i → i < a + n → memGet d m i = memGet d m' i) : memRead d m a n = memRead d m' a n := by
  induction n generalizing a with
  | zero => rfl
  | succ n ih =>
    rw [memRead, memRead, h a (Nat.le_refl _) (by omega), ih fun i hi hn => h i (by omega) (by omega)]

/-- A write leaves the bytes of every range apart from it. -/
theorem MemSt.read_write_apart (m : MemSt) (l k : Lane) {a x n : Nat} {v : List Byte}
    (h : ∀ i, x ≤ i → i < x + n → i < a ∨ a + v.length ≤ i) : (m.write l a v).read k x n = m.read k x n := by
  cases l <;> cases k <;> first | rfl | exact memRead_congr fun i hi hn => memGet_memWrite_outside (h i hi hn)

/-- A write in one lane leaves the other lane's bytes. -/
@[simp] theorem MemSt.read_write_other (m : MemSt) (l : Lane) (a x n : Nat) (v : List Byte) :
    (m.write l a v).read l.other x n = m.read l.other x n := by
  cases l <;> rfl

/-- Bytes written read back. -/
theorem MemSt.read_write_same {m : MemSt} (l : Lane) (a : Nat) (v : List Byte) (w : m.Wf) :
    (m.write l a v).read l a v.length = v := by
  obtain ⟨ha, hb, -⟩ := w
  cases l
  · exact memRead_memWrite a v ha
  · exact memRead_memWrite a v hb

@[simp] theorem MemSt.write_ext (m : MemSt) (l : Lane) (a : Nat) (v : List Byte) : (m.write l a v).ext = m.ext := rfl

@[simp] theorem MemSt.read_length (m : MemSt) (l : Lane) (a n : Nat) : (m.read l a n).length = n := memRead_length a n

/-- A zeroed range reads zero in both lanes, and every other byte stands (R134). -/
theorem MemSt.read_zero (m : MemSt) (l : Lane) (a n x : Nat) :
    (m.zero a n).read l x 1 = if a ≤ x ∧ x < a + n then [0] else m.read l x 1 := by
  cases l
  all_goals
    split
    · rename_i h
      exact congrArg (· :: []) (memGet_memErase_inside h.1 h.2)
    · rename_i h
      exact congrArg (· :: []) (memGet_memErase_outside (by omega))

end Sys2Proof
end

section
/-! PROOF. An access changes no byte outside its slice (R35, R129, R130, R428): what the operations of the gate and of the
bridge write lies in the range of the access, which the gate has found in the slice. -/

namespace Sys2Proof

/-- A byte of a range that the slice holds is held (R130). -/
theorem Slice.holdsSram_byte {s : Slice} {a n x : Nat} (h : s.holdsSram a n = true) (hlow : a ≤ x) (hhigh : x < a + n) :
    s.holdsSram x 1 = true := by
  simp only [Slice.holdsSram, Bool.or_eq_true, beq_iff_eq, Bool.and_eq_true, decide_eq_true_eq, List.all_eq_true, List.mem_range]
    at h ⊢
  obtain h | ⟨hsize, hall⟩ := h
  · omega
  refine .inr ⟨by omega, fun i hi => ?_⟩
  have hfirst : a / granule ≤ x / granule := Nat.div_le_div_right hlow
  have hlast : x / granule ≤ (a + n - 1) / granule := Nat.div_le_div_right (by omega)
  rw [Nat.add_sub_cancel] at hi
  have hzero : i = 0 := by omega
  have := hall (x / granule - a / granule) (by omega)
  rwa [Nat.add_sub_cancel' hfirst, ← Nat.add_zero (x / granule), ← hzero] at this

/-- From `m` to `m'` no byte of external storage changes, and of tenant SRAM only bytes that the slice holds. -/
def MemSt.StaysIn (s : Slice) (m m' : MemSt) : Prop :=
  m'.ext = m.ext ∧ ∀ (k : Lane) (a : Nat), s.holdsSram a 1 = false → m'.read k a 1 = m.read k a 1

section

variable {s : Slice} {m m' m'' : MemSt}

theorem MemSt.StaysIn.refl : MemSt.StaysIn s m m := ⟨rfl, fun _ _ _ => rfl⟩

theorem MemSt.StaysIn.trans (h : MemSt.StaysIn s m m') (g : MemSt.StaysIn s m' m'') : MemSt.StaysIn s m m'' :=
  ⟨g.1.trans h.1, fun k a ha => (g.2 k a ha).trans (h.2 k a ha)⟩

/-- A write inside a range that the slice holds. -/
theorem MemSt.StaysIn.write (l : Lane) {a n x : Nat} {v : List Byte} (h : s.holdsSram a n = true) (hlow : a ≤ x)
    (hhigh : x + v.length ≤ a + n) : MemSt.StaysIn s m (m.write l x v) := by
  refine ⟨rfl, fun k y hy => MemSt.read_write_apart m l k fun i hi hn => ?_⟩
  obtain rfl : i = y := by omega
  refine Decidable.byContradiction fun _ => ?_
  have hheld := Slice.holdsSram_byte h (x := i) (by omega) (by omega)
  rw [hy] at hheld
  cases hheld

/-- A read at the far port consumes within its range (R431). -/
theorem MemSt.StaysIn.farRead (far : Lane) (marks : List (Nat × Nat)) {a n : Nat} (h : s.holdsSram a n = true) :
    MemSt.StaysIn s m (m.farRead far marks a n).2 := by
  refine List.foldlRecOn (motive := fun m' => MemSt.StaysIn s m m') _ _ .refl fun m' hm' i hi => hm'.trans ?_
  have hlt : i < n := List.mem_range.mp (List.mem_filter.mp hi).1
  exact .write far h (Nat.le_add_right a i) (Nat.add_le_add_left hlt a)

/-- Fetching lines that the slice holds. -/
theorem MemSt.StaysIn.fetchLines (far : Lane) (marks : List (Nat × Nat)) (lines : List Nat)
    (h : ∀ x ∈ lines, s.holdsSram x 64 = true) : MemSt.StaysIn s m (m.fetchLines far marks lines).2 := by
  induction lines generalizing m with
  | nil => exact .refl
  | cons x t ih =>
    have hline : MemSt.StaysIn s m (m.farRead far marks x 64).2 := .farRead far marks (h x List.mem_cons_self)
    exact hline.trans (ih fun y hy => h y (List.mem_cons_of_mem x hy))

end

/-- The lines of a prefetch lie in the slice (R432). -/
theorem Block.prefetchLines_held {b : Block} {p a n x : Nat} (h : x ∈ b.prefetchLines p a n) : (b.slice p).holdsSram x 64 = true := by
  unfold Block.prefetchLines at h
  split at h
  · cases h
  · have := mem_takeWhile h
    simp only [Bool.and_eq_true] at this
    exact this.2

/-- What passes the gate is performed inside the slice. -/
theorem Block.bridgePerform_staysIn {b : Block} (m : MemSt) (l : Lane) (pair p : Nat) (op : BridgeOp) {a n : Nat}
    (h : (b.slice p).holdsSram a n = true) : MemSt.StaysIn (b.slice p) m (b.bridgePerform m l pair p op a n).2 := by
  have put : ∀ v : List Byte, MemSt.StaysIn (b.slice p) m (m.write l.other a (v.take n)) := fun v =>
    .write _ h (Nat.le_refl a) (Nat.add_le_add_left (List.length_take_le n v) a)
  unfold Block.bridgePerform
  cases op with
  | read =>
    dsimp only
    split
    · exact .refl
    · split
      · exact .refl
      · exact .trans (.farRead _ _ h) (.fetchLines _ _ _ fun x hx => Block.prefetchLines_held hx)
  | write d =>
    dsimp only
    split
    · exact .refl
    · exact put d
  | lr =>
    dsimp only
    split <;> exact .refl
  | sc d =>
    dsimp only
    split
    · exact put d
    · exact .refl
  | amo o d =>
    dsimp only
    split
    · exact .refl
    · exact .write _ h (Nat.le_refl a) (by simp)

@[simp] theorem Block.bridgeWork_slice (b : Block) (l : Lane) (pair : Nat) (w : BridgeWait) (p : Nat) :
    (b.bridgeWork l pair w).slice p = b.slice p := by
  unfold Block.bridgeWork
  split <;> rfl

/-- An access through the bridge window stays in the slice of its PRID (R428). -/
theorem Block.bridgeAccess_staysIn (b : Block) (m : MemSt) (l : Lane) (pair : Nat) (virt : Bool) (op : BridgeOp) (a n : Nat) :
    MemSt.StaysIn (b.slice (b.accPrid l pair virt)) m (b.bridgeAccess m l pair virt op a n).2 := by
  unfold Block.bridgeAccess
  dsimp only
  iterate 3 (split; exact .refl)
  split
  · exact .refl
  next hslice =>
  iterate 3 (split; exact .refl)
  have hheld : (b.slice (b.accPrid l pair virt)).holdsSram a n = true := by
    cases h : (b.slice (b.accPrid l pair virt)).holdsSram a n
    · simp [h] at hslice
    · rfl
  have := Block.bridgePerform_staysIn (b := b.bridgeWork l pair
    { prid := b.accPrid l pair virt, virt := virt, op := op, addr := a, size := n }) m l pair (b.accPrid l pair virt) op
    (by rwa [Block.bridgeWork_slice])
  rwa [Block.bridgeWork_slice] at this

/-- An access of a core or a DMA engine stays in the slice of its PRID (R35, R130). -/
theorem Block.fabric_staysIn (b : Block) (m : MemSt) (l : Lane) (acc : Access) :
    MemSt.StaysIn (b.slice (b.pridOf l acc)) m (b.fabric m l acc).2 := by
  unfold Block.fabric
  dsimp only
  iterate 3 (split; exact .refl)
  cases hregion : regionOf acc.addr with
  | sram =>
    dsimp only
    split
    · exact .refl
    split
    · exact .refl
    next hheld =>
    iterate 2 (split; exact .refl)
    have hin : (b.slice (b.pridOf l acc)).holdsSram acc.addr acc.size = true := by simpa using hheld
    unfold Block.sramAccess
    split
    · exact .refl
    · exact .write l hin (Nat.le_refl _) (Nat.add_le_add_left (List.length_take_le ..) _)
  | bridge =>
    dsimp only
    split
    next k hk =>
      have hp : b.pridOf l acc = b.accPrid l k.val acc.virt := by simp [Block.pridOf, hk]
      rw [hp]
      exact Block.bridgeAccess_staysIn b m l _ _ _ _ _
    next =>
      split <;> exact .refl
  | storage =>
    dsimp only
    split
    · exact .refl
    · split <;> exact .refl
  | reserved => exact .refl
  | gov | win _ | eq _ =>
    dsimp only
    split <;> exact .refl

/-- An access that goes through its pair changes what it would change by itself, or nothing. -/
theorem Block.throughPair_mem (b : Block) (m : MemSt) (l : Lane) (k : Nat) (t : Token) (held : Bool) (act : Block × MemSt) :
    (b.throughPair m l k t held act).2 = m ∨ (b.throughPair m l k t held act).2 = act.2 := by
  unfold Block.throughPair
  split
  · exact .inr rfl
  · split
    · exact .inl rfl
    · split
      · exact .inl rfl
      · exact .inr rfl

/-- What an access does inside its slice, its pair does. -/
theorem MemSt.StaysIn.throughPair {s : Slice} {b : Block} {m : MemSt} {l : Lane} {k : Nat} {t : Token} {held : Bool}
    {act : Block × MemSt} (h : MemSt.StaysIn s m act.2) : MemSt.StaysIn s m (b.throughPair m l k t held act).2 := by
  obtain e | e := Block.throughPair_mem b m l k t held act
  · rw [e]
    exact .refl
  · rw [e]
    exact h

end Sys2Proof

namespace Sys2Proof.Machine

/-- A fabric access stays in its slice. -/
theorem exec_fabricAccess_staysIn {s t : State} {l : Lane} {acc : Access} (h : exec (.fabricAccess l acc) s = .next t) :
    MemSt.StaysIn (s.b.slice (s.b.pridOf l acc)) s.mem t.mem := by
  obtain rfl := Host.Outcome.next.inj h
  change MemSt.StaysIn _ _ (s.b.fabricThrough s.mem l acc).2
  unfold Block.fabricThrough
  split
  · exact Block.fabric_staysIn s.b s.mem l acc
  · exact (Block.fabric_staysIn s.b s.mem l acc).throughPair

/-- An access through the bridge window stays in its slice. -/
theorem exec_bridgeWindowAccess_staysIn {s t : State} {l : Lane} {pair : Pair} {virt : Bool} {op : BridgeOp} {a n : Nat}
    (h : exec (.bridgeWindowAccess l pair virt op a n) s = .next t) :
    MemSt.StaysIn (s.b.slice (s.b.accPrid l pair virt)) s.mem t.mem := by
  obtain rfl := Host.Outcome.next.inj h
  exact (Block.bridgeAccess_staysIn s.b s.mem l pair.val virt op a n).throughPair

/-- Settles O8: both kinds of access stay in the slice of the PRID they carry. -/
theorem accessStaysInSlice : Obligations.AccessStaysInSlice := by
  intro s t l k a
  refine ⟨fun acc h => ?_, fun pair virt op off n h => ?_⟩
  · obtain ⟨hext, hsram⟩ := exec_fabricAccess_staysIn h
    exact ⟨hext, hsram k a⟩
  · obtain ⟨hext, hsram⟩ := exec_bridgeWindowAccess_staysIn h
    exact ⟨hext, hsram k a⟩

end Sys2Proof.Machine
end

section
/-! PROOF. Accesses to tenant SRAM (R35, R130, R141, R149, R152, R287, R288, R436): what the gate answers in each case, and that
an access which has not ended retires no instruction. -/

namespace Sys2Proof

/-! ## What a pair's access ended in -/

/-- The result of a pair changed: it stands, unless the lane has no such pair. -/
theorem Block.result_modPair (b : Block) (l : Lane) (k : Nat) (f : PairSt → PairSt) :
    (((b.modLane l fun x => x.modPair k f).lane l).pair k) = f ((b.lane l).pair k) ∨
      (((b.modLane l fun x => x.modPair k f).lane l).pair k).result = .none := by
  rw [Block.lane_modLane]
  unfold LaneSt.pair LaneSt.modPair
  by_cases h : k < (b.lane l).pairs.length
  · exact .inl (updAt_getD_same _ _ _ _ h)
  · refine .inr ?_
    rw [getD_out _ _ (by rw [updAt_length]; exact Nat.not_lt.mp h)]
    rfl

/-- An access that has not ended: it faulted, stalled or waits. -/
def AccResult.unended : AccResult → Bool
  | .done _ => false
  | .scFailed => false
  | _ => true

/-- It retires no instruction. -/
theorem Block.accRetires_unended {b : Block} {l : Lane} {k : Nat} (t : Token) (held : Bool)
    (h : ((b.lane l).pair k).result.unended = true) : b.accRetires l k t held = b := by
  unfold Block.accRetires
  split
  · rename_i hd
    rw [hd] at h
    cases h
  · rename_i hd
    rw [hd] at h
    cases h
  · rfl

theorem Block.setResult_unended {b : Block} {l : Lane} {k : Nat} {r : AccResult} (h : r.unended = true) :
    (((b.setResult l k r).lane l).pair k).result.unended = true := by
  obtain e | e := Block.result_modPair b l k fun p => { p with result := r, waits := none }
  · unfold Block.setResult
    rw [e]
    exact h
  · unfold Block.setResult
    rw [e]
    rfl

theorem Block.gateStalls_unended {b : Block} {l : Lane} {k p : Nat} {a : Access} :
    (((b.gateStalls l k p a).lane l).pair k).result.unended = true := by
  obtain e | e := Block.result_modPair b l k fun x => { x with result := .stalled, stalled := some (a, p) }
  · unfold Block.gateStalls
    rw [e]
    rfl
  · unfold Block.gateStalls
    rw [e]
    rfl

/-- A violation leaves the pairs. -/
theorem Block.gateViolation_pairs (b : Block) (l m : Lane) (p cause addr : Nat) :
    ((b.gateViolation l p cause addr).lane m).pairs = (b.lane m).pairs := by
  unfold Block.gateViolation Block.violate
  split
  · exact Block.raiseAll_pairs ..
  · rfl

/-! ## The gate at tenant SRAM -/

section

variable {b : Block} {m : MemSt} {l : Lane} {acc : Access} {k : Pair}

/-- In tenant SRAM a pair holds back its writes (R287). -/
theorem Block.accHeld_sram (hregion : regionOf acc.addr = .sram) : b.accHeld acc = (acc.kind == .write) := by
  simp [Block.accHeld, hregion]

/-- The gate behind the checks of map and service: the slice, a freeze and a bridge lock (R130, R141, R152, R436). -/
theorem Block.fabric_sram (hk : acc.pair = some k) (hst : (b.lane l).st = 4) (hregion : regionOf acc.addr = .sram)
    (hslice : ((b.slice (b.pridOf l acc)).phase == .none) = false) :
    b.fabric m l acc =
      if b.drainsRange (b.pridOf l acc) acc.addr acc.size then (b.setResult l k .fault, m)
      else if !(b.slice (b.pridOf l acc)).holdsSram acc.addr acc.size then
        ((b.setResult l k .fault).gateViolation l (b.pridOf l acc) 1 acc.addr, m)
      else if (b.slice (b.pridOf l acc)).frozen then (b.gateStalls l k (b.pridOf l acc) acc, m)
      else if b.lineLocked l acc.addr || b.lineLocked l (acc.addr + acc.size - 1) then (b.setResult l k .waits, m)
      else b.sramAccess m l acc := by
  have hkept : ∀ r p, ((b.setResult l k r).slice p) = b.slice p := fun _ _ => rfl
  unfold Block.fabric
  simp [hst, hslice, hregion, Region.grants, Block.accEnds, Block.accRefused, Block.accStalls, hk, hkept]

/-- What goes through a pair whose output may leave. -/
theorem Block.fabricThrough_sram (hk : acc.pair = some k) (hst : (b.lane l).st = 4) (hregion : regionOf acc.addr = .sram)
    (hfree : b.pairsHeld = false)
    (hequal : acc.kind = .write → b.outputEqual l k (b.accToken l k acc.virt acc.addr acc.size acc.kind.code) = true) :
    b.fabricThrough m l acc =
      ((b.fabric m l acc).1.accRetires l k (b.accToken l k acc.virt acc.addr acc.size acc.kind.code) (acc.kind == .write),
        (b.fabric m l acc).2) := by
  unfold Block.fabricThrough Block.throughPair
  rw [hk]
  dsimp only
  rw [Block.accHeld_sram hregion]
  cases hw : acc.kind with
  | read => simp [hst, hfree]
  | write => simp [hst, hfree, hw ▸ hequal hw]

/-- One that has not ended leaves the pair's instruction and the memories. -/
theorem Block.fabricThrough_unended (hk : acc.pair = some k) (hst : (b.lane l).st = 4) (hregion : regionOf acc.addr = .sram)
    (hfree : b.pairsHeld = false)
    (hequal : acc.kind = .write → b.outputEqual l k (b.accToken l k acc.virt acc.addr acc.size acc.kind.code) = true)
    {b' : Block} (hgate : b.fabric m l acc = (b', m)) (hend : ((b'.lane l).pair k).result.unended = true) :
    b.fabricThrough m l acc = (b', m) := by
  rw [Block.fabricThrough_sram hk hst hregion hfree hequal, hgate, Block.accRetires_unended _ _ hend]

end

end Sys2Proof

namespace Sys2Proof.Machine

/-- An access that leaves the memories changes the block alone. -/
theorem becomes_fabricAccess {s : State} {l : Lane} {acc : Access} {b' : Block}
    (h : s.b.fabricThrough s.mem l acc = (b', s.mem)) : Becomes (.fabricAccess l acc) s b' := by
  unfold Becomes
  simp only [exec, execFabricAccess, h]
  rfl

/-- Settles O9: the pair's comparison, then the answers of the gate in the order of its checks. -/
theorem fabricAccessToSram : Obligations.FabricAccessToSram := by
  intro s l acc k hk hst hregion p sl tok
  refine ⟨fun hheld => ?_, fun hfree hwrite hdiffers => ?_, fun hfree hequal hslice => ?_⟩
  · apply becomes_fabricAccess
    simp [Block.fabricThrough, Block.throughPair, hk, hst, hheld]
  · apply becomes_fabricAccess
    have hout : s.b.outputEqual l k (s.b.accToken l k acc.virt acc.addr acc.size AccKind.write.code) = false := hwrite ▸ hdiffers
    simp [Block.fabricThrough, Block.throughPair, hk, hst, hfree, Block.accHeld_sram hregion, hwrite, hout]
  have hgate := Block.fabric_sram (m := s.mem) hk hst hregion hslice
  have unended := fun (b' : Block) => Block.fabricThrough_unended (m := s.mem) (b' := b') hk hst hregion hfree hequal
  refine ⟨fun hdrains => ?_, fun hstays => ⟨fun hout => ?_, fun hin => ⟨fun hfrozen => ?_, fun hruns hlock => ?_,
    fun hruns hlow hhigh => ⟨fun hread => ?_, fun hwrite => ?_⟩⟩⟩⟩
  · rw [if_pos hdrains] at hgate
    exact becomes_fabricAccess (unended _ hgate (Block.setResult_unended rfl))
  all_goals rw [if_neg (Bool.eq_false_iff.mp hstays)] at hgate
  · rw [if_pos (Bool.not_eq_true' _ ▸ hout)] at hgate
    refine becomes_fabricAccess (unended _ hgate ?_)
    rw [LaneSt.pair, Block.gateViolation_pairs]
    exact Block.setResult_unended rfl
  all_goals rw [if_neg (Bool.eq_false_iff.mp (Bool.not_eq_false' _ ▸ hin))] at hgate
  · rw [if_pos hfrozen] at hgate
    exact becomes_fabricAccess (unended _ hgate Block.gateStalls_unended)
  all_goals rw [if_neg (Bool.eq_false_iff.mp hruns)] at hgate
  · rw [if_pos (by rw [hlock, Bool.true_or])] at hgate
    exact becomes_fabricAccess (unended _ hgate (Block.setResult_unended rfl))
  all_goals
    rw [if_neg (by rw [hlow, hhigh]; decide)] at hgate
    have hthrough := Block.fabricThrough_sram (m := s.mem) hk hst hregion hfree hequal
    rw [hgate] at hthrough
  · apply becomes_fabricAccess
    rw [hthrough]
    simp only [Block.sramAccess, hread, Block.accEnds, hk, tok]
    rfl
  · simp only [exec, execFabricAccess, hthrough]
    simp only [Block.sramAccess, hwrite, Block.accEnds, hk, tok]
    rfl

end Sys2Proof.Machine
end

section
/-! PROOF. What stands before an opcode's own checks, in the order of R105: one equation of `Block.serve` for each way a request
ends there, and what a violation of check 5 leaves. -/

namespace Sys2Proof

section Serve

variable {b : Block} {op : Nat} {q : Req}

/-- With no lane in service nothing is taken up. -/
theorem Block.serve_unserved (h : b.anyServes = false) (run : Block → Block) : b.serve op q run = b := by
  simp [Block.serve, h]

/-- A request behind another waits (R111). -/
theorem Block.serve_waiting (hserves : b.anyServes = true) (hwait : b.mustWait op q = true) (run : Block → Block) :
    b.serve op q run = b.keepWaiting op q := by
  simp [Block.serve, hserves, hwait]

/-- A slot of wrong form is answered BAD_PARAM (R96). -/
theorem Block.serve_badSlot (hserves : b.anyServes = true) (hfree : b.mustWait op q = false) (hslot : q.slotOk = false)
    (run : Block → Block) : b.serve op q run = b.reply q op .badParam := by
  simp [Block.serve, hserves, hfree, hslot]

variable (hserves : b.anyServes = true) (hfree : b.mustWait op q = false) (hslot : q.slotOk = true)
include hserves hfree hslot

/-- An opcode that the path may not use is denied (check 4). -/
theorem Block.serve_notPermitted (hpermit : (opInfo op).permits q.path = false) (run : Block → Block) :
    b.serve op q run = b.reply q op .denied := by
  rw [opInfo] at hpermit
  simp [Block.serve, hserves, hfree, hslot, hpermit]

variable (hpermit : (opInfo op).permits q.path = true) (hsecured : q.unsecured = false)
include hpermit hsecured

/-- A request on a resource under drain ends RESIZED and is counted (R140, R142). -/
theorem Block.serve_resized (hgone : b.resizedBy q (namedObjects op q.pay) = true) (run : Block → Block) :
    b.serve op q run = (b.countResized q.path.prid).reply q op .resized := by
  rw [opInfo] at hpermit
  simp [Block.serve, hserves, hfree, hslot, hpermit, hsecured, hgone]

variable (hkept : b.resizedBy q (namedObjects op q.pay) = false)
include hkept

/-- Check 5 with a violation: DENIED, and the violation of the window's PRID. -/
theorem Block.serve_violates {a : Nat} (hout : b.check5 op q (namedObjects op q.pay) = some (some a)) (run : Block → Block) :
    b.serve op q run = (b.reply q op .denied).nameViolation q a := by
  rw [opInfo] at hpermit
  simp [Block.serve, hserves, hfree, hslot, hpermit, hsecured, hkept, hout]

variable (hin : b.check5 op q (namedObjects op q.pay) = none)
include hin

/-- Without the authentication that its opcode requires a request is denied (check 6). -/
theorem Block.serve_unauthenticated (hneeds : (opInfo op).auth = true) (hauth : q.auth = false) (run : Block → Block) :
    b.serve op q run = b.reply q op .denied := by
  rw [opInfo] at hpermit hneeds
  simp [Block.serve, hserves, hfree, hslot, hpermit, hsecured, hkept, hin, hneeds, hauth]

/-- A trailer that is not valid is denied and uses the challenge up (R121, R122). -/
theorem Block.serve_badTrailer (hauth : q.auth = true) (hkeys : b.authLess = false) (hbad : b.trailerOk q op = false)
    (run : Block → Block) : b.serve op q run = (b.setChallenge q.path none).reply q op .denied := by
  rw [opInfo] at hpermit
  simp [Block.serve, hserves, hfree, hslot, hpermit, hsecured, hkept, hin, hauth, hkeys, hbad]

/-- While the keys of authentication are gone an authenticated request is LOCKED, TAMPER_ACK excepted (R465). -/
theorem Block.serve_authLost (hauth : q.auth = true) (hkeys : b.authLess = true) (hop : op ≠ 0x7005) (run : Block → Block) :
    b.serve op q run = (b.setChallenge q.path none).reply q op .locked := by
  rw [opInfo] at hpermit
  simp [Block.serve, hserves, hfree, hslot, hpermit, hsecured, hkept, hin, hauth, hkeys, hop]

end Serve

/-! ## Answers touch the mailboxes alone -/

/-- What answering leaves: everything but the mailboxes. -/
theorem Block.Answered.beside {b b' : Block} {a : Response} (h : b.Answered b' a) : b' = { b with mail := b'.mail } := by
  obtain ⟨copies, recent, rfl, -⟩ := h
  rfl

/-- The response stands among the completed ones. -/
theorem Block.Answered.mem_done {b b' : Block} {a : Response} (h : b.Answered b' a) : a ∈ b'.mail.done := by
  obtain ⟨copies, recent, rfl, -⟩ := h
  simp

@[simp] theorem Block.setChallenge_keys (b : Block) (p : Path) (c : Option DWord) : (b.setChallenge p c).keys = b.keys := by
  cases p <;> rfl

@[simp] theorem Block.countResized_keys (b : Block) (p : Nat) : (b.countResized p).keys = b.keys := rfl

theorem Block.reply_keys (b : Block) (q : Req) (op : Nat) (st : Status) (h : st.final = true) :
    (b.reply q op st).keys = b.keys := by
  rw [(Block.reply_answered b q op st h).beside]

/-! ## The violation of check 5 -/

/-- A violation is PRID `p`'s, for a partition's window and, of PRID 0, for the governor window (R105, R149). -/
theorem Block.nameViolation_window {b : Block} {q : Req} {p : Prid} (hpath : q.path = .part p ∨ (q.path = .gov ∧ p = 0))
    (a : Nat) : b.nameViolation q a = b.violate p.val 3 a := by
  rcases hpath with h | ⟨h, rfl⟩ <;> simp [Block.nameViolation, h]

/-- The record of a PRID behind a violation of it: counted, with cause and address, and decided (R149, R151). -/
theorem Block.viol_violate {b : Block} {p : Nat} (hp : p < b.part.viol.length) (cause addr : Nat) :
    (b.violate p cause addr).viol p =
      { b.viol p with count := satNat 0xFFFFFFFF ((b.viol p).count + 1), cause := cause, addr := addr, decided := true } := by
  obtain ⟨lanes, evs, h⟩ := Block.violate_frame b p cause addr
  rw [h]
  exact Block.viol_modViol b p _ hp

/-- The records of the other PRIDs stand. -/
theorem Block.viol_violate_other (b : Block) {p r : Nat} (h : r ≠ p) (cause addr : Nat) :
    (b.violate p cause addr).viol r = b.viol r := by
  obtain ⟨lanes, evs, hv⟩ := Block.violate_frame b p cause addr
  rw [hv]
  exact Block.viol_modViol_other b p r _ h

end Sys2Proof

namespace Sys2Proof.Machine

/-- What a request command leaves when the shared checks answer it. -/
theorem answersFrom_serve {c : Instr} {op : Nat} {q : Req} {s : State} {b : Block} {st : Status}
    (hreq : c.request? = some (op, q)) (hs : ∀ run, s.b.serve op q run = b.reply q op st) (hfinal : st.final = true)
    (hkeys : b.keys = s.b.keys) : AnswersFrom c s b (q.response op st [] .none) := by
  have hgens : (b.reply q op st).keys.gens = s.b.keys.gens := by rw [Block.reply_keys b q op st hfinal, hkeys]
  exact ⟨_, exec_request_of hreq hs hgens, Block.reply_answered b q op st hfinal⟩

/-- Settles O10: one equation of `Block.serve` per way a request ends before check 5 (the form of the slot: log entry 62). -/
theorem requestsAreGated : Obligations.RequestsAreGated := by
  intro c op q s hreq
  refine ⟨fun hidle => ?_, fun hserves hwait => ?_, fun hserves hfree hslot => ?_, ?_, ?_⟩
  · exact exec_request_of hreq (fun run => Block.serve_unserved hidle run) rfl
  · exact exec_request_of hreq (fun run => Block.serve_waiting hserves hwait run) rfl
  · exact answersFrom_serve hreq (Block.serve_badSlot hserves hfree hslot) rfl rfl
  · rintro ⟨-, hserves, hfree, hslot⟩ hpermit
    exact answersFrom_serve hreq (Block.serve_notPermitted hserves hfree hslot hpermit) rfl rfl
  · rintro ⟨-, hserves, hfree, hslot⟩ hpermit hsecured hgone
    exact answersFrom_serve hreq (Block.serve_resized hserves hfree hslot hpermit hsecured hgone) rfl rfl

/-- Settles O11: check 5 with a violation, which changes the record of the window's PRID, and without one (log entries 45, 60). -/
theorem outsideSliceIsViolation : Obligations.OutsideSliceIsViolation := by
  rintro c op q s ⟨hreq, hserves, hfree, hslot⟩ hpermit hsecured hkept
  refine ⟨fun p a hpath hout hlen => ?_, fun hdeny => ?_⟩
  · have hanswered := Block.reply_answered s.b q op .denied rfl
    have hserve : ∀ run, s.b.serve op q run = (s.b.reply q op .denied).violate p.val 3 a := fun run => by
      rw [Block.serve_violates hserves hfree hslot hpermit hsecured hkept hout, Block.nameViolation_window hpath]
    have hdone := hanswered.mem_done
    rw [hanswered.beside] at hserve
    generalize hmail : (s.b.reply q op .denied).mail = mail at hserve hdone
    obtain ⟨lanes, evs, hframe⟩ := Block.violate_frame { s.b with mail := mail } p.val 3 a
    have hgens : (Block.violate { s.b with mail := mail } p.val 3 a).keys.gens = s.b.keys.gens := by rw [hframe]; rfl
    refine ⟨_, exec_request_of hreq hserve hgens, rfl, rfl, ?_, ?_, fun r hr => ?_, ?_, ?_, ?_, ?_⟩
    · rw [State.withBlock_b, hframe]
      exact hdone
    · exact Block.viol_violate (b := { s.b with mail := mail }) (lt_of_lt_of_eq p.isLt hlen.symm) 3 a
    · exact Block.viol_violate_other { s.b with mail := mail } (fun h => hr (Fin.ext h)) 3 a
    all_goals
      rw [State.withBlock_b, hframe]
      rfl
  · exact answersFrom_serve hreq (Block.serve_deniedQuietly hserves hfree hslot hpermit hsecured hkept hdeny) rfl rfl

/-- Settles O12: the three ways check 6 ends a request. -/
theorem authenticationIsChecked : Obligations.AuthenticationIsChecked := by
  rintro c op q s ⟨hreq, hserves, hfree, hslot⟩ hpermit hsecured hkept hin
  have hkeys := Block.setChallenge_keys s.b q.path none
  refine ⟨fun hneeds hauth => ?_, fun hauth hknown hbad => ?_, fun hauth hlost hop => ?_⟩
  · exact answersFrom_serve hreq
      (Block.serve_unauthenticated hserves hfree hslot hpermit hsecured hkept hin hneeds hauth) rfl rfl
  · exact answersFrom_serve hreq
      (Block.serve_badTrailer hserves hfree hslot hpermit hsecured hkept hin hauth hknown hbad) rfl hkeys
  · exact answersFrom_serve hreq
      (Block.serve_authLost hserves hfree hslot hpermit hsecured hkept hin hauth hlost hop) rfl hkeys

end Sys2Proof.Machine
end

section
/-! PROOF. The module services and the parameters: the challenge and what cancels it (R121), PARAM_GET and the four stages of
PARAM_SET (R117), and that nothing which hangs on a changed value changes another one. -/

namespace Sys2Proof

/-! ## Challenges (R121, R127) -/

/-- The challenge set. -/
theorem Block.challenge_setChallenge {p : Path} (h : p.isGov = true) (b : Block) (c : Option DWord) :
    (b.setChallenge p c).challenge p = c := by
  cases p with
  | gov => rfl
  | mgmt => rfl
  | part p => cases h

/-- Without a challenge no trailer is accepted (R122). -/
theorem Block.trailerOk_of_none {b : Block} {r : Req} (h : b.challenge r.path = none) (op : Nat) : b.trailerOk r op = false := by
  simp [Block.trailerOk, h]

/-- An authenticated request has used its path's challenge up (R121). -/
theorem Block.challenge_heard {b : Block} {q : Req} (hgov : q.path.isGov = true) (hauth : q.auth = true) :
    (b.heard q).challenge q.path = none := by
  rw [Block.heard, if_pos hauth, Block.challenge_setChallenge hgov]

/-- AUTH_CHALLENGE behind its checks (R121). -/
theorem Block.runChallenge_ok {b : Block} {q : Req} (hpay : q.pay = []) (hroom : 8 ≤ q.room) :
    b.runChallenge q = (Block.newChallenge { b with free := b.free + 1 } q.path (Config.freeWord b.free)).ok q 0x0012
      (leBytes 8 (Config.freeWord b.free).toNat) := by
  simp [Block.runChallenge, hpay, Block.check7_good, Block.needRoom_enough, hroom]

/-! ## MODULE_INFO (R120) -/

/-- MODULE_INFO behind its checks. -/
theorem Block.runModuleInfo_ok {b : Block} {q : Req} (otp : Otp) (hpay : q.pay = []) :
    b.runModuleInfo otp q = b.ok q 0x0002 (b.moduleInfo otp) := by
  simp [Block.runModuleInfo, hpay, Block.check7_good]

/-- What MODULE_INFO answers has 32 bytes, and its fields stand where R120 puts them. -/
theorem Block.moduleInfo_fields (b : Block) (otp : Otp) :
    (b.moduleInfo otp).length = 32 ∧
    (b.moduleInfo otp).take 8 = [0x47, 0x5A, 0x38, 0x36, 0x34, 0x2D, 0x41, if otp.codeAE then 0x45 else 0x43] ∧
    byteAt (b.moduleInfo otp) 10 = otp.lifecycle.num ∧
    bytesAt (b.moduleInfo otp) 12 8 = leBytes 8 otp.identity.toNat ∧
    bytesAt (b.moduleInfo otp) 20 4 = leBytes 4 (b.lane .a).image.version.toNat := by
  refine ⟨?_, rfl, ?_, ?_, ?_⟩
  · simp [Block.moduleInfo, leBytes_length]
  · have hone (n : Nat) : leBytes 1 n = [BitVec.ofNat 8 n] := by simp [leBytes]
    cases h : otp.lifecycle <;> simp [Block.moduleInfo, byteAt, h, Lifecycle.num, hone]
  · simp [Block.moduleInfo, bytesAt, leBytes]
  · simp [Block.moduleInfo, bytesAt, leBytes]

/-! ## PARAM_GET (R116) -/

/-- Whatever path fetched a challenge, its value is no parameter: PARAM_GET reads the same behind the checks. -/
@[simp] theorem Block.paramVal_heard (b : Block) (q : Req) (otp : Otp) (d : ParamDef) (inst : Nat) :
    (b.heard q).paramVal otp d inst = b.paramVal otp d inst := by
  have hpart : (b.heard q).status10 d.id inst = b.status10 d.id inst := by
    simp only [Block.status10, Block.partState_heard, Block.viol, Block.heard_part]
  unfold Block.paramVal
  rw [hpart, Block.heard_eq]
  rfl

/-- The well-formed entries of a payload that holds no other. -/
theorem paramAsked_of {l : List Byte} {es : List (ParamDef × Nat)} (hform : paramGetOk l = true)
    (hes : paramEntries l = es.map some) : paramAsked l = es := by
  simp [paramAsked, hform, hes]

/-- PARAM_GET of well-formed entries behind its checks. -/
theorem Block.runParamGet_ok {b : Block} {q : Req} {es : List (ParamDef × Nat)} (otp : Otp) (hform : paramGetOk q.pay = true)
    (hes : paramEntries q.pay = es.map some) :
    b.runParamGet otp q = b.ok q 0x0010
      (leBytes 2 es.length ++ zeroBytes 2 ++ es.flatMap fun e => b.paramRecord otp e.1 e.2) := by
  have hall : (paramEntries q.pay).all (·.isSome) = true := by simp [hes]
  simp only [Block.runParamGet, paramAsked_of hform hes, hform, hall, Bool.and_self, Block.check7_good]

/-! ## PARAM_SET (R117) -/

/-- The configuration values ahead do not hang on challenges. -/
@[simp] theorem Block.paramsAhead_heard (b : Block) (q : Req) : (b.heard q).paramsAhead = b.paramsAhead := by
  unfold Block.heard Block.setChallenge
  cases q.auth
  · rfl
  · cases q.path <;> rfl

@[simp] theorem Block.heard_net (b : Block) (q : Req) : (b.heard q).net = b.net := by rw [Block.heard_eq]

/-- A writable parameter is one of Access RW or G. -/
theorem ParamDef.writable_iff (d : ParamDef) : d.writable = true ↔ d.acc = .rw ∨ d.acc = .g := by
  simp [ParamDef.writable]

/-- A parameter that may not be written is one of Access RO or R. -/
theorem ParamDef.not_writable_iff (d : ParamDef) : d.writable = false ↔ d.acc = .ro ∨ d.acc = .r := by
  cases h : d.acc <;> simp [ParamDef.writable, h]

section Stages

variable {ae : Bool} {m : List (Nat × Nat)} {ss : List Slice} {hands : List Hand} {recs : List ParamRec}

/-- Stage 2 of R117. -/
theorem paramSetStatus_denied (h : ∃ r ∈ recs, r.d.writable = false) : paramSetStatus ae m ss hands recs = .denied := by
  have hany : recs.any (fun r => !r.d.writable) = true := by simpa using h
  simp [paramSetStatus, hany]

/-- Stages 3 and 4 of R117. -/
theorem paramSetStatus_writable (h : ∀ r ∈ recs, r.d.writable = true) :
    paramSetStatus ae m ss hands recs =
      if paramRulesOk ae (psetAll m (recs.map ParamRec.pair)) ss hands recs = false then .badParam
      else if paramLimitsOk (psetAll m (recs.map ParamRec.pair)) = false then .noResource else .ok := by
  have hany : recs.any (fun r => !r.d.writable) = false := by simpa using h
  simp [paramSetStatus, hany]

end Stages

/-- PARAM_SET of records of good form behind its checks: the status of the stages, and with OK the values (R117). -/
theorem Block.runParamSet_recs {b : Block} {q : Req} {recs : List ParamRec} (ae : Bool) (hlen : 4 ≤ q.pay.length)
    (hone : 1 ≤ fieldAt q.pay 0 2) (hmany : fieldAt q.pay 0 2 ≤ 255) (hzero : zerosAt q.pay 2 2 = true)
    (hrecs : paramRecs q.pay (fieldAt q.pay 0 2) 4 = some recs) :
    b.runParamSet ae q =
      if paramSetStatus ae b.paramsAhead b.part.slices b.net.hands recs = .ok then
        b.finish q 0x0011 .ok [] (.params (recs.map ParamRec.pair))
      else b.reply q 0x0011 (paramSetStatus ae b.paramsAhead b.part.slices b.net.hands recs) := by
  simp [Block.runParamSet, hlen, hone, hmany, hzero, hrecs]

/-! ## What hangs on a value leaves the others (R114) -/

@[simp] theorem Block.raise_params (b : Block) (l : Lane) (ev cause subject : Nat) (detail : Int) :
    (b.raise l ev cause subject detail).params = b.params := by
  obtain ⟨lanes, evs, h⟩ := Block.raise_frame b l ev cause subject detail
  rw [h]

@[simp] theorem Block.raiseAll_params (b : Block) (ev cause subject : Nat) (detail : Int) :
    (b.raiseAll ev cause subject detail).params = b.params := by
  simp [Block.raiseAll]

@[simp] theorem Block.canEv_params (b : Block) (l : Lane) (i : Nat) (state : Bool) (cause n : Nat) :
    (b.canEv l i state cause n).params = b.params := by
  unfold Block.canEv
  cases state <;> simp [apply_ite Block.params]

@[simp] theorem Block.canModeLeft_params (b : Block) (i : Nat) : (b.canModeLeft i).params = b.params := by
  refine foldl_keeps (fun t : Block => t.params = b.params) rfl fun t l ht => ?_
  dsimp only
  split
  · exact ht
  · rw [Block.canEv_params, Block.modLane_params, ht]

@[simp] theorem Block.toPeer_params (b : Block) (l : Lane) (it : Item) : (b.toPeer l it).params = b.params := by
  unfold Block.toPeer
  split <;> rfl

@[simp] theorem Block.diverge_params (b : Block) (source prid : Nat) : (b.diverge source prid).params = b.params := by
  simp [Block.diverge]

@[simp] theorem Block.checkSent_params (b : Block) (l : Lane) (stream num prid : Nat) (content : List Byte) :
    (b.checkSent l stream num prid content).params = b.params := by
  unfold Block.checkSent
  dsimp only
  split
  · split <;> simp
  · simp

@[simp] theorem Block.sendFrame_params (b : Block) (d : Nat) (k : SeqKind) (idx : Nat) (arg : List Byte) :
    (b.sendFrame d k idx arg).params = b.params := by
  unfold Block.sendFrame
  split
  · rfl
  · exact foldl_keeps (fun t : Block => t.params = b.params) rfl fun t l ht => by rw [Block.checkSent_params, ht]

@[simp] theorem Block.leaveSync_params (b : Block) (l : Lane) (dest : RingState) : (b.leaveSync l dest).params = b.params := by
  unfold Block.leaveSync
  dsimp only
  split
  · rw [Block.ringEv, Block.raise_params]
    rfl
  · rfl

@[simp] theorem Block.ringEnabled_params (b : Block) : b.ringEnabled.params = b.params :=
  foldl_keeps (fun t : Block => t.params = b.params) rfl fun t l ht => by
    split
    · exact ht
    · rw [Block.leaveSync_params, ht]

/-- One value set changes that value alone. -/
theorem Block.setParam_params (b : Block) (id inst v : Nat) : (b.setParam id inst v).params = pset b.params id inst v := by
  unfold Block.setParam
  dsimp only
  generalize hmode : (if id = 0x5001 ∧ b.p id inst = 2 ∧ v ≠ 2 then b.canModeLeft inst else b) = b1
  have hb1 : b1.params = b.params := by
    rw [← hmode]
    split <;> simp
  generalize hsent : (if (confParam id && Block.configured { b1 with params := pset b1.params id inst v }) = true then _
    else { b1 with params := pset b1.params id inst v } : Block) = b2
  have hb2 : b2.params = pset b.params id inst v := by
    rw [← hsent]
    split <;> simp [hb1]
  repeat' split
  all_goals first
    | exact hb2
    | (rw [Block.ringEnabled_params]; exact hb2)

/-- The values of a set in effect (R114). -/
theorem Block.paramsNow_params (b : Block) (l : List (Nat × Nat)) : (b.paramsNow l).params = psetAll b.params l := by
  unfold Block.paramsNow psetAll
  induction l generalizing b with
  | nil => rfl
  | cons e t ih => rw [List.foldl_cons, List.foldl_cons, ih, Block.setParam_params]

end Sys2Proof

namespace Sys2Proof.Machine

/-- NOP answers its payload (R108). -/
theorem answersFrom_nop {s : State} {q : Req} (hpass : s.b.passes 0x0001 q = true) :
    (q.pay.length ≤ q.room → AnswersFrom (.nop q) s (s.b.heard q) (q.response 0x0001 .ok q.pay .none)) ∧
    (q.room < q.pay.length →
      AnswersFrom (.nop q) s (s.b.heard q) { q.response 0x0001 .noResource [] .none with length := q.pay.length }) :=
  ⟨fun hroom => answersFrom_of _ rfl hpass (Block.finish_answered _ q 0x0001 .ok q.pay .none hroom rfl),
    fun hroom => answersFrom_of _ rfl hpass (Block.finish_noRoom _ q 0x0001 .ok q.pay .none hroom)⟩

/-- MODULE_INFO answers its 32 bytes (R120). -/
theorem answersFrom_moduleInfo {s : State} {q : Req} (hpass : s.b.passes 0x0002 q = true) (hpay : q.pay = [])
    (hroom : 32 ≤ q.room) :
    AnswersFrom (.moduleInfo q) s (s.b.heard q) (q.response 0x0002 .ok ((s.b.heard q).moduleInfo s.otp) .none) := by
  refine answersFrom_of _ rfl hpass ?_
  rw [Block.runModuleInfo_ok _ hpay]
  exact Block.finish_answered _ q 0x0002 .ok _ .none ((Block.moduleInfo_fields _ _).1 ▸ hroom) rfl

/-- Settles O13: the answers of the three services, and the challenge at its expiry and behind an authenticated request. -/
theorem moduleServicesAnswer : Obligations.ModuleServicesAnswer := by
  refine ⟨fun s q => ⟨fun hpass => (answersFrom_nop hpass).1, fun hpass => (answersFrom_nop hpass).2, fun hpass hpay hroom => ?_⟩,
    fun s q hpass hpay hroom hpath => ?_, fun s mgmt => ?_, fun b q hgov hauth => ?_⟩
  · have hfields := Block.moduleInfo_fields (s.b.heard q) s.otp
    rw [show (s.b.heard q).lane .a = s.b.lane .a by rw [Block.heard_eq]; rfl] at hfields
    exact ⟨_, answersFrom_moduleInfo hpass hpay hroom, hfields⟩
  · have hfree : (s.b.heard q).free = s.b.free := by rw [Block.heard_eq]
    have hrun := Block.runChallenge_ok (b := s.b.heard q) hpay hroom
    rw [hfree] at hrun
    refine ⟨Block.newChallenge { s.b.heard q with free := s.b.free + 1 } q.path (Config.freeWord s.b.free), ?_, ?_, ?_, ?_⟩
    · refine answersFrom_of _ rfl hpass ?_
      rw [hrun]
      exact Block.finish_answered _ q 0x0012 .ok _ .none (by simpa using hroom) rfl
    · rcases hpath with h | h <;> rw [h] <;> rfl
    · rcases hpath with h | h <;> rw [h] <;> rfl
    · rw [Block.heard_eq]
      rcases hpath with h | h <;> rw [h] <;> exact ⟨rfl, rfl, rfl, rfl⟩
  · have hnone : (s.b.setChallenge (if mgmt then .mgmt else .gov) none).challenge (if mgmt then .mgmt else .gov) = none :=
      Block.challenge_setChallenge (by cases mgmt <;> rfl) s.b none
    refine ⟨_, rfl, hnone, fun r op hr => Block.trailerOk_of_none (hr ▸ hnone) op, ?_, ?_⟩ <;> cases mgmt <;> rfl
  · exact ⟨Block.challenge_heard hgov hauth,
      fun r op hr => Block.trailerOk_of_none (hr ▸ Block.challenge_heard hgov hauth) op⟩

/-- Settles O14: the records of PARAM_GET, one case per stage of PARAM_SET, and the values in effect. -/
theorem parametersGetAndSet : Obligations.ParametersGetAndSet := by
  intro s q
  refine ⟨?_, ?_, fun vals => Block.paramsNow_params s.b vals⟩
  · intro es hpass hform hes rec1 hroom
    refine answersFrom_of _ rfl hpass ?_
    rw [Block.runParamGet_ok _ hform hes]
    simp only [Block.paramRecord, Block.paramVal_heard]
    exact Block.finish_answered _ q 0x0010 .ok _ .none hroom rfl
  · intro recs hpass hlen hone hmany hzero hrecs vals after
    have hrun := Block.runParamSet_recs (b := s.b.heard q) s.otp.codeAE hlen hone hmany hzero hrecs
    rw [Block.paramsAhead_heard, Block.heard_part, Block.heard_net] at hrun
    have hrefused (st : Status) (hst : st.final = true) (hne : st ≠ .ok)
        (h : paramSetStatus s.otp.codeAE s.b.paramsAhead s.b.part.slices s.b.net.hands recs = st) :
        AnswersFrom (.paramSet q) s (s.b.heard q) (q.response 0x0011 st [] .none) := by
      refine answersFrom_of _ rfl hpass ?_
      rw [hrun, h, if_neg hne]
      exact Block.reply_answered _ q 0x0011 st hst
    refine ⟨fun hro => hrefused .denied rfl (by decide) (paramSetStatus_denied ?_), fun hrw => ?_⟩
    · obtain ⟨r, hr, hacc⟩ := hro
      exact ⟨r, hr, (ParamDef.not_writable_iff r.d).mpr hacc⟩
    · have hst := paramSetStatus_writable (ae := s.otp.codeAE) (m := s.b.paramsAhead) (ss := s.b.part.slices)
        (hands := s.b.net.hands) fun r hr => (ParamDef.writable_iff r.d).mpr (hrw r hr)
      refine ⟨fun hrules => hrefused .badParam rfl (by decide) (hst.trans (if_pos hrules)), fun hrules => ⟨fun hlimits => ?_,
        fun hlimits => ?_⟩⟩
      · exact hrefused .noResource rfl (by decide) (hst.trans (by rw [hrules, hlimits]; rfl))
      · refine answersFrom_of _ rfl hpass ?_
        rw [hrun, hst, hrules, hlimits]
        exact Block.finish_answered _ q 0x0011 .ok [] _ (Nat.zero_le _) rfl

end Sys2Proof.Machine
end

section
/-! PROOF. Slices are created, grown, shrunk and destroyed: the status of R137 for one record, what the commands run behind their
checks, what a shrink or teardown does at its boundary, and the ends of drains and teardowns. -/

namespace Sys2Proof

/-! ## What a heard request finds of the slices -/

@[simp] theorem Block.tearing_heard (b : Block) (q : Req) (p : Nat) : (b.heard q).tearing p = b.tearing p := by
  simp [Block.tearing]

@[simp] theorem Block.ahead_heard (b : Block) (q : Req) : (b.heard q).ahead = b.ahead := by
  unfold Block.heard Block.setChallenge
  cases q.auth
  · rfl
  · cases q.path <;> rfl

@[simp] theorem Block.busyGranules_heard (b : Block) (q : Req) : (b.heard q).busyGranules = b.busyGranules := by
  simp [Block.busyGranules]

/-! ## The status of a create or grow (R137) -/

/-- The status of R137 is a final one. -/
theorem sliceStatus_final (ss : List Slice) (drains : List (Nat × Drain)) (busy : List Nat) (p : Nat) (recs : List ResRec) :
    (sliceStatus ss drains busy p recs).final = true := by
  unfold sliceStatus
  dsimp only
  split
  · rfl
  · split
    · rfl
    · split
      · rfl
      · split <;> rfl

/-- Which of two ranges is named first does not matter. -/
theorem overlap_comm (a n c m : Nat) : overlap a n c m = overlap c m a n := Bool.and_comm _ _

/-- What a slice holds of an unshared record of load channels or of tenant SRAM. -/
def Slice.meetsRec (x : Slice) (r : ResRec) : Bool :=
  if r.kind = 0x01 then x.chans.toNat &&& r.value != 0 else x.sram.any fun y => overlap y.base y.len r.first r.value

/-- A drain of another PRID is removing something of a record of load channels or of tenant SRAM. -/
def drainsRec (dr : List (Nat × Drain)) (p : Nat) (r : ResRec) : Bool :=
  dr.any fun d => d.1 != p && d.2.recs.any fun e => e.kind == r.kind &&
    (if r.kind = 0x01 then r.value &&& e.value != 0 else overlap r.first r.value e.first e.value)

section OneRecord

variable {r : ResRec} (hkind : r.kind = 0x01 ∨ r.kind = 0x09)
include hkind

/-- The slice overlaps the record where it holds something of it. -/
theorem Slice.overlaps_eq_meetsRec (x : Slice) : x.overlaps r = x.meetsRec r := by
  rcases hkind with h | h <;> simp [Slice.overlaps, Slice.meetsRec, h]

/-- A record of a drain clashes with the record where both name the same channels or bytes. -/
theorem ResRec.clash_of_kind (e : ResRec) :
    (e.clash r && !([0x02, 0x03, 0x05, 0x08, 0x0A, 0x0B].contains r.kind)) =
      (e.kind == r.kind && (if r.kind = 0x01 then r.value &&& e.value != 0 else overlap r.first r.value e.first e.value)) := by
  by_cases he : e.kind = r.kind
  · rcases hkind with h | h <;> simp [ResRec.clash, he, h, Nat.and_comm, overlap_comm e.first]
  · have hne : (e.kind == r.kind) = false := beq_false_of_ne he
    simp only [ResRec.clash, hne, Bool.false_and]

/-- R137 for one unshared record of load channels or of exclusive tenant SRAM, neither moved. -/
theorem sliceStatus_one (ss : List Slice) (dr : List (Nat × Drain)) (busy : List Nat) (p : Nat) (hshared : r.shared = false)
    (hmove : r.move = false) :
    sliceStatus ss dr busy p [r] =
      if (ss.getD p Slice.empty).meetsRec r then .badParam
      else if (others p).any (fun o => (ss.getD o Slice.empty).meetsRec r) then .noResource
      else if drainsRec dr p r || (r.kind == 0x09 && (granulesOf r.first r.value).any busy.contains) then .busy
      else .ok := by
  have hsram : (r.kind == 0x0B) = false := by rcases hkind with h | h <;> rw [h] <;> rfl
  simp only [sliceStatus, anyClash, List.any_cons, List.any_nil, Bool.or_false, Bool.false_eq_true, if_false, hmove, hshared,
    sharedOk, Bool.not_false, Bool.true_or, Bool.not_true, Bool.false_and, hsram, ResRec.clash_of_kind hkind,
    Slice.overlaps_eq_meetsRec hkind]
  rcases hkind with h | h
  all_goals simp [h, drainsRec, Slice.meetsRec, List.any_map, Function.comp_def] <;> rfl

end OneRecord

/-! ## SLICE_CREATE and SLICE_GROW behind their checks (R137, R138) -/

/-- A PRID other than 0 has a number other than 0. -/
theorem prid_val_ne {p r : Prid} (h : p ≠ r) : p.val ≠ r.val := fun e => h (Fin.ext e)

section Commands

variable {b : Block} {q : Req} {p : Prid} (hp : byteAt q.pay 0 = p.val)
include hp

/-- SLICE_CREATE of a PRID other than 0. -/
theorem Block.runSliceCreate_of (hform : slicePayOk q.pay true = true) (hne : p ≠ 0) :
    b.runSliceCreate q =
      if b.tearing p then b.hold q 0x1001 (.create p (resRecs q.pay (fieldAt q.pay 4 2))) true
      else if ((b.ahead.getD p Slice.empty).phase != .none) = true then b.reply q 0x1001 .badParam
      else b.decideCreate q p (resRecs q.pay (fieldAt q.pay 4 2)) := by
  have h0 : ((p : Nat) != 0) = true := by simpa using prid_val_ne hne
  simp only [Block.runSliceCreate, hp, hform, h0, Bool.and_self, Block.check7_good, Fin.ofNat_val_eq_self]

/-- SLICE_GROW of a PRID. -/
theorem Block.runSliceGrow_of (hform : slicePayOk q.pay true = true) :
    b.runSliceGrow q =
      if ((b.ahead.getD p Slice.empty).phase == .none || b.tearing p) = true then b.reply q 0x1002 .badParam
      else
        let st := sliceStatus b.ahead b.part.drains b.busyGranules p (resRecs q.pay (fieldAt q.pay 4 2))
        if st = .ok then b.finish q 0x1002 .ok [] (.slice p false (resRecs q.pay (fieldAt q.pay 4 2)))
        else b.reply q 0x1002 st := by
  simp only [Block.runSliceGrow, hp, hform, Block.check7_good, Fin.ofNat_val_eq_self]

/-- SLICE_SHRINK with room for its response (R142). -/
theorem Block.runShrink_of (hform : slicePayOk q.pay false = true) (hroom : 16 ≤ q.room) :
    b.runShrink q =
      if ((b.ahead.getD p Slice.empty).phase == .none || b.tearing p ||
          (resRecs q.pay (fieldAt q.pay 4 2)).any fun r => !(b.ahead.getD p Slice.empty).holdsRec r) = true then
        b.reply q 0x1003 .badParam
      else (b.addDrain p (resRecs q.pay (fieldAt q.pay 4 2)) false).hold q 0x1003 (.shrink p) false := by
  simp only [Block.runShrink, hp, hform, Block.check7_good, Block.needRoom_enough _ _ _ _ _ hroom, Fin.ofNat_val_eq_self]

/-- SLICE_DESTROY of a PRID other than 0. -/
theorem Block.runDestroySlice_of (hhead : headOk q.pay 31 = true) (hne : p ≠ 0) :
    b.runDestroySlice q =
      if ((b.ahead.getD p Slice.empty).phase == .none || b.tearing p) = true then b.reply q 0x1004 .badParam
      else (b.addDrain p [] true).hold q 0x1004 (.destroy p) true := by
  have h0 : ((p : Nat) != 0) = true := by simpa using prid_val_ne hne
  simp only [Block.runDestroySlice, hp, hhead, h0, Bool.and_self, Block.check7_good, Fin.ofNat_val_eq_self]

end Commands

/-! ## The slices of an accepted create or grow (R134, R137) -/

section Apply

variable {ss : List Slice} {p : Prid} (hlen : ss.length = 32) (hne : p ≠ 0)
include hlen hne

/-- The slice itself, a new one empty and running, holds the records. -/
theorem applySlice_self (create : Bool) (recs : List ResRec) :
    (applySlice ss p create recs).getD p Slice.empty =
      recs.foldl Slice.add (if create then { Slice.empty with phase := .running } else ss.getD p Slice.empty) := by
  have hp : p.val < ss.length := lt_of_lt_of_eq p.isLt hlen.symm
  have h0 : p.val ≠ 0 := prid_val_ne hne
  unfold applySlice
  rw [updAt_getD_other _ _ _ _ _ h0]
  cases create
  · exact updAt_getD_same _ _ _ _ hp
  · rw [if_pos rfl, updAt_getD_same _ _ _ _ (by rwa [setAt, updAt_length]), setAt, updAt_getD_same _ _ _ _ hp]
    rfl

/-- What moved has left PRID 0. -/
theorem applySlice_zero (create : Bool) (recs : List ResRec) :
    (applySlice ss p create recs).getD 0 Slice.empty =
      (recs.filter (·.move)).foldl Slice.remove (ss.getD 0 Slice.empty) := by
  have h0 : 0 ≠ p.val := (prid_val_ne hne).symm
  unfold applySlice
  cases create
  · rw [updAt_getD_same _ _ _ _ (by simp [hlen])]
    simp only [Bool.false_eq_true, if_false, updAt_getD_other _ _ _ _ _ h0]
  · rw [updAt_getD_same _ _ _ _ (by simp [setAt, hlen])]
    simp only [if_true, setAt, updAt_getD_other _ _ _ _ _ h0]

omit hlen hne in
/-- The other slices stand. -/
theorem applySlice_other (create : Bool) (recs : List ResRec) {r : Prid} (hr : r ≠ p) (hr0 : r ≠ 0) :
    (applySlice ss p create recs).getD r Slice.empty = ss.getD r Slice.empty := by
  have hrp : r.val ≠ p.val := prid_val_ne hr
  have h0 : r.val ≠ 0 := prid_val_ne hr0
  unfold applySlice
  rw [updAt_getD_other _ _ _ _ _ h0, updAt_getD_other _ _ _ _ _ hrp]
  cases create
  · rfl
  · exact updAt_getD_other _ _ _ _ _ hrp

end Apply

/-- What takes effect with a create or grow changes the slices by it, and neither parameters nor dies (R137). -/
theorem Block.sliceNow_frame (b : Block) (p : Nat) (create : Bool) (recs : List ResRec) :
    (b.sliceNow p create recs).part.slices = applySlice b.part.slices p create recs ∧
      (b.sliceNow p create recs).params = b.params ∧ (b.sliceNow p create recs).dies = b.dies := by
  unfold Block.sliceNow
  cases create <;> exact ⟨rfl, rfl, rfl⟩

end Sys2Proof

namespace Sys2Proof.Machine

/-- Settles O15: one case per status of a create and of a grow, the status of one record, and the slices behind an accepted
request (log entries 125, 126). -/
theorem slicesCreateAndGrow : Obligations.SlicesCreateAndGrow := by
  refine ⟨?_, ?_, ?_⟩
  · intro s q p hp hform recs st
    have hfinal : st.final = true := sliceStatus_final _ _ _ _ _
    refine ⟨fun hpass hne => ?_, fun hpass htear => ?_⟩
    · have hrun := Block.runSliceCreate_of (b := s.b.heard q) hp hform hne
      rw [Block.tearing_heard, Block.ahead_heard] at hrun
      refine ⟨fun htear => ?_, fun htear hphase => ?_, fun htear hphase => ?_⟩
      · refine holdsFrom_of _ rfl hpass ?_
        rw [hrun, if_pos htear]
        exact Block.hold_held _ q 0x1001 _ true
      · refine answersFrom_of _ rfl hpass ?_
        rw [hrun, if_neg (by simp [htear]), if_pos (by simpa using hphase)]
        exact Block.reply_answered _ q 0x1001 .badParam rfl
      · rw [if_neg (by simp [htear]), if_neg (by rw [hphase]; decide)] at hrun
        unfold Block.decideCreate at hrun
        rw [Block.ahead_heard, Block.busyGranules_heard, Block.heard_part, Fin.ofNat_val_eq_self] at hrun
        refine ⟨fun hok => answersFrom_of _ rfl hpass ?_, fun hno => answersFrom_of _ rfl hpass ?_⟩
        · rw [hrun]
          simp only [st, recs] at hok
          rw [if_pos hok]
          exact Block.finish_answered _ q 0x1001 .ok [] _ (Nat.zero_le _) rfl
        · rw [hrun]
          simp only [st, recs] at hno
          rw [if_neg hno]
          exact Block.reply_answered _ q 0x1001 st hfinal
    · have hrun := Block.runSliceGrow_of (b := s.b.heard q) hp hform
      rw [Block.tearing_heard, Block.ahead_heard, Block.busyGranules_heard, Block.heard_part, htear, Bool.or_false] at hrun
      refine ⟨fun hphase => answersFrom_of _ rfl hpass ?_, fun hphase => ⟨fun hok => answersFrom_of _ rfl hpass ?_,
        fun hno => answersFrom_of _ rfl hpass ?_⟩⟩
      · rw [hrun, if_pos (by rw [hphase]; rfl)]
        exact Block.reply_answered _ q 0x1002 .badParam rfl
      · rw [hrun, if_neg (by rw [hphase]; decide)]
        simp only [st, recs] at hok
        dsimp only
        rw [if_pos hok]
        exact Block.finish_answered _ q 0x1002 .ok [] _ (Nat.zero_le _) rfl
      · rw [hrun, if_neg (by rw [hphase]; decide)]
        simp only [st, recs] at hno
        dsimp only
        rw [if_neg hno]
        exact Block.reply_answered _ q 0x1002 st hfinal
  · intro ss dr busy p r own held leaving hkind hshared hmove
    exact sliceStatus_one hkind ss dr busy p hshared hmove
  · intro b p create recs hlen hne t
    obtain ⟨hslices, hparams, hdies⟩ := Block.sliceNow_frame b p create recs
    have hslice (r : Prid) : t.slice r = (applySlice b.part.slices p create recs).getD r Slice.empty := by
      rw [Block.slice, ← hslices]
      rfl
    refine ⟨?_, ?_, fun r hr hr0 => ?_, hparams, hdies⟩
    · rw [hslice]
      exact applySlice_self hlen hne create recs
    · rw [hslice]
      exact applySlice_zero hlen hne create recs
    · rw [hslice]
      exact applySlice_other create recs hr hr0

end Sys2Proof.Machine
end

section
/-! PROOF. Shrinks and teardowns: what their commands record, what happens at the boundary of their take-up, and how they end
(R138-R142). -/

namespace Sys2Proof

/-! ## Finishing pending requests touches the mailboxes alone -/

section FinishWhere

variable (b : Block) (sel : Pend → Bool) (st : Status) (pay : List Byte) (eff : Effect)

theorem Block.finishWhere_beside : b.finishWhere sel st pay eff = { b with mail := (b.finishWhere sel st pay eff).mail } := by
  obtain ⟨more, recent, h, -⟩ := Block.finishWhere_spec b sel st pay eff
  rw [h]
  rfl

@[simp] theorem Block.finishWhere_part : (b.finishWhere sel st pay eff).part = b.part := by rw [Block.finishWhere_beside]
@[simp] theorem Block.finishWhere_dies : (b.finishWhere sel st pay eff).dies = b.dies := by rw [Block.finishWhere_beside]
@[simp] theorem Block.finishWhere_lanes : (b.finishWhere sel st pay eff).lanes = b.lanes := by rw [Block.finishWhere_beside]
@[simp] theorem Block.finishWhere_mod : (b.finishWhere sel st pay eff).mod = b.mod := by rw [Block.finishWhere_beside]
@[simp] theorem Block.finishWhere_keys : (b.finishWhere sel st pay eff).keys = b.keys := by rw [Block.finishWhere_beside]
@[simp] theorem Block.finishWhere_nw : (b.finishWhere sel st pay eff).nw = b.nw := by rw [Block.finishWhere_beside]

/-- Of the pending requests those of the kind are gone. -/
@[simp] theorem Block.finishWhere_pend :
    (b.finishWhere sel st pay eff).mail.pend = b.mail.pend.filter fun e => !sel e := by
  obtain ⟨more, recent, h, -⟩ := Block.finishWhere_spec b sel st pay eff
  rw [h]
  rfl

variable {b sel}

/-- Each of them is answered. -/
theorem Block.finishWhere_done {e : Pend} (he : e ∈ b.mail.pend) (hsel : sel e = true) :
    e.req.answer e.opcode st pay eff true true ∈ (b.finishWhere sel st pay eff).mail.done := by
  obtain ⟨more, recent, h, hmore⟩ := Block.finishWhere_spec b sel st pay eff
  rw [h]
  exact List.mem_append_right _ (hmore e he hsel)

/-- None of them pends any more. -/
theorem Block.finishWhere_unselected {e : Pend} (he : e ∈ (b.finishWhere sel st pay eff).mail.pend) : sel e = false := by
  rw [Block.finishWhere_pend] at he
  simpa using (List.mem_filter.mp he).2

end FinishWhere

/-- A response completed before stays completed when another is. -/
theorem Block.finish_done_mono {b : Block} {a : Response} (h : a ∈ b.mail.done) (q : Req) (op : Nat) (st : Status)
    (pay : List Byte) (eff : Effect) : a ∈ (b.finish q op st pay eff).mail.done := by
  obtain ⟨more, recent, hf, -⟩ := Block.finish_frame b q op st pay eff
  rw [hf]
  exact List.mem_append_left _ h

/-- Completing a response touches the mailboxes alone. -/
theorem Block.finish_beside (b : Block) (q : Req) (op : Nat) (st : Status) (pay : List Byte) (eff : Effect) :
    b.finish q op st pay eff = { b with mail := (b.finish q op st pay eff).mail } := by
  obtain ⟨more, recent, hf, -⟩ := Block.finish_frame b q op st pay eff
  rw [hf]
  rfl

/-! ## Selecting the pending request of a shrink or teardown -/

/-- The pending SLICE_SHRINK of a PRID by its kind. -/
theorem Pend.shrinks_iff (e : Pend) (p : Prid) : e.shrinks p = true ↔ e.kind = .shrink p := by
  unfold Pend.shrinks
  cases e.kind with
  | shrink q => simp [Fin.ext_iff]
  | _ => simp

/-! ## What the boundary of a take-up changes (R140) -/

/-- Changes of buses change the buses alone. -/
theorem Block.modBuses_frame (b : Block) (is : List Nat) (f : CanBus → CanBus) :
    ∃ can, is.foldl (fun b i => b.modBus i f) b = { b with can := can } :=
  foldl_keeps (fun t : Block => ∃ can, t = { b with can := can }) ⟨b.can, rfl⟩ fun t i ht => by
    obtain ⟨can, rfl⟩ := ht
    exact ⟨_, rfl⟩

/-- What leaves a slice leaves it, its buses and the granules that drain; nothing else changes. -/
theorem Block.takeAway_frame (b : Block) (p : Nat) (recs : List ResRec) : ∃ can draining, b.takeAway p recs =
    { b with can := can, part := { b.part with
        slices := updAt b.part.slices p fun s => recs.foldl Slice.remove s, draining := draining } } := by
  unfold Block.takeAway
  obtain ⟨can, h⟩ := Block.modBuses_frame (b.modSlice p fun s => recs.foldl Slice.remove s) (removedBuses recs) fun c =>
    { c with filters := c.filters.filter (fun f => f.1 != p), queues := c.queues.filter (fun q => q.1 != p) }
  dsimp only
  rw [h]
  exact ⟨can, _, rfl⟩

/-- The end of a drain changes what drains, what is being zeroed and the key slots; nothing else. -/
theorem Block.drained_frame (b : Block) (p : Nat) (recs : List ResRec) : ∃ draining zeroing keys, b.drained p recs =
    { b with keys := keys, part := { b.part with draining := draining, zeroing := zeroing } } := ⟨_, _, _, rfl⟩

/-- A shrink whose resources have nothing in flight has ended at once (R142). -/
theorem Drain.pay_zero {d : Drain} (htotal : d.total = 0) (hresized : d.resized = 0) (hcut : d.cut = 0) :
    d.pay 0 = zeroBytes 16 := by
  simp only [Drain.pay, htotal, hresized, hcut]
  decide

/-- The boundary of a shrink's take-up where nothing of its resources is in flight (R140). -/
theorem Block.beginShrink_idle {b : Block} {p : Nat} {d : Drain} (h : (b.takeAway p d.recs).inFlight p d.recs = 0) :
    b.beginShrink p d =
      ((b.takeAway p d.recs).modDrain p fun d => { d with begun := true }).shrinkEnds p 0 { d with begun := true } := by
  unfold Block.beginShrink
  exact if_pos h

/-- The record of a drain does not count as work in flight. -/
theorem Block.inFlight_modDrain (b : Block) (p r : Nat) (f : Drain → Drain) (recs : List ResRec) :
    (b.modDrain p f).inFlight r recs = b.inFlight r recs := rfl

/-- A shrink is told that it goes on. -/
def Pend.tell (p : Nat) (e : Pend) : Pend := if e.shrinks p then { e with told := true } else e

/-- Responses that are not final are completed alone (R112). -/
theorem Block.post_pending (b : Block) {a : Response} (h : a.status.final = false) :
    b.post a = b.modMail fun m => { m with done := m.done ++ [a] } := by
  simp [Block.post, h]

/-- The answer PENDING fits every buffer. -/
theorem Req.answer_pending (q : Req) (op : Nat) : (q.answer op .pending [] .none true true).status.final = false := by
  simp [Req.answer, Status.final]

/-- PENDING completed for each request of a list. -/
theorem Block.postPending_foldl (b : Block) (hits : List Pend) :
    hits.foldl (fun b e => b.post (e.req.answer e.opcode .pending [] .none true true)) b =
      b.modMail fun m => { m with done := m.done ++ hits.map fun e => e.req.answer e.opcode .pending [] .none true true } := by
  induction hits generalizing b with
  | nil => simp [Block.modMail]
  | cons e t ih =>
    rw [List.foldl_cons, ih, Block.post_pending _ (Req.answer_pending _ _)]
    simp [Block.modMail]

/-- The boundary of a shrink's take-up with work in flight: it returns PENDING and drains (R140, R142). -/
theorem Block.beginShrink_busy {b : Block} {p : Nat} {d : Drain} (h : (b.takeAway p d.recs).inFlight p d.recs ≠ 0) :
    ∃ can draining drains, b.beginShrink p d =
      Block.modMail { b with can := can, part := { b.part with
        slices := updAt b.part.slices p fun s => { d.recs.foldl Slice.remove s with phase := .shrinking },
        draining := draining, drains := drains } } fun m =>
          { m with pend := m.pend.map (Pend.tell p),
                   done := m.done ++ (b.mail.pend.filter fun e => e.shrinks p && !e.told).map fun e =>
                     e.req.answer e.opcode .pending [] .none true true } := by
  obtain ⟨can, draining, htake⟩ := Block.takeAway_frame b p d.recs
  unfold Block.beginShrink
  dsimp only
  rw [Block.inFlight_modDrain, if_neg h, Block.postPending_foldl, htake]
  simp only [Block.modSlice, Block.modDrain, Block.modPart, updAt_updAt]
  exact ⟨_, _, _, rfl⟩

/-- The end of a shrink's drain: the resources are free, and every request of it is answered (R141, R142). -/
theorem Block.shrinkEnds_frame (b : Block) (p us : Nat) (d : Drain) : ∃ draining zeroing keys, b.shrinkEnds p us d =
    Block.finishWhere { b with keys := keys, part := { b.part with
      draining := draining, zeroing := zeroing,
      drains := b.part.drains.map fun e => if e.1 = p then (p, { e.2 with ended := true }) else e } }
      (·.shrinks p) .ok (d.pay us) (.shrunk (Fin.ofNat 32 p)) := by
  obtain ⟨draining, zeroing, keys, h⟩ := Block.drained_frame b p d.recs
  unfold Block.shrinkEnds
  rw [h]
  exact ⟨draining, zeroing, keys, rfl⟩

/-- The boundary of a teardown's take-up: the whole slice is removed, the PRID runs unfrozen and its WAKE_HOLD ends (R139). -/
theorem Block.beginTeardown_frame (b : Block) (p : Nat) : ∃ can draining zeroing drains removed keys lanes, b.beginTeardown p =
    { b with can := can, keys := keys, lanes := lanes,
             part := { b.part with
               slices := updAt b.part.slices p fun s =>
                 { (b.slice p).recs.foldl Slice.remove s with phase := .tearing, frozen := false },
               draining := draining, zeroing := zeroing, drains := drains, removed := removed },
             nw := { b.nw with holds := b.nw.holds &&& ~~~ (BitVec.ofNat 32 (2 ^ p)) } } := by
  obtain ⟨can, draining, htake⟩ := Block.takeAway_frame b p (b.slice p).recs
  unfold Block.beginTeardown
  dsimp only
  rw [htake]
  simp only [Block.modSlice, updAt_updAt]
  split
  · exact ⟨_, _, _, _, _, _, _, rfl⟩
  · exact ⟨_, _, _, _, _, _, _, rfl⟩

/-- With one shrink or teardown taken up, the boundary begins that one. -/
theorem Block.beginDrains_one {b : Block} {p : Nat} {d : Drain}
    (h : (b.part.drains.filter fun e => !e.2.begun) = [(p, d)]) :
    b.beginDrains = if d.destroy then b.beginTeardown p else b.beginShrink p d := by
  simp only [Block.beginDrains, h, List.foldl_cons, List.foldl_nil]

end Sys2Proof

namespace Sys2Proof.Machine

/-- What the boundary of its take-up does to the slices and mailboxes of a shrink. -/
theorem beginShrink_slices {b : Block} {p : Prid} {d : Drain} (hlen : b.part.slices.length = 32) :
    (∀ r : Prid, r ≠ p → (b.beginShrink p d).slice r = b.slice r) ∧ (b.beginShrink p d).dies = b.dies ∧
    (b.beginShrink p d).slice p =
      if (b.takeAway p d.recs).inFlight p d.recs = 0 then d.recs.foldl Slice.remove (b.slice p)
      else { d.recs.foldl Slice.remove (b.slice p) with phase := .shrinking } := by
  have hp : p.val < b.part.slices.length := lt_of_lt_of_eq p.isLt hlen.symm
  obtain ⟨can, draining, htake⟩ := Block.takeAway_frame b p d.recs
  by_cases h : (b.takeAway p d.recs).inFlight p d.recs = 0
  · obtain ⟨draining', zeroing, keys, hends⟩ := Block.shrinkEnds_frame
      ((b.takeAway p d.recs).modDrain p fun d => { d with begun := true }) p 0 { d with begun := true }
    rw [Block.beginShrink_idle h, hends, if_pos h]
    simp only [Block.slice, Block.finishWhere_part, Block.finishWhere_dies]
    rw [htake]
    exact ⟨fun r hr => updAt_getD_other _ _ _ _ _ (prid_val_ne hr), rfl, updAt_getD_same _ _ _ _ hp⟩
  · obtain ⟨can', draining', drains, hbusy⟩ := Block.beginShrink_busy h
    rw [if_neg h, hbusy]
    exact ⟨fun r hr => updAt_getD_other _ _ _ _ _ (prid_val_ne hr), rfl, updAt_getD_same _ _ _ _ hp⟩

/-- What it does to the pending request of the shrink. -/
theorem beginShrink_mail {b : Block} {p : Prid} {d : Drain} :
    ((b.takeAway p d.recs).inFlight p d.recs = 0 →
      (∀ e ∈ b.mail.pend, e.kind = .shrink p →
        e.req.answer e.opcode .ok (d.pay 0) (.shrunk p) true true ∈ (b.beginShrink p d).mail.done) ∧
      ∀ e ∈ (b.beginShrink p d).mail.pend, e.kind ≠ .shrink p) ∧
    ((b.takeAway p d.recs).inFlight p d.recs ≠ 0 →
      (∀ e ∈ b.mail.pend, e.kind = .shrink p → e.told = false →
        e.req.answer e.opcode .pending [] .none true true ∈ (b.beginShrink p d).mail.done) ∧
      ∀ e ∈ (b.beginShrink p d).mail.pend, e.kind = .shrink p → e.told = true) := by
  obtain ⟨can, draining, htake⟩ := Block.takeAway_frame b p d.recs
  refine ⟨fun h => ?_, fun h => ?_⟩
  · obtain ⟨draining', zeroing, keys, hends⟩ := Block.shrinkEnds_frame
      ((b.takeAway p d.recs).modDrain p fun d => { d with begun := true }) p 0 { d with begun := true }
    rw [Block.beginShrink_idle h, hends, Fin.ofNat_val_eq_self]
    refine ⟨fun e he hk => ?_, fun e he hk => ?_⟩
    · exact Block.finishWhere_done .ok (d.pay 0) (.shrunk p) (by rw [htake]; exact he) ((Pend.shrinks_iff e p).mpr hk)
    · have hno := Block.finishWhere_unselected _ _ _ he
      rw [(Pend.shrinks_iff e p).mpr hk] at hno
      cases hno
  · obtain ⟨can', draining', drains, hbusy⟩ := Block.beginShrink_busy h
    rw [hbusy]
    refine ⟨fun e he hk htold => ?_, fun e he hk => ?_⟩
    · refine List.mem_append_right _ (List.mem_map_of_mem (List.mem_filter.mpr ⟨he, ?_⟩))
      rw [(Pend.shrinks_iff e p).mpr hk, htold]
      rfl
    · obtain ⟨e', -, rfl⟩ := List.mem_map.mp he
      by_cases hs : e'.shrinks p = true
      · rw [Pend.tell, if_pos hs]
      · rw [Pend.tell, if_neg hs] at hk
        exact absurd ((Pend.shrinks_iff e' p).mpr hk) hs

/-- Settles O16: the two commands at their take-up, and the boundary of a shrink and of a teardown (what begins at the boundary that
ends the epoch of the take-up: log entry 41). -/
theorem slicesShrinkAndDestroy : Obligations.SlicesShrinkAndDestroy := by
  refine ⟨?_, ?_⟩
  · intro s q p hp htear
    refine ⟨?_, ?_⟩
    · intro recs hpass hform hroom
      have hrun := Block.runShrink_of (b := s.b.heard q) hp hform hroom
      rw [Block.tearing_heard, Block.ahead_heard, htear, Bool.or_false] at hrun
      refine ⟨fun hno => answersFrom_of _ rfl hpass ?_, fun hphase hall => holdsFrom_of _ rfl hpass ?_⟩
      · rw [hrun, if_pos]
        · exact Block.reply_answered _ q 0x1003 .badParam rfl
        · rcases hno with hphase | ⟨r, hr, hfalse⟩
          · rw [hphase]
            rfl
          · exact Bool.or_eq_true_iff.mpr (Or.inr (List.any_eq_true.mpr ⟨r, hr, by rw [hfalse]; rfl⟩))
      · rw [hrun, if_neg]
        · exact Block.hold_held _ q 0x1003 _ false
        · rw [hphase, Bool.false_or, List.any_eq_true]
          rintro ⟨r, hr, hno⟩
          rw [hall r hr] at hno
          cases hno
    · intro hpass hhead hne
      have hrun := Block.runDestroySlice_of (b := s.b.heard q) hp hhead hne
      rw [Block.tearing_heard, Block.ahead_heard, htear, Bool.or_false] at hrun
      refine ⟨fun hphase => answersFrom_of _ rfl hpass ?_, fun hphase => holdsFrom_of _ rfl hpass ?_⟩
      · rw [hrun, if_pos (by rw [hphase]; rfl)]
        exact Block.reply_answered _ q 0x1004 .badParam rfl
      · rw [hrun, if_neg (by rw [hphase]; decide)]
        exact Block.hold_held _ q 0x1004 _ true
  · intro b p d hlen hone htotal hresized hcut t left
    have ht := Block.beginDrains_one hone
    cases hd : d.destroy with
    | false =>
      rw [hd, if_neg (by decide)] at ht
      obtain ⟨hothers, hdies, hself⟩ := beginShrink_slices (p := p) (d := d) hlen
      obtain ⟨hidle, hbusy⟩ := beginShrink_mail (b := b) (p := p) (d := d)
      rw [Drain.pay_zero htotal hresized hcut] at hidle
      rw [← ht] at hothers hdies hself hidle hbusy
      refine ⟨hothers, hdies, fun _ => ⟨fun h => ⟨?_, hidle h⟩, fun h => ⟨?_, hbusy h⟩⟩, fun h => by cases h⟩
      · rwa [if_pos h] at hself
      · rwa [if_neg h] at hself
    | true =>
      rw [hd, if_pos rfl] at ht
      obtain ⟨can, draining, zeroing, drains, removed, keys, lanes, hframe⟩ := Block.beginTeardown_frame b p
      have hteq : t = _ := ht.trans hframe
      refine ⟨fun r hr => ?_, ?_, (fun h => by cases h), fun _ => ?_⟩
      · rw [hteq]
        exact updAt_getD_other _ _ _ _ _ (prid_val_ne hr)
      · rw [hteq]
      · rw [hteq]
        exact ⟨updAt_getD_same _ _ _ _ (lt_of_lt_of_eq p.isLt hlen.symm), rfl, rfl⟩

end Sys2Proof.Machine
end

section
/-! PROOF. Drains and teardowns end: the drain limit, the end of a drain, the visible response of a shrink, the end of a teardown
and the zeroing of granules (R134, R138-R142). -/

namespace Sys2Proof

/-! ## The record of a drain -/

/-- The first entry of a key in a list whose entries of that key have changed. -/
theorem find_changed {α : Type} (l : List (Nat × α)) (p : Nat) (f : α → α) :
    ((l.map fun e => if e.1 = p then (p, f e.2) else e).find? fun e => e.1 == p).map (·.2) =
      ((l.find? fun e => e.1 == p).map (·.2)).map f := by
  induction l with
  | nil => rfl
  | cons e t ih =>
    by_cases h : e.1 = p
    · simp [h]
    · simpa [h] using ih

/-- The drain of a PRID behind a change of it. -/
theorem Block.drainOf_modDrain (b : Block) (p : Nat) (f : Drain → Drain) : (b.modDrain p f).drainOf? p = (b.drainOf? p).map f :=
  find_changed b.part.drains p f

/-- The drains say which drain a PRID has. -/
theorem Block.drainOf_congr {b t : Block} (h : t.part.drains = b.part.drains) (p : Nat) : t.drainOf? p = b.drainOf? p := by
  rw [Block.drainOf?, h, Block.drainOf?]

/-! ## The drain limit (R140) -/

/-- Shadow slots given up change the key store alone. -/
theorem Block.shadowsFree_frame (b : Block) (is : List Nat) : ∃ keys, is.foldl Block.shadowFree b = { b with keys := keys } :=
  foldl_keeps (fun t : Block => ∃ keys, t = { b with keys := keys }) ⟨b.keys, rfl⟩ fun t i ht => by
    obtain ⟨keys, rfl⟩ := ht
    exact ⟨_, rfl⟩

/-- The drain limit ends what can be cut and counts it. -/
theorem Block.drainCut_frame {b : Block} {p : Nat} {d : Drain} (hd : b.drainOf? p = some d) (hbegun : d.begun = true)
    (hends : d.ended = false) : ∃ lanes keys, b.drainCut p =
      (Block.finishWhere { b with lanes := lanes, keys := keys } (fun e => e.drains p d.recs) .resized [] .none).modDrain p
        fun x => { x with cut := x.cut + b.cuttable p d.recs } := by
  unfold Block.drainCut
  simp only [hd, hbegun, hends, Bool.not_true, Bool.or_false, Bool.false_eq_true, if_false]
  generalize List.filterMap _ _ = shadows
  obtain ⟨keys, h⟩ := Block.shadowsFree_frame (Block.modLanes (Block.modLanes b _) _) shadows
  rw [h]
  exact ⟨_, keys, rfl⟩

/-! ## The end of a drain (R141, R142) -/

/-- With nothing in flight the drain of a shrink ends. -/
theorem Block.drainEnds_shrink {b : Block} {p : Nat} {d : Drain} (hd : b.drainOf? p = some d) (hbegun : d.begun = true)
    (hends : d.ended = false) (hshrink : d.destroy = false) (hnone : b.inFlight p d.recs = 0) (us : Nat) :
    ∃ lanes evs, b.drainEnds p us = Block.shrinkEnds { b with lanes := lanes, ev := evs } p us d := by
  unfold Block.drainEnds
  simp only [hd, hbegun, hends, hnone, hshrink, Bool.not_true, Bool.or_false, bne_self_eq_false, Bool.false_eq_true, if_false]
  split
  · exact ⟨b.lanes, b.ev, rfl⟩
  · obtain ⟨lanes, evs, h⟩ := Block.raiseAll_frame b 30 0 p d.cut
    exact ⟨lanes, evs, by rw [h]⟩

/-- Behind its end the drain stands, ended. -/
theorem Block.drainOf_shrinkEnds (b : Block) (p us : Nat) (d : Drain) :
    (b.shrinkEnds p us d).drainOf? p = (b.drainOf? p).map fun d => { d with ended := true } := by
  rw [← Block.drainOf_modDrain]
  refine Block.drainOf_congr ?_ p
  rw [Block.shrinkEnds, Block.finishWhere_part]
  rfl

/-! ## The end of a teardown (R138, R139) -/

/-- A waiting SLICE_CREATE decided touches the mailboxes alone, and nothing completed is lost. -/
theorem Block.decideCreate_frame (b : Block) (q : Req) (p : Nat) (recs : List ResRec) :
    b.decideCreate q p recs = { b with mail := (b.decideCreate q p recs).mail } ∧
      ∀ a ∈ b.mail.done, a ∈ (b.decideCreate q p recs).mail.done := by
  unfold Block.decideCreate
  dsimp only
  split
  · exact ⟨Block.finish_beside _ _ _ _ _ _, fun a ha => Block.finish_done_mono ha _ _ _ _ _⟩
  · exact ⟨Block.finish_beside _ _ _ _ _ _, fun a ha => Block.finish_done_mono ha _ _ _ _ _⟩

/-- The block in which the slice of a torn-down PRID is gone and its SLICE_DESTROY answered. -/
def Block.destroyed (b : Block) (p : Nat) (recs : List ResRec) : Block :=
  let gs := b.releasedGranules p recs
  ((b.modPart fun s =>
      { s with drains := s.drains.filter (fun e => e.1 != p), zeroing := s.zeroing.filter fun g => !gs.contains g }).modSlice p
    fun _ => Slice.empty).finishWhere
    (fun e => match e.kind with | .destroy q => q.val == p | _ => false) .ok [] .none

/-- What the end of a teardown leaves: that block, but for the creates that waited. -/
theorem Block.tornDown_frame {b : Block} {p : Nat} {d : Drain} (hd : b.drainOf? p = some d) (hdestroy : d.destroy = true)
    (hended : d.ended = true) :
    (b.tornDown p).part = (b.destroyed p d.recs).part ∧
      ∀ a ∈ (b.destroyed p d.recs).mail.done, a ∈ (b.tornDown p).mail.done := by
  obtain ⟨recs, destroy, begun, ended, total, resized, cut⟩ := d
  cases hdestroy
  cases hended
  unfold Block.tornDown
  rw [hd]
  refine foldl_keeps (fun t : Block => t.part = (b.destroyed p recs).part ∧ ∀ a ∈ (b.destroyed p recs).mail.done, a ∈ t.mail.done)
    ⟨rfl, fun a ha => ha⟩ fun t e ht => ?_
  split
  · obtain ⟨hbeside, hdone⟩ := Block.decideCreate_frame t e.req p ‹_›
    exact ⟨by rw [hbeside]; exact ht.1, fun a ha => hdone a (ht.2 a ha)⟩
  · exact ht

/-- The granules of a teardown that ends. -/
theorem Block.tornGranules_of {b : Block} {p : Nat} {d : Drain} (hd : b.drainOf? p = some d) (hdestroy : d.destroy = true)
    (hended : d.ended = true) : b.tornGranules p = b.releasedGranules p d.recs := by
  obtain ⟨recs, destroy, begun, ended, total, resized, cut⟩ := d
  cases hdestroy
  cases hended
  unfold Block.tornGranules
  rw [hd]

/-- Behind the zeroing of granules every byte of each reads zero in both lanes (R134). -/
theorem MemSt.read_zeroed (m : MemSt) (gs : List Nat) (l : Lane) (a : Nat)
    (h : (∃ g ∈ gs, g * granule ≤ a ∧ a < g * granule + granule) ∨ m.read l a 1 = [0]) :
    (gs.foldl (fun (m : MemSt) g => m.zero (g * granule) granule) m).read l a 1 = [0] := by
  induction gs generalizing m with
  | nil =>
    rcases h with ⟨g, hg, -⟩ | h
    · cases hg
    · exact h
  | cons x t ih =>
    refine ih _ ?_
    by_cases hx : x * granule ≤ a ∧ a < x * granule + granule
    · exact Or.inr (by rw [MemSt.read_zero, if_pos hx])
    · rcases h with ⟨g, hg, hin⟩ | h
      · rcases List.mem_cons.mp hg with rfl | hg
        · exact absurd hin hx
        · exact Or.inl ⟨g, hg, hin⟩
      · exact Or.inr (by rw [MemSt.read_zero, if_neg hx, h])

/-! ## The visible response of a shrink (R141) -/

/-- Behind the visible response of a shrink the PRID has no drain. -/
theorem Block.drainOf_shrunkNow {b : Block} {p : Nat} (h : ∀ e ∈ b.part.drains, e.1 = p → e.2.destroy = false) :
    (b.shrunkNow p).drainOf? p = none := by
  have hgone : (b.part.drains.filter fun e => e.1 != p || e.2.destroy).find? (fun e => e.1 == p) = none := by
    refine List.find?_eq_none.mpr fun e he hep => ?_
    have hp : e.1 = p := beq_iff_eq.mp hep
    obtain ⟨hmem, hkept⟩ := List.mem_filter.mp he
    rw [hp, h e hmem hp] at hkept
    simp at hkept
  exact congrArg (Option.map _) hgone

/-- The slice that was shrinking runs again. -/
theorem Block.phase_shrunkNow {b : Block} {p : Nat} (hp : p < b.part.slices.length) (h : (b.slice p).phase = .shrinking) :
    ((b.shrunkNow p).slice p).phase = .running := by
  unfold Block.shrunkNow
  rw [Block.slice_modSlice _ _ _ (by exact hp)]
  exact congrArg Slice.phase (if_pos h)

end Sys2Proof

namespace Sys2Proof.Machine

/-- The drain limit of a drain that has begun (R140). -/
theorem drainLimitReached {s : State} {p : Prid} {d : Drain} (hd : s.b.drainOf? p = some d) (hbegun : d.begun = true)
    (hends : d.ended = false) :
    ∃ b', Becomes (.drainLimitReached p) s b' ∧ (∀ e ∈ b'.mail.pend, e.drains p d.recs = false) ∧
      (∀ e ∈ s.b.mail.pend, e.drains p d.recs = true → e.req.answer e.opcode .resized [] .none true true ∈ b'.mail.done) ∧
      b'.drainOf? p = some { d with cut := d.cut + s.b.cuttable p d.recs } := by
  obtain ⟨lanes, keys, hframe⟩ := Block.drainCut_frame hd hbegun hends
  refine ⟨_, becomes_onBlock (f := fun b => b.drainCut p) rfl hframe, fun e he => ?_, fun e he hdr => ?_, ?_⟩
  · exact Block.finishWhere_unselected _ _ _ he
  · exact Block.finishWhere_done (b := { s.b with lanes := lanes, keys := keys }) (sel := fun e => e.drains p d.recs) _ _ _ he hdr
  · rw [Block.drainOf_modDrain, Block.drainOf_congr (b := s.b) (by rw [Block.finishWhere_part]), hd]
    rfl

/-- The end of a shrink's drain with nothing left in flight (R142). -/
theorem drainEnd_shrink {s : State} {p : Prid} {d : Drain} (hd : s.b.drainOf? p = some d) (hbegun : d.begun = true)
    (hends : d.ended = false) (hshrink : d.destroy = false) (hnone : s.b.inFlight p d.recs = 0) (us : Nat) :
    ∃ b', Becomes (.drainEnd p us) s b' ∧ b'.drainOf? p = some { d with ended := true } ∧
      (∀ e ∈ s.b.mail.pend, e.kind = .shrink p → e.req.answer e.opcode .ok (d.pay us) (.shrunk p) true true ∈ b'.mail.done) ∧
      (∀ e ∈ b'.mail.pend, e.kind ≠ .shrink p) := by
  obtain ⟨lanes, evs, hframe⟩ := Block.drainEnds_shrink hd hbegun hends hshrink hnone us
  obtain ⟨draining, zeroing, keys, hends'⟩ := Block.shrinkEnds_frame { s.b with lanes := lanes, ev := evs } p us d
  rw [Fin.ofNat_val_eq_self] at hends'
  refine ⟨_, becomes_onBlock (f := fun b => b.drainEnds p us) rfl hframe, ?_, fun e he hk => ?_, fun e he hk => ?_⟩
  · rw [Block.drainOf_shrinkEnds]
    exact congrArg (Option.map _) hd
  · rw [hends']
    exact Block.finishWhere_done .ok (d.pay us) (.shrunk p) he ((Pend.shrinks_iff e p).mpr hk)
  · rw [hends'] at he
    have hno := Block.finishWhere_unselected _ _ _ he
    rw [(Pend.shrinks_iff e p).mpr hk] at hno
    cases hno

/-- Settles O18: the drain limit, the end of a drain, the visible response, the end of a teardown, and the zeroing of a granule. -/
theorem drainsAndTeardownsEnd : Obligations.DrainsAndTeardownsEnd := by
  refine ⟨fun s p d hd hbegun hends => ⟨drainLimitReached hd hbegun hends, fun hshrink hnone us =>
    drainEnd_shrink hd hbegun hends hshrink hnone us⟩, fun b p hlen hshrinks hphase => ?_, fun s p d hd hdestroy hended hlen => ?_,
    fun s g hg => ?_, fun s g hg => ?_⟩
  · exact ⟨Block.phase_shrunkNow (lt_of_lt_of_eq p.isLt hlen.symm) hphase, Block.drainOf_shrunkNow hshrinks⟩
  · obtain ⟨hpart, hdone⟩ := Block.tornDown_frame hd hdestroy hended
    refine ⟨_, rfl, ?_, fun g hg l a hlo hhi => ?_, fun e he hk => hdone _ ?_⟩
    · rw [State.withMem_b, State.withBlock_b, Block.slice, hpart, Block.destroyed, Block.finishWhere_part]
      exact updAt_getD_same _ _ _ _ (lt_of_lt_of_eq p.isLt hlen.symm)
    · rw [State.withMem_mem, Block.tornGranules_of hd hdestroy hended]
      exact MemSt.read_zeroed _ _ _ _ (Or.inl ⟨g, hg, hlo, hhi⟩)
    · exact Block.finishWhere_done .ok [] .none he (by simp [hk])
  · refine ⟨_, if_pos (List.contains_iff_mem.mpr hg), ?_, rfl, fun l a => MemSt.read_zero _ _ _ _ _⟩
    simp
  · exact if_neg fun h => hg (List.contains_iff_mem.mp h)

end Sys2Proof.Machine
end

section
/-! PROOF. Channel requests send frames of the die's stream: what sending a frame changes, CHAN_SET, CHAN_PWM and UNLOCK, and the
frames of CHAN_MULTI (R170-R172, R189, R193). -/

namespace Sys2Proof

/-! ## Sending a frame -/

/-- A frame sent to the far lane changes what the lane sends. -/
theorem Block.toPeer_frame (b : Block) (l : Lane) (it : Item) : ∃ lanes, b.toPeer l it = { b with lanes := lanes } := by
  unfold Block.toPeer
  split
  · exact ⟨_, rfl⟩
  · exact ⟨b.lanes, rfl⟩

/-- A divergence changes the records of divergences, events and what lanes hold (R265). -/
theorem Block.diverge_frame (b : Block) (source prid : Nat) :
    ∃ mod lanes evs, b.diverge source prid = { b with mod := mod, lanes := lanes, ev := evs } := by
  obtain ⟨lanes, evs, h⟩ := Block.raiseAll_frame b 19 source (if prid < 32 then prid else noSubject) 0
  unfold Block.diverge
  rw [h]
  exact ⟨_, lanes, evs, rfl⟩

/-- A check record changes lanes and, where it differs from the far lane's, the records of divergences and events (R264). -/
theorem Block.checkSent_frame (b : Block) (l : Lane) (stream num prid : Nat) (content : List Byte) :
    ∃ mod lanes evs, b.checkSent l stream num prid content = { b with mod := mod, lanes := lanes, ev := evs } := by
  unfold Block.checkSent
  dsimp only
  generalize hx : b.modLane l _ = x
  obtain ⟨lanes, hpeer⟩ := Block.toPeer_frame x l { epoch := x.mod.epoch, body := .check stream num _ }
  rw [hpeer, ← hx]
  split
  · split
    · exact ⟨_, _, _, rfl⟩
    · exact Block.diverge_frame _ 3 prid
  · exact ⟨_, _, _, rfl⟩

/-- The check records of a frame. -/
theorem Block.checksSent_frame (b : Block) (d : Nat) (k : SeqKind) (idx num : Nat) (content : List Byte) (ls : List Lane) :
    ∃ mod lanes evs, ls.foldl (fun b l => b.checkSent l (powerStream d) num (b.ownerOf d k idx) content) b =
      { b with mod := mod, lanes := lanes, ev := evs } :=
  foldl_keeps (fun t : Block => ∃ mod lanes evs, t = { b with mod := mod, lanes := lanes, ev := evs }) ⟨_, _, _, rfl⟩
    fun t l ht => by
      obtain ⟨mod, lanes, evs, rfl⟩ := ht
      exact Block.checkSent_frame _ l _ _ _ _

/-- A frame sent takes the next number of the die's stream and waits for its acknowledgement; besides the link the lanes, the
records of divergences and the events change, by its check records (R200, R264). -/
theorem Block.sends_frame (b : Block) (d : Nat) (k : SeqKind) (idx : Fin 16) (arg : List Byte) :
    ∃ mod lanes evs, b.sends d k idx arg =
      { b.modLink d fun x => { x with
          lastNum := (b.link d).lastNum + 1,
          unacked := x.unacked ++ [Unacked.fresh ((b.link d).lastNum + 1) k idx arg ((b.die d).chans.map (chanState (b.die d)))] }
        with mod := mod, lanes := lanes, ev := evs } :=
  Block.checksSent_frame _ d k idx _ _ _

/-- To a die that answers, sending a frame is giving it the next number of the stream (R200, R518). -/
theorem Block.sendFrame_eq_sends {b : Block} {d : Nat} (h : (b.link d).lost = false) (k : SeqKind) (idx : Fin 16) (arg : List Byte) :
    b.sendFrame d k idx arg = b.sends d k idx arg := by
  unfold Block.sendFrame
  rw [h, Fin.ofNat_val_eq_self]
  rfl

@[simp] theorem Block.sends_mail (b : Block) (d : Nat) (k : SeqKind) (idx : Fin 16) (arg : List Byte) :
    (b.sends d k idx arg).mail = b.mail := by
  obtain ⟨mod, lanes, evs, h⟩ := Block.sends_frame b d k idx arg
  rw [h]
  rfl

@[simp] theorem Block.sends_links_length (b : Block) (d : Nat) (k : SeqKind) (idx : Fin 16) (arg : List Byte) :
    (b.sends d k idx arg).links.length = b.links.length := by
  obtain ⟨mod, lanes, evs, h⟩ := Block.sends_frame b d k idx arg
  rw [h]
  exact updAt_length _ _ _

/-- The last number of the die's stream behind a frame. -/
theorem Block.lastNum_sends {b : Block} {d : Nat} (hd : d < b.links.length) (k : SeqKind) (idx : Fin 16) (arg : List Byte) :
    ((b.sends d k idx arg).link d).lastNum = (b.link d).lastNum + 1 := by
  obtain ⟨mod, lanes, evs, h⟩ := Block.sends_frame b d k idx arg
  rw [h]
  exact congrArg DieLink.lastNum (Block.link_modLink b d _ hd)

/-- The links of the other dies stand. -/
theorem Block.link_sends_other (b : Block) {d e : Nat} (he : e ≠ d) (k : SeqKind) (idx : Fin 16) (arg : List Byte) :
    (b.sends d k idx arg).link e = b.link e := by
  obtain ⟨mod, lanes, evs, h⟩ := Block.sends_frame b d k idx arg
  rw [h]
  exact Block.link_modLink_other b d e _ he

/-! ## What a heard request finds of the dies -/

@[simp] theorem Block.link_heard (b : Block) (q : Req) (d : Nat) : (b.heard q).link d = b.link d := by rw [Block.heard_eq]; rfl
@[simp] theorem Block.links_heard (b : Block) (q : Req) : (b.heard q).links = b.links := by rw [Block.heard_eq]
@[simp] theorem Block.die_heard (b : Block) (q : Req) (d : Nat) : (b.heard q).die d = b.die d := by rw [Block.heard_eq]; rfl
@[simp] theorem Block.chan_heard (b : Block) (q : Req) (c : Nat) : (b.heard q).chan c = b.chan c := by rw [Block.heard_eq]; rfl
@[simp] theorem Block.p_heard (b : Block) (q : Req) (id inst : Nat) : (b.heard q).p id inst = b.p id inst := by
  rw [Block.heard_eq]; rfl
@[simp] theorem Block.dieServed_heard (b : Block) (q : Req) (d : Nat) : (b.heard q).dieServed d = b.dieServed d := by
  rw [Block.heard_eq]; rfl
@[simp] theorem Block.chanActive_heard (b : Block) (q : Req) (c : Nat) : (b.heard q).chanActive c = b.chanActive c := by
  rw [Block.heard_eq]; rfl

/-- The die of an active channel answers (R518). -/
theorem Block.answers_of_chanActive {b : Block} {c : Nat} (h : b.chanActive c = true) : (b.link (c / 16)).lost = false := by
  simp only [Block.chanActive, Block.dieServed, Bool.and_eq_true, Bool.not_eq_true'] at h
  exact h.2.2

/-! ## One frame for one channel (R170, R171, R189) -/

/-- The die of a channel. -/
def Chan.dieOf (c : Chan) : Die := ⟨c.val / 16, by omega⟩

/-- The place of a channel on its die. -/
def Chan.place (c : Chan) : Fin 16 := ⟨c.val % 16, by omega⟩

section Commands

variable {b : Block} {q : Req} {c : Chan} (hc : byteAt q.pay 0 = c.val) (hroom : 4 ≤ q.room)
include hc hroom

/-- CHAN_SET of good form (R170). -/
theorem Block.runChanSet_of (hlen : q.pay.length = 4) (hone : byteAt q.pay 1 ≤ 1) (hzero : zerosAt q.pay 2 2 = true) :
    b.runChanSet q = if b.chanActive c then b.sendChan q 0x2001 c .set (leBytes 1 (byteAt q.pay 1) ++ zeroBytes 5)
      else b.reply q 0x2001 .notActive := by
  simp only [Block.runChanSet, hc, hlen, hone, hzero, c.isLt, decide_true, beq_self_eq_true, Bool.and_self, Block.check7_good,
    Block.needRoom_enough _ _ _ _ _ hroom]
  cases b.chanActive c <;> rfl

/-- CHAN_PWM of good form (R170). -/
theorem Block.runChanPwm_of (hlen : q.pay.length = 8) (hzero1 : byteAt q.pay 1 = 0) (hfreq : freqOk c (fieldAt q.pay 2 2) = true)
    (hduty : fieldAt q.pay 4 2 ≤ 1000) (hzero : zerosAt q.pay 6 2 = true) :
    b.runChanPwm q = if b.chanActive c then b.sendChan q 0x2002 c .pwm
        (leBytes 2 (fieldAt q.pay 2 2) ++ leBytes 2 (fieldAt q.pay 4 2) ++ leBytes 1 (b.p 0x2007 c) ++ zeroBytes 1)
      else b.reply q 0x2002 .notActive := by
  simp only [Block.runChanPwm, hc, hlen, hzero1, hfreq, hduty, hzero, c.isLt, decide_true, beq_self_eq_true, Bool.and_self,
    Block.check7_good, Block.needRoom_enough _ _ _ _ _ hroom]
  cases b.chanActive c <;> rfl

/-- UNLOCK of good form (R189). -/
theorem Block.runUnlock_of (hlen : q.pay.length = 4) (hzero : zerosAt q.pay 1 3 = true) :
    b.runUnlock q = if b.chanActive c then
        if (b.chan c).lock ≠ 0 ∧ windowRecovered c (b.chan c) = false then
          b.finish q 0x2004 .busy (leBytes 4 (recoveryMs c (b.die (c / 16)).ms (b.chan c))) .none
        else b.sendChan q 0x2004 c .unlock (zeroBytes 6)
      else b.reply q 0x2004 .notActive := by
  simp only [Block.runUnlock, hc, hlen, hzero, c.isLt, decide_true, beq_self_eq_true, Bool.and_self, Block.check7_good,
    Block.needRoom_enough _ _ _ _ _ hroom]
  cases b.chanActive c <;> simp

end Commands

/-- The frame for an active channel, and the request that waits for its acknowledgement (R171). -/
theorem Block.sendChan_held {b : Block} {c : Chan} (hactive : b.chanActive c = true) (hlinks : b.links.length = 4) (q : Req)
    (op : Nat) (k : SeqKind) (arg : List Byte) :
    (b.sends c.dieOf k c.place arg).Held (b.sendChan q op c k arg) q op
      (.chan c.dieOf ((b.link c.dieOf).lastNum + 1) c) false := by
  have hd : c.val / 16 < b.links.length := by omega
  have hsend : b.sendFrame (c / 16) k (c % 16) arg = b.sends (c / 16) k c.place arg :=
    Block.sendFrame_eq_sends (Block.answers_of_chanActive hactive) k c.place arg
  unfold Block.sendChan
  dsimp only
  rw [hsend, Block.lastNum_sends hd, Fin.ofNat_val_eq_self, show Fin.ofNat 4 (c.val / 16) = c.dieOf from Fin.ofNat_val_eq_self c.dieOf]
  exact Block.hold_held _ q op _ false

/-! ## CHAN_MULTI (R170, R172) -/

/-- Frames sent to dies that answer and are named once: each die's stream has one frame more. -/
theorem Block.sendFrames_eq {b : Block} {ds : List Nat} (hnodup : ds.Nodup) (hlt : ∀ d ∈ ds, d < b.links.length)
    (hlost : ∀ d ∈ ds, (b.link d).lost = false) (k : SeqKind) (idx : Fin 16) (arg : Nat → List Byte) :
    ds.foldl (fun b d => b.sendFrame d k idx (arg d)) b = ds.foldl (fun b d => b.sends d k idx (arg d)) b ∧
      (∀ d ∈ ds, ((ds.foldl (fun b d => b.sends d k idx (arg d)) b).link d).lastNum = (b.link d).lastNum + 1) ∧
      ∀ d ∉ ds, (ds.foldl (fun b d => b.sends d k idx (arg d)) b).link d = b.link d := by
  induction ds generalizing b with
  | nil => exact ⟨rfl, fun d hd => absurd hd List.not_mem_nil, fun d _ => rfl⟩
  | cons x t ih =>
    obtain ⟨hx, ht⟩ := List.nodup_cons.mp hnodup
    have hne {d : Nat} (hd : d ∈ t) : d ≠ x := fun h => hx (h ▸ hd)
    have hother {d : Nat} (hd : d ≠ x) : (b.sends x k idx (arg x)).link d = b.link d := Block.link_sends_other b hd ..
    obtain ⟨heq, hlast, hrest⟩ := ih (b := b.sends x k idx (arg x)) ht
      (fun d hd => by rw [Block.sends_links_length]; exact hlt d (List.mem_cons_of_mem _ hd))
      (fun d hd => by rw [hother (hne hd)]; exact hlost d (List.mem_cons_of_mem _ hd))
    simp only [List.foldl_cons]
    refine ⟨?_, fun d hd => ?_, fun d hd => ?_⟩
    · rw [Block.sendFrame_eq_sends (hlost x List.mem_cons_self), heq]
    · rcases List.mem_cons.mp hd with rfl | hd
      · rw [hrest d hx, Block.lastNum_sends (hlt d List.mem_cons_self)]
      · rw [hlast d hd, hother (hne hd)]
    · obtain ⟨hdx, hdt⟩ := not_or.mp (fun h => hd (List.mem_cons.mpr h))
      rw [hrest d hdt, hother hdx]

/-- The dies that have a channel selected, in die order. -/
def selectedDies (sel : Nat) : List Nat := (List.range 4).filter fun d => (sel >>> (16 * d)) % 65536 != 0

/-- A selected die has a selected channel. -/
theorem exists_selected {sel d : Nat} (h : d ∈ selectedDies sel) : d < 4 ∧ ∃ c ∈ bitIdx 64 sel, c / 16 = d := by
  obtain ⟨hd, hsel⟩ := List.mem_filter.mp h
  have hd4 : d < 4 := List.mem_range.mp hd
  obtain ⟨i, hi⟩ := Nat.exists_testBit_of_ne_zero (bne_iff_ne.mp hsel)
  rw [show (65536 : Nat) = 2 ^ 16 from rfl, Nat.testBit_mod_two_pow, Bool.and_eq_true, decide_eq_true_eq,
    Nat.testBit_shiftRight] at hi
  obtain ⟨hi16, hbit⟩ := hi
  exact ⟨hd4, 16 * d + i, List.mem_filter.mpr ⟨List.mem_range.mpr (by omega), hbit⟩, by omega⟩

/-- No die is selected twice. -/
theorem selectedDies_nodup (sel : Nat) : (selectedDies sel).Nodup := List.nodup_range.filter _

/-- The argument bytes of a die's MULTI frame (R193). -/
def multiArg (sel st d : Nat) : List Byte :=
  leBytes 2 ((sel >>> (16 * d)) % 65536) ++ leBytes 2 ((st >>> (16 * d)) % 65536) ++ zeroBytes 2

/-- One MULTI frame for each selected die. -/
def Block.sendMulti (b : Block) (sel st : Nat) : Block :=
  (selectedDies sel).foldl (fun b d => b.sends d .multi 0 (multiArg sel st d)) b

section Multi

variable {b : Block} {q : Req} (hlen : q.pay.length = 16) (hroom : 24 ≤ q.room)
include hlen hroom

/-- CHAN_MULTI with a channel that is not active. -/
theorem Block.runChanMulti_inactive (h : ∃ c ∈ bitIdx 64 (fieldAt q.pay 0 8), b.chanActive c = false) :
    b.runChanMulti q = b.reply q 0x2003 .notActive := by
  have hany : (bitIdx 64 (fieldAt q.pay 0 8)).any (fun c => !b.chanActive c) = true := by simpa using h
  simp only [Block.runChanMulti, hlen, beq_self_eq_true, Block.check7_good, Block.needRoom_enough _ _ _ _ _ hroom, hany, if_true]

variable (hactive : ∀ c ∈ bitIdx 64 (fieldAt q.pay 0 8), b.chanActive c = true)
include hactive

/-- CHAN_MULTI over active channels. -/
theorem Block.runChanMulti_active :
    b.runChanMulti q =
      let ds := selectedDies (fieldAt q.pay 0 8)
      if ds.isEmpty then b.ok q 0x2003 (zeroBytes 24)
      else
        let t := ds.foldl (fun b d => b.sendFrame d .multi 0 (multiArg (fieldAt q.pay 0 8) (fieldAt q.pay 8 8) d)) b
        t.hold q 0x2003 (.multi (ds.map fun d => (Fin.ofNat 4 d, (t.link d).lastNum)) 0 0 0) false := by
  have hany : (bitIdx 64 (fieldAt q.pay 0 8)).any (fun c => !b.chanActive c) = false := by simpa using hactive
  simp only [Block.runChanMulti, hlen, beq_self_eq_true, Block.check7_good, Block.needRoom_enough _ _ _ _ _ hroom, hany]
  rfl

/-- Without a selected channel it answers OK with zero bytes. -/
theorem Block.runChanMulti_none (hnone : selectedDies (fieldAt q.pay 0 8) = []) :
    b.runChanMulti q = b.ok q 0x2003 (zeroBytes 24) := by
  rw [Block.runChanMulti_active hlen hroom hactive, hnone]
  rfl

/-- Otherwise each selected die is sent one frame, and the request waits for all acknowledgements. -/
theorem Block.runChanMulti_held (hlinks : b.links.length = 4) (hsome : selectedDies (fieldAt q.pay 0 8) ≠ []) :
    (b.sendMulti (fieldAt q.pay 0 8) (fieldAt q.pay 8 8)).Held (b.runChanMulti q) q 0x2003
      (.multi ((selectedDies (fieldAt q.pay 0 8)).map fun d => (Fin.ofNat 4 d, (b.link d).lastNum + 1)) 0 0 0) false := by
  have hanswers (d : Nat) (hd : d ∈ selectedDies (fieldAt q.pay 0 8)) : (b.link d).lost = false := by
    obtain ⟨-, c, hc, rfl⟩ := exists_selected hd
    exact Block.answers_of_chanActive (hactive c hc)
  obtain ⟨heq, hlast, -⟩ := Block.sendFrames_eq (selectedDies_nodup (fieldAt q.pay 0 8))
    (fun d hd => by rw [hlinks]; exact (exists_selected hd).1) hanswers .multi 0
    (multiArg (fieldAt q.pay 0 8) (fieldAt q.pay 8 8))
  have hnum : ((selectedDies (fieldAt q.pay 0 8)).map fun d => ((Fin.ofNat 4 d : Die),
      ((b.sendMulti (fieldAt q.pay 0 8) (fieldAt q.pay 8 8)).link d).lastNum)) =
      (selectedDies (fieldAt q.pay 0 8)).map fun d => (Fin.ofNat 4 d, (b.link d).lastNum + 1) :=
    List.map_congr_left fun d hd => by rw [Block.sendMulti, hlast d hd]
  rw [Block.runChanMulti_active hlen hroom hactive]
  simp only [List.isEmpty_iff, hsome, if_false]
  rw [← hnum, Block.sendMulti, ← heq]
  exact Block.hold_held _ q 0x2003 _ false

end Multi

end Sys2Proof

namespace Sys2Proof.Machine

/-- Settles O19: the frame and the waiting request of the three commands, and their refusals. -/
theorem channelCommandsAreSent : Obligations.ChannelCommandsAreSent := by
  intro s q c hc hroom hlinks d i n
  have hsent (op : Nat) (k : SeqKind) (arg : List Byte) (hactive : s.b.chanActive c = true) :=
    Block.sendChan_held (b := s.b.heard q) (by simpa using hactive) (by simpa using hlinks) q op k arg
  simp only [Block.link_heard] at hsent
  refine ⟨fun hlen hone hzero hpass => ?_, fun hlen hzero1 hfreq hduty hzero hpass => ?_, fun hlen hzero hpass => ?_⟩
  · have hrun := Block.runChanSet_of (b := s.b.heard q) hc hroom hlen hone hzero
    rw [Block.chanActive_heard] at hrun
    refine ⟨fun hactive => holdsFrom_of _ rfl hpass ?_, fun hidle => answersFrom_of _ rfl hpass ?_⟩
    · rw [hrun, if_pos hactive]
      exact hsent 0x2001 .set _ hactive
    · rw [hrun, hidle]
      exact Block.reply_answered _ q 0x2001 .notActive rfl
  · have hrun := Block.runChanPwm_of (b := s.b.heard q) hc hroom hlen hzero1 hfreq hduty hzero
    rw [Block.chanActive_heard, Block.p_heard] at hrun
    refine ⟨fun hactive => holdsFrom_of _ rfl hpass ?_, fun hidle => answersFrom_of _ rfl hpass ?_⟩
    · rw [hrun, if_pos hactive]
      exact hsent 0x2002 .pwm _ hactive
    · rw [hrun, hidle]
      exact Block.reply_answered _ q 0x2002 .notActive rfl
  · have hrun := Block.runUnlock_of (b := s.b.heard q) hc hroom hlen hzero
    rw [Block.chanActive_heard, Block.chan_heard, Block.die_heard] at hrun
    refine ⟨fun hidle => answersFrom_of _ rfl hpass ?_, fun hactive hlock hwindow => answersFrom_of _ rfl hpass ?_,
      fun hactive hfree => holdsFrom_of _ rfl hpass ?_⟩
    · rw [hrun, hidle]
      exact Block.reply_answered _ q 0x2004 .notActive rfl
    · rw [hrun, if_pos hactive, if_pos ⟨hlock, hwindow⟩]
      exact Block.finish_answered _ q 0x2004 .busy _ .none (by simpa using hroom) rfl
    · rw [hrun, if_pos hactive, if_neg]
      · exact hsent 0x2004 .unlock _ hactive
      · rintro ⟨hlock, hwindow⟩
        rcases hfree with h | h
        · exact hlock h
        · rw [hwindow] at h
          cases h

/-- Settles O20: the refusal, the empty selection (whose answer is the model's own choice), and one frame per selected die. -/
theorem multiIsOneFramePerDie : Obligations.MultiIsOneFramePerDie := by
  intro s q hpass hlen hroom hlinks sel st ds
  refine ⟨fun hidle => answersFrom_of _ rfl hpass ?_, fun hactive => ?_⟩
  · rw [Block.runChanMulti_inactive hlen hroom (by simpa using hidle)]
    exact Block.reply_answered _ q 0x2003 .notActive rfl
  · have hactive' : ∀ c ∈ bitIdx 64 (fieldAt q.pay 0 8), (s.b.heard q).chanActive c = true := by simpa using hactive
    refine ⟨fun hnone => answersFrom_of _ rfl hpass ?_, fun hsome => holdsFrom_of _ rfl hpass ?_⟩
    · rw [Block.runChanMulti_none hlen hroom hactive' hnone]
      exact Block.finish_answered _ q 0x2003 .ok _ .none (by simpa [zeroBytes] using hroom) rfl
    · have hheld := Block.runChanMulti_held hlen hroom hactive' (by simpa using hlinks) hsome
      simp only [Block.link_heard] at hheld
      exact hheld

end Sys2Proof.Machine
end

section
/-! PROOF. What a command does to a channel (R171, R174, R175, R188, R191, R224, R230), and its protective turn-offs and the ends of
its holds (R211, R212, R213, R221-R225). -/

namespace Sys2Proof

/-! ## Commands at a channel -/

/-- The block has every channel of a die that has 16 of them. -/
theorem Block.hasChan_of {b : Block} {c : Chan} (hdies : b.dies.length = 4) (hchans : (b.die (c / 16)).chans.length = 16) :
    b.HasChan c := ⟨by omega, by rw [hchans]; exact Nat.mod_lt _ (by decide)⟩

/-- A change of a channel leaves the isolation switch. -/
@[simp] theorem Block.die_iso_modChan (b : Block) (c d : Nat) (f : ChanSt → ChanSt) :
    ((b.modChan c f).die d).iso = (b.die d).iso :=
  (Block.modDie_keeps (view := DieSt.iso) b (c / 16)).die d

@[simp] theorem Block.feedGone_modChan (b : Block) (c d : Nat) (f : ChanSt → ChanSt) :
    (b.modChan c f).feedGone d = b.feedGone d := rfl

/-- The channel behind a turn-on slope or on-phase that starts: its phase, and its command as it was. -/
theorem Block.turnOn_chan {b : Block} {c : Nat} (h : b.HasChan c) (ph : Phase) :
    ((b.turnOn c ph).chan c).phase = ph ∧ ((b.turnOn c ph).chan c).command = (b.chan c).command := by
  rw [Block.turnOn, h.chan_modChan]
  exact ⟨rfl, rfl⟩

/-- The channel behind a turn-off: what switching does not change stands, the inrush window has ended and the gate is off. -/
theorem Block.turnOff_chan {b : Block} {c : Nat} (h : b.HasChan c) (fast : Bool) :
    let y := (b.turnOff c fast).chan c
    y.phase = (match (b.chan c).phase with
      | .off => .off | .pwmOff => .off | .clamp => .clamp | _ => .falling) ∧ y.inrush = false ∧
    y.command = (b.chan c).command ∧ y.queued = (b.chan c).queued ∧ y.tripHold = (b.chan c).tripHold ∧
    y.thermHold = (b.chan c).thermHold ∧ y.nbrHold = (b.chan c).nbrHold ∧ y.thermLatch = (b.chan c).thermLatch ∧
    y.protLast = (b.chan c).protLast ∧ y.trips = (b.chan c).trips := by
  rw [Block.turnOff, h.chan_modChan]
  cases hp : (b.chan c).phase <;> exact ⟨rfl, rfl, rfl, rfl, rfl, rfl, rfl, rfl, rfl, rfl⟩

/-- A turn-off leaves no channel driving. -/
theorem Block.turnOff_drives {b : Block} {c : Nat} (h : b.HasChan c) (fast : Bool) :
    ((b.turnOff c fast).chan c).phase.drives = false := by
  rw [(Block.turnOff_chan h fast).1]
  cases (b.chan c).phase <;> rfl

section Commands

variable {b : Block} {c : Nat} (h : b.HasChan c)

/-- A channel under lock or latch refuses on-commands (R188, R224). -/
theorem Block.cmdOn_refused (hrefuses : (b.chan c).lock ≠ 0 ∨ (b.chan c).inLatch = true) :
    b.cmdOn c none = (b, refusedOutcome) := by
  unfold Block.cmdOn
  dsimp only
  split
  · rfl
  · split
    · rfl
    · rcases hrefuses with hlock | hlatch
      · contradiction
      · rw [if_pos hlatch]

section Free

variable (henabled : (b.chan c).enabled = true) (hlock : (b.chan c).lock = 0) (hlatch : (b.chan c).inLatch = false)
include henabled hlock hlatch

/-- While the switch is not closed an on-command is recorded and queued (R230). -/
theorem Block.cmdOn_isolated (hiso : (b.die (c / 16)).iso ≠ .closed) :
    b.cmdOn c none = (b.modChan c fun x => { x with queued := .on, command := .on }, 2) := by
  simp [Block.cmdOn, henabled, hlock, hlatch, hiso]

variable (hiso : (b.die (c / 16)).iso = .closed)
include hiso

/-- In hold an on-command is queued (R224). -/
theorem Block.cmdOn_held (hhold : (b.chan c).inHold = true) :
    b.cmdOn c none = (b.modChan c fun x => { x with queued := .on }, 2) := by
  simp [Block.cmdOn, henabled, hlock, hlatch, hiso, hhold]

variable (hhold : (b.chan c).inHold = false) (hstuck : (b.chan c).stuck = false)
include hhold hstuck

/-- While a turn-off runs an on-command is queued (R191). -/
theorem Block.cmdOn_turningOff (hphase : (b.chan c).phase = .falling ∨ (b.chan c).phase = .clamp) :
    b.cmdOn c none = (b.modChan c fun x => { x with queued := .on }, 1) := by
  rcases hphase with hphase | hphase <;> simp [Block.cmdOn, henabled, hlock, hlatch, hiso, hhold, hstuck, hphase]

/-- An on-command to a channel that is on changes no phase (R171). -/
theorem Block.cmdOn_on (hphase : (b.chan c).phase = .on) :
    b.cmdOn c none = (b.modChan c fun x => { x with queued := .none }, 3) := by
  simp [Block.cmdOn, henabled, hlock, hlatch, hiso, hhold, hstuck, hphase]

include h

/-- An on-command from off opens the turn-on slope where the feed is there (R174). -/
theorem Block.cmdOn_off (hphase : (b.chan c).phase = .off) (hfeed : b.feedGone (c / 16) = false) :
    b.cmdOn c none = ((b.modChan c fun x => { x with command := .on, queued := .none }).turnOn c .rising, 0) := by
  have hgo : (b.modChan c fun x => { x with command := .on, queued := .none }).goOn c =
      (b.modChan c fun x => { x with command := .on, queued := .none }).turnOn c .rising := by
    have hstuck' : ({ b.chan c with command := .on, queued := .none } : ChanSt).stuck = false := hstuck
    simp only [Block.goOn, h.chan_modChan, Block.die_iso_modChan, hiso, hstuck', Block.feedGone_modChan, hfeed]
    rfl
  simp [Block.cmdOn, henabled, hlock, hlatch, hiso, hhold, hstuck, hphase, hgo]

end Free

include h

/-- What an off-command leaves of a channel: off or turning off, with the command off and nothing queued (R175). -/
theorem Block.cmdOff_chan : let y := (b.cmdOff c).1.chan c
    y.phase = (match (b.chan c).phase with
      | .off => .off | .pwmOff => .off | .clamp => .clamp | _ => .falling) ∧ y.command = .off ∧ y.queued = .none := by
  unfold Block.cmdOff
  dsimp only
  obtain ⟨hphase, -, hcommand, hqueued, -⟩ := Block.turnOff_chan (h.modChan fun x =>
    { x with command := .off, queued := .none, thermLatch := false, retryLatch := false,
             thermHold := x.thermHold || ((b.chan c).thermLatch && decide (1500 < (b.chan c).local10)), waitFeed := false }) false
  rw [h.chan_modChan] at hphase hcommand hqueued
  exact ⟨hphase, hcommand, hqueued⟩

end Commands

end Sys2Proof

namespace Sys2Proof.Machine

/-- Settles O24: one lemma for each state that a command meets (where an off-command changes nothing: log entry 48). -/
theorem channelsObeyCommands : Obligations.ChannelsObeyCommands := by
  intro b c hdies hchans henabled
  have h := Block.hasChan_of hdies hchans
  refine ⟨fun hlock hlatch hiso => ⟨fun hhold => ?_, fun hhold hstuck hfeed => ⟨fun hphase => ?_, fun hphase => ?_,
    fun hphase => ?_⟩⟩, fun hlock hlatch hiso => ?_, fun hphase hlatch => ?_, fun hphase hlatch hstuck => ?_,
    Block.cmdOn_refused⟩
  · rw [Block.cmdOn_held henabled hlock hlatch hiso hhold]
    exact ⟨rfl, h.chan_modChan _⟩
  · rw [Block.cmdOn_off h henabled hlock hlatch hiso hhold hstuck hphase hfeed]
    obtain ⟨hrising, hcommand⟩ := Block.turnOn_chan (h.modChan fun x => { x with command := .on, queued := .none }) .rising
    rw [h.chan_modChan] at hcommand
    exact ⟨rfl, hrising, hcommand⟩
  · rw [Block.cmdOn_turningOff henabled hlock hlatch hiso hhold hstuck hphase]
    exact ⟨rfl, h.chan_modChan _⟩
  · rw [Block.cmdOn_on henabled hlock hlatch hiso hhold hstuck hphase]
    exact ⟨rfl, h.chan_modChan _⟩
  · rw [Block.cmdOn_isolated henabled hlock hlatch hiso]
    exact ⟨rfl, h.chan_modChan _⟩
  · obtain ⟨hoff, hcommand, hqueued⟩ := Block.cmdOff_chan h
    rw [hphase] at hoff
    refine ⟨?_, hoff, hcommand, hqueued⟩
    simp [Block.cmdOff, hphase, Phase.turningOff, Phase.isOff]
  · obtain ⟨hoff, -, hqueued⟩ := Block.cmdOff_chan h
    rw [hphase] at hoff
    refine ⟨hoff, hqueued, fun hnone hwait => ?_⟩
    simp [Block.cmdOff, hphase, hlatch, hstuck, hnone, hwait, Phase.isOff]

end Sys2Proof.Machine
end

section
/-! PROOF. Protective turn-offs of a channel, and the ends of its holds (R211-R213, R221-R225). -/

namespace Sys2Proof

/-! ## A protective turn-off -/

/-- What a protective turn-off with a code sets in a channel before its gate turns off: its hold or latch, its code and its count. -/
def ChanSt.tripped (code : Nat) (thermLatch retryLatch autoOff : Bool) (now : Nat) (x : ChanSt) : ChanSt :=
  { x with
    tripHold := x.tripHold || code == 1 || code == 2
    fuseHold := x.fuseHold || code == 3
    thermHold := x.thermHold || (code == 4 && !thermLatch) || code == 5
    nbrHold := if code == 5 then true else if code == 4 then false else x.nbrHold
    thermLatch := x.thermLatch || thermLatch
    retryLatch := x.retryLatch || retryLatch
    protLast := Fin.ofNat 6 code
    trips := satNat 0xFFFFFFFF (x.trips + 1)
    thermCount := if code == 4 || code == 5 then satNat 0xFFFFFFFF (x.thermCount + 1) else x.thermCount
    lastTripMs := if code == 1 || code == 2 then some now else x.lastTripMs
    offByProt := x.offByProt || code != 5
    command := if autoOff then .off else x.command
    flags := let f := if code == 1 || code == 2 then setFlag x.flags 3 true else x.flags
             if code == 4 || code == 5 then setFlag f 9 (code == 5) else f }

/-- A protective turn-off sets the channel's hold and turns it off; behind that stand reports. -/
theorem Block.protOff_reports (b : Block) (c code : Nat) (detail : Int) : ∃ retryLatch autoOff now,
    ((b.modChan c (ChanSt.tripped code (code == 4 && b.cp 0x28 c == 1) retryLatch autoOff now)).turnOff c
      (code == 1 || code == 2)).Keeps DieSt.unreported (b.protOff c code detail) :=
  ⟨_, _, _, .ite (Block.chanReport_keeps ..) (.ite (Block.chanReport_keeps ..) (Block.chanReport_keeps ..))⟩

/-- What a protective turn-off leaves of its channel. -/
theorem Block.protOff_chan {b : Block} {c : Nat} (h : b.HasChan c) (code : Nat) (detail : Int) :
    let x := b.chan c
    let y := (b.protOff c code detail).chan c
    y.protLast = Fin.ofNat 6 code ∧ y.trips = satNat 0xFFFFFFFF (x.trips + 1) ∧ y.phase.drives = false ∧ y.inrush = false ∧
    y.tripHold = (x.tripHold || code == 1 || code == 2) ∧
    y.thermHold = (x.thermHold || (code == 4 && !(code == 4 && b.cp 0x28 c == 1)) || code == 5) ∧
    y.nbrHold = (if code == 5 then true else if code == 4 then false else x.nbrHold) ∧
    y.thermLatch = (x.thermLatch || (code == 4 && b.cp 0x28 c == 1)) := by
  obtain ⟨retryLatch, autoOff, now, hreports⟩ := Block.protOff_reports b c code detail
  have hone := h.modChan (ChanSt.tripped code (code == 4 && b.cp 0x28 c == 1) retryLatch autoOff now)
  obtain ⟨-, hinrush, -, -, htrip, htherm, hnbr, hlatch, hlast, htrips⟩ := Block.turnOff_chan hone (code == 1 || code == 2)
  have hdrives := Block.turnOff_drives hone (code == 1 || code == 2)
  dsimp only
  rw [hreports.chan c]
  rw [h.chan_modChan] at htrip htherm hnbr hlatch hlast htrips
  exact ⟨hlast, htrips, hdrives, hinrush, htrip, htherm, hnbr, hlatch⟩

/-! ## The end of a hold (R223) -/

/-- The holds of a channel. -/
def ChanSt.holds (x : ChanSt) : Bool × Bool × Bool := (x.tripHold, x.fuseHold, x.thermHold)

/-- The holds of a die's channels. -/
def DieSt.holds (x : DieSt) : List (Bool × Bool × Bool) := x.chans.map ChanSt.holds

section Holds

variable {b t : Block} {c : Nat}

/-- What keeps the holds keeps those of each channel. -/
theorem Block.Keeps.chan_holds (hk : b.Keeps DieSt.holds t) (c : Nat) : (t.chan c).holds = (b.chan c).holds := by
  have hchans : (t.die (c / 16)).chans.map ChanSt.holds = (b.die (c / 16)).chans.map ChanSt.holds := hk.die (c / 16)
  have hget := congrArg (fun l => l[c % 16]?.getD ChanSt.fresh.holds) hchans
  simpa [Block.chan, DieSt.chan, List.getD_eq_getElem?_getD] using hget

/-- A change of a channel that leaves its holds. -/
theorem Block.modChan_holds (b : Block) (c : Nat) {f : ChanSt → ChanSt} (h : ∀ x, (f x).holds = x.holds := by intro; rfl) :
    b.Keeps DieSt.holds (b.modChan c f) :=
  Block.modDie_keeps b _ fun x => updAt_map_of_view x.chans (c % 16) h

/-- A turn-on leaves the holds. -/
theorem Block.turnOn_holds (b : Block) (c : Nat) (ph : Phase) : b.Keeps DieSt.holds (b.turnOn c ph) := Block.modChan_holds b c

/-- A PWM that starts leaves the holds. -/
theorem Block.startPwm_holds (b : Block) (c freq duty : Nat) : b.Keeps DieSt.holds (b.startPwm c freq duty) := by
  have hstart : b.Keeps DieSt.holds (if (b.chan c).phase.isOff then b.turnOn c .pwmOn
      else b.modChan c fun x => { x with phase := .pwmOn, onDue := false }) :=
    .ite (Block.turnOn_holds b c _) (Block.modChan_holds b c)
  have hplace (t : Block) : t.Keeps DieSt.holds (t.placeSlot c freq) :=
    (Block.modDie_keeps t (c / 16)).trans (Block.modChan_holds _ c)
  exact ((hstart.trans (Block.modChan_holds _ c)).trans (hplace _)).trans (Block.modChan_holds _ c)

/-- Going on leaves the holds. -/
theorem Block.goOn_holds (b : Block) (c : Nat) : b.Keeps DieSt.holds (b.goOn c) := by
  unfold Block.goOn
  dsimp only
  repeat' split
  · exact .refl _ b
  · exact Block.modChan_holds b c
  · exact .refl _ b
  · exact Block.turnOn_holds b c _
  · exact Block.startPwm_holds b c _ _

/-- The recall of a stored state leaves the holds. -/
theorem Block.recallStored_holds (b : Block) (c : Nat) : b.Keeps DieSt.holds (b.recallStored c) := by
  unfold Block.recallStored
  dsimp only
  repeat' split
  · exact .refl _ b
  · exact Block.modChan_holds b c
  · exact Block.modChan_holds b c
  · exact .refl _ b

/-- What a channel does when its turn-off or a hold has ended leaves the holds. -/
theorem Block.settle_holds (b : Block) (c : Nat) : b.Keeps DieSt.holds (b.settle c) := by
  unfold Block.settle
  split
  · exact .refl _ b
  · have hrecall := Block.recallStored_holds b c
    dsimp only
    repeat' split
    · exact hrecall.trans ((Block.modChan_holds _ c).trans (Block.goOn_holds _ c))
    · exact hrecall.trans ((Block.modChan_holds _ c).trans (Block.goOn_holds _ c))
    · exact hrecall
    · exact hrecall.trans (Block.modChan_holds _ c)
    · exact hrecall.trans (Block.goOn_holds _ c)

/-- Behind a change of a channel that settles its holds are those of the change. -/
theorem Block.settled_holds (h : b.HasChan c) (f : ChanSt → ChanSt) :
    (((b.modChan c f).settle c).chan c).holds = (f (b.chan c)).holds := by
  rw [(Block.settle_holds _ c).chan_holds, h.chan_modChan]

end Holds

/-- Protection watches a channel that is enabled or not off. -/
theorem ChanSt.watched_iff (x : ChanSt) : x.watched = true ↔ x.enabled = true ∨ x.phase ≠ .off := by
  cases hp : x.phase <;> simp [ChanSt.watched, hp, Phase.isOff]

/-- A channel works where protection watches it and it is not simply off by command. -/
theorem ChanSt.working_iff (x : ChanSt) :
    x.working = true ↔ (x.enabled = true ∨ x.phase ≠ .off) ∧ (x.phase ≠ .off ∨ x.command ≠ .off ∨ x.stuck = true) := by
  rw [ChanSt.working, Bool.and_eq_true, ChanSt.watched_iff]
  cases hp : x.phase <;> simp [Phase.isOff]

end Sys2Proof

namespace Sys2Proof.Machine

/-- THERMAL_SHUTDOWN of a channel that works outside thermal hold and latch (R221, R222). -/
theorem becomes_thermalShutdown {s : State} {c : Chan} (hwork : (s.b.chan c).working = true) (hhold : (s.b.chan c).thermHold = false)
    (hlatch : (s.b.chan c).thermLatch = false) : Becomes (.thermalShutdown c) s (match s.b.trippedNeighbour? c with
      | some j => if (s.b.die (c / 16)).substrate10 < 1100 then s.b.protOff c 5 ((j : Nat) : Int) else s.b.protOff c 4 0
      | none => s.b.protOff c 4 0) :=
  becomes_onBlock (show _ = execThermalShutdown c s from rfl) (if_pos (by rw [hwork, hhold, hlatch]; rfl))

/-- Settles O28: one turn-off per cause, and the ends of holds (how near a neighbour's trip lies in time: log entry 50). -/
theorem protectionTurnsOff : Obligations.ProtectionTurnsOff := by
  intro s c hdies hchans x tripped armed warm
  have h := Block.hasChan_of hdies hchans
  have htripped (e : Instr) (code : Fin 6) (detail : Int) (he : Becomes e s (s.b.protOff c code detail)) : tripped e code := by
    obtain ⟨hlast, htrips, hdrives, hinrush, htrip, htherm, hnbr, hlatch⟩ := Block.protOff_chan h code detail
    refine ⟨_, he, hlast.trans (Fin.ofNat_val_eq_self code), htrips, hdrives, hinrush, fun hcode => ?_, fun hcode => ?_,
      fun hcode => ?_⟩
    · rw [htrip]
      rcases hcode with rfl | rfl <;> simp
    · rw [htherm, hnbr]
      subst hcode
      simp [show (5 : Fin 6).val = 5 from rfl]
    · rw [htherm, hlatch]
      subst hcode
      simp [x, bne, show (4 : Fin 6).val = 4 from rfl]
  have hwork : warm → x.working = true ∧ x.thermHold = false ∧ x.thermLatch = false :=
    fun ⟨harmed, hworks, hrest⟩ => ⟨(ChanSt.working_iff x).mpr ⟨harmed, hworks⟩, hrest⟩
  refine ⟨fun harmed => ?_, fun hidle => ?_, fun hinrush hdrives => ?_, fun hidle => ?_, fun hwarm => ⟨fun halone => ?_,
    fun hnear hcool => ?_⟩, fun hcold => ?_, fun hhold => ?_, fun hhold => ?_, fun hhold hlatch => ?_⟩
  · exact htripped _ 1 0 (becomes_onBlock (show _ = execFastTrip c s from rfl) (if_pos ((ChanSt.watched_iff _).mpr harmed)))
  · exact becomes_onBlock (show _ = execFastTrip c s from rfl) (if_neg fun hw => hidle ((ChanSt.watched_iff _).mp hw))
  · exact htripped _ 2 0 (becomes_onBlock (show _ = execShortInLimit c s from rfl)
      (if_pos (Bool.and_eq_true_iff.mpr ⟨hinrush, hdrives⟩)))
  · refine becomes_onBlock (show _ = execShortInLimit c s from rfl) (if_neg fun hw => ?_)
    obtain ⟨hinrush, hdrives⟩ := Bool.and_eq_true_iff.mp hw
    rcases hidle with hno | hno
    · exact Bool.false_ne_true (hno.symm.trans hinrush)
    · exact Bool.false_ne_true (hno.symm.trans hdrives)
  · obtain ⟨hworks, hhold, hlatch⟩ := hwork hwarm
    have hshut := becomes_thermalShutdown hworks hhold hlatch
    refine htripped _ 4 0 ?_
    rcases halone with hnone | hhot
    · rwa [hnone] at hshut
    · cases hn : s.b.trippedNeighbour? c with
      | none => rwa [hn] at hshut
      | some j =>
        simp only [hn, if_neg (Int.not_lt.mpr hhot)] at hshut
        exact hshut
  · obtain ⟨hworks, hhold, hlatch⟩ := hwork hwarm
    have hshut := becomes_thermalShutdown hworks hhold hlatch
    obtain ⟨j, hj⟩ := Option.isSome_iff_exists.mp hnear
    simp only [hj, if_pos hcool] at hshut
    exact htripped _ 5 _ hshut
  · refine becomes_onBlock (show _ = execThermalShutdown c s from rfl) (if_neg fun hw => hcold ?_)
    simp only [Bool.and_eq_true, Bool.not_eq_true'] at hw
    obtain ⟨⟨hworks, hhold⟩, hlatch⟩ := hw
    obtain ⟨harmed, hworking⟩ := (ChanSt.working_iff _).mp hworks
    exact ⟨harmed, hworking, hhold, hlatch⟩
  · have hholds := Block.settled_holds h fun x => { x with tripHold := false }
    refine ⟨_, becomes_onBlock (show _ = execTripHoldEnd c s from rfl) (if_pos hhold), ?_⟩
    simp only [ChanSt.holds, Prod.mk.injEq] at hholds
    exact hholds
  · have hholds := Block.settled_holds h fun x => { x with thermHold := false }
    refine ⟨_, becomes_onBlock (show _ = execThermalHoldEnd c s from rfl) (if_pos hhold), ?_⟩
    simp only [ChanSt.holds, Prod.mk.injEq] at hholds
    obtain ⟨htrip, hfuse, htherm⟩ := hholds
    exact ⟨htherm, hfuse, htrip⟩
  · refine ⟨_, becomes_onBlock (show _ = execRetryWindowEnd c s from rfl) (if_neg fun hw => ?_), h.chan_modChan _⟩
    rcases Bool.or_eq_true_iff.mp hw with hno | hno
    · exact Bool.false_ne_true (hhold.symm.trans hno)
    · exact Bool.false_ne_true (hlatch.symm.trans hno)

end Sys2Proof.Machine
end

section
/-! PROOF. The isolation switch, the 1 ms update of a die, the wire-life ledger and the copy of counters (R190, R215-R217, R229,
R230, R233, R236, R510, R519). -/

namespace Sys2Proof

/-! ## What the 1 ms update measures and estimates -/

/-- What an update measures and estimates of a channel. -/
def ChanSt.estimate (x : ChanSt) : Rat × Rat × Rat × Int × Int := (x.dtw, x.dtn, x.tw, x.ma, x.v10)

/-- The time of a die, its temperature and its supply. -/
def DieSt.clock (x : DieSt) : Nat × Int × Bool := (x.ms, x.substrate10, x.powered)

/-- What an update measures and estimates of a die. -/
def DieSt.measured (x : DieSt) : List (Rat × Rat × Rat × Int × Int) × Nat × Int × Bool := (x.chans.map ChanSt.estimate, x.clock)

section Measured

variable {b t : Block} {c : Nat}

/-- What keeps the measurements keeps the time. -/
theorem Block.Keeps.clock (h : b.Keeps DieSt.measured t) : b.Keeps DieSt.clock t := h.mono Prod.snd fun _ => rfl

/-- What keeps the measurements keeps those of each channel. -/
theorem Block.Keeps.chan_estimate (h : b.Keeps DieSt.measured t) (c : Nat) : (t.chan c).estimate = (b.chan c).estimate := by
  have hchans : (t.die (c / 16)).chans.map ChanSt.estimate = (b.die (c / 16)).chans.map ChanSt.estimate :=
    congrArg Prod.fst (h.die (c / 16))
  have hget := congrArg (fun l => l[c % 16]?.getD ChanSt.fresh.estimate) hchans
  simpa [Block.chan, DieSt.chan, List.getD_eq_getElem?_getD] using hget

/-- Reports leave the measurements. -/
theorem Block.Keeps.measured_of_unreported (h : b.Keeps DieSt.unreported t) : b.Keeps DieSt.measured t :=
  h.mono DieSt.measured fun _ => rfl

/-- Switching leaves the measurements. -/
theorem Block.Keeps.measured_of_unswitched (h : b.Keeps DieSt.unswitched t) : b.Keeps DieSt.measured t :=
  h.mono DieSt.measured fun x => by
    simp only [DieSt.measured, DieSt.unswitched, List.map_map]
    rfl

/-- A change of a channel that leaves its measurements. -/
theorem Block.modChan_measured (b : Block) (c : Nat) {f : ChanSt → ChanSt}
    (h : ∀ x, (f x).estimate = x.estimate := by intro; rfl) : b.Keeps DieSt.measured (b.modChan c f) :=
  Block.modDie_keeps b _ fun x => by
    rw [DieSt.measured, DieSt.modChan, updAt_map_of_view x.chans (c % 16) h]
    rfl

/-- A change of a channel leaves the time. -/
theorem Block.modChan_clock (b : Block) (c : Nat) (f : ChanSt → ChanSt) : b.Keeps DieSt.clock (b.modChan c f) :=
  Block.modDie_keeps b _

/-- A diagnostic bit leaves the measurements. -/
theorem Block.flagTo_measured (b : Block) (c k : Nat) (v : Bool) : b.Keeps DieSt.measured (b.flagTo c k v) := by
  have hflag : b.Keeps DieSt.measured (b.modChan c fun x => { x with flags := setFlag x.flags k v }) := Block.modChan_measured b c
  exact .ite (hflag.trans (Block.chanReport_keeps ..).measured_of_unreported) hflag

/-- A protective turn-off leaves the measurements. -/
theorem Block.protOff_measured (b : Block) (c code : Nat) (detail : Int) : b.Keeps DieSt.measured (b.protOff c code detail) := by
  obtain ⟨retryLatch, autoOff, now, hreports⟩ := Block.protOff_reports b c code detail
  exact ((Block.modChan_measured b c).trans (Block.turnOff_switches _ c _).measured_of_unswitched).trans
    hreports.measured_of_unreported

/-- The opening of the isolation switch leaves the measurements. -/
theorem Block.isolate_measured (b : Block) (d : Nat) : b.Keeps DieSt.measured (b.isolate d) := by
  have hoff : b.Keeps DieSt.measured ((List.range 16).foldl (fun b i => b.turnOff (16 * d + i) false) b) :=
    foldl_keeps (b.Keeps DieSt.measured) (.refl _ b) fun t i ht =>
      ht.trans (Block.turnOff_switches t _ false).measured_of_unswitched
  have hwrite (x : DieSt) (policy : Fin 3) (opened : Bool) : (x.writeIso policy opened).measured = x.measured := by
    unfold DieSt.writeIso
    split <;> rfl
  exact .ite (.refl _ b) (hoff.trans (Block.modDie_keeps _ d fun x => hwrite _ _ _))

/-- The readings of a channel taken. -/
def ChanSt.read (x : ChanSt) (m : ChanMeas) : ChanSt := { x with local10 := m.local10, ma := m.ma, v10 := m.v10 }

/-- One step of a channel's estimate taken, with its ageing. -/
def ChanSt.step (x : ChanSt) (e : Rat × Rat × Rat) (w : Rat) : ChanSt :=
  { x with dtw := e.1, dtn := e.2.1, tw := e.2.2, ledgerSum := x.ledgerSum + w, ledgerSteps := x.ledgerSteps + 1 }

/-- The squared current of a step: none through a channel that is off and not stuck on (R215). -/
def ChanSt.stepCurrent (x : ChanSt) (m : ChanMeas) : Rat := if x.phase.isOff && !x.stuck then 0 else m.i2

/-- The block with a channel's readings taken, and its thermal warning. -/
def Block.readChannel (b : Block) (c : Nat) (m : ChanMeas) : Block :=
  (b.modChan c fun x => x.read m).flagTo c 7 (decide (1500 ≤ m.local10))

/-- The step of a channel's estimate from its present one (R215). -/
def Block.estimateOf (b : Block) (c : Nat) (t : Int) (m : ChanMeas) (pc : Rat) (x : ChanSt) : Rat × Rat × Rat :=
  fuseStep (b.fuseWire c) ((b.cp 0x32 c : Rat) / 100) (b.fuseAmbient c t) (x.stepCurrent m) pc x.dtw x.dtn x.tw

/-- The update of a disabled channel takes its readings alone. -/
theorem Block.fuseChannel_disabled (t : Int) (m : ChanMeas) (pc : Rat)
    (h : ((b.modChan c fun x => x.read m).chan c).enabled = false) : b.fuseChannel c t m pc = b.modChan c fun x => x.read m := by
  have hread : ((b.modChan c fun x => { x with local10 := m.local10, ma := m.ma, v10 := m.v10 }).chan c).enabled = false := h
  unfold Block.fuseChannel
  simp only [hread, Bool.not_false, if_true]
  rfl

/-- The update of an enabled channel: its readings, the step of its estimate, and what follows from it leaves both. -/
theorem Block.fuseChannel_enabled (t : Int) (m : ChanMeas) (pc : Rat)
    (h : ((b.modChan c fun x => x.read m).chan c).enabled = true) : ∃ w, ((b.readChannel c m).modChan c fun y =>
      y.step ((b.readChannel c m).estimateOf c t m pc ((b.modChan c fun x => x.read m).chan c)) w).Keeps DieSt.measured
        (b.fuseChannel c t m pc) := by
  refine ⟨ageWeight ((b.readChannel c m).cp 0x49 c) (ratedTemp ((b.readChannel c m).cp 0x31 c))
    ((b.readChannel c m).estimateOf c t m pc ((b.modChan c fun x => x.read m).chan c)).2.2, ?_⟩
  have hread : ((b.modChan c fun x => { x with local10 := m.local10, ma := m.ma, v10 := m.v10 }).chan c).enabled = true := h
  unfold Block.fuseChannel
  simp only [hread, Bool.not_true, Bool.false_eq_true, if_false]
  have hflag := Block.flagTo_measured ((b.readChannel c m).modChan c fun y =>
    y.step ((b.readChannel c m).estimateOf c t m pc ((b.modChan c fun x => x.read m).chan c)) (ageWeight
      ((b.readChannel c m).cp 0x49 c) (ratedTemp ((b.readChannel c m).cp 0x31 c))
      ((b.readChannel c m).estimateOf c t m pc ((b.modChan c fun x => x.read m).chan c)).2.2)) c 6
  have hprot {u v : Block} (huv : u.Keeps DieSt.measured v) (q : Prop) [Decidable q] (code : Nat) (detail : Int) :
      u.Keeps DieSt.measured (if q then v.protOff c code detail else v) :=
    .ite (huv.trans (Block.protOff_measured ..)) huv
  have hiso {u v : Block} (huv : u.Keeps DieSt.measured v) (q : Prop) [Decidable q] :
      u.Keeps DieSt.measured (if q then v.isolate (c / 16) else v) :=
    .ite (huv.trans (Block.isolate_measured ..)) huv
  have hsettle {u v : Block} (huv : u.Keeps DieSt.measured v) (q : Prop) [Decidable q] :
      u.Keeps DieSt.measured (if q then (v.modChan c fun x => { x with fuseHold := false }).settle c else v) :=
    .ite (huv.trans ((Block.modChan_measured v c).trans (Block.settle_switches _ c).measured_of_unswitched)) huv
  exact hsettle (hiso (hprot (hflag _) _ _ _) _) _

/-- The update of a channel leaves the time of its die. -/
theorem Block.fuseChannel_clock (b : Block) (c : Nat) (t : Int) (m : ChanMeas) (pc : Rat) :
    b.Keeps DieSt.clock (b.fuseChannel c t m pc) := by
  have hread := Block.modChan_clock b c fun x => x.read m
  cases h : ((b.modChan c fun x => x.read m).chan c).enabled with
  | false =>
    rw [Block.fuseChannel_disabled t m pc h]
    exact hread
  | true =>
    obtain ⟨w, hkeeps⟩ := Block.fuseChannel_enabled t m pc h
    exact ((hread.trans (Block.flagTo_measured ..).clock).trans (Block.modChan_clock _ c _)).trans hkeeps.clock

/-- The block in whose dies the time has advanced and whose channels are up to date, before the status records are taken. -/
def Block.updated (b : Block) (d : Nat) (t : Int) (ms : List ChanMeas) : Block :=
  (List.range 16).foldl (fun b i => b.fuseChannel (16 * d + i) t (ms.getD i ChanMeas.zero)
      (coupledHeat i ((List.range 16).map fun i => (ms.getD i ChanMeas.zero).pwr)))
    (b.modDie d fun x => { x with ms := x.ms + 1, substrate10 := t })

/-- The 1 ms update of a powered die. -/
theorem Block.fuseUpdate_powered {d : Nat} (h : (b.die d).powered = true) (t : Int) (ms : List ChanMeas) :
    b.fuseUpdate d t ms = (b.updated d t ms).modDie d DieSt.takeSnaps := by
  unfold Block.fuseUpdate
  rw [h]
  rfl

/-- The updates of the channels leave the time of the die. -/
theorem Block.updated_clock (b : Block) (d : Nat) (t : Int) (ms : List ChanMeas) :
    (b.modDie d fun x => { x with ms := x.ms + 1, substrate10 := t }).Keeps DieSt.clock (b.updated d t ms) :=
  foldl_keeps (Block.Keeps DieSt.clock _) (.refl _ _) fun u _ hu => hu.trans (Block.fuseChannel_clock u ..)

/-- The dies of an update are as many as before. -/
theorem Block.updated_dies_length (b : Block) (d : Nat) (t : Int) (ms : List ChanMeas) :
    (b.updated d t ms).dies.length = b.dies.length :=
  (Block.updated_clock b d t ms).length.trans (updAt_length ..)

/-- Taking the status records leaves the time. -/
theorem DieSt.takeSnaps_clock (x : DieSt) : x.takeSnaps.clock = x.clock := rfl

/-- The time of the updated die, with its status records taken. -/
theorem Block.updated_takeSnaps_clock (b : Block) {d : Nat} (hd : d < b.dies.length) (t : Int) (ms : List ChanMeas) :
    (((b.updated d t ms).modDie d DieSt.takeSnaps).die d).clock = ((b.die d).ms + 1, t, (b.die d).powered) := by
  have hclock := (Block.updated_clock b d t ms).die d
  rw [Block.die_modDie _ _ _ hd] at hclock
  rw [Block.die_modDie _ _ _ (by rw [Block.updated_dies_length]; exact hd)]
  exact (DieSt.takeSnaps_clock _).trans hclock

/-- The flag of a channel leaves what stands beside the channels. -/
theorem Block.flagTo_besideChans (b : Block) (c k : Nat) (v : Bool) : b.Keeps DieSt.besideChans (b.flagTo c k v) := by
  have hflag := Block.modChan_keeps_besideChans b c fun x => { x with flags := setFlag x.flags k v }
  exact .ite (hflag.trans (Block.chanReport_keeps ..).besideChans) hflag

@[simp] theorem Block.chanReport_params (b : Block) (c cause : Nat) (detail : Int) :
    (b.chanReport c cause detail).params = b.params := by
  unfold Block.chanReport
  split <;> rfl

@[simp] theorem Block.flagTo_params (b : Block) (c k : Nat) (v : Bool) : (b.flagTo c k v).params = b.params := by
  unfold Block.flagTo
  dsimp only
  split <;> simp

/-- Readings leave what stands beside the channels. -/
theorem Block.readChannel_besideChans (b : Block) (c : Nat) (m : ChanMeas) : b.Keeps DieSt.besideChans (b.readChannel c m) :=
  (Block.modChan_keeps_besideChans b c _).trans (Block.flagTo_besideChans ..)

/-- Readings leave the wire and the ambient of a channel, so its estimate steps as it would before them. -/
theorem Block.estimateOf_readChannel (b : Block) (c : Nat) (t : Int) (m : ChanMeas) (pc : Rat) (x : ChanSt) :
    (b.readChannel c m).estimateOf c t m pc x = b.estimateOf c t m pc x := by
  have hcp (k : Nat) : (b.readChannel c m).cp k c = b.cp k c :=
    (Block.readChannel_besideChans b c m).cp (by simp [Block.readChannel]) k c
  have hcpi (k : Nat) : (b.readChannel c m).cpi k c = b.cpi k c := by simp only [Block.cpi, hcp]
  simp only [Block.estimateOf, Block.fuseWire, Block.fuseAmbient, hcpi, hcp]

/-- The estimate of an enabled channel that conducts steps as R215 writes it, and its readings are taken. -/
theorem Block.fuseChannel_estimate (h : b.HasChan c) (henabled : (b.chan c).enabled = true) (t : Int) (m : ChanMeas) (pc : Rat) :
    let e := b.estimateOf c t m pc (b.chan c)
    ((b.fuseChannel c t m pc).chan c).estimate = (e.1, e.2.1, e.2.2, m.ma, m.v10) := by
  obtain ⟨w, hkeeps⟩ := Block.fuseChannel_enabled (b := b) (c := c) t m pc (by rw [h.chan_modChan]; exact henabled)
  have hread : ((b.readChannel c m).chan c).estimate = ((b.chan c).read m).estimate := by
    rw [Block.readChannel, (Block.flagTo_measured ..).chan_estimate, h.chan_modChan]
  simp only [ChanSt.estimate, Prod.mk.injEq] at hread
  obtain ⟨-, -, -, hma, hv⟩ := hread
  dsimp only
  rw [hkeeps.chan_estimate, (h.of_keeps (Block.readChannel_besideChans b c m)).chan_modChan, h.chan_modChan,
    Block.estimateOf_readChannel]
  simp only [ChanSt.estimate, ChanSt.step, hma, hv]
  rfl

end Measured

/-! ## The ledger (R233) -/

/-- A channel behind the second's addition: the mean ageing of its steps joins the ledger of an enabled channel (R233; log
entries 9 and 10). -/
def ChanSt.ledgered (x : ChanSt) : ChanSt :=
  if !x.enabled || x.ledgerSteps = 0 then { x with ledgerSum := 0, ledgerSteps := 0 } else
  let add := x.ledgerSum / (x.ledgerSteps : Rat) * 1000000 / (3000 * 3600) + x.ledgerFrac
  { x with ledger := satNat 0xFFFFFFFF (x.ledger + ratNat add), ledgerFrac := add - (ratNat add : Rat), ledgerSum := 0,
           ledgerSteps := 0 }

section Ledger

variable {b : Block}

/-- A channel other than the changed one. -/
theorem Block.chan_modChan_other (b : Block) {c e : Nat} (h : e ≠ c) (f : ChanSt → ChanSt) : (b.modChan c f).chan e = b.chan e := by
  by_cases hdie : e / 16 = c / 16
  · have hplace : e % 16 ≠ c % 16 := by omega
    have hkeeps : b.Keeps (fun x => x.chan (e % 16)) (b.modChan c f) :=
      Block.modDie_keeps b _ fun x => DieSt.chan_modChan_other x _ _ f hplace
    exact hkeeps.die (e / 16)
  · exact congrArg (DieSt.chan · (e % 16)) (Block.die_modDie_other b _ _ _ hdie)

/-- The second's addition to the ledger of its channel. -/
theorem Block.ledgerChannel_chan {c : Nat} (h : b.HasChan c) : (b.ledgerChannel c).chan c = (b.chan c).ledgered := by
  unfold Block.ledgerChannel ChanSt.ledgered
  dsimp only
  split
  · exact h.chan_modChan _
  · rw [(Block.reportPassed_keeps ..).chan, h.chan_modChan]

/-- It leaves the other channels. -/
theorem Block.ledgerChannel_other (b : Block) {c e : Nat} (h : e ≠ c) : (b.ledgerChannel c).chan e = b.chan e := by
  unfold Block.ledgerChannel
  dsimp only
  split
  · exact Block.chan_modChan_other b h _
  · rw [(Block.reportPassed_keeps ..).chan, Block.chan_modChan_other b h]

/-- It leaves what stands beside the channels. -/
theorem Block.ledgerChannel_besideChans (b : Block) (c : Nat) : b.Keeps DieSt.besideChans (b.ledgerChannel c) := by
  unfold Block.ledgerChannel
  dsimp only
  split
  · exact Block.modChan_keeps_besideChans b c _
  · exact (Block.modChan_keeps_besideChans b c _).trans (Block.reportPassed_keeps ..).besideChans

/-- The additions of channels that are named once: each channel's own, and no other's. -/
theorem Block.ledgerChannels_chan {cs : List Nat} (hnodup : cs.Nodup) (h : ∀ c ∈ cs, b.HasChan c) :
    (∀ c ∈ cs, (cs.foldl Block.ledgerChannel b).chan c = (b.chan c).ledgered) ∧
      ∀ c ∉ cs, (cs.foldl Block.ledgerChannel b).chan c = b.chan c := by
  induction cs generalizing b with
  | nil => exact ⟨fun c hc => absurd hc List.not_mem_nil, fun c _ => rfl⟩
  | cons x t ih =>
    obtain ⟨hx, ht⟩ := List.nodup_cons.mp hnodup
    obtain ⟨hin, hout⟩ := ih (b := b.ledgerChannel x) ht fun c hc =>
      (h c (List.mem_cons_of_mem _ hc)).of_keeps (Block.ledgerChannel_besideChans b x)
    refine ⟨fun c hc => ?_, fun c hc => ?_⟩
    · rcases List.mem_cons.mp hc with rfl | hc
      · rw [List.foldl_cons, hout c hx, Block.ledgerChannel_chan (h c List.mem_cons_self)]
      · rw [List.foldl_cons, hin c hc, Block.ledgerChannel_other b fun e => hx (by rw [← e]; exact hc)]
    · obtain ⟨hcx, hct⟩ := not_or.mp fun hor => hc (List.mem_cons.mpr hor)
      rw [List.foldl_cons, hout c hct, Block.ledgerChannel_other b hcx]

/-- A channel of a die by its number in the module. -/
theorem Block.chan_of_die (b : Block) (d : Nat) {i : Nat} (hi : i < 16) : b.chan (16 * d + i) = (b.die d).chan i := by
  rw [Block.chan, show (16 * d + i) / 16 = d by omega, show (16 * d + i) % 16 = i by omega]

/-- The second's addition of a die. -/
theorem Block.ledgerDie_chan {d i : Nat} (hd : d < b.dies.length) (hchans : (b.die d).chans.length = 16) (hi : i < 16) :
    (((List.range 16).foldl (fun b i => b.ledgerChannel (16 * d + i)) b).die d).chan i = ((b.die d).chan i).ledgered := by
  have hfold : (List.range 16).foldl (fun b i => b.ledgerChannel (16 * d + i)) b =
      ((List.range 16).map fun i => 16 * d + i).foldl Block.ledgerChannel b := List.foldl_map.symm
  have hnodup : ((List.range 16).map fun i => 16 * d + i).Nodup :=
    List.Pairwise.map _ (fun i j hij => by omega) List.nodup_range
  have hhas (c : Nat) (hc : c ∈ (List.range 16).map fun i => 16 * d + i) : b.HasChan c := by
    obtain ⟨j, hj, rfl⟩ := List.mem_map.mp hc
    have hj16 := List.mem_range.mp hj
    rw [Block.HasChan, show (16 * d + j) / 16 = d by omega, hchans]
    exact ⟨hd, Nat.mod_lt _ (by decide)⟩
  rw [← Block.chan_of_die _ _ hi, ← Block.chan_of_die _ _ hi, hfold]
  exact (Block.ledgerChannels_chan hnodup hhas).1 _ (List.mem_map.mpr ⟨i, List.mem_range.mpr hi, rfl⟩)

end Ledger

/-! ## The isolation switch (R229, R230) -/

/-- The isolation switch of a die and the banks of its record. -/
def DieSt.isolation (x : DieSt) : IsoState × PerLane IsoBank := (x.iso, x.isoBanks)

/-- The position of a die's isolation switch and its channels. -/
def DieSt.switch (x : DieSt) : IsoState × List ChanSt := (x.iso, x.chans)

/-- An opened isolation switch, with its channels' events raised. -/
theorem Block.isolationOpened_switch (b : Block) {d : Nat} (hd : d < b.dies.length) :
    (((List.range 16).foldl (fun b i => b.chanReport (16 * d + i) 0x26 0)
      (b.modDie d fun x => { x with iso := .opened })).die d).switch = (.opened, (b.die d).chans) := by
  have hkeeps : (b.modDie d fun x => { x with iso := .opened }).Keeps DieSt.switch
      ((List.range 16).foldl (fun b i => b.chanReport (16 * d + i) 0x26 0) (b.modDie d fun x => { x with iso := .opened })) :=
    foldl_keeps (Block.Keeps DieSt.switch _) (.refl _ _)
      fun u i hu => hu.trans ((Block.chanReport_keeps u (16 * d + i) 0x26 0).mono DieSt.switch fun _ => rfl)
  rw [hkeeps.die d, Block.die_modDie _ _ _ hd]
  rfl

/-- The way back of a die's channels leaves its isolation switch. -/
theorem Block.feedStep_isolation (b : Block) (d i : Nat) : b.Keeps DieSt.isolation (b.feedStep d i) := by
  have hswitched {t : Block} (h : b.Keeps DieSt.unswitched t) : b.Keeps DieSt.isolation t :=
    h.mono (fun x => x.isolation) fun _ => rfl
  unfold Block.feedStep
  split
  · exact Block.modDie_keeps b d
  · dsimp only
    split
    · exact (hswitched (Block.goOn_switches b _)).trans (Block.modDie_keeps _ d)
    · exact (hswitched (Block.settle_switches b _)).trans (Block.modDie_keeps _ d)

/-! ## The copy of counters (R190, R510) -/

/-- The counters of a die's channels as Ottum keeps them. -/
def DieSt.counters (x : DieSt) : List Restored :=
  x.chans.map fun y => { clampCount := y.clampCount, wear := y.wear, switchCount := y.switchCount, ledger := y.ledger }

/-- The block whose first dies' counters Ottum has copied. -/
def Block.copied (b : Block) (ds : List Nat) : Block :=
  ds.foldl (fun b d => b.modLink d fun x => { x with saved := (b.die d).counters }) b

/-- The copy leaves the dies and no link comes or goes. -/
theorem Block.copied_beside (b : Block) (ds : List Nat) :
    (b.copied ds).dies = b.dies ∧ (b.copied ds).links.length = b.links.length :=
  foldl_keeps (fun t : Block => t.dies = b.dies ∧ t.links.length = b.links.length) ⟨rfl, rfl⟩
    fun t d ⟨hdies, hlinks⟩ => ⟨hdies, (updAt_length t.links d _).trans hlinks⟩

/-- Every die that was copied has its counters with Ottum. -/
theorem Block.copied_saved (b : Block) {d : Nat} (hd : d < b.links.length) {ds : List Nat} (hmem : d ∈ ds) :
    ((b.copied ds).link d).saved = (b.die d).counters := by
  induction ds using snocInduction with
  | nil => exact absurd hmem List.not_mem_nil
  | append_singleton ds e ih =>
    obtain ⟨hdies, hlinks⟩ := Block.copied_beside b ds
    have hlast : b.copied (ds ++ [e]) =
        (b.copied ds).modLink e fun x => { x with saved := ((b.copied ds).die e).counters } := List.foldl_append ..
    rw [hlast]
    by_cases he : d = e
    · subst he
      rw [Block.link_modLink _ _ _ (hlinks ▸ hd), Block.die, hdies]
      rfl
    · rw [Block.link_modLink_other _ _ _ _ he]
      exact ih ((List.mem_append.mp hmem).resolve_right fun h => he (List.mem_singleton.mp h))

/-- A write of the parameter store leaves the dies and the links. -/
theorem Block.storeWritten_beside (b : Block) (ls : List Lane) (f : Lane → ImgSt → ImgSt) :
    (ls.foldl (fun b l => b.modImg (f l)) b).dies = b.dies ∧ (ls.foldl (fun b l => b.modImg (f l)) b).links = b.links :=
  foldl_keeps (fun t : Block => t.dies = b.dies ∧ t.links = b.links) ⟨rfl, rfl⟩ fun _ _ h => h

end Sys2Proof

namespace Sys2Proof.Machine

/-- Settles O30: each command against the channels and the switch of its die (the arithmetic of the estimate and of the ledger is
that of log entries 9 and 10). -/
theorem isolationFuseAndLedger : Obligations.IsolationFuseAndLedger := by
  intro s d hlen
  have hd : d.val < s.b.dies.length := by rw [hlen]; exact d.isLt
  refine ⟨fun h => ⟨_, becomes_onBlock (show _ = execIsolationSwitchOpen d s from rfl) (if_pos (by rw [h]; decide)), ?_⟩,
    fun h => ⟨_, becomes_onBlock (show _ = execIsolationSwitchClosed d s from rfl) (if_pos (by rw [h]; decide)), ?_⟩,
    fun i h => ⟨_, becomes_onBlock (show _ = execIsolationSwitchFault d i s from rfl) (if_pos (by rw [h]; decide)),
      Block.die_modDie s.b d _ hd⟩,
    fun h => ⟨becomes_onBlock (show _ = execIsolationSwitchOpen d s from rfl) (if_neg (by rw [h]; decide)),
      becomes_onBlock (show _ = execIsolationSwitchClosed d s from rfl) (if_neg (by rw [h]; decide)),
      fun i => becomes_onBlock (show _ = execIsolationSwitchFault d i s from rfl) (if_neg (by rw [h]; decide))⟩,
    fun t ms h => ⟨_, becomes_onBlock (show _ = execFuseModelUpdate d t ms s from rfl) (Block.fuseUpdate_powered h t ms), ?_⟩,
    fun t ms h => becomes_onBlock (show _ = execFuseModelUpdate d t ms s from rfl) ?_,
    fun c t m pc hchans hen hon => ?_, fun h hchans => ?_, fun hserves hlinks => ?_⟩
  · have hdie := Block.isolationOpened_switch s.b (d := d) hd
    rw [DieSt.switch, Prod.mk.injEq] at hdie
    exact hdie
  · have hdie := (Block.feedStep_isolation (s.b.modDie d fun x => { x with iso := .closed }) d 0).die d
    rw [Block.die_modDie _ _ _ hd, DieSt.isolation, DieSt.isolation, Prod.mk.injEq] at hdie
    exact hdie
  · have hclock := Block.updated_takeSnaps_clock s.b hd t ms
    rw [DieSt.clock, Prod.mk.injEq, Prod.mk.injEq] at hclock
    exact ⟨hclock.1, hclock.2.1⟩
  · unfold Block.fuseUpdate
    rw [h]
    rfl
  · have hhas : s.b.HasChan c := Block.hasChan_of hlen hchans
    have hest := Block.fuseChannel_estimate hhas hen t m pc
    have hcurrent : (s.b.chan c).stepCurrent m = m.i2 := by rw [ChanSt.stepCurrent, hon]; rfl
    dsimp only at hest
    simp only [ChanSt.estimate, Block.estimateOf, hcurrent, Prod.mk.injEq] at hest
    obtain ⟨hdtw, hdtn, htw, hma, hv⟩ := hest
    refine ⟨?_, hma, hv⟩
    rw [hdtw, hdtn, htw]
  · refine ⟨_, becomes_onBlock (show _ = execLedgerUpdate d s from rfl) (if_pos h), fun i hi hen hsteps => ?_⟩
    rw [Block.ledgerDie_chan hd hchans hi, ChanSt.ledgered, if_neg (by simp [hen, hsteps])]
    exact ⟨rfl, rfl⟩
  · refine ⟨_, becomes_onBlock (show _ = execCounterCopy s from rfl) (if_pos hserves), ?_⟩
    obtain ⟨hdies, hkept⟩ := Block.storeWritten_beside (s.b.copied (List.range 4)) (s.b.copied (List.range 4)).serving fun l i =>
      { i with storeWrites := i.storeWrites.upd l fun n => satNat 0xFFFFFFFF (n + 1), storeOk := i.storeOk.set l true }
    have hsaved := Block.copied_saved s.b (d := d) (by omega) (List.mem_range.mpr d.isLt)
    refine ⟨hdies.trans (Block.copied_beside s.b _).1, ?_⟩
    exact (congrArg (fun ls : List DieLink => (ls.getD d.val DieLink.fresh).saved) hkept).trans hsaved

end Sys2Proof.Machine
end

section
/-! PROOF. CHAN_STATUS and DIE_ISOLATE (R114, R229-R232, R234, R518). -/

namespace Sys2Proof

/-! ## The payload of CHAN_STATUS (R234) -/

/-- The 32 bytes of CHAN_STATUS: each field of the last update where R234 puts it. -/
theorem Block.chanStatus_fields (b : Block) (c : Chan) :
    let x := (b.chan c).snap
    let p := b.chanStatus c
    p.length = 32 ∧ byteAt p 0 = c.val ∧ bytesAt p 1 1 = leBytes 1 x.state ∧ bytesAt p 2 1 = leBytes 1 x.cause ∧
      bytesAt p 3 1 = leBytes 1 x.retries ∧ bytesAt p 4 2 = leBytes 2 x.flags.toNat ∧ bytesAt p 6 1 = leBytes 1 x.last ∧
      bytesAt p 7 1 = leBytes 1 x.lock ∧ bytesAt p 8 4 = leBytes 4 (ofSigned 4 x.ma) ∧
      bytesAt p 12 2 = leBytes 2 (ofSigned 2 x.v10) ∧ bytesAt p 14 2 = leBytes 2 (ofSigned 2 x.local10) ∧
      bytesAt p 16 2 = leBytes 2 (ofSigned 2 x.tw10) ∧ bytesAt p 18 2 = leBytes 2 x.window ∧
      bytesAt p 20 4 = leBytes 4 x.ledger ∧ bytesAt p 24 8 = zeroBytes 8 := by
  have hc : c.val % 256 = c.val := Nat.mod_eq_of_lt (by omega)
  simp [Block.chanStatus, leBytes, byteAt, bytesAt, zeroBytes, hc]

/-- CHAN_STATUS of a well-formed payload. -/
theorem Block.runChanStatus_of (b : Block) {q : Req} {c : Chan} (hlen : q.pay.length = 4) (hc : byteAt q.pay 0 = c.val)
    (hzero : zerosAt q.pay 1 3 = true) :
    b.runChanStatus q = if b.chanActive c then b.ok q 0x2005 (b.chanStatus c) else b.reply q 0x2005 .notActive := by
  simp only [Block.runChanStatus, hc, hlen, hzero, c.isLt, decide_true, beq_self_eq_true, Bool.and_self, Block.check7_good]
  cases b.chanActive c <;> simp

/-- An update's status records are those of the die it leaves. -/
theorem DieSt.snap_of_takeSnaps {d : DieSt} {x : ChanSt} (hx : x ∈ d.takeSnaps.chans) :
    x.snap.state = chanState d.takeSnaps x ∧ x.snap.cause = protCause d.takeSnaps x ∧ x.snap.retries = x.retryUsed ∧
      x.snap.flags = x.flags ∧ x.snap.last = x.protLast.val ∧ x.snap.lock = x.lock.val := by
  obtain ⟨y, -, rfl⟩ := List.mem_map.mp hx
  exact ⟨rfl, rfl, rfl, rfl, rfl, rfl⟩

/-! ## The isolation record (R231) -/

/-- A write of the record changes its banks alone. -/
theorem DieSt.writeIso_beside (x : DieSt) (policy : Fin 3) (opened : Bool) :
    (x.writeIso policy opened).iso = x.iso ∧ (x.writeIso policy opened).chans = x.chans := by
  unfold DieSt.writeIso
  split <;> exact ⟨rfl, rfl⟩

/-- A write below the limit puts the record with the next count into one bank and leaves the other. -/
theorem DieSt.writeIso_banks {x : DieSt} (policy : Fin 3) (opened : Bool) (h : x.isoCount < 10000) :
    ∃ l : Lane, (x.writeIso policy opened).isoBanks.get l = IsoBank.of policy opened (x.isoCount + 1) ∧
      (x.writeIso policy opened).isoBanks.get l.other = x.isoBanks.get l.other := by
  rw [DieSt.writeIso, if_neg (Nat.not_le.mpr h)]
  exact ⟨_, PerLane.get_set .., PerLane.get_set_other ..⟩

/-! ## What DIE_ISOLATE does -/

section Isolate

variable {b : Block} {d : Nat}

/-- The opening leaves as many dies as before. -/
theorem Block.turnsOff_length (b : Block) (d : Nat) :
    ((List.range 16).foldl (fun b i => b.turnOff (16 * d + i) false) b).dies.length = b.dies.length :=
  (foldl_keeps (b.Keeps DieSt.unswitched) (.refl _ b)
    fun t i ht => ht.trans (Block.turnOff_switches t (16 * d + i) false)).length

/-- The opening of a closed or closing isolation switch. -/
theorem Block.isolate_iso (hd : d < b.dies.length) (h : (b.die d).iso = .closed ∨ (b.die d).iso = .closing) :
    ((b.isolate d).die d).iso = .opening := by
  have hclosed : ((b.die d).iso == .opened || (b.die d).iso == .opening) = false := by
    rcases h with h | h <;> rw [h] <;> rfl
  rw [Block.isolate, hclosed]
  dsimp only
  rw [if_neg Bool.false_ne_true, Block.die_modDie _ _ _ (by rw [Block.turnsOff_length]; exact hd)]
  exact (DieSt.writeIso_beside ..).1

/-- The opening of an opened or opening one changes nothing. -/
theorem Block.isolate_open (h : (b.die d).iso = .opened ∨ (b.die d).iso = .opening) : b.isolate d = b := by
  have hopen : ((b.die d).iso == .opened || (b.die d).iso == .opening) = true := by
    rcases h with h | h <;> rw [h] <;> rfl
  rw [Block.isolate, if_pos hopen]

/-- Function open. -/
theorem Block.isoAct_open (h : (b.die d).powered = true) (pol : Nat) : b.isoAct d 1 pol = b.isolate d := by
  simp [Block.isoAct, h]

/-- Function close of a closed or closing isolation switch. -/
theorem Block.isoAct_close_closed (h : (b.die d).iso = .closed ∨ (b.die d).iso = .closing) (pol : Nat) :
    b.isoAct d 0 pol = b := by
  have hclosed : ((b.die d).iso == .closed || (b.die d).iso == .closing) = true := by
    rcases h with h | h <;> rw [h] <;> rfl
  simp [Block.isoAct, hclosed]

/-- Function close of an open switch at a valid feed. -/
theorem Block.isoAct_close_open (hd : d < b.dies.length) (hpowered : (b.die d).powered = true)
    (h : (b.die d).iso = .opened ∨ (b.die d).iso = .opening) (hfeed : b.feedValid d = true) (pol : Nat) :
    ((b.isoAct d 0 pol).die d).iso = .closing := by
  have hopen : ((b.die d).iso == .closed || (b.die d).iso == .closing) = false := by
    rcases h with h | h <;> rw [h] <;> rfl
  simp only [Block.isoAct, hpowered, hopen, hfeed, Bool.not_true, Bool.or_self, Bool.false_eq_true, if_false, if_true]
  rw [Block.die_modDie _ _ _ hd]
  exact (DieSt.writeIso_beside ..).1

/-- Function store policy. -/
theorem Block.isoAct_policy (hd : d < b.dies.length) (hpowered : (b.die d).powered = true) (pol : Nat) :
    (b.isoAct d 2 pol).die d = (b.die d).writeIso (Fin.ofNat 3 pol) ((b.die d).iso == .opened || (b.die d).iso == .opening) := by
  by_cases hcount : 10000 ≤ (b.die d).isoCount
  · simp [Block.isoAct, hpowered, hcount, DieSt.writeIso]
  · simp only [Block.isoAct, hpowered, hcount, Bool.not_true, Bool.false_eq_true, if_false, show ¬(2 = 0) by decide,
      show ¬(2 = 1) by decide]
    exact Block.die_modDie b d _ hd

end Isolate

/-! ## The request DIE_ISOLATE -/

@[simp] theorem Block.feedValid_heard (b : Block) (q : Req) (d : Nat) : (b.heard q).feedValid d = b.feedValid d := by
  rw [Block.heard_eq]
  rfl

/-- Close of an open switch without a valid feed (R230). -/
def Block.closeStops (b : Block) (d fn : Nat) : Prop :=
  fn = 0 ∧ ((b.die d).iso = .opened ∨ (b.die d).iso = .opening) ∧ b.feedValid d = false

@[simp] theorem Block.closeStops_heard (b : Block) (q : Req) (d fn : Nat) : (b.heard q).closeStops d fn ↔ b.closeStops d fn := by
  rw [Block.closeStops, Block.closeStops, Block.die_heard, Block.feedValid_heard]

/-- A switch that is neither closed nor closing is opened or opening. -/
theorem IsoState.open_iff (x : IsoState) : (!(x == IsoState.closed || x == .closing)) = true ↔ x = .opened ∨ x = .opening := by
  cases x <;> decide

section Request

variable {b : Block} {r : Req} {d : Die} {fn : Nat} (hlen : r.pay.length = 4) (hd : byteAt r.pay 0 = d.val)
  (hfn : byteAt r.pay 1 = fn) (hfn2 : fn ≤ 2) (hzero : byteAt r.pay 3 = 0) (hroom : 4 ≤ r.room)
  (hpol : fn = 2 → byteAt r.pay 2 ≤ 2) (hnopol : fn ≠ 2 → byteAt r.pay 2 = 0)
include hlen hd hfn hfn2 hzero hroom hpol hnopol

/-- DIE_ISOLATE of a well-formed payload. -/
theorem Block.runDieIsolate_of : b.runDieIsolate r =
    if !b.dieServed d || !(b.die d).powered then b.reply r 0x2006 .notActive
    else if fn = 0 && !((b.die d).iso == .closed || (b.die d).iso == .closing) && !b.feedValid d then b.reply r 0x2006 .notActive
    else if fn = 2 && decide (10000 ≤ (b.die d).isoCount) then b.reply r 0x2006 .locked
    else b.finish r 0x2006 .ok ((b.isoAct d fn (byteAt r.pay 2)).die d).isoPay (.isolate d fn (byteAt r.pay 2)) := by
  have hform : (if fn = 2 then decide (byteAt r.pay 2 ≤ 2) else byteAt r.pay 2 == 0) = true := by
    split
    · exact decide_eq_true (hpol ‹_›)
    · exact beq_iff_eq.mpr (hnopol ‹_›)
  simp only [Block.runDieIsolate, hlen, hd, hfn, d.isLt, hfn2, hform, hzero, decide_true, beq_self_eq_true, Bool.and_self,
    Block.check7_good, Block.needRoom_enough _ _ _ _ _ hroom]

/-- On a silent or unpowered die. -/
theorem Block.runDieIsolate_unserved (h : b.dieServed d = false ∨ (b.die d).powered = false) :
    b.runDieIsolate r = b.reply r 0x2006 .notActive := by
  rw [Block.runDieIsolate_of hlen hd hfn hfn2 hzero hroom hpol hnopol, if_pos (by rcases h with h | h <;> simp [h])]

variable (hserved : b.dieServed d = true) (hpowered : (b.die d).powered = true)
include hserved hpowered

/-- Close of an open switch without a valid feed. -/
theorem Block.runDieIsolate_stops (h : b.closeStops d fn) : b.runDieIsolate r = b.reply r 0x2006 .notActive := by
  obtain ⟨h0, hopen, hfeed⟩ := h
  rw [Block.runDieIsolate_of hlen hd hfn hfn2 hzero hroom hpol hnopol, if_neg (by simp [hserved, hpowered]),
    if_pos (by rw [(IsoState.open_iff _).mpr hopen, hfeed, h0]; rfl)]

/-- A policy at the write limit. -/
theorem Block.runDieIsolate_limit (h2 : fn = 2) (hcount : 10000 ≤ (b.die d).isoCount) :
    b.runDieIsolate r = b.reply r 0x2006 .locked := by
  rw [Block.runDieIsolate_of hlen hd hfn hfn2 hzero hroom hpol hnopol, if_neg (by simp [hserved, hpowered]),
    if_neg (by simp [h2]), if_pos (by simp [h2, hcount])]

/-- Every other function answers OK and acts at visibility. -/
theorem Block.runDieIsolate_acts (h : ¬b.closeStops d fn) (hcount : fn = 2 → (b.die d).isoCount < 10000) :
    b.runDieIsolate r =
      b.finish r 0x2006 .ok ((b.isoAct d fn (byteAt r.pay 2)).die d).isoPay (.isolate d fn (byteAt r.pay 2)) := by
  rw [Block.runDieIsolate_of hlen hd hfn hfn2 hzero hroom hpol hnopol, if_neg (by simp [hserved, hpowered]), if_neg, if_neg]
  · simp only [Bool.and_eq_true, decide_eq_true_eq, not_and, Nat.not_le]
    exact hcount
  · rw [Bool.and_eq_true, Bool.and_eq_true, decide_eq_true_eq, IsoState.open_iff, Bool.not_eq_true']
    exact fun ⟨⟨h0, hopen⟩, hfeed⟩ => h ⟨h0, hopen, hfeed⟩

end Request

end Sys2Proof

namespace Sys2Proof.Machine

/-- The three functions of DIE_ISOLATE run the request with their function byte. -/
theorem answersFrom_dieIsolate {s : State} {q : Req} {fn : Nat} {c : Instr} {b : Block} {a : Response}
    (hc : (fn, c) ∈ [(1, Instr.dieIsolateOpen q), (0, .dieIsolateClose q), (2, .dieIsolateStorePolicy q)])
    (hpass : s.b.passes 0x2006 (q.withByte 1 fn) = true)
    (ha : b.Answered ((s.b.heard (q.withByte 1 fn)).runDieIsolate (q.withByte 1 fn)) a) : AnswersFrom c s b a := by
  simp only [List.mem_cons, Prod.mk.injEq, List.not_mem_nil, or_false] at hc
  rcases hc with ⟨rfl, rfl⟩ | ⟨rfl, rfl⟩ | ⟨rfl, rfl⟩ <;> exact answersFrom_of (Block.runDieIsolate · _) rfl hpass ha

/-- Settles O21: the answer of CHAN_STATUS and its record, the outcomes of DIE_ISOLATE (NOT_ACTIVE before the room check: log
entry 38; the state byte written with the policy: log entry 51) and what each of its functions does at visibility. -/
theorem statusAndIsolationAnswer : Obligations.StatusAndIsolationAnswer := by
  refine ⟨fun s q c hpass hlen hc hzero => ?_, fun s d sub m hdies hpowered => ?_, fun s q d fn c hc => ?_,
    fun b d pol hdies hpowered => ?_⟩
  · have hrun := (s.b.heard q).runChanStatus_of hlen hc hzero
    rw [Block.chanActive_heard] at hrun
    refine ⟨fun hidle => answersFrom_of _ rfl hpass ?_, fun hactive hroom => ?_⟩
    · rw [hrun, hidle]
      exact Block.reply_answered _ q 0x2005 .notActive rfl
    · have hfields := (s.b.heard q).chanStatus_fields c
      rw [Block.chan_heard] at hfields
      refine ⟨_, answersFrom_of _ rfl hpass ?_, hfields⟩
      rw [hrun, if_pos hactive]
      exact Block.finish_answered _ q 0x2005 .ok _ .none (Nat.le_trans (Nat.le_of_eq ((s.b.heard q).chanStatus_fields c).1) hroom) rfl
  · refine ⟨_, becomes_onBlock (show _ = execFuseModelUpdate d sub m s from rfl) (Block.fuseUpdate_powered hpowered sub m), ?_⟩
    rw [Block.die_modDie _ _ _ (by rw [Block.updated_dies_length, hdies]; exact d.isLt)]
    exact fun x hx => DieSt.snap_of_takeSnaps hx
  · intro r pol stops hpass hlen hd hfn hzero hroom hpol hnopol
    have hfn2 : fn ≤ 2 := by
      simp only [List.mem_cons, Prod.mk.injEq, List.not_mem_nil, or_false] at hc
      omega
    refine ⟨fun hunserved => answersFrom_dieIsolate hc hpass ?_, fun hserved hpowered => ⟨fun hstops =>
      answersFrom_dieIsolate hc hpass ?_, fun h2 hcount => answersFrom_dieIsolate hc hpass ?_, fun hgoes hcount =>
      answersFrom_dieIsolate hc hpass ?_⟩⟩
    · rw [Block.runDieIsolate_unserved hlen hd hfn hfn2 hzero hroom hpol hnopol (by simpa using hunserved)]
      exact Block.reply_answered _ _ 0x2006 .notActive rfl
    · rw [Block.runDieIsolate_stops hlen hd hfn hfn2 hzero hroom hpol hnopol (by simpa using hserved) (by simpa using hpowered)
        ((Block.closeStops_heard ..).mpr hstops)]
      exact Block.reply_answered _ _ 0x2006 .notActive rfl
    · rw [Block.runDieIsolate_limit hlen hd hfn hfn2 hzero hroom hpol hnopol (by simpa using hserved) (by simpa using hpowered)
        h2 (by simpa using hcount)]
      exact Block.reply_answered _ _ 0x2006 .locked rfl
    · rw [Block.runDieIsolate_acts hlen hd hfn hfn2 hzero hroom hpol hnopol (by simpa using hserved) (by simpa using hpowered)
        (mt (Block.closeStops_heard ..).mp hgoes) (by simpa using hcount)]
      exact Block.finish_answered _ _ 0x2006 .ok _ _ (by simpa [DieSt.isoPay, leBytes_length] using hroom) rfl
  · have hd : d.val < b.dies.length := by rw [hdies]; exact d.isLt
    obtain ⟨hiso, hchans⟩ := DieSt.writeIso_beside (b.die d) pol ((b.die d).iso == .opened || (b.die d).iso == .opening)
    have hpolicy : (b.effect (.isolate d 2 pol)).die d = _ := Block.isoAct_policy hd hpowered pol
    rw [Fin.ofNat_val_eq_self] at hpolicy
    have hopen : decide ((b.die d).iso = .opened ∨ (b.die d).iso = .opening) =
        ((b.die d).iso == .opened || (b.die d).iso == .opening) := by cases (b.die d).iso <;> rfl
    refine ⟨fun hclosed => ⟨?_, ?_⟩, fun hopened => ⟨?_, fun hfeed => Block.isoAct_close_open hd hpowered hopened hfeed pol⟩, ?_⟩
    · exact (congrArg (fun t : Block => (t.die d).iso) (Block.isoAct_open hpowered pol)).trans (Block.isolate_iso hd hclosed)
    · exact congrArg (Block.die · d) (Block.isoAct_close_closed hclosed pol)
    · exact congrArg (Block.die · d) ((Block.isoAct_open hpowered pol).trans (Block.isolate_open hopened))
    · dsimp only
      rw [hpolicy, hopen]
      exact ⟨hiso, hchans, DieSt.writeIso_banks pol _⟩

end Sys2Proof.Machine
end

section
/-! PROOF. REFRESH, READ, the pairing window, the watchdog and the logic power-up of a die (R31, R74, R75, R193, R196, R199,
R201-R203, R269). -/

namespace Sys2Proof

/-! ## The bytes of REFRESH and READ (R193, R194) -/

/-- The right check word of a frame with six argument bytes. -/
theorem crc16_frameBytes (kind idx copy num : Nat) {arg : List Byte} (harg : arg.length = 6) :
    crc16 ((frameBytes kind idx copy num arg).take 10) = fieldAt (frameBytes kind idx copy num arg) 10 2 := by
  have hbody : (frameBody kind idx copy num arg).length = 10 := by simp [frameBody, harg]
  simp only [frameBytes, fieldAt, bytesAt, List.take_left' hbody, List.drop_left' hbody]
  rw [List.take_of_length_le (by simp), leNat_leBytes]
  exact (Nat.mod_eq_of_lt (crc16_lt _)).symm

/-- A frame with six argument bytes has 12 bytes. -/
theorem frameBytes_length (kind idx copy num : Nat) {arg : List Byte} (harg : arg.length = 6) :
    (frameBytes kind idx copy num arg).length = 12 := by simp [frameBytes, frameBody, harg]

/-- The first byte of a frame is its kind nibble and its index. -/
theorem byteAt_frameBytes_zero (kind idx copy num : Nat) (arg : List Byte) :
    byteAt (frameBytes kind idx copy num arg) 0 = (16 * kind + idx) % 2 ^ 8 := BitVec.toNat_ofNat ..

/-- A port takes the bytes of a REFRESH for one. -/
theorem portFrame_refresh (num : Half) : portFrame (refreshBytes num) = .refresh := by
  have hkind : byteAt (refreshBytes num) 0 / 16 = 0 :=
    (congrArg (· / 16) (byteAt_frameBytes_zero ..)).trans (by decide)
  unfold portFrame
  rw [if_neg (by simp [refreshBytes, frameBytes_length, crc16_frameBytes, zeroBytes]), hkind]
  rfl

/-- A port takes the bytes of a READ for one of its item. -/
theorem portFrame_read {item : Nat} (h : item < 256) : portFrame (readBytes item) = .read item := by
  have hitem : byteAt (readBytes item) 4 = item := (BitVec.toNat_ofNat item 8).trans (Nat.mod_eq_of_lt h)
  have hkind : byteAt (readBytes item) 0 / 16 = 9 :=
    (congrArg (· / 16) (byteAt_frameBytes_zero ..)).trans (by decide)
  unfold portFrame
  rw [if_neg (by simp [readBytes, frameBytes_length, crc16_frameBytes, leBytes, zeroBytes]), hkind, hitem]
  rfl

section Port

variable {b : Block} {d : Nat} {p : Lane} (hquiet : b.portQuiet d p = false)

include hquiet in
/-- A REFRESH in its interval feeds the watchdog (R201, R205). -/
theorem Block.refreshAt_fed :
    b.refreshAt d p false = b.modDie d fun x => { x.feed p with devRun := 0, wdtFault := false } := by
  rw [Block.refreshAt, hquiet]
  rfl

include hquiet in
/-- A READ feeds the watchdog and is answered on its own port alone (R193, R200; log entry 53). -/
theorem Block.answerRead_answered (hd : d < b.dies.length) (item : Nat) :
    ∃ a c, ((b.answerRead d p item).die d).lastValid.get p = some (b.die d).ms ∧
      ((b.answerRead d p item).die d).toLane.get p = (b.die d).toLane.get p ++
        [.status item (b.die d).lnum a c (b.die d).failSafe (b.die d).views] ∧
      ((b.answerRead d p item).die d).toLane.get p.other = (b.die d).toLane.get p.other := by
  rw [Block.answerRead, hquiet, if_neg Bool.false_ne_true, Block.die_modDie _ _ _ hd]
  exact ⟨_, _, PerLane.get_set .., PerLane.get_upd .., PerLane.get_upd_other ..⟩

include hquiet in
/-- A frame that fails its check is counted for its port; nothing else but its times and a report follows (R31). -/
theorem Block.crcFail_counted (hd : d < b.dies.length) :
    ((b.crcFail d p).die d).crc = (b.die d).crc.upd p (fun n => satNat 0xFFFFFFFF (n + 1)) ∧
      ((b.crcFail d p).die d).chans = (b.die d).chans := by
  rw [Block.crcFail, hquiet, if_neg Bool.false_ne_true, Block.die_modDie _ _ _ hd]
  dsimp only
  split <;> exact ⟨rfl, rfl⟩

end Port

/-! ## The end of a pairing window (R196) -/

/-- A change of a die is what it does to that die. -/
theorem Block.modDie_congr {b : Block} {d : Nat} {f g : DieSt → DieSt} (h : f (b.die d) = g (b.die d)) :
    b.modDie d f = b.modDie d g := by
  have hlist : updAt b.dies d f = updAt b.dies d g := by
    refine List.ext_getElem? fun j => ?_
    rw [updAt_getElem?, updAt_getElem?]
    split
    · subst j
      cases hx : b.dies[d]? with
      | none => rfl
      | some x =>
        have hdie : b.die d = x := by simp [Block.die, List.getD_eq_getElem?_getD, hx]
        rw [hdie] at h
        exact congrArg some h
    · rfl
  rw [Block.modDie, hlist, Block.modDie]

/-- What a search over numbers finds at one of them alone. -/
theorem filterMap_range_single {α : Type} {n m : Nat} (h : m < n) (a : α) :
    (List.range n).filterMap (fun k => if k = m then some a else none) = [a] := by
  obtain ⟨j, rfl⟩ := Nat.exists_eq_add_of_lt h
  have hbelow : (List.range m).filterMap (fun k => if k = m then some a else none) = [] :=
    List.filterMap_eq_nil_iff.mpr fun k hk => if_neg (Nat.ne_of_lt (List.mem_range.mp hk))
  have habove : ((List.range j).map (m + 1 + ·)).filterMap (fun k => if k = m then some a else none) = [] :=
    List.filterMap_eq_nil_iff.mpr fun k hk => if_neg (by obtain ⟨i, -, rfl⟩ := List.mem_map.mp hk; omega)
  rw [show m + j + 1 = m + 1 + j by omega, List.range_add, List.range_succ, List.filterMap_append, List.filterMap_append, hbelow,
    habove]
  simp

/-- The only copy held, which comes before a distance. -/
theorem DieSt.heldBelow_single {x : DieSt} {f : DieFrame} (h : x.held = [f]) (dist : Nat) (hdist : seqDist f.frame.num x.lnum ≤ dist) :
    x.heldBelow dist = [f] := by
  have hone : (fun k => x.held.find? fun g => seqDist g.frame.num x.lnum == k) =
      fun k => if k = seqDist f.frame.num x.lnum then some f else none := by
    funext k
    rw [h, List.find?_singleton]
    by_cases hk : k = seqDist f.frame.num x.lnum
    · simp [hk]
    · simp [hk, Ne.symm hk]
  rw [DieSt.heldBelow, hone]
  exact filterMap_range_single (Nat.lt_succ_of_le hdist) f

/-- The window of the only copy held ends: the die acts on it. -/
theorem Block.releaseUpTo_single {b : Block} {d : Nat} {f : DieFrame} (h : (b.die d).held = [f]) (copy : Fin 4) :
    b.releaseUpTo d (seqDist f.frame.num (b.die d).lnum) copy = (b.modDie d fun x => { x with held := [] }).actOn d f copy := by
  have hrest : b.modDie d (fun x => { x with held := x.held.filter (fun g => !List.contains [f] g) }) =
      b.modDie d fun x => { x with held := [] } := Block.modDie_congr (by rw [h]; simp)
  rw [Block.releaseUpTo, DieSt.heldBelow_single h _ (Nat.le_refl _)]
  exact congrArg (Block.actOn · d f copy) hrest

/-! ## The logic power-up (R74, R75) -/

/-- A die that its logic supply has come up on, before its channels take their stored states. -/
def DieSt.up (x : DieSt) (src : Fin 3) : DieSt :=
  { DieSt.delivered with
    powered := true, source := src, failSafe := true, store := x.store, isoBanks := x.isoBanks,
    storeBad := x.storeLane.isNone, isoBad := x.isoLane.isNone,
    iso := match x.isoLane with
      | some l => if (x.isoBanks.get l).opened then .opened else .closed
      | none => .opened,
    reverseOn := x.reverseOn }.enableStored

/-- The block whose die's logic supply has come up on a source, its estimates at ambient. -/
def Block.raised (b : Block) (d : Nat) (src : Fin 3) : Block :=
  let b := b.modDie d (·.up src)
  let susp := !b.feedValid d
  b.modDie d fun x =>
    { x with chans := mapIdxFrom (fun i (y : ChanSt) =>
        ({ y with tw := b.fuseAmbient (16 * d + i) x.substrate10 } : ChanSt).suspend susp) 0 x.chans }

/-- The logic power-up: the die starts anew, its channels take their stored states, and the status records are taken. -/
theorem Block.logicUp_eq (b : Block) (d : Nat) (src : Fin 3) :
    b.logicUp d src = ((b.raised d src).takeAllStored d).modDie d DieSt.takeSnaps := rfl

/-- The die that has come up, without its channels. -/
theorem Block.raised_die (b : Block) {d : Nat} (hd : d < b.dies.length) (src : Fin 3) :
    ∃ cs, (b.raised d src).die d = { (b.die d).up src with chans := cs } := by
  unfold Block.raised
  dsimp only
  rw [Block.die_modDie _ _ _ (by simpa [Block.modDie] using hd), Block.die_modDie _ _ _ hd]
  exact ⟨_, rfl⟩

/-- The other dies. -/
theorem Block.raised_other (b : Block) {d e : Nat} (h : e ≠ d) (src : Fin 3) : (b.raised d src).die e = b.die e :=
  (Block.die_modDie_other _ _ _ _ h).trans (Block.die_modDie_other _ _ _ _ h)

/-- The block whose die's watchdog has expired, before its channels take their stored states. -/
def Block.expired (b : Block) (d : Nat) : Block :=
  b.modDie d fun x =>
    ({ x with failSafe := true, held := [], expiries := satNat 0xFFFFFFFF (x.expiries + 1) }).report 12 0 d 0

/-- The die that its watchdog takes into fail-safe mode. -/
theorem Block.expired_die (b : Block) {d : Nat} (hd : d < b.dies.length) :
    (b.expired d).die d = ({ b.die d with failSafe := true, held := [],
                                          expiries := satNat 0xFFFFFFFF ((b.die d).expiries + 1) }).report 12 0 d 0 :=
  Block.die_modDie b d _ hd

/-- A watchdog that expires outside fail-safe mode. -/
theorem Block.watchdog_expired {b : Block} {d : Nat} (hpower : (b.die d).powered = true) (hsafe : (b.die d).failSafe = false) :
    b.watchdog d = (b.expired d).takeAllStored d := by
  rw [Block.watchdog, hpower, hsafe]
  rfl

end Sys2Proof

namespace Sys2Proof.Machine

/-- A frame at a port of a die: its bytes decide. -/
theorem becomes_read {s : State} {d : Die} {p : Lane} {item : Nat} (h : item < 256) :
    Becomes (.read d p item) s (s.b.answerRead d p item) :=
  becomes_onBlock (show _ = execRead d p item s from rfl) (by rw [Block.portBytes, portFrame_read h])

/-- Settles O25: one lemma per arrival, and the two ways into fail-safe mode (the fields of STATUS: log entry 53). -/
theorem diesKeepTheLink : Obligations.DiesKeepTheLink := by
  refine ⟨fun s d p hdies hpower hlane => ?_, fun s d hdies => ?_⟩
  · have hd : d.val < s.b.dies.length := by rw [hdies]; exact d.isLt
    have hquiet := Block.portQuiet_false hpower hlane
    refine ⟨becomes_onBlock (show _ = execRefresh d p false s from rfl) ?_, fun item hitem => ?_,
      ⟨_, becomes_onBlock (show _ = execPowerFrameCrcFail d p s from rfl) rfl, ?_⟩,
      fun f hheld hdist => becomes_onBlock (show _ = execPairingWindowEnd d f.frame.num s from rfl) ?_,
      ⟨_, becomes_onBlock (show _ = execPreferredPortSilent d s from rfl) (if_pos hpower), ?_⟩,
      fun hsafe => becomes_onBlock (show _ = execWatchdogExpiry d s from rfl) ?_,
      fun hrun => ⟨s.b.expired d, becomes_onBlock (show _ = execWatchdogExpiry d s from rfl) ?_, ?_⟩⟩
    · rw [Block.portBytes, portFrame_refresh, ← Block.refreshAt_fed hquiet]
    · obtain ⟨a, c, hanswer⟩ := Block.answerRead_answered hquiet hd item
      exact ⟨_, a, c, becomes_read hitem, hanswer⟩
    · obtain ⟨hcrc, hchans⟩ := Block.crcFail_counted hquiet hd
      rw [hcrc, PerLane.get_upd, PerLane.get_upd_other]
      exact ⟨rfl, rfl, hchans⟩
    · rw [← Block.releaseUpTo_single hheld 1, if_pos (by rw [hheld]; simp)]
    · rw [Block.die_modDie _ _ _ hd]
      exact DieSt.prefer_preferred ..
    · rw [Block.watchdog, hsafe, Bool.or_true, if_pos rfl]
    · rw [Block.watchdog_expired hpower hrun]
    · rw [Block.expired_die s.b hd]
      exact ⟨rfl, rfl, rfl⟩
  · have hd : d.val < s.b.dies.length := by rw [hdies]; exact d.isLt
    refine ⟨fun hpower => becomes_onBlock (show _ = execPowerDieLogicUp d s from rfl) ?_,
      fun hnone => becomes_onBlock (show _ = execPowerDieLogicUp d s from rfl) ?_, fun src hsrc hdown => ⟨s.b.raised d src,
        becomes_onBlock (show _ = execPowerDieLogicUp d s from rfl) ?_, ?_⟩⟩
    · cases s.b.logicSource? with
      | none => rfl
      | some src => exact if_pos hpower
    · simp only [hnone]
    · simp only [hsrc, hdown, Bool.false_eq_true, if_false, Block.logicUp_eq]
    · obtain ⟨cs, hdie⟩ := s.b.raised_die hd src
      rw [hdie]
      exact ⟨rfl, rfl, rfl, rfl, rfl, rfl, fun x hx => s.b.raised_other (fun h => hx (Fin.ext h)) src⟩

end Sys2Proof.Machine
end

section
/-! PROOF. What comes back from the dies: ACK, STATUS and EVENT frames, REFRESH, the poll and the timeout of an acknowledgement
(R193, R200, R201, R518, R525). -/

namespace Sys2Proof

/-! ## What the handling of frames leaves of ports and links -/

/-- How a die answers its lanes: its silence, the missed polls and the READ frames sent. -/
def DieLink.answering (x : DieLink) : Bool × PerLane Nat × PerLane Nat := (x.lost, x.missed, x.reads)

/-- The ports hold the same frames and the dies answer as before. -/
def Block.AnswersStand (b t : Block) : Prop :=
  b.Keeps DieSt.toLane t ∧ t.links.map DieLink.answering = b.links.map DieLink.answering

section AnswersStand

variable {b t u : Block}

theorem Block.AnswersStand.refl (b : Block) : b.AnswersStand b := ⟨rfl, rfl⟩

theorem Block.AnswersStand.trans (h : b.AnswersStand t) (g : t.AnswersStand u) : b.AnswersStand u :=
  ⟨h.1.trans g.1, g.2.trans h.2⟩

/-- What changes neither dies nor links. -/
theorem Block.AnswersStand.of_eq (hdies : t.dies = b.dies) (hlinks : t.links = b.links) : b.AnswersStand t := by
  rw [Block.AnswersStand, Block.Keeps, hdies, hlinks]
  exact ⟨rfl, rfl⟩

theorem Block.AnswersStand.ite {q : Prop} [Decidable q] (ht : b.AnswersStand t) (hu : b.AnswersStand u) :
    b.AnswersStand (if q then t else u) := by
  split
  · exact ht
  · exact hu

/-- No link came or went. -/
theorem Block.AnswersStand.links_length (h : b.AnswersStand t) : t.links.length = b.links.length := by
  simpa using congrArg List.length h.2

/-- One port. -/
theorem Block.AnswersStand.toLane (h : b.AnswersStand t) (d : Nat) : (t.die d).toLane = (b.die d).toLane := h.1.die d

/-- One link. -/
theorem Block.AnswersStand.link (h : b.AnswersStand t) (d : Nat) : (t.link d).answering = (b.link d).answering := by
  have hget := congrArg (fun l => l[d]?.getD DieLink.fresh.answering) h.2
  simpa [Block.link, List.getD_eq_getElem?_getD] using hget

/-- A change of a link beside its answers. -/
theorem Block.modLink_answers (b : Block) (d : Nat) {f : DieLink → DieLink}
    (h : ∀ x, (f x).answering = x.answering := by intro; rfl) : b.AnswersStand (b.modLink d f) :=
  ⟨rfl, updAt_map_of_view b.links d h⟩

/-- A change of a die beside its port. -/
theorem Block.modDie_answers (b : Block) (d : Nat) {f : DieSt → DieSt} (h : ∀ x, (f x).toLane = x.toLane := by intro; rfl) :
    b.AnswersStand (b.modDie d f) := ⟨Block.modDie_keeps b d h, rfl⟩

/-- An event raised. -/
theorem Block.raise_answers (b : Block) (l : Lane) (ev cause subject : Nat) (detail : Int) :
    b.AnswersStand (b.raise l ev cause subject detail) := by
  obtain ⟨lanes, evs, h⟩ := Block.raise_frame b l ev cause subject detail
  exact .of_eq (by rw [h]) (by rw [h])

/-- Pending requests finished. -/
theorem Block.finishWhere_answers (b : Block) (sel : Pend → Bool) (st : Status) (pay : List Byte) (eff : Effect) :
    b.AnswersStand (b.finishWhere sel st pay eff) := by
  rw [Block.finishWhere_beside]
  exact .refl b

end AnswersStand

/-! ## Settling the frames that every lane has seen acknowledged (R200) -/

section Settle

variable {b t u : Block}

/-- The masks that all its dies have acknowledged end a CHAN_MULTI in the mailboxes alone. -/
theorem Block.multiDone_beside (b : Block) (d : Nat) (num : Half) : ∃ mail, b.multiDone d num = { b with mail := mail } :=
  foldl_keeps (fun t : Block => ∃ mail, t = { b with mail := mail }) ⟨_, rfl⟩ fun t e ⟨mail, ht⟩ => by
    rw [ht]
    split
    · rw [Block.ok, Block.finish_beside]
      exact ⟨_, rfl⟩
    · exact ⟨_, rfl⟩

/-- A finished frame leaves its link, and what waited for it ends. -/
theorem Block.frameDone_beside (b : Block) (d : Nat) (v : Unacked) : ∃ mail, b.frameDone d v =
    { b.modLink d fun x => { x with unacked := x.unacked.filter fun w => w.num != v.num } with mail := mail } := by
  unfold Block.frameDone Block.chanDone Block.roleAck
  dsimp only
  split
  · exact Block.multiDone_beside ..
  · rw [Block.finishWhere_beside]
    exact ⟨_, rfl⟩
  · split
    all_goals
      rw [Block.finishWhere_beside]
      exact ⟨_, rfl⟩

/-- What settling frames changes: mailboxes and links, whose frames grow fewer. -/
def Block.Settles (b t : Block) : Prop :=
  (∃ links mail, t = { b with links := links, mail := mail }) ∧ b.AnswersStand t ∧ ∀ d, (t.link d).unacked ⊆ (b.link d).unacked

theorem Block.Settles.refl (b : Block) : b.Settles b := ⟨⟨_, _, rfl⟩, .refl b, fun _ => List.Subset.refl _⟩

theorem Block.Settles.trans (h : b.Settles t) (g : t.Settles u) : b.Settles u := by
  obtain ⟨⟨links, mail, rfl⟩, hanswers, hfewer⟩ := h
  obtain ⟨⟨links', mail', rfl⟩, ganswers, gfewer⟩ := g
  exact ⟨⟨_, _, rfl⟩, hanswers.trans ganswers, fun d => List.Subset.trans (gfewer d) (hfewer d)⟩

/-- The same lanes serve, so the same frames count as acknowledged. -/
theorem Block.Settles.ackedBy (h : b.Settles t) (v : Unacked) : t.ackedBy v = b.ackedBy v := by
  obtain ⟨⟨links, mail, rfl⟩, -⟩ := h
  rfl

/-- A change of a link that adds no frame. -/
theorem Block.modLink_unacked_subset (b : Block) (d : Nat) {f : DieLink → DieLink} (h : ∀ x, (f x).unacked ⊆ x.unacked) (e : Nat) :
    ((b.modLink d f).link e).unacked ⊆ (b.link e).unacked := by
  by_cases he : e = d
  · subst he
    by_cases hin : e < b.links.length
    · rw [Block.link_modLink _ _ _ hin]
      exact h _
    · have hsame : (b.modLink e f).link e = b.link e := by
        simp [Block.link, Block.modLink, List.getD_eq_getElem?_getD, hin]
      rw [hsame]
      exact List.Subset.refl _
  · rw [Block.link_modLink_other _ _ _ _ he]
    exact List.Subset.refl _

/-- A finished frame. -/
theorem Block.frameDone_settles (b : Block) (d : Nat) (v : Unacked) : b.Settles (b.frameDone d v) := by
  obtain ⟨mail, h⟩ := Block.frameDone_beside b d v
  rw [h]
  exact ⟨⟨_, _, rfl⟩, Block.modLink_answers b d, Block.modLink_unacked_subset b d fun _ _ hv => (List.mem_filter.mp hv).1⟩

/-- It is gone. -/
theorem Block.frameDone_gone {d : Nat} (hd : d < b.links.length) (v : Unacked) :
    ∀ w ∈ ((b.frameDone d v).link d).unacked, w.num ≠ v.num := by
  obtain ⟨mail, h⟩ := Block.frameDone_beside b d v
  have hlink : (b.frameDone d v).link d = (b.modLink d fun x => { x with unacked := x.unacked.filter fun w => w.num != v.num }).link d := by
    rw [h]
    rfl
  rw [hlink, Block.link_modLink _ _ _ hd]
  intro w hw
  simpa using (List.mem_filter.mp hw).2

/-- Frames finished one after the other are gone. -/
theorem Block.framesDone {d : Nat} (vs : List Unacked) (hd : d < b.links.length) :
    b.Settles (vs.foldl (fun b v => b.frameDone d v) b) ∧
      ∀ v ∈ vs, ∀ w ∈ ((vs.foldl (fun b v => b.frameDone d v) b).link d).unacked, w.num ≠ v.num := by
  induction vs generalizing b with
  | nil => exact ⟨.refl b, fun v hv => absurd hv List.not_mem_nil⟩
  | cons x vs ih =>
    have hfirst := Block.frameDone_settles b d x
    obtain ⟨hrest, hgone⟩ := ih (b := b.frameDone d x) (by rw [hfirst.2.1.links_length]; exact hd)
    refine ⟨hfirst.trans hrest, fun v hv w hw => ?_⟩
    rcases List.mem_cons.mp hv with rfl | hv
    · exact Block.frameDone_gone hd v w (hrest.2.2 d hw)
    · exact hgone v hv w hw

/-- The frames of one die that every lane in service has seen acknowledged are settled. -/
def Block.settleDie (b : Block) (d : Nat) : Block := ((b.link d).unacked.filter b.ackedBy).foldl (fun b v => b.frameDone d v) b

theorem Block.settleDie_settles {d : Nat} (hd : d < b.links.length) :
    b.Settles (b.settleDie d) ∧ ∀ v ∈ ((b.settleDie d).link d).unacked, (b.settleDie d).ackedBy v = false := by
  obtain ⟨hsettles, hgone⟩ := Block.framesDone ((b.link d).unacked.filter b.ackedBy) hd
  refine ⟨hsettles, fun v hv => Bool.eq_false_iff.mpr fun hacked => ?_⟩
  refine hgone v (List.mem_filter.mpr ⟨hsettles.2.2 d hv, ?_⟩) v hv rfl
  rwa [← hsettles.ackedBy]

/-- The frames of several dies. -/
theorem Block.settleDies_settles (ds : List Nat) (hds : ∀ d ∈ ds, d < b.links.length) :
    b.Settles (ds.foldl Block.settleDie b) ∧
      ∀ d ∈ ds, ∀ v ∈ ((ds.foldl Block.settleDie b).link d).unacked, (ds.foldl Block.settleDie b).ackedBy v = false := by
  induction ds generalizing b with
  | nil => exact ⟨.refl b, fun d hd => absurd hd List.not_mem_nil⟩
  | cons x ds ih =>
    obtain ⟨hfirst, hnone⟩ := Block.settleDie_settles (hds x List.mem_cons_self)
    obtain ⟨hrest, hall⟩ := ih (b := b.settleDie x) fun d hd => by
      rw [hfirst.2.1.links_length]
      exact hds d (List.mem_cons_of_mem _ hd)
    refine ⟨hfirst.trans hrest, fun d hd v hv => ?_⟩
    rcases List.mem_cons.mp hd with rfl | hd
    · exact (hrest.ackedBy v).trans (hnone v (hrest.2.2 d hv))
    · exact hall d hd v hv

/-- After settling no frame stays that every lane in service has seen acknowledged. -/
theorem Block.settleAcks_settles (hlinks : b.links.length = 4) :
    b.Settles b.settleAcks ∧ ∀ d < 4, ∀ v ∈ ((b.settleAcks).link d).unacked, b.settleAcks.ackedBy v = false := by
  obtain ⟨h, hall⟩ := Block.settleDies_settles (b := b) (List.range 4) fun d hd => by rw [hlinks]; exact List.mem_range.mp hd
  exact ⟨h, fun d hd => hall d (List.mem_range.mpr hd)⟩

end Settle

/-! ## Learning an outcome, and frames given up (R200) -/

section Outcomes

variable {b : Block}

/-- The block in which a lane has noted the outcome of a frame. -/
def Block.noted (b : Block) (l : Lane) (d : Nat) (num : Half) (out : Nat) (a q x : BitVec 16) : Block :=
  (b.modLink d fun k => { k with unacked := k.unacked.map fun u =>
    if u.num = num then
      (match l with
       | .a => { u with doneA := true, outcome := out }
       | .b => { u with doneB := true, outcome := out })
    else u }).multiMasks d num a q x

/-- A lane learns an outcome: it is noted, and finished frames are settled. -/
theorem Block.learn_eq (b : Block) (l : Lane) (d : Nat) (num : Half) (out : Nat) (a q x : BitVec 16) :
    b.learn l d num out a q x = (b.noted l d num out a q x).settleAcks := rfl

theorem Block.noted_answers (b : Block) (l : Lane) (d : Nat) (num : Half) (out : Nat) (a q x : BitVec 16) :
    b.AnswersStand (b.noted l d num out a q x) := Block.modLink_answers b d

theorem Block.learn_answers (hlinks : b.links.length = 4) (l : Lane) (d : Nat) (num : Half) (out : Nat) (a q x : BitVec 16) :
    b.AnswersStand (b.learn l d num out a q x) := by
  have hnoted := Block.noted_answers b l d num out a q x
  exact hnoted.trans (Block.settleAcks_settles (hnoted.links_length.trans hlinks)).1.2.1

/-- The requests that waited for a lost frame. -/
def Unacked.waiting (u : Unacked) (d : Nat) (e : Pend) : Bool :=
  e.waitsFor d u.num || (match e.kind with
    | .roleSet .. => u.kind == .role
    | .failsafe ds _ _ => (u.kind == .store || u.kind == .conf) && ds.contains d
    | _ => false)

/-- A frame given up: it leaves its link, what waited for it ends BUSY, and the lane reports the link fault. -/
theorem Block.frameLost_eq (b : Block) (l : Lane) (d : Nat) (u : Unacked) : b.frameLost l d u =
    ((b.modLink d fun k => { k with unacked := k.unacked.filter fun v => v.num != u.num }).finishWhere (u.waiting d) .busy []
      .none).raise l 11 3 d (u.num.toNat : Int) := rfl

theorem Block.frameLost_answers (b : Block) (l : Lane) (d : Nat) (u : Unacked) : b.AnswersStand (b.frameLost l d u) := by
  rw [Block.frameLost_eq]
  exact ((Block.modLink_answers b d).trans (Block.finishWhere_answers ..)).trans (Block.raise_answers ..)

theorem Block.resolved_answers (hlinks : b.links.length = 4) (l : Lane) (d : Nat) (views : List ChanView) (u : Unacked) :
    b.AnswersStand (b.resolved l d views u) := by
  unfold Block.resolved
  dsimp only
  split <;> exact Block.learn_answers hlinks ..

theorem Block.statusFor_answers (hlinks : b.links.length = 4) (l : Lane) (d : Nat) (num : Half) (views : List ChanView) :
    b.AnswersStand (b.statusFor l d num views) :=
  foldl_keeps b.AnswersStand (.refl b) fun _ _ ht =>
    ht.trans (.ite (Block.frameLost_answers ..) (Block.resolved_answers (ht.links_length.trans hlinks) ..))

/-- An event of a lane that runs goes to delivery at once (R525). -/
theorem Block.raise_running {l : Lane} (h : b.runs l = true) (ev cause subject : Nat) (detail : Int) :
    b.raise l ev cause subject detail = { b with ev := { b.ev with items := b.ev.items ++ [b.evRec l ev cause subject detail] } } :=
  if_pos h

/-- The only frame given up, by a lane that runs: nothing stays unacknowledged, and the event is that of the link fault. -/
theorem Block.frameLost_only {l : Lane} {d : Nat} {u : Unacked} (hd : d < b.links.length) (honly : (b.link d).unacked = [u])
    (hruns : b.runs l = true) : ((b.frameLost l d u).link d).unacked = [] ∧ (b.frameLost l d u).dies = b.dies ∧
      (b.frameLost l d u).ev.items = b.ev.items ++ [b.evRec l 11 3 d (u.num.toNat : Int)] := by
  have hlink : ((b.modLink d fun k => { k with unacked := k.unacked.filter fun v => v.num != u.num }).link d).unacked = [] := by
    rw [Block.link_modLink _ _ _ hd]
    dsimp only
    rw [honly]
    simp
  rw [Block.frameLost_eq, Block.finishWhere_beside, Block.raise_running]
  · exact ⟨hlink, rfl, rfl⟩
  · exact hruns

end Outcomes

/-! ## Taking a die over leaves what its ports hold (R204) -/

theorem Block.checksSent_answers (b : Block) (ls : List Lane) (stream num : Nat) (prid : Block → Nat) (content : List Byte) :
    b.AnswersStand (ls.foldl (fun b l => b.checkSent l stream num (prid b) content) b) :=
  foldl_keeps b.AnswersStand (.refl b) fun t l ht => ht.trans (by
    obtain ⟨mod, lanes, evs, h⟩ := Block.checkSent_frame t l stream num (prid t) content
    rw [h]
    exact .of_eq rfl rfl)

theorem Block.sendFrame_answers (b : Block) (d : Nat) (k : SeqKind) (idx : Nat) (arg : List Byte) :
    b.AnswersStand (b.sendFrame d k idx arg) := by
  unfold Block.sendFrame
  split
  · exact .refl b
  · exact (Block.modLink_answers b d).trans (Block.checksSent_answers _ _ _ _ (fun b => b.ownerOf d k idx) _)

theorem Block.sendConf_answers (b : Block) (d : Nat) : b.AnswersStand (b.sendConf d) := by
  have hall : b.AnswersStand ((List.range 16).foldl (fun b i =>
      b.sendFrame d .conf i (confArg 0x20 0x01 (b.p 0x2001 (16 * d + i)))) b) :=
    foldl_keeps b.AnswersStand (.refl b) fun t i ht => ht.trans (Block.sendFrame_answers t d .conf i _)
  exact hall.trans (Block.sendFrame_answers ..)

theorem Block.takeOver_answers (b : Block) (d : Nat) : b.AnswersStand (b.takeOver d) := by
  have hsent : b.AnswersStand ((b.sendFrame d .keep 0 (zeroBytes 6)).sendConf d) :=
    (Block.sendFrame_answers b d .keep 0 (zeroBytes 6)).trans (Block.sendConf_answers _ d)
  exact hsent.trans (Block.modDie_answers _ d)

theorem Block.regain_answers (b : Block) (d : Nat) : b.AnswersStand (b.regain d) :=
  .ite (Block.takeOver_answers b d) (.refl b)

/-! ## What a lane takes from its port -/

section Taking

variable {b : Block} {l : Lane} {d : Nat} {m : DieMsg} {rest : List DieMsg}

/-- A die without the first frame of a lane's port. -/
def DieSt.without (x : DieSt) (l : Lane) (rest : List DieMsg) : DieSt := { x with toLane := x.toLane.set l rest }

/-- The first frame of a port is of the kind looked for. -/
theorem DieSt.popMsg_first {x : DieSt} {sel : DieMsg → Bool} (h : x.toLane.get l = m :: rest) (hsel : sel m = true) :
    x.popMsg l sel = (some m, x.without l rest) := by
  have hpop : x.toLane.upd l (fun q => q.eraseP sel) = x.toLane.set l rest := by
    cases l <;> simp_all [PerLane.upd, PerLane.set, PerLane.get]
  rw [DieSt.popMsg, h, List.find?_cons_of_pos hsel]
  simp only [DieSt.without, hpop]

/-- The block whose die's port has lost its first frame. -/
def Block.popped (b : Block) (l : Lane) (d : Nat) (rest : List DieMsg) : Block := b.modDie d fun _ => (b.die d).without l rest

theorem Block.popped_toLane (hd : d < b.dies.length) (rest : List DieMsg) :
    ((b.popped l d rest).die d).toLane.get l = rest ∧
      ((b.popped l d rest).die d).toLane.get l.other = (b.die d).toLane.get l.other := by
  rw [Block.popped, Block.die_modDie _ _ _ hd]
  exact ⟨PerLane.get_set .., PerLane.get_set_other ..⟩

theorem Block.popped_links (b : Block) (l : Lane) (d : Nat) (rest : List DieMsg) : (b.popped l d rest).links = b.links := rfl

/-- The lane has taken a reply of a die: the first frame of its port is gone and no poll of it is missed. -/
def Block.heardReply (b : Block) (l : Lane) (d : Nat) (rest : List DieMsg) : Block := (b.popped l d rest).replied l d

theorem Block.heardReply_link (hd : d < b.links.length) (rest : List DieMsg) :
    (b.heardReply l d rest).link d = { b.link d with missed := (b.link d).missed.set l 0 } :=
  Block.link_modLink (b.popped l d rest) d _ hd

theorem Block.heardReply_links_length (b : Block) (l : Lane) (d : Nat) (rest : List DieMsg) :
    (b.heardReply l d rest).links.length = b.links.length := updAt_length ..

/-- The silence of a die ended. -/
def Block.answering (b : Block) (d : Nat) : Block := b.modLink d fun k => { k with lost := false, shown := none }

theorem Block.answering_unacked (b : Block) (d : Nat) : ((b.answering d).link d).unacked ⊆ (b.link d).unacked :=
  Block.modLink_unacked_subset b d (f := fun k => { k with lost := false, shown := none }) (fun x => List.Subset.refl x.unacked) d

theorem Block.answering_ackedBy (b : Block) (d : Nat) (u : Unacked) : (b.answering d).ackedBy u = b.ackedBy u := rfl

/-- Once a lane has learnt an outcome, no frame stays that every lane in service has seen acknowledged. -/
theorem Block.learn_settled (hlinks : b.links.length = 4) (hd : d < 4) (num : Half) (out : Nat) (a q x : BitVec 16) :
    ∀ u ∈ (((b.learn l d num out a q x).answering d).link d).unacked,
      ((b.learn l d num out a q x).answering d).ackedBy u = false := by
  have hnoted := Block.noted_answers b l d num out a q x
  obtain ⟨-, hsettled⟩ := Block.settleAcks_settles (hnoted.links_length.trans hlinks)
  intro u hu
  rw [Block.answering_ackedBy, Block.learn_eq]
  exact hsettled d hd u (Block.answering_unacked _ d hu)

/-- What follows a reply leaves what the port holds and what is missed; the silence ended, the die answers. -/
theorem Block.answering_of_heardReply {t u : Block} (hdies : d < b.dies.length) (hlinks : d < b.links.length)
    (h : (b.heardReply l d rest).AnswersStand t) (g : (t.answering d).AnswersStand u) :
    (u.die d).toLane.get l = rest ∧ (u.die d).toLane.get l.other = (b.die d).toLane.get l.other ∧
      (u.link d).lost = false ∧ (u.link d).missed.get l = 0 := by
  have hlen : d < t.links.length := by rw [h.links_length, Block.heardReply_links_length]; exact hlinks
  obtain ⟨hmine, hother⟩ := Block.popped_toLane (l := l) hdies rest
  have hport : (u.die d).toLane = ((b.popped l d rest).die d).toLane := (g.toLane d).trans (h.toLane d)
  have hmissed : (t.link d).missed = (b.link d).missed.set l 0 :=
    (congrArg (fun x => x.2.1) (h.link d)).trans (congrArg DieLink.missed (Block.heardReply_link hlinks rest))
  have hlink := g.link d
  rw [Block.answering, Block.link_modLink _ _ _ hlen, DieLink.answering, DieLink.answering, Prod.mk.injEq, Prod.mk.injEq] at hlink
  obtain ⟨hlost, hmiss, -⟩ := hlink
  rw [hport, hmiss, hmissed, PerLane.get_set]
  exact ⟨hmine, hother, hlost, rfl⟩

/-- The lane takes an ACK. -/
theorem Block.takeAck_first {num : Half} {copy : Fin 4} {a q x : BitVec 16} {out : Nat}
    (h : (b.die d).toLane.get l = .ack num copy a q x out :: rest) :
    b.takeAck l d = ((b.heardReply l d rest).learn l d num out a q x).answering d := by
  rw [Block.takeAck, DieSt.popMsg_first h rfl]
  rfl

/-- What a STATUS shows of the other lane's port, where it was asked for (R269). -/
def Block.portShown (b : Block) (l : Lane) (d item : Nat) (pa pb : Bool) : Block :=
  if item = portActivity && (b.link d).silentReport.get l then
    let far := match l.other with | .a => pa | .b => pb
    let b := b.modLink d fun k => { k with silentReport := k.silentReport.set l false }
    if far then b.modLane l fun x => { x with diesSayActive := true } else b
  else b

/-- It leaves the frames that wait and the events. -/
theorem Block.portShown_beside (b : Block) (l : Lane) (d item : Nat) (pa pb : Bool) :
    b.AnswersStand (b.portShown l d item pa pb) ∧ (b.portShown l d item pa pb).ev = b.ev ∧
      ((b.portShown l d item pa pb).link d).unacked ⊆ (b.link d).unacked := by
  have hreport := Block.modLink_answers b d (f := fun k => { k with silentReport := k.silentReport.set l false })
  have hkept := Block.modLink_unacked_subset b d (f := fun k => { k with silentReport := k.silentReport.set l false })
    (fun _ => List.Subset.refl _) d
  unfold Block.portShown
  split
  · dsimp only
    repeat' split
    all_goals exact ⟨hreport.trans (.of_eq rfl rfl), rfl, hkept⟩
  · exact ⟨.refl b, rfl, List.Subset.refl _⟩

/-- The lane takes a STATUS. -/
theorem Block.takeStatus_first {item : Nat} {n : Half} {pa pb fs : Bool} {views : List ChanView}
    (h : (b.die d).toLane.get l = .status item n pa pb fs views :: rest) :
    let t := (b.heardReply l d rest).statusFor l d n views
    b.takeStatus l d = Block.portShown (if fs && t.serves l then (t.answering d).regain d else t.answering d) l d item pa pb := by
  rw [Block.takeStatus, DieSt.popMsg_first h rfl]
  rfl

/-- What a STATUS leaves of the port and of the link. -/
theorem Block.takeStatus_answers {item : Nat} {n : Half} {pa pb fs : Bool} {views : List ChanView}
    (h : (b.die d).toLane.get l = .status item n pa pb fs views :: rest) (hdies : d < b.dies.length) (hd : d < 4)
    (hlinks : b.links.length = 4) : ((b.takeStatus l d).die d).toLane.get l = rest ∧ ((b.takeStatus l d).link d).lost = false ∧
      ((b.takeStatus l d).link d).missed.get l = 0 := by
  have hlen := (Block.heardReply_links_length b l d rest).trans hlinks
  have hfor := Block.statusFor_answers hlen l d n views
  obtain ⟨hmine, -, hlost, hmissed⟩ := Block.answering_of_heardReply (l := l) (rest := rest) hdies (by omega) hfor
    ((Block.AnswersStand.ite (q := (fs && ((b.heardReply l d rest).statusFor l d n views).serves l) = true)
      (Block.regain_answers _ d) (.refl _)).trans (Block.portShown_beside _ l d item pa pb).1)
  rw [Block.takeStatus_first h]
  exact ⟨hmine, hlost, hmissed⟩

/-- A STATUS of a die in operation whose L lies before the only frame asked for: the frame is given up. -/
theorem Block.takeStatus_lost {item : Nat} {n : Half} {pa pb : Bool} {views : List ChanView} {u : Unacked}
    (h : (b.die d).toLane.get l = .status item n pa pb false views :: rest) (hd : d < b.links.length)
    (honly : (b.link d).unacked = [u]) (hasked : u.asked.get l = true) (hnew : seqNew u.num n = true) (hruns : b.runs l = true) :
    ((b.takeStatus l d).link d).unacked = [] ∧
      (b.takeStatus l d).ev.items = b.ev.items ++ [b.evRec l 11 3 d (u.num.toNat : Int)] := by
  have hlink : ((b.heardReply l d rest).link d).unacked = [u] := by rw [Block.heardReply_link hd]; exact honly
  have hfor : (b.heardReply l d rest).statusFor l d n views = (b.heardReply l d rest).frameLost l d u := by
    simp [Block.statusFor, hlink, hasked, hnew]
  obtain ⟨hnone, -, hev⟩ := Block.frameLost_only (b := b.heardReply l d rest) (l := l)
    (by rw [Block.heardReply_links_length]; exact hd) hlink hruns
  obtain ⟨-, hevs, hfewer⟩ := Block.portShown_beside (((b.heardReply l d rest).frameLost l d u).answering d) l d item pa pb
  have hstays : ((((b.heardReply l d rest).frameLost l d u).answering d).link d).unacked ⊆ [] := by
    rw [← hnone]
    exact Block.answering_unacked _ d
  rw [Block.takeStatus_first h, hfor, Bool.false_and, if_neg Bool.false_ne_true]
  exact ⟨List.subset_nil.mp (List.Subset.trans hfewer hstays), (congrArg (fun e => e.items) hevs).trans hev⟩

/-- The lane takes an EVENT frame of a plain report. -/
theorem Block.takeEvent_first {r : DieReport} (h : (b.die d).toLane.get l = .event r :: rest) (hport : r.ev ≠ portReport)
    (hdiv : r.ev ≠ 19) (hwatch : r.ev ≠ 12) :
    b.takeEvent l d = (b.popped l d rest).raise l r.ev r.cause r.subject r.detail := by
  rw [Block.takeEvent, DieSt.popMsg_first h rfl]
  simp only [hport, hdiv, hwatch, if_false, decide_false, Bool.false_and, Bool.false_eq_true]
  rfl

end Taking

/-! ## The poll (R518) -/

section Poll

variable {b : Block} {l : Lane} {d : Nat}

/-- The poll finds a die silent that was not: every lane in service misses two replies. -/
def Block.newlySilent (b : Block) (d : Nat) : Bool :=
  !(b.link d).lost && (!b.serves .a || decide (2 ≤ (b.link d).missed.get .a)) &&
    (!b.serves .b || decide (2 ≤ (b.link d).missed.get .b))

/-- A die is silent behind the poll when it was, or when every lane in service misses two replies. -/
theorem Block.lost_or_newlySilent (b : Block) (d : Nat) : ((b.link d).lost || b.newlySilent d) = true ↔
    (b.link d).lost = true ∨ ∀ k : Lane, b.serves k = true → 2 ≤ (b.link d).missed.get k := by
  have hlanes : (∀ k : Lane, b.serves k = true → 2 ≤ (b.link d).missed.get k) ↔
      (b.serves .a = true → 2 ≤ (b.link d).missed.get .a) ∧ (b.serves .b = true → 2 ≤ (b.link d).missed.get .b) :=
    ⟨fun h => ⟨h .a, h .b⟩, fun h k => by cases k; exact h.1; exact h.2⟩
  rw [hlanes, Block.newlySilent]
  cases (b.link d).lost <;> cases b.serves .a <;> cases b.serves .b <;> simp

/-- The block in which the frames asked for are given up when the die is newly silent. -/
def Block.givenUp (b : Block) (l : Lane) (d : Nat) : Block :=
  if b.newlySilent d then ((b.link d).unacked.filter fun u => u.asked.a || u.asked.b).foldl (fun b u => b.frameLost l d u) b else b

theorem Block.givenUp_answers (b : Block) (l : Lane) (d : Nat) : b.AnswersStand (b.givenUp l d) :=
  .ite (foldl_keeps b.AnswersStand (.refl b) fun t u ht => ht.trans (Block.frameLost_answers t l d u)) (.refl b)

/-- The block in which a lane's poll has been sent. -/
def Block.polled (b : Block) (l : Lane) (d : Nat) : Block :=
  (b.givenUp l d).modLink d fun x =>
    { x with lost := x.lost || b.newlySilent d, shown := if b.newlySilent d then some ((b.givenUp l d).die d) else x.shown,
             missed := x.missed.upd l (· + 1), reads := x.reads.upd l (· + 1) }

/-- The poll of a lane in service; the silence it finds is an event of both lanes. -/
theorem Block.pollDie_serving (hserves : b.serves l = true) :
    b.pollDie l d = if b.newlySilent d then (b.polled l d).raiseAll 10 0 d 0 else b.polled l d := by
  rw [Block.pollDie, hserves]
  rfl

theorem Block.raiseAll_link (b : Block) (ev cause subject : Nat) (detail : Int) (d : Nat) :
    (b.raiseAll ev cause subject detail).link d = b.link d := by
  obtain ⟨lanes, evs, h⟩ := Block.raiseAll_frame b ev cause subject detail
  rw [h]
  rfl

/-- One more READ, one more reply missed, and the silence it finds. -/
theorem Block.pollDie_link (hd : d < b.links.length) (hserves : b.serves l = true) :
    ((b.pollDie l d).link d).reads.get l = (b.link d).reads.get l + 1 ∧
      ((b.pollDie l d).link d).missed.get l = (b.link d).missed.get l + 1 ∧
      ((b.pollDie l d).link d).lost = ((b.link d).lost || b.newlySilent d) := by
  have hgiven := Block.givenUp_answers b l d
  have hlink := hgiven.link d
  rw [DieLink.answering, DieLink.answering, Prod.mk.injEq, Prod.mk.injEq] at hlink
  obtain ⟨hlost, hmissed, hreads⟩ := hlink
  have hpoll : (b.pollDie l d).link d = (b.polled l d).link d := by
    rw [Block.pollDie_serving hserves]
    split
    · exact Block.raiseAll_link ..
    · rfl
  rw [hpoll, Block.polled, Block.link_modLink _ _ _ (by rw [hgiven.links_length]; exact hd)]
  dsimp only
  rw [hlost, hmissed, hreads, PerLane.get_upd, PerLane.get_upd]
  exact ⟨rfl, rfl, rfl⟩

end Poll

/-! ## The timeout of an acknowledgement (R200) -/

section Timeout

variable {b : Block} {l : Lane} {d : Nat} {u : Unacked} (honly : (b.link d).unacked = [u])
include honly

/-- Without its ACK the lane sends READ for a frame. -/
theorem Block.ackTimeout_asks (hd : d < b.links.length) (hasked : u.asked.get l = false) :
    (b.ackTimeout l d u.num).dies = b.dies ∧ ((b.ackTimeout l d u.num).link d).reads.get l = (b.link d).reads.get l + 1 ∧
      ((b.ackTimeout l d u.num).link d).unacked = [{ u with asked := u.asked.set l true }] := by
  have hasks : b.ackTimeout l d u.num = b.modLink d fun k =>
      { k with reads := k.reads.upd l (· + 1),
               unacked := k.unacked.map fun v => if v.num == u.num then { v with asked := v.asked.set l true } else v } := by
    simp [Block.ackTimeout, honly, hasked]
  rw [hasks, Block.link_modLink _ _ _ hd]
  dsimp only
  rw [honly, PerLane.get_upd]
  exact ⟨rfl, rfl, by simp⟩

/-- Without its STATUS, and acknowledged by no lane, the frame is given up. -/
theorem Block.ackTimeout_lost (hasked : u.asked.get l = true) (ha : u.doneA = false) (hb : u.doneB = false) :
    b.ackTimeout l d u.num = b.frameLost l d u := by
  simp [Block.ackTimeout, honly, hasked, ha, hb]

end Timeout

end Sys2Proof

namespace Sys2Proof.Machine

/-- Settles O26: one lemma per frame taken, the poll and the timeout (giving a frame up without a STATUS: log entry 53). -/
theorem answersComeFromDies : Obligations.AnswersComeFromDies := by
  intro s l d hdies hlinks
  have hdie : d.val < s.b.dies.length := by rw [hdies]; exact d.isLt
  have hlink : d.val < s.b.links.length := by rw [hlinks]; exact d.isLt
  refine ⟨fun num copy a q x out rest hfirst => ?_, fun item n pa pb fs views rest hfirst => ?_,
    fun r rest hfirst hruns hport hdiv hwatch => ?_, fun hserves hconf => ?_, fun hserves hconf => ?_, fun hidle => ?_,
    fun u honly => ⟨fun hasked => ?_, fun hasked ha hb hruns => ?_⟩⟩
  · have hlen := (Block.heardReply_links_length s.b l d rest).trans hlinks
    obtain ⟨hmine, hother, hlost, hmissed⟩ := Block.answering_of_heardReply hdie hlink
      (Block.learn_answers hlen l d num out a q x) (.refl _)
    exact ⟨_, becomes_onBlock (show _ = execAck l d s from rfl) (Block.takeAck_first hfirst), hmine, hother, hlost, hmissed,
      Block.learn_settled hlen d.isLt num out a q x⟩
  · obtain ⟨hmine, hlost, hmissed⟩ := Block.takeStatus_answers hfirst hdie d.isLt hlinks
    refine ⟨_, becomes_onBlock (show _ = execStatus l d s from rfl) rfl, hmine, hlost, hmissed, ?_⟩
    rintro u rfl honly hasked hnew hruns
    exact Block.takeStatus_lost hfirst hlink honly hasked hnew hruns
  · refine ⟨_, becomes_onBlock (show _ = execEvent l d s from rfl)
      ((Block.takeEvent_first hfirst hport hdiv hwatch).trans (Block.raise_running (b := s.b.popped l d rest) hruns ..)), ?_, rfl⟩
    exact (Block.popped_toLane hdie rest).1
  · refine ⟨_, becomes_onBlock (show _ = execRefreshDue l d s from rfl) (if_pos (by rw [hserves, hconf]; rfl)), ?_⟩
    rw [Block.link_modLink _ _ _ hlink]
    exact ⟨PerLane.get_upd .., rfl, rfl⟩
  · obtain ⟨hreads, hmissed, hlost⟩ := Block.pollDie_link hlink hserves
    refine ⟨_, becomes_onBlock (show _ = execDiePollDue l d s from rfl) (if_pos hconf), hreads, hmissed, ?_⟩
    rw [hlost]
    exact Block.lost_or_newlySilent s.b d
  · refine ⟨becomes_onBlock (show _ = execRefreshDue l d s from rfl) (if_neg ?_),
      becomes_onBlock (show _ = execDiePollDue l d s from rfl) ?_⟩
    · rcases hidle with h | h <;> simp [h]
    · rcases hidle with h | h
      · simp [Block.pollDie, h]
      · rw [h]
        rfl
  · exact ⟨_, becomes_onBlock (show _ = execAckTimeout l d u.num s from rfl) rfl, Block.ackTimeout_asks honly hlink hasked⟩
  · obtain ⟨hnone, hdies', hev⟩ := Block.frameLost_only (l := l) hlink honly hruns
    exact ⟨_, becomes_onBlock (show _ = execAckTimeout l d u.num s from rfl) (Block.ackTimeout_lost honly hasked ha hb), hnone,
      hdies', hev⟩

end Sys2Proof.Machine
end

section
/-! PROOF. What lanes tell each other and the module, and what a lane that leaves service leaves (R256, R258, R264, R525). -/

namespace Sys2Proof

/-! ## Telling: events, frames and items change nothing else -/

/-- A lane without the events it holds, its check records and what waits to go to the far lane. -/
def LaneSt.unsent (x : LaneSt) : LaneSt := { x with held := [], checks := [], farChecks := [], toFar := [] }

/-- The module's roles and time without the record of divergences. -/
def ModuleSt.undiverged (m : ModuleSt) : ModuleSt := { m with divCount := 0, divSource := 0, divPrid := 32, divSeen := [] }

/-- The block without what lanes tell: events, check records, frames to the dies, divergences and answers. -/
def Block.untold (b : Block) : Block :=
  { b with lanes := b.lanes.map LaneSt.unsent, mod := b.mod.undiverged, mail := MailSt.fresh, links := [],
           ev := { b.ev with items := [] } }

section Untold

variable {b t : Block}

/-- What is told leaves a lane but for what it holds and sends. -/
theorem Block.lane_of_untold (h : t.untold = b.untold) (l : Lane) : (t.lane l).unsent = (b.lane l).unsent := by
  have hlanes : t.lanes.map LaneSt.unsent = b.lanes.map LaneSt.unsent := congrArg Block.lanes h
  have hget := congrArg (fun ls : PerLane LaneSt => ls.get l) hlanes
  rwa [PerLane.get_map, PerLane.get_map] at hget

/-- A field of a lane that telling leaves. -/
theorem Block.field_of_untold {α : Type} (h : t.untold = b.untold) (l : Lane) (f : LaneSt → α)
    (hf : ∀ x : LaneSt, f x.unsent = f x := by intro; rfl) : f (t.lane l) = f (b.lane l) := by
  rw [← hf, Block.lane_of_untold h, hf]

/-- The roles and the time. -/
theorem Block.mod_of_untold (h : t.untold = b.untold) : t.mod.undiverged = b.mod.undiverged := congrArg Block.mod h

@[simp] theorem Block.untold_raise (b : Block) (l : Lane) (ev cause subject : Nat) (detail : Int) :
    (b.raise l ev cause subject detail).untold = b.untold := by
  unfold Block.raise
  dsimp only
  repeat' split
  · rfl
  · cases l <;> rfl
  · rfl

@[simp] theorem Block.untold_raiseAll (b : Block) (ev cause subject : Nat) (detail : Int) :
    (b.raiseAll ev cause subject detail).untold = b.untold := by simp [Block.raiseAll]

@[simp] theorem Block.untold_toPeer (b : Block) (l : Lane) (it : Item) : (b.toPeer l it).untold = b.untold := by
  unfold Block.toPeer
  split
  · cases l <;> rfl
  · rfl

@[simp] theorem Block.untold_diverge (b : Block) (source prid : Nat) : (b.diverge source prid).untold = b.untold :=
  (show (b.diverge source prid).untold = (b.raiseAll 19 source (if prid < 32 then prid else noSubject) 0).untold from rfl).trans
    (Block.untold_raiseAll ..)

@[simp] theorem Block.untold_checkSent (b : Block) (l : Lane) (stream num prid : Nat) (content : List Byte) :
    (b.checkSent l stream num prid content).untold = b.untold := by
  have hkept (f : LaneSt → LaneSt) (hf : ∀ x, (f x).unsent = x.unsent) : (b.modLane l f).untold = b.untold := by
    cases l <;> simp [Block.untold, Block.modLane, PerLane.upd, PerLane.map, PerLane.get, PerLane.set, hf]
  unfold Block.checkSent
  dsimp only
  repeat' split
  · rw [Block.untold_toPeer]
    exact hkept _ fun _ => rfl
  · rw [Block.untold_diverge, Block.untold_toPeer]
    exact hkept _ fun _ => rfl
  · rw [Block.untold_toPeer]
    exact hkept _ fun _ => rfl

@[simp] theorem Block.untold_sendFrame (b : Block) (d : Nat) (k : SeqKind) (idx : Nat) (arg : List Byte) :
    (b.sendFrame d k idx arg).untold = b.untold := by
  unfold Block.sendFrame
  split
  · rfl
  · exact foldl_keeps (fun t : Block => t.untold = b.untold) rfl fun t l ht => (Block.untold_checkSent t l _ _ _ _).trans ht

@[simp] theorem Block.untold_sendRole (b : Block) (l : Lane) : (b.sendRole l).untold = b.untold :=
  foldl_keeps (fun t : Block => t.untold = b.untold) rfl fun t d ht => (Block.untold_sendFrame t d _ _ _).trans ht

@[simp] theorem Block.untold_finishWhere (b : Block) (sel : Pend → Bool) (st : Status) (pay : List Byte) (eff : Effect) :
    (b.finishWhere sel st pay eff).untold = b.untold := by
  rw [Block.finishWhere_beside]
  rfl

/-- What settling frames leaves. -/
theorem Block.Settles.untold (h : b.Settles t) : t.untold = b.untold := by
  obtain ⟨⟨links, mail, rfl⟩, -⟩ := h
  rfl

end Untold

/-! ## A lane that leaves service (R256) -/

/-- A changed lane seen from the other side. -/
@[simp] theorem Block.lane_modLane_own (b : Block) (l : Lane) (f : LaneSt → LaneSt) :
    (b.modLane l.other f).lane l = b.lane l := by cases l <;> rfl

/-- Settling frames, whatever the links. -/
theorem Block.settleAcks_beside (b : Block) : ∃ links mail, b.settleAcks = { b with links := links, mail := mail } := by
  have hdone (t : Block) (d : Nat) (vs : List Unacked) (ht : ∃ links mail, t = { b with links := links, mail := mail }) :
      ∃ links mail, vs.foldl (fun b v => b.frameDone d v) t = { b with links := links, mail := mail } :=
    foldl_keeps (fun t : Block => ∃ links mail, t = { b with links := links, mail := mail }) ht fun t v ⟨links, mail, ht⟩ => by
      obtain ⟨mail', h⟩ := Block.frameDone_beside t d v
      rw [h, ht]
      exact ⟨_, _, rfl⟩
  exact foldl_keeps (fun t : Block => ∃ links mail, t = { b with links := links, mail := mail }) ⟨_, _, rfl⟩
    fun t d ht => hdone t d _ ht

/-- A lane in the state in which it leaves service, its ports released. -/
def LaneSt.left (x : LaneSt) (st : Nat) : LaneSt :=
  { (if st = 0 then x.reset else ({ x with st := st, resyncStage := 0 } : LaneSt).quiet.stopPairs) with
    released := true, wetFull := false }

/-- The module's roles once a lane has left service. -/
def ModuleSt.without (m : ModuleSt) (l : Lane) (st : Nat) : ModuleSt :=
  { m with active := if m.active = some l then none else m.active,
           handTo := if m.handTo = some l then none else m.handTo,
           deferLeft := if st = 0 then m.deferLeft.set l 0 else m.deferLeft }

/-- A lane whose accesses through the window of the other lane have ended. -/
def LaneSt.windowless (x : LaneSt) : LaneSt :=
  { x with pairs := x.pairs.map fun p => { p with lines := [], result := if p.result = .sent then .fault else p.result } }

/-- The other lane beside one that leaves. -/
def LaneSt.leftAlone (x : LaneSt) : LaneSt := { x with wetFull := x.st == 4, expects := false }

/-- The other lane held where it was taking the leaving lane's state. -/
def LaneSt.unmirrored (x : LaneSt) : LaneSt := if x.st = 3 then { x with st := 2, resyncStage := 0 } else x

/-- A lane without what the leaving of the other lane changes in it. -/
def LaneSt.apart (x : LaneSt) : LaneSt :=
  { x.unsent with st := 0, resyncStage := 0, wetFull := false, expects := false, pairs := [] }

theorem LaneSt.apart_unsent (x : LaneSt) : x.unsent.apart = x.apart := rfl

theorem LaneSt.apart_unsent_pairs (x : LaneSt) (ps : List PairSt) : ({ x.unsent with pairs := ps } : LaneSt).apart = x.apart := rfl

theorem LaneSt.apart_unmirrored (x : LaneSt) : x.leftAlone.unmirrored.apart = x.apart := by
  unfold LaneSt.unmirrored
  split <;> rfl

theorem Block.windowEnds_other (b : Block) (l : Lane) : (b.windowEnds l).lane l.other = (b.lane l.other).windowless :=
  Block.lane_modLane b l.other _

theorem Block.windowEnds_own (b : Block) (l : Lane) : (b.windowEnds l).lane l = b.lane l := Block.lane_modLane_own b l _

theorem LaneSt.unsent_windowless (x : LaneSt) : x.windowless.unsent = x.unsent.windowless := rfl

theorem LaneSt.unsent_leftAlone (x : LaneSt) : x.leftAlone.unsent = x.unsent.leftAlone := rfl

theorem LaneSt.unsent_unmirrored (x : LaneSt) : x.unmirrored.unsent = x.unsent.unmirrored := by
  unfold LaneSt.unmirrored
  split
  · rw [if_pos (show x.unsent.st = 3 from ‹_›)]
    rfl
  · rw [if_neg (show ¬x.unsent.st = 3 from ‹_›)]

section Leave

variable (b : Block) (l : Lane) (st : Nat)

/-- The block whose lane has left service, its event raised, before the other lane takes note. -/
def Block.gone : Block :=
  let t := b.modLane l fun x => if st = 0 then x.reset else ({ x with st := st, resyncStage := 0 } : LaneSt).quiet.stopPairs
  let t := if b.serves l then t.raiseAll 18 2 l.num st else t
  (t.modMod fun m => m.without l st).modLane l fun x => { x with released := true, wetFull := false }

/-- The block in which the other lane has taken note, before mailboxes and links settle. -/
def Block.apart : Block :=
  let t := (b.gone l st).modLane l.other LaneSt.leftAlone
  if b.serves l then (t.modLane l.other LaneSt.unmirrored).windowEnds l else t

/-- The mailboxes once a lane has left service. -/
def Block.peerLeft : Block :=
  if b.serves l then (b.apart l st).modMail fun m => { m with gov := m.gov.peerLeft l, parts := m.parts.map fun w => w.peerLeft l }
  else b.apart l st

/-- Leaving service in its steps: the lanes, the mailboxes, what waited for the lane's role, and the frames. -/
theorem Block.leave_steps : b.leave l st = ((b.peerLeft l st).finishWhere
    (fun e => match e.kind with | .roleSet dest _ => dest == l | _ => false) .notActive [] .none).settleAcks := by
  unfold Block.leave Block.peerLeft Block.apart Block.gone
  cases h : b.serves l <;> rfl

/-- Leaving service ends in the mailboxes and the links. -/
theorem Block.leave_eq : ∃ links mail, b.leave l st = { b.apart l st with links := links, mail := mail } := by
  obtain ⟨links, mail, hacks⟩ := Block.settleAcks_beside ((b.peerLeft l st).finishWhere
    (fun e => match e.kind with | .roleSet dest _ => dest == l | _ => false) .notActive [] .none)
  rw [Block.leave_steps, hacks, Block.finishWhere_beside, Block.peerLeft]
  split <;> exact ⟨_, _, rfl⟩

/-- An event of both lanes on a condition leaves what is told alone. -/
theorem Block.untold_raisedIf (q : Prop) [Decidable q] (ev cause subject : Nat) (detail : Int) :
    (if q then b.raiseAll ev cause subject detail else b).untold = b.untold := by
  split
  · exact Block.untold_raiseAll ..
  · rfl

/-- The block whose lane has changed its state, before the event. -/
def Block.stopped : Block :=
  b.modLane l fun x => if st = 0 then x.reset else ({ x with st := st, resyncStage := 0 } : LaneSt).quiet.stopPairs

theorem Block.gone_eq : b.gone l st = ((if b.serves l then (b.stopped l st).raiseAll 18 2 l.num st else b.stopped l st).modMod
    fun m => m.without l st).modLane l fun x => { x with released := true, wetFull := false } := rfl

/-- The lane that leaves. -/
theorem Block.gone_self : ((b.gone l st).lane l).unsent = ((b.lane l).left st).unsent := by
  have hevent := Block.lane_of_untold (Block.untold_raisedIf (b.stopped l st) (b.serves l = true) 18 2 l.num st) l
  rw [Block.stopped, Block.lane_modLane] at hevent
  rw [Block.gone_eq, Block.lane_modLane]
  exact congrArg (fun x : LaneSt => { x with released := true, wetFull := false }) hevent

/-- The lane beside it, as it was. -/
theorem Block.gone_other : ((b.gone l st).lane l.other).unsent = (b.lane l.other).unsent := by
  have hevent := Block.lane_of_untold (Block.untold_raisedIf (b.stopped l st) (b.serves l = true) 18 2 l.num st) l.other
  rw [Block.stopped, Block.lane_modLane_other] at hevent
  rw [Block.gone_eq, Block.lane_modLane_other]
  exact hevent

/-- The roles. -/
theorem Block.gone_mod : (b.gone l st).mod = b.mod.without l st := by
  have hevent : (if b.serves l then (b.stopped l st).raiseAll 18 2 l.num st else b.stopped l st).mod = b.mod := by
    obtain ⟨lanes, evs, h⟩ := Block.raiseAll_frame (b.stopped l st) 18 2 l.num st
    rw [h]
    split <;> rfl
  rw [Block.gone_eq]
  exact congrArg (fun m : ModuleSt => m.without l st) hevent

/-- The lane that has left service. -/
theorem Block.leave_lane : ((b.leave l st).lane l).unsent = ((b.lane l).left st).unsent := by
  obtain ⟨links, mail, h⟩ := b.leave_eq l st
  have happart : (b.apart l st).lane l = (b.gone l st).lane l := by
    unfold Block.apart
    split
    · rw [Block.windowEnds_own, Block.lane_modLane_own, Block.lane_modLane_own]
    · exact Block.lane_modLane_own ..
  have hlane : (b.leave l st).lane l = (b.apart l st).lane l := by rw [h]; rfl
  rw [hlane, happart, Block.gone_self]

/-- The other lane: alone, held where it was taking the state, and its window accesses ended. -/
theorem Block.leave_other : ∃ ps, ((b.leave l st).lane l.other).unsent =
    { (if b.serves l then (b.lane l.other).leftAlone.unmirrored else (b.lane l.other).leftAlone).unsent with pairs := ps } := by
  obtain ⟨links, mail, h⟩ := b.leave_eq l st
  have hlane : (b.leave l st).lane l.other = (b.apart l st).lane l.other := by rw [h]; rfl
  rw [hlane, Block.apart]
  split
  · rw [Block.windowEnds_other, Block.lane_modLane, Block.lane_modLane, LaneSt.unsent_windowless, LaneSt.unsent_unmirrored,
      LaneSt.unsent_leftAlone, Block.gone_other, ← LaneSt.unsent_leftAlone, ← LaneSt.unsent_unmirrored]
    exact ⟨_, rfl⟩
  · rw [Block.lane_modLane, LaneSt.unsent_leftAlone, Block.gone_other, ← LaneSt.unsent_leftAlone]
    exact ⟨_, rfl⟩

/-- The module's roles. -/
theorem Block.leave_mod : (b.leave l st).mod = b.mod.without l st := by
  obtain ⟨links, mail, h⟩ := b.leave_eq l st
  have happart : (b.apart l st).mod = (b.gone l st).mod := by
    unfold Block.apart
    split <;> rfl
  rw [h, ← Block.gone_mod, ← happart]

/-- The bridge link stands. -/
theorem Block.leave_link : (b.leave l st).bridge.link = b.bridge.link := by
  obtain ⟨links, mail, h⟩ := b.leave_eq l st
  have hevent := congrArg Block.bridge (Block.untold_raisedIf (b.stopped l st) (b.serves l = true) 18 2 l.num st)
  have hgone : (b.gone l st).bridge = b.bridge := hevent
  have happart : (b.apart l st).bridge.link = (b.gone l st).bridge.link := by
    unfold Block.apart
    split <;> rfl
  rw [h, ← hgone, ← happart]

/-- The state of the lane that has left. -/
theorem Block.leave_st : ((b.leave l st).lane l).st = st := by
  have hsame := congrArg LaneSt.st (b.leave_lane l st)
  have hlane : ((b.leave l st).lane l).st = ((b.lane l).left st).st := hsame
  rw [hlane, LaneSt.left]
  split
  · exact (Eq.symm ‹st = 0›)
  · rfl

/-- The state of the other lane. -/
theorem Block.leave_other_st : ((b.leave l st).lane l.other).st =
    if b.serves l = true ∧ (b.lane l.other).st = 3 then 2 else (b.lane l.other).st := by
  obtain ⟨ps, h⟩ := b.leave_other l st
  have hsame := congrArg LaneSt.st h
  have hst : ((b.leave l st).lane l.other).st =
      (if b.serves l then (b.lane l.other).leftAlone.unmirrored else (b.lane l.other).leftAlone).st := hsame
  rw [hst]
  cases b.serves l with
  | false => rfl
  | true =>
    by_cases h3 : (b.lane l.other).st = 3
    · simp [LaneSt.leftAlone, LaneSt.unmirrored, h3]
    · simp [LaneSt.leftAlone, LaneSt.unmirrored, h3]

/-- A field of the other lane that the leaving of this one does not touch. -/
theorem Block.leave_other_field {α : Type} (f : LaneSt → α) (hf : ∀ x : LaneSt, f x.apart = f x := by intro; rfl) :
    f ((b.leave l st).lane l.other) = f (b.lane l.other) := by
  obtain ⟨ps, h⟩ := b.leave_other l st
  have happart : ((b.leave l st).lane l.other).unsent.apart = (b.lane l.other).apart := by
    rw [h, LaneSt.apart_unsent_pairs]
    split
    · exact LaneSt.apart_unmirrored _
    · rfl
  rw [← hf, ← LaneSt.apart_unsent, happart, hf]

/-- Another lane that is not taking the leaving lane's state keeps its own. -/
theorem Block.leave_other_st_of_ne (h : (b.lane l.other).st ≠ 3) : ((b.leave l st).lane l.other).st = (b.lane l.other).st := by
  rw [Block.leave_other_st, if_neg fun hboth => h hboth.2]

/-- A lane that restarts. -/
theorem Block.restart_eq (cause : Nat) : b.restart l cause =
    (b.modLane l fun x => { x with startCause := cause, rolling := true, restartWaits := false }).leave l 0 := rfl

end Leave

end Sys2Proof
end

section
/-! PROOF. A silent lane, a failed bridge link, an update that stops and a command port named again (R33, R269, R275, R281). -/

namespace Sys2Proof

section Silence

variable {b : Block} {l : Lane}

/-- The block in which a lane no longer waits for what the dies say of the other lane's port. -/
def Block.portsHeard (b : Block) (l : Lane) : Block :=
  (List.range 4).foldl (fun b d => b.modLink d fun k => { k with silentReport := k.silentReport.set l false })
    (b.modLane l fun x => { x with missedClose := false, diesSayActive := false })

/-- Only its lane and the links change. -/
theorem Block.portsHeard_eq (b : Block) (l : Lane) : ∃ links, b.portsHeard l =
    { b.modLane l fun x => { x with missedClose := false, diesSayActive := false } with links := links } :=
  foldl_keeps (fun t : Block => ∃ links, t =
    { b.modLane l fun x => { x with missedClose := false, diesSayActive := false } with links := links }) ⟨_, rfl⟩
    fun t d ⟨links, ht⟩ => by
      rw [ht]
      exact ⟨_, rfl⟩

theorem Block.portsHeard_mod (b : Block) (l : Lane) : (b.portsHeard l).mod = b.mod := by
  obtain ⟨links, h⟩ := b.portsHeard_eq l
  rw [h]
  rfl

theorem Block.portsHeard_bridge (b : Block) (l : Lane) : (b.portsHeard l).bridge = b.bridge := by
  obtain ⟨links, h⟩ := b.portsHeard_eq l
  rw [h]
  rfl

theorem Block.portsHeard_self (b : Block) (l : Lane) :
    (b.portsHeard l).lane l = { b.lane l with missedClose := false, diesSayActive := false } := by
  obtain ⟨links, h⟩ := b.portsHeard_eq l
  rw [h]
  exact Block.lane_modLane ..

theorem Block.portsHeard_other (b : Block) (l : Lane) : (b.portsHeard l).lane l.other = b.lane l.other := by
  obtain ⟨links, h⟩ := b.portsHeard_eq l
  rw [h]
  exact Block.lane_modLane_other ..

/-- A lane that serves is in state 4. -/
theorem Block.st_of_serves (h : b.serves l = true) : (b.lane l).st = 4 := by simpa [Block.serves] using h

/-- The bridge link fails under an active lane: the other one, which runs, restarts (R33). -/
theorem Block.bridgeFail_standby (hlink : b.bridge.link ≠ 0) (hactive : b.isActive l.other = true) (hruns : 2 ≤ (b.lane l).st)
    (hother : (b.lane l.other).st = 4) :
    b.bridgeFail.bridge.link = 0 ∧ (b.bridgeFail.lane l).st = 0 ∧ (b.bridgeFail.lane l.other).st = 4 := by
  have htold := Block.untold_raiseAll b 43 1 noSubject 0
  have hmod : (b.raiseAll 43 1 noSubject 0).mod.active = some l.other :=
    (congrArg ModuleSt.active (Block.mod_of_untold htold)).trans (beq_iff_eq.mp hactive)
  have hmine : ((b.raiseAll 43 1 noSubject 0).lane l).st = (b.lane l).st := Block.field_of_untold htold l LaneSt.st
  have hfar : ((b.raiseAll 43 1 noSubject 0).lane l.other).st = 4 := (Block.field_of_untold htold l.other LaneSt.st).trans hother
  have hfail : b.bridgeFail =
      ((b.raiseAll 43 1 noSubject 0).modBridge fun r => { r with link := 0, failures := satNat 65535 (r.failures + 1) }).restart l 2 := by
    have hruns' : 2 ≤ ((b.raiseAll 43 1 noSubject 0).lane l.other.other).st := by rw [Lane.other_other, hmine]; exact hruns
    unfold Block.bridgeFail
    rw [if_neg hlink]
    simp only [Block.modBridge_mod, hmod]
    exact (if_pos hruns').trans (by rw [Lane.other_other])
  rw [hfail, Block.restart_eq]
  refine ⟨(Block.leave_link ..), Block.leave_st .., ?_⟩
  rw [Block.leave_other_st_of_ne, Block.lane_modLane_other]
  · exact hfar
  · rw [Block.lane_modLane_other]
    exact fun h3 => absurd (hfar.symm.trans h3) (by decide)

@[simp] theorem Block.handOver_lane (b : Block) (l k : Lane) (fail : Bool) (cause : Nat) :
    (b.handOver l fail cause).lane k = b.lane k := rfl

/-- The dies hear nothing of the active lane either: the standby lane takes the role, the silent lane goes to state 2 (R269). -/
theorem Block.standbyTakesOver (hserves : b.serves l = true) :
    let t := (if b.serves l.other then b.leave l.other 2 else b).handOver l true 0
    t.mod.handTo = some l ∧ t.mod.handFail = true ∧ (t.lane l.other).st = (if b.serves l.other then 2 else (b.lane l.other).st) ∧
      (t.lane l).st = 4 ∧ (t.lane l).missedClose = (b.lane l).missedClose := by
  have hst := Block.st_of_serves hserves
  refine ⟨rfl, rfl, ?_⟩
  simp only [Block.handOver_lane]
  cases hother : b.serves l.other with
  | false =>
    simp only [Bool.false_eq_true, if_false]
    exact ⟨trivial, hst, trivial⟩
  | true =>
    simp only [if_true]
    have hmine := b.leave_other_st_of_ne l.other 2 (by rw [Lane.other_other, hst]; decide)
    have hclose := b.leave_other_field l.other 2 LaneSt.missedClose
    rw [Lane.other_other] at hmine hclose
    exact ⟨b.leave_st l.other 2, hmine.trans hst, hclose⟩

theorem Block.portsHeard_serves : (b.portsHeard l).serves l = true ↔ b.serves l = true := by
  rw [Block.serves, Block.portsHeard_self]
  exact Iff.rfl

theorem Block.portsHeard_serves_other : (b.portsHeard l).serves l.other = b.serves l.other := by
  rw [Block.serves, Block.portsHeard_other]
  rfl

/-- What the timeout of the dies' answers does to a block: nothing where no answer was awaited (R269). -/
def Block.activityTimeout (b : Block) (l : Lane) : Block :=
  if !(b.lane l).missedClose then b
  else if !(b.portsHeard l).serves l || (b.portsHeard l).isActive l then b.portsHeard l
  else if (b.lane l).diesSayActive then (b.portsHeard l).bridgeFail
  else (if (b.portsHeard l).serves l.other then (b.portsHeard l).leave l.other 2 else b.portsHeard l).handOver l true 0

section Awaited

variable (hmissed : (b.lane l).missedClose = true) (hserves : b.serves l = true) (hstandby : b.isActive l = false)
include hmissed hserves hstandby

/-- A standby lane that awaited the answers decides on them. -/
theorem Block.activityTimeout_standby : b.activityTimeout l =
    if (b.lane l).diesSayActive then (b.portsHeard l).bridgeFail
    else (if (b.portsHeard l).serves l.other then (b.portsHeard l).leave l.other 2 else b.portsHeard l).handOver l true 0 := by
  have hrole : (b.portsHeard l).isActive l = false := by rwa [Block.isActive, Block.portsHeard_mod]
  rw [Block.activityTimeout, hmissed, Block.portsHeard_serves.mpr hserves, hrole]
  rfl

theorem Block.activityTimeout_active (hsay : (b.lane l).diesSayActive = true) :
    b.activityTimeout l = (b.portsHeard l).bridgeFail := by
  rw [Block.activityTimeout_standby hmissed hserves hstandby, if_pos hsay]

theorem Block.activityTimeout_silent (hsilent : (b.lane l).diesSayActive = false) : b.activityTimeout l =
    (if (b.portsHeard l).serves l.other then (b.portsHeard l).leave l.other 2 else b.portsHeard l).handOver l true 0 := by
  rw [Block.activityTimeout_standby hmissed hserves hstandby, hsilent, if_neg Bool.false_ne_true]

end Awaited

/-! ## An update that stops (R281) -/

/-- The end of the wait for a lane that an update, the only request that waits, restarted. -/
theorem Block.activateStops_of {e : Pend} {sel : BitVec 2} {back : Bool} {origin : Lane} {la lb : Bool}
    (hpend : b.mail.pend = [e]) (hkind : e.kind = .updActivate sel back origin (some l) la lb) :
    b.activateStops = if b.serves l then b
      else b.finishWhere (fun e => match e.kind with | .updActivate .. => true | _ => false) .notActive [] .none := by
  obtain ⟨req, op, kind, rest⟩ := e
  subst hkind
  have hfind : b.activation = some _ := (congrArg (List.find? _) hpend).trans (List.find?_cons_of_pos rfl)
  rw [Block.activateStops, hfind] <;> rfl

end Silence

end Sys2Proof

namespace Sys2Proof.Machine

/-- Settles O40: the two ways out of a silence, the update that stops and the port named again. -/
theorem silenceIsResolved : Obligations.SilenceIsResolved := by
  intro s l
  refine ⟨fun hheard => ?_, fun hmissed hserves hstandby => ⟨fun hsilent => ?_, fun hsay hactive hother hlink => ?_⟩,
    fun hnone => ?_, fun e sel back origin la lb hpend hkind => ⟨fun hserves => ?_, fun hout => ?_⟩,
    fun d hconf hlost hport => ?_, fun d hidle => ?_⟩
  · exact becomes_onBlock (show _ = execPortActivityTimeout l s from rfl) (by simp [hheard])
  · refine ⟨_, becomes_onBlock (show _ = execPortActivityTimeout l s from rfl)
      (Block.activityTimeout_silent hmissed hserves hstandby hsilent), ?_⟩
    obtain ⟨hto, hfail, hfar, hmine, hclose⟩ := Block.standbyTakesOver (Block.portsHeard_serves.mpr hserves)
    simp only [Block.portsHeard_serves_other, Block.portsHeard_other] at hfar
    rw [Block.portsHeard_self] at hclose
    refine ⟨hto, hfail, ?_, hmine, hclose⟩
    rwa [Block.portsHeard_serves_other]
  · refine ⟨_, becomes_onBlock (show _ = execPortActivityTimeout l s from rfl)
      (Block.activityTimeout_active hmissed hserves hstandby hsay), ?_⟩
    refine Block.bridgeFail_standby (by rwa [Block.portsHeard_bridge]) (by rwa [Block.isActive, Block.portsHeard_mod]) ?_ ?_
    · rw [Block.portsHeard_self]
      exact (Block.st_of_serves hserves).symm ▸ (by decide)
    · rw [Block.portsHeard_other]
      exact Block.st_of_serves hother
  · exact becomes_onBlock (show _ = execActivateTimeout s from rfl) (by rw [Block.activateStops, hnone])
  · exact becomes_onBlock (show _ = execActivateTimeout s from rfl)
      ((Block.activateStops_of hpend hkind).trans (if_pos hserves))
  · refine ⟨_, becomes_onBlock (show _ = execActivateTimeout s from rfl)
      ((Block.activateStops_of hpend hkind).trans (if_neg (by simp [hout]))), ?_, ?_, Block.finishWhere_lanes ..⟩
    · rw [Block.finishWhere_pend, hpend]
      simp [hkind]
    · exact Block.finishWhere_done _ _ _ (by rw [hpend]; exact List.mem_singleton_self e) (by rw [hkind])
  · refine becomes_onBlock (show _ = execCommandPortReturn d s from rfl) ?_
    rw [if_pos (by simp [hconf, hport])]
    exact Block.sendFrame_eq_sends hlost .role 0 _
  · refine becomes_onBlock (show _ = execCommandPortReturn d s from rfl) (if_neg ?_)
    rcases hidle with h | h <;> simp [h]

end Sys2Proof.Machine
end

section
/-! PROOF. Lane faults, the pairs of a lane and their delay FIFO, and the active role at a failover (R39, R255, R268, R270, R284-R286,
R288, R290, R292, R296, R300). -/

namespace Sys2Proof

/-! ## The delay FIFO of a pair (R284-R288) -/

section Fifo

variable {p : PairSt} {t : Token} {was : CoreSt} {rest : List (Token × CoreSt)}

/-- The verdict on the oldest token. -/
def PairSt.verdict (p : PairSt) (t : Token) (was : CoreSt) : Option Nat :=
  if t.parity ≠ parityOf t.bits then some 4 else if verdictEq p.chk was t then none else some 1

/-- The checker takes the oldest token. -/
theorem PairSt.takes_cons (h : p.fifo = (t, was) :: rest) :
    p.takes = ({ p with chk := p.chk.step t, fifo := rest }, p.verdict t was) := by
  rw [PairSt.takes, h]
  rfl

theorem PairSt.takes_main (p : PairSt) : p.takes.1.main = p.main := by
  unfold PairSt.takes
  split <;> rfl

theorem PairSt.takes_length (p : PairSt) : p.takes.1.fifo.length = p.fifo.length - 1 := by
  unfold PairSt.takes
  split <;> simp [*]

/-- A token that the main core has just retired. -/
def PairSt.retired (p : PairSt) (t : Token) : PairSt := { p with main := p.main.step t, fifo := p.fifo ++ [(t.sealed, p.main)] }

/-- With room in the FIFO the main core retires alone. -/
theorem PairSt.retire_room (h : p.fifo.length < 2) (t : Token) : p.retire t = (p.retired t, none) := by
  rw [PairSt.retire, if_neg (Nat.not_le.mpr h)]
  rfl

/-- With two tokens in the FIFO the checker takes one first. -/
theorem PairSt.retire_full (h : 2 ≤ p.fifo.length) (t : Token) : p.retire t = (p.takes.1.retired t, p.takes.2) := by
  rw [PairSt.retire, if_pos h]
  rfl

/-- A pair keeps at most two tokens. -/
theorem PairSt.retire_length (h : p.fifo.length ≤ 2) (t : Token) : (p.retire t).1.fifo.length ≤ 2 := by
  by_cases hfull : 2 ≤ p.fifo.length
  · have hlen := p.takes_length
    rw [PairSt.retire_full hfull]
    simp only [PairSt.retired, List.length_append, List.length_singleton]
    omega
  · rw [PairSt.retire_room (Nat.not_le.mp hfull)]
    simp only [PairSt.retired, List.length_append, List.length_singleton]
    omega

theorem PairSt.retire_main (p : PairSt) (t : Token) : (p.retire t).1.main = p.main.step t := by
  by_cases hfull : 2 ≤ p.fifo.length
  · rw [PairSt.retire_full hfull]
    exact congrArg (CoreSt.step · t) p.takes_main
  · rw [PairSt.retire_room (Nat.not_le.mp hfull)]
    rfl

/-- The faults of a FIFO: the first one found stays. -/
theorem foldl_takes_fault {c : Nat} (l : List (Token × CoreSt)) {acc : PairSt × Option Nat} (h : acc.2 = some c) :
    (l.foldl (fun acc _ => let (q, f) := acc.1.takes; (q, acc.2.or f)) acc).2 = some c :=
  foldl_keeps (fun acc : PairSt × Option Nat => acc.2 = some c) h fun acc _ hacc => by
    dsimp only
    rw [hacc]
    rfl

/-- An empty FIFO leaves nothing to catch up with. -/
theorem PairSt.drain_empty (h : p.fifo = []) : p.drain = (p, none) := by rw [PairSt.drain, h]; rfl

/-- A single token is what the checker takes. -/
theorem PairSt.drain_single (h : p.fifo = [(t, was)]) :
    p.drain = ({ p with chk := p.chk.step t, fifo := [] }, p.verdict t was) := by
  rw [PairSt.drain, h, List.foldl_cons, List.foldl_nil]
  dsimp only
  rw [PairSt.takes_cons h]
  rfl

/-- A fault of the oldest token is the fault of the FIFO. -/
theorem PairSt.drain_fault {c : Nat} (h : p.fifo = (t, was) :: rest) (hfault : p.verdict t was = some c) : p.drain.2 = some c := by
  rw [PairSt.drain, h, List.foldl_cons]
  dsimp only
  rw [PairSt.takes_cons h]
  exact foldl_takes_fault rest hfault

/-- A token with its parity is taken as without it. -/
theorem CoreSt.step_sealed (c : CoreSt) (t : Token) : c.step t.sealed = c.step t := by
  obtain ⟨kind, cause, fetch, load, scOk, csrIn, out, sweep, parity, virt, guest⟩ := t
  simp only [CoreSt.step, Token.sealed]
  rfl

theorem Token.sealed_parity (t : Token) : t.sealed.parity = parityOf t.sealed.bits := by simp only [Token.sealed, Token.bits]

/-- The verdict on a sealed token of cores that stood alike. -/
theorem PairSt.verdict_alike (h : p.chk = was) (t : Token) : p.verdict t.sealed was = none := by
  have hequal : verdictEq p.chk was t.sealed = true := by rw [verdictEq, decide_eq_true h, Bool.true_or]
  rw [PairSt.verdict, if_neg (fun hne => hne t.sealed_parity), if_pos hequal]

/-- A pair whose cores stood alike stands alike once its checker has taken the token. -/
theorem PairSt.drain_retire_alike (hfifo : p.fifo = []) (halike : p.chk = p.main) (t : Token) :
    (p.retire t).1.drain = ({ p with main := p.main.step t, chk := p.main.step t, fifo := [] }, none) := by
  have hone : (p.retired t).fifo = [(t.sealed, p.main)] := by rw [PairSt.retired, hfifo]; rfl
  have hchk : (p.retired t).chk = p.main := halike
  rw [PairSt.retire_room (by rw [hfifo]; exact Nat.zero_lt_two), PairSt.drain_single hone, PairSt.verdict_alike hchk, hchk,
    CoreSt.step_sealed]
  rfl

end Fifo

/-! ## The pairs of a lane -/

section Pairs

variable {x : LaneSt} {k : Nat}

/-- The changed pair. -/
theorem LaneSt.lockPair_modLockPair (h : k = 6 ∨ k < x.pairs.length) (f : PairSt → PairSt) :
    (x.modLockPair k f).lockPair k = f (x.lockPair k) := by
  by_cases h6 : k = 6
  · subst h6
    rfl
  · simp only [LaneSt.modLockPair, LaneSt.lockPair, h6, if_false]
    exact updAt_getD_same _ _ _ _ (h.resolve_left h6)

theorem LaneSt.haltRecord_modLockPair (x : LaneSt) (k : Nat) (f : PairSt → PairSt) :
    (x.modLockPair k f).haltRecord = x.haltRecord := by
  unfold LaneSt.modLockPair
  split <;> rfl

/-- A pair replaced by itself. -/
theorem LaneSt.modLockPair_self (x : LaneSt) (k : Nat) : x.modLockPair k (fun _ => x.lockPair k) = x := by
  by_cases h6 : k = 6
  · subst h6
    rfl
  · have hlist : updAt x.pairs k (fun _ => x.pair k) = x.pairs := updAt_id _ _ _ fun y hy => by
      simp [LaneSt.pair, List.getD_eq_getElem?_getD, hy]
    simp only [LaneSt.modLockPair, LaneSt.lockPair, h6, if_false, LaneSt.modPair, hlist]

end Pairs

section Block

variable {b : Block} {l : Lane} {k : Nat}

/-- A lane replaced by itself. -/
theorem Block.modLane_self {f : LaneSt → LaneSt} (h : f (b.lane l) = b.lane l) : b.modLane l f = b := by
  have hlanes : b.lanes.upd l f = b.lanes := by
    cases l
    · exact congrArg (fun x => ({ b.lanes with a := x } : PerLane LaneSt)) h
    · exact congrArg (fun x => ({ b.lanes with b := x } : PerLane LaneSt)) h
  rw [Block.modLane, hlanes]

/-- A checker that has caught up has nothing to do. -/
theorem Block.drainPair_idle (h : ((b.lane l).lockPair k).fifo = []) : b.drainPair l k = b := by
  unfold Block.drainPair
  split
  · rfl
  · rw [PairSt.drain_empty h]
    exact Block.modLane_self (LaneSt.modLockPair_self _ _)

/-- The checkers of a lane that have all caught up. -/
theorem Block.drainPairs_idle (ks : List Nat) (h : ∀ k ∈ ks, ((b.lane l).lockPair k).fifo = []) :
    ks.foldl (fun b k => b.drainPair l k) b = b := by
  induction ks with
  | nil => rfl
  | cons k ks ih =>
    rw [List.foldl_cons, Block.drainPair_idle (h k List.mem_cons_self)]
    exact ih fun j hj => h j (List.mem_cons_of_mem _ hj)

/-- The block whose lane has counted a sweep period. -/
def Block.swept (b : Block) (l : Lane) : Block :=
  b.modLane l fun x => { x with pairPeriods := satNat 0xFFFFFFFF (x.pairPeriods + 1) }

/-- A pair whose cores' hashes differ. -/
def Block.differs (b : Block) (l : Lane) (k : Nat) : Bool :=
  let p := ((b.lane l).lockPair k).drain.1
  !(b.lane l).broken.getLsbD k && !hashesEqual k p.main p.chk

/-- A pair that stands alike. -/
theorem Block.differs_alike (hfifo : ((b.lane l).lockPair k).fifo = [])
    (halike : ((b.lane l).lockPair k).chk = ((b.lane l).lockPair k).main) : b.differs l k = false := by
  have hequal : hashesEqual k ((b.lane l).lockPair k).main ((b.lane l).lockPair k).chk = true := by
    rw [hashesEqual, decide_eq_true halike.symm, Bool.true_or]
  rw [Block.differs, PairSt.drain_empty hfifo]
  simp [hequal]

/-- A sweep that finds no pair whose hashes differ has every checker catch up. -/
theorem Block.sweep_none (h : (List.range 7).find? (b.differs l) = none) :
    b.sweep l = (List.range 7).foldl (fun b k => b.drainPair l k) (b.swept l) := by
  unfold Block.sweep
  dsimp only
  split
  · exact absurd (Eq.trans (Eq.symm ‹_›) h) (by simp)
  · rfl

/-- A sweep that finds one is a lane fault of it. -/
theorem Block.sweep_some (h : (List.range 7).find? (b.differs l) = some k) : b.sweep l = (b.swept l).laneFault l 2 k := by
  unfold Block.sweep
  dsimp only
  split
  · next j hj =>
    obtain rfl : j = k := Option.some.inj (hj.symm.trans h)
    rfl
  · exact absurd (Eq.trans (Eq.symm ‹_›) h) (by simp)

variable (hfifo : ∀ k < 7, ((b.lane l).lockPair k).fifo = [])
include hfifo

/-- A sweep of pairs that stand alike counts its period. -/
theorem Block.sweep_alike (halike : ∀ k < 7, ((b.lane l).lockPair k).chk = ((b.lane l).lockPair k).main) :
    b.sweep l = b.swept l := by
  have hnone : (List.range 7).find? (b.differs l) = none :=
    List.find?_eq_none.mpr fun k hk => by
      have h7 := List.mem_range.mp hk
      simp [Block.differs_alike (hfifo k h7) (halike k h7)]
  rw [Block.sweep_none hnone]
  exact Block.drainPairs_idle _ fun k hk => by
    rw [Block.swept, Block.lane_modLane]
    exact hfifo k (List.mem_range.mp hk)

/-- A sweep that finds the first pair whose hashes differ is a lane fault of it. -/
theorem Block.sweep_differs (h7 : k < 7) (hbroken : (b.lane l).broken.getLsbD k = false)
    (halike : ∀ j < k, ((b.lane l).lockPair j).chk = ((b.lane l).lockPair j).main)
    (hhash : hashesEqual k ((b.lane l).lockPair k).main ((b.lane l).lockPair k).chk = false) :
    b.sweep l = (b.swept l).laneFault l 2 k := by
  have hbad : b.differs l k = true := by
    rw [Block.differs, PairSt.drain_empty (hfifo k h7)]
    simp [hbroken, hhash]
  refine Block.sweep_some (List.find?_range_eq_some.mpr ⟨hbad, List.mem_range.mpr h7, fun j hj => ?_⟩)
  simp [Block.differs_alike (hfifo j (Nat.lt_trans hj h7)) (halike j hj)]

end Block

/-! ## Lane faults (R268, R292, R520) -/

section LaneFault

variable {b : Block} {l : Lane}

/-- The lane's faults of the last hour, the new one with them where it served. -/
def Block.faultTimes (b : Block) (l : Lane) : List Nat :=
  let old := (b.lane l).faultEpochs.filter fun t => decide (b.mod.epoch < t + epochsPerHour)
  if b.serves l then b.mod.epoch :: old else old

/-- The third fault within an hour keeps the lane in reset. -/
def Block.faultHolds (b : Block) (l : Lane) : Bool := decide (3 ≤ (b.faultTimes l).length)

/-- What a fault records in the always-on domain of its lane. -/
def LaneSt.faulted (x : LaneSt) (now cause pair : Nat) (times : List Nat) (held : Bool) : LaneSt :=
  { x with lockFaults := if decide (1 ≤ cause) && decide (cause ≤ 6) then satNat 0xFFFFFFFF (x.lockFaults + 1) else x.lockFaults,
           aonCause := some (cause, pair), startCause := 3, localFault := some now, faultEpochs := times,
           heldByFaults := x.heldByFaults || held, hotHeld := x.hotHeld || cause == 0x0C }

/-- The block in which a fault has been recorded. -/
def Block.recorded (b : Block) (l : Lane) (cause pair : Nat) : Block :=
  (b.modMod fun m =>
    { m with laneDownLast := l.num * 32768 + cause % 256,
             lockLast := if decide (1 ≤ cause) && decide (cause ≤ 6) then l.num * 32768 + (pair % 8) * 256 + cause else m.lockLast
    }).modLane l fun x => x.faulted b.mod.epoch cause pair (b.faultTimes l) (b.faultHolds l)

/-- The block whose faulty lane has left service. -/
def Block.faultLeft (b : Block) (l : Lane) (cause pair : Nat) : Block :=
  let t := ((b.recorded l cause pair).leave l 0).modLane l.other fun x => { x with expects := (b.lane l.other).expects }
  if b.faultHolds l then t.modLane l fun x => { x with rolling := false } else t

/-- A fault of a lane that runs: it is recorded, the lane leaves service, and the other one reports a lane that stays in reset. -/
theorem Block.laneFault_eq (h : 2 ≤ (b.lane l).st) (cause pair : Nat) : b.laneFault l cause pair =
    if b.faultHolds l then (b.faultLeft l cause pair).raise l.other 24 cause l.num 3 else b.faultLeft l cause pair := by
  have hcopy : b.breakCopy l = b := by
    have h1 : ((b.lane l).st != 1) = true := bne_iff_ne.mpr (by omega)
    rw [Block.breakCopy]
    dsimp only
    rw [h1, Bool.true_or, if_pos rfl]
  rw [Block.laneFault, if_neg (by omega), hcopy]
  have hknown : ((b.recorded l cause pair).lane l.other).expects = (b.lane l.other).expects := by
    rw [Block.recorded, Block.lane_modLane_other]
    rfl
  rw [Block.faultLeft, ← hknown]
  rfl

/-- The report of a lane that stays in reset is told. -/
theorem Block.laneFault_untold (h : 2 ≤ (b.lane l).st) (cause pair : Nat) :
    (b.laneFault l cause pair).untold = (b.faultLeft l cause pair).untold := by
  rw [Block.laneFault_eq h]
  split
  · exact Block.untold_raise ..
  · rfl

/-- A field of the faulty lane that a reset keeps and the end of its restart does not touch. -/
theorem Block.faultLeft_field {α : Type} (f : LaneSt → α) (cause pair : Nat)
    (hreset : ∀ x : LaneSt, f (x.left 0).unsent = f x := by intro; rfl)
    (hrolling : ∀ x : LaneSt, f { x with rolling := false } = f x := by intro; rfl) (hf : ∀ x : LaneSt, f x.unsent = f x := by intro; rfl) :
    f ((b.faultLeft l cause pair).lane l) =
      f ((b.lane l).faulted b.mod.epoch cause pair (b.faultTimes l) (b.faultHolds l)) := by
  have hleave : f (((b.recorded l cause pair).leave l 0).lane l) =
      f ((b.lane l).faulted b.mod.epoch cause pair (b.faultTimes l) (b.faultHolds l)) := by
    rw [← hf, Block.leave_lane, hreset, Block.recorded, Block.lane_modLane]
    rfl
  unfold Block.faultLeft
  dsimp only
  split
  · rw [Block.lane_modLane, hrolling, Block.lane_modLane_own, hleave]
  · rw [Block.lane_modLane_own, hleave]

/-- The state of the faulty lane. -/
theorem Block.faultLeft_st (cause pair : Nat) : ((b.faultLeft l cause pair).lane l).st = 0 := by
  have hleave := (b.recorded l cause pair).leave_st l 0
  unfold Block.faultLeft
  dsimp only
  split
  · rw [Block.lane_modLane, Block.lane_modLane_own]
    exact hleave
  · rw [Block.lane_modLane_own]
    exact hleave

/-- The state of the other lane. -/
theorem Block.faultLeft_other_st (cause pair : Nat) : ((b.faultLeft l cause pair).lane l.other).st =
    if b.serves l = true ∧ (b.lane l.other).st = 3 then 2 else (b.lane l.other).st := by
  have hst : ((b.faultLeft l cause pair).lane l.other).st = (((b.recorded l cause pair).leave l 0).lane l.other).st := by
    unfold Block.faultLeft
    dsimp only
    split
    · rw [Block.lane_modLane_other, Block.lane_modLane]
    · rw [Block.lane_modLane]
  have hserves : (b.recorded l cause pair).serves l = b.serves l := by
    rw [Block.serves, Block.recorded, Block.lane_modLane]
    rfl
  have hother : (b.recorded l cause pair).lane l.other = b.lane l.other := by
    rw [Block.recorded, Block.lane_modLane_other]
    rfl
  rw [hst, Block.leave_other_st, hserves, hother]

/-- The module's roles. -/
theorem Block.faultLeft_mod (cause pair : Nat) :
    (b.faultLeft l cause pair).mod = (b.recorded l cause pair).mod.without l 0 := by
  have hleave : (b.faultLeft l cause pair).mod = ((b.recorded l cause pair).leave l 0).mod := by
    unfold Block.faultLeft
    dsimp only
    split
    · rw [Block.modLane_mod, Block.modLane_mod]
    · rw [Block.modLane_mod]
  rw [hleave, Block.leave_mod]

/-- A lane that has left holds no role and takes none. -/
theorem ModuleSt.without_roles (m : ModuleSt) (l : Lane) (st : Nat) :
    (m.without l st).active ≠ some l ∧ (m.without l st).handTo ≠ some l := by
  unfold ModuleSt.without
  constructor
  · dsimp only
    split
    · exact nofun
    · assumption
  · dsimp only
    split
    · exact nofun
    · assumption

/-- A lane fault: recorded with its cause and pair, the lane in reset and without a role, the other lane held where it was taking its
state. -/
theorem Block.laneFault_spec (h : 2 ≤ (b.lane l).st) (cause pair : Nat) :
    let t := b.laneFault l cause pair
    (t.lane l).st = 0 ∧ (t.lane l).aonCause = some (cause, pair) ∧ (t.lane l).startCause = 3 ∧ t.mod.active ≠ some l ∧
      t.mod.handTo ≠ some l ∧
      (t.lane l.other).st = (if b.serves l = true ∧ (b.lane l.other).st = 3 then 2 else (b.lane l.other).st) ∧
      (t.lane l).heldByFaults = ((b.lane l).heldByFaults || b.faultHolds l) := by
  have htold := Block.laneFault_untold h cause pair
  have hmod := Block.mod_of_untold htold
  obtain ⟨hactive, hhand⟩ := ModuleSt.without_roles (b.recorded l cause pair).mod l 0
  rw [← Block.faultLeft_mod] at hactive hhand
  refine ⟨(Block.field_of_untold htold l LaneSt.st).trans (Block.faultLeft_st cause pair),
    (Block.field_of_untold htold l LaneSt.aonCause).trans (Block.faultLeft_field LaneSt.aonCause cause pair),
    (Block.field_of_untold htold l LaneSt.startCause).trans (Block.faultLeft_field LaneSt.startCause cause pair), ?_, ?_,
    (Block.field_of_untold htold l.other LaneSt.st).trans (Block.faultLeft_other_st cause pair),
    (Block.field_of_untold htold l LaneSt.heldByFaults).trans (Block.faultLeft_field LaneSt.heldByFaults cause pair)⟩
  · intro hrole
    exact hactive ((congrArg ModuleSt.active hmod).symm.trans hrole)
  · intro hrole
    exact hhand ((congrArg ModuleSt.handTo hmod).symm.trans hrole)

end LaneFault

/-! ## The role at a failover (R268, R270) -/

section Role

variable {b t : Block} {l : Lane} {n : Nat}

/-- A lane holds the active role, so many failovers having been counted. -/
def Block.HoldsRole (b : Block) (l : Lane) (n : Nat) : Prop := b.mod.active = some l ∧ b.mod.failovers = n

/-- What is told leaves the role. -/
theorem Block.HoldsRole.told (h : b.HoldsRole l n) (htold : t.untold = b.untold) : t.HoldsRole l n := by
  have hmod := Block.mod_of_untold htold
  exact ⟨(congrArg ModuleSt.active hmod).trans h.1, (congrArg ModuleSt.failovers hmod).trans h.2⟩

/-- So does the restart of another lane. -/
theorem Block.HoldsRole.restart (h : b.HoldsRole l n) {k : Lane} (hk : k ≠ l) (cause : Nat) : (b.restart k cause).HoldsRole l n := by
  obtain ⟨hactive, hcount⟩ := h
  rw [Block.HoldsRole, Block.restart_eq, Block.leave_mod]
  refine ⟨?_, hcount⟩
  show (if b.mod.active = some k then none else b.mod.active) = some l
  rw [if_neg (by rw [hactive]; exact fun he => hk (Option.some.inj he).symm), hactive]

/-- The boundary gives the role to the lane it is handed to and counts a failover. -/
theorem Block.roleChange_role (h : b.mod.handTo = some l) : b.roleChange.HoldsRole l
    (if b.mod.handFail then satNat 0xFFFFFFFF (b.mod.failovers + 1) else b.mod.failovers) := by
  unfold Block.roleChange
  rw [h]
  dsimp only
  generalize hn : (if b.mod.handFail then satNat 0xFFFFFFFF (b.mod.failovers + 1) else b.mod.failovers) = n
  generalize hb1 : b.modMod _ = b1
  have hrole : b1.HoldsRole l n := by
    rw [← hb1]
    exact ⟨rfl, hn⟩
  generalize hb2 : (if b.mod.handFail then b1.raiseAll 17 _ l.num _ else b1.raiseAll 16 0 l.num 0) = b2
  have hraised : b2.HoldsRole l n := by
    rw [← hb2]
    split
    · exact hrole.told (Block.untold_raiseAll ..)
    · exact hrole.told (Block.untold_raiseAll ..)
  generalize hb3 : b2.modLane l _ = b3
  have hmissed : b3.HoldsRole l n := by
    rw [← hb3]
    exact hraised
  generalize hb4 : (if b3.serves l.other then b3 else _) = b4
  have hinputs : b4.HoldsRole l n := by
    rw [← hb4]
    split
    · exact hmissed
    · exact hmissed
  generalize hb5 : (if b4.configured then b4.sendRole l else _) = b5
  have hsent : b5.HoldsRole l n := by
    rw [← hb5]
    split
    · exact hinputs.told (Block.untold_sendRole ..)
    · exact hinputs.told (Block.untold_finishWhere ..)
  split
  · split
    · next hk => exact hsent.restart hk.1 2
    · exact hsent
  · exact hsent

/-- The event of a fault is told. -/
theorem Block.untold_laneDownEvent (b : Block) (by' l : Lane) (cause pair : Nat) :
    (b.laneDownEvent by' l cause pair).untold = b.untold := by
  unfold Block.laneDownEvent
  dsimp only
  repeat' split
  all_goals exact Block.untold_raise ..

/-- A lane in service that is told of the other lane's fault, and is not active, takes the role at the next boundary. -/
theorem Block.laneDown_standby (hserves : b.serves l = true) (hstandby : b.isActive l = false) (cause pair : Nat) :
    let t := b.laneDown l cause pair
    t.mod.handTo = some l ∧ t.mod.handFail = true ∧ t.mod.handCause = cause ∧ (t.lane l).expects = false := by
  have htold := Block.untold_laneDownEvent b l l.other cause pair
  generalize hx : b.laneDownEvent l l.other cause pair = x at htold
  have hserves' : (x.modLane l fun y => { y with expects := false, missedClose := false }).serves l = true := by
    rw [Block.serves, Block.lane_modLane]
    exact (congrArg (· == 4) (Block.field_of_untold htold l LaneSt.st)).trans hserves
  have hstandby' : (x.modLane l fun y => { y with expects := false, missedClose := false }).isActive l = false :=
    (congrArg (fun m : ModuleSt => m.active == some l) (Block.mod_of_untold htold)).trans hstandby
  have hdown : b.laneDown l cause pair =
      (x.modLane l fun y => { y with expects := false, missedClose := false }).handOver l true cause := by
    rw [Block.laneDown, hx]
    exact if_pos (by rw [hserves', hstandby']; rfl)
  rw [hdown]
  refine ⟨rfl, rfl, rfl, ?_⟩
  rw [Block.handOver_lane, Block.lane_modLane]

end Role

end Sys2Proof

namespace Sys2Proof.Machine

/-- A command that is a lane fault of a cause and a pair. -/
theorem becomes_fault {s : State} {l : Lane} {e : Instr} {cause pair : Nat}
    (h : (e = Instr.laneFault l cause ∧ pair = 0) ∨
        (∃ p c, e = .lockstepMismatch l p c ∧ (s.b.lane l).broken.getLsbD p.val = false ∧ cause = c.val + 1 ∧ pair = p.val) ∨
        (∃ p silent, e = .comparatorTimeout l p silent ∧ (s.b.lane l).broken.getLsbD p.val = false ∧
          cause = (if silent then 5 else 3) ∧ pair = p.val) ∨ (e = .timeWordTimeout l ∧ cause = 9 ∧ pair = 0)) :
    Becomes e s (s.b.laneFault l cause pair) := by
  rcases h with ⟨rfl, rfl⟩ | ⟨p, c, rfl, hbroken, rfl, rfl⟩ | ⟨p, silent, rfl, hbroken, rfl, rfl⟩ | ⟨rfl, rfl, rfl⟩
  · exact becomes_onBlock (show _ = execLaneFault l cause s from rfl) rfl
  · exact becomes_onBlock (show _ = execLockstepMismatch l p c s from rfl) (if_neg (by rw [hbroken]; exact Bool.false_ne_true))
  · exact becomes_onBlock (show _ = execComparatorTimeout l p silent s from rfl)
      (if_neg (by rw [hbroken]; exact Bool.false_ne_true))
  · exact becomes_onBlock (show _ = execTimeWordTimeout l s from rfl) rfl

/-- Settles O38: the fault of a lane, the role at a failover, the FIFO of a pair, the sweep and the debug halt (a lane that was taking
the faulty lane's state: log entry 124). -/
theorem lanesFailOver : Obligations.LanesFailOver := by
  intro s l hruns
  refine ⟨fun e cause pair he => ?_, fun p c silent hbroken => ⟨?_, ?_⟩, fun cause pair hserves hstandby => ?_,
    fun hhand => Block.roleChange_role hhand, fun p x => ?_, fun hfifo => ⟨fun halike => ?_, fun k h7 hbroken halike hhash => ?_⟩,
    fun p hbroken hblank hretired hin => ?_, fun p hbroken => ?_⟩
  · obtain ⟨hst, haon, hstart, hactive, hhand, hother, hheld⟩ := Block.laneFault_spec hruns cause pair
    refine ⟨_, becomes_fault he, hst, haon, hstart, hactive, hhand, hother, fun hserves htimes => ?_⟩
    rw [hheld, Block.faultHolds, Block.faultTimes, hserves]
    simp only [if_true, List.length_cons]
    rw [decide_eq_true (by omega), Bool.or_true]
  · exact becomes_onBlock (show _ = execLockstepMismatch l p c s from rfl) (if_pos hbroken)
  · exact becomes_onBlock (show _ = execComparatorTimeout l p silent s from rfl) (if_pos hbroken)
  · refine ⟨_, becomes_onBlock (show _ = execLaneDownReceived l cause pair s from rfl) (if_neg ?_),
      Block.laneDown_standby hserves hstandby cause pair⟩
    omega
  · refine ⟨fun hlen => PairSt.retire_length hlen x, p.retire_main x, fun hroom => ?_, fun y z hfull => ?_,
      fun hempty halike => PairSt.drain_retire_alike hempty halike x, fun y was rest hfirst => ⟨fun hparity => ?_,
        fun hparity hne hshows => ?_⟩⟩
    · rw [PairSt.retire_room hroom]
      exact ⟨rfl, rfl⟩
    · rw [PairSt.retire_full (by rw [hfull]; exact Nat.le_refl 2), PairSt.takes_cons hfull]
      rfl
    · have hfault : p.verdict y was = some 4 := if_pos hparity
      exact ⟨(congrArg Prod.snd (PairSt.takes_cons hfirst)).trans hfault, PairSt.drain_fault hfirst hfault⟩
    · have hverdict : verdictEq p.chk was y = false := by
        rw [verdictEq, decide_eq_false hne, decide_eq_false hshows, Bool.or_self]
      rw [PairSt.takes_cons hfirst, PairSt.verdict, if_neg (not_not_intro hparity), hverdict]
      rfl
  · refine ⟨_, becomes_onBlock (show _ = execSweepPeriod l s from rfl) ((if_pos hruns).trans (Block.sweep_alike hfifo halike)), ?_⟩
    rw [Block.swept, Block.lane_modLane]
    exact ⟨rfl, rfl⟩
  · have hswept : 2 ≤ ((s.b.swept l).lane l).st := by
      rw [Block.swept, Block.lane_modLane]
      exact hruns
    obtain ⟨hst, haon, -⟩ := Block.laneFault_spec hswept 2 k
    exact ⟨_, becomes_onBlock (show _ = execSweepPeriod l s from rfl)
      ((if_pos hruns).trans (Block.sweep_differs hfifo h7 hbroken halike hhash)), hst, haon⟩
  · refine ⟨_, becomes_onBlock (show _ = execDebugHaltRequest l p s from rfl) (if_pos (by simp [hbroken, hblank, hretired])), ?_⟩
    have hpairs : p.val = 6 ∨ p.val < ({ s.b.lane l with haltRecord := true } : LaneSt).pairs.length := hin
    rw [Block.lane_modLane, LaneSt.lockPair_modLockPair hpairs, LaneSt.haltRecord_modLockPair]
    exact ⟨rfl, rfl, _, by rw [List.getLast?_concat]; rfl, rfl, rfl⟩
  · exact becomes_onBlock (show _ = execDebugHaltRequest l p s from rfl) (if_neg (by rw [hbroken]; exact Bool.false_ne_true))

end Sys2Proof.Machine
end

section
/-! PROOF. Supplies, feeds and the logic power of the dies (R63-R74). Settles O42. What a power-up makes valid is log entry 14's, the
bands a feed passes through log entry 17's. -/

namespace Sys2Proof

/-! ## Events leave the module and the dies -/

theorem Block.raiseAll_mod (b : Block) (ev cause subject : Nat) (detail : Int) : (b.raiseAll ev cause subject detail).mod = b.mod := by
  obtain ⟨lanes, evs, h⟩ := Block.raiseAll_frame b ev cause subject detail
  rw [h]

theorem Block.raiseAll_dies (b : Block) (ev cause subject : Nat) (detail : Int) :
    (b.raiseAll ev cause subject detail).dies = b.dies := by
  obtain ⟨lanes, evs, h⟩ := Block.raiseAll_frame b ev cause subject detail
  rw [h]

theorem Block.raise_mod (b : Block) (l : Lane) (ev cause subject : Nat) (detail : Int) :
    (b.raise l ev cause subject detail).mod = b.mod := by
  obtain ⟨lanes, evs, h⟩ := Block.raise_frame b l ev cause subject detail
  rw [h]

/-- A die as events leave it. -/
theorem Block.raiseAll_die (b : Block) (ev cause subject : Nat) (detail : Int) (d : Nat) :
    (b.raiseAll ev cause subject detail).die d = b.die d :=
  congrArg (fun ds : List DieSt => ds.getD d DieSt.delivered) (b.raiseAll_dies ev cause subject detail)

/-! ## The way back of channels leaves the module (R71) -/

theorem Block.goOn_mod (b : Block) (c : Nat) : (b.goOn c).mod = b.mod := by
  unfold Block.goOn
  dsimp only
  repeat' split
  · rfl
  · rfl
  · rfl
  · rfl
  · unfold Block.startPwm
    dsimp only
    split <;> rfl

theorem Block.recallStored_mod (b : Block) (c : Nat) : (b.recallStored c).mod = b.mod := by
  unfold Block.recallStored
  dsimp only
  repeat' split
  all_goals rfl

theorem Block.settle_mod (b : Block) (c : Nat) : (b.settle c).mod = b.mod := by
  unfold Block.settle
  split
  · rfl
  · dsimp only
    split
    · rw [Block.goOn_mod, Block.modChan_mod, Block.recallStored_mod]
    · rw [Block.goOn_mod, Block.modChan_mod, Block.recallStored_mod]
    · split
      · exact Block.recallStored_mod b c
      · split
        · exact Block.recallStored_mod b c
        · rw [Block.goOn_mod, Block.recallStored_mod]

theorem Block.feedStep_mod (b : Block) (d i : Nat) : (b.feedStep d i).mod = b.mod := by
  unfold Block.feedStep
  split
  · rfl
  · dsimp only
    split
    · exact Block.goOn_mod b _
    · exact Block.settle_mod b _

/-- The sequence ends where no channel is left. -/
theorem Block.feedStep_end {b : Block} {d i : Nat} (h : b.nextOn d i = none) :
    b.feedStep d i = b.modDie d fun x => { x with feedNext := none } := by
  unfold Block.feedStep
  rw [h]

/-- The channel after the one that turned on falls due next. -/
theorem Block.feedStep_next {b : Block} {d i k : Nat} (hd : d < b.dies.length) (h : b.nextOn d i = some k) :
    ((b.feedStep d i).die d).feedNext = some (k + 1) := by
  have hgoes := (Block.goOn_switches b (16 * d + k)).length
  have hsettles := (Block.settle_switches b (16 * d + k)).length
  unfold Block.feedStep
  rw [h]
  dsimp only
  split
  · rw [Block.die_modDie _ _ _ (hgoes ▸ hd)]
  · rw [Block.die_modDie _ _ _ (hsettles ▸ hd)]

/-! ## Logic sources (R74) -/

section Sources

variable (b : Block) (d : Nat)

/-- A die whose source is gone leaves the module, the states of the lanes and the other dies. -/
theorem Block.sourceGone_beside : (b.sourceGone d).mod = b.mod ∧ (∀ l, ((b.sourceGone d).lane l).st = (b.lane l).st) ∧
    ∀ e, e ≠ d → (b.sourceGone d).die e = b.die e := by
  unfold Block.sourceGone
  split
  · exact ⟨rfl, fun _ => rfl, fun _ _ => rfl⟩
  · split
    · next src _ =>
      refine ⟨Block.raiseAll_mod .., fun l => Block.field_of_untold (Block.untold_raiseAll ..) l LaneSt.st, fun e he => ?_⟩
      rw [Block.raiseAll_die, Block.die_modDie_other _ _ _ _ he]
    · exact ⟨rfl, fun _ => rfl, fun e he => Block.die_modDie_other b d e DieSt.down he⟩

/-- What the loss of a source leaves: the module, the states of the lanes and the dies that another source supplies. -/
theorem Block.sourceLost_beside (src : Fin 3) : (b.sourceLost src).mod = b.mod ∧
    (∀ l, ((b.sourceLost src).lane l).st = (b.lane l).st) ∧ ∀ e, (b.die e).source ≠ src → (b.sourceLost src).die e = b.die e :=
  foldl_keeps (fun t : Block => t.mod = b.mod ∧ (∀ l, (t.lane l).st = (b.lane l).st) ∧
      ∀ e, (b.die e).source ≠ src → t.die e = b.die e) ⟨rfl, fun _ => rfl, fun _ _ => rfl⟩
    fun t e ⟨hmod, hst, hdies⟩ => by
      split
      · next hsrc =>
        obtain ⟨gmod, gst, gdies⟩ := t.sourceGone_beside e
        refine ⟨gmod.trans hmod, fun l => (gst l).trans (hst l), fun f hf => ?_⟩
        have hfe : f ≠ e := by
          rintro rfl
          exact hf (hdies f hf ▸ hsrc)
        rw [gdies f hfe, hdies f hf]
      · exact ⟨hmod, hst, hdies⟩

/-- The source that comes back. -/
theorem Block.sourceBack_source {src : Fin 3} (hd : d < b.dies.length) (hsrc : b.logicSource? = some src)
    (hpowered : (b.die d).powered = true) (hless : src < (b.die d).source) : ((b.sourceBack d).die d).source = src := by
  unfold Block.sourceBack
  rw [hsrc]
  dsimp only
  rw [hpowered, if_pos (by simpa using hless), Block.raiseAll_die, Block.die_modDie _ _ _ hd]

theorem Block.sourceBack_unpowered (hpowered : (b.die d).powered = false) : b.sourceBack d = b := by
  unfold Block.sourceBack
  split
  · rw [hpowered]
    rfl
  · rfl

end Sources

/-! ## T30 (R63-R68) -/

theorem Block.breakCopy_mod (b : Block) (l : Lane) : (b.breakCopy l).mod = b.mod := by
  unfold Block.breakCopy
  dsimp only
  split <;> rfl

/-- Without its supply a running module's lanes are off and none is active. -/
theorem Block.lanesOff_off (b : Block) (cause : Nat) : (b.lanesOff cause).mod.t30Valid = b.mod.t30Valid ∧
    (b.lanesOff cause).mod.active = none ∧ ∀ l, ((b.lanesOff cause).lane l).st = 0 := by
  refine ⟨?_, rfl, fun l => by cases l <;> rfl⟩
  have hcopies : ((b.breakCopy .a).breakCopy .b).mod = b.mod := by rw [Block.breakCopy_mod, Block.breakCopy_mod]
  rw [← hcopies]
  rfl

/-- T30 lost outside sleep. -/
theorem Block.t30Lost_off {b : Block} (mv : Nat) (hvalid : b.mod.t30Valid = true) (hawake : b.nw.state ≠ 3) :
    (b.t30Lost mv).mod.t30Valid = false ∧ (b.t30Lost mv).mod.active = none ∧ ∀ l, ((b.t30Lost mv).lane l).st = 0 := by
  let t := b.modMod fun m => { m with t30Valid := false, t30 := mv }
  obtain ⟨hoff, hactive, hst⟩ := t.lanesOff_off 4
  have hlost : b.t30Lost mv = ((t.lanesOff 4).modLanes fun x => { x with xspiVcc := false }).sourceLost 0 := by
    unfold Block.t30Lost
    rw [if_neg (by rw [hvalid]; decide)]
    exact congrArg (Block.sourceLost · 0) (if_neg hawake)
  obtain ⟨hmod, hsts, -⟩ := ((t.lanesOff 4).modLanes fun x => { x with xspiVcc := false }).sourceLost_beside 0
  rw [hlost, hmod]
  refine ⟨hoff, hactive, fun l => ?_⟩
  rw [hsts, Block.lane_modLanes]
  exact hst l

/-- A power-up of an unpowered module. -/
theorem Block.powerUp_off {b : Block} (mv : Nat) (hoff : b.mod.t30Valid = false) : (b.powerUp mv).mod.t30Valid = true ∧
    (b.powerUp mv).mod.t30 = mv ∧ (∀ f, (b.powerUp mv).feed f = { band := .valid, mv := mv }) ∧
    (∀ l, ((b.powerUp mv).lane l).st = 0) ∧ ((b.powerUp mv).dies = b.dies.map DieSt.down) := by
  unfold Block.powerUp
  rw [hoff]
  exact ⟨rfl, rfl, fun f => by cases f <;> rfl, fun l => by cases l <;> rfl, rfl⟩

/-- A die among those without their logic. -/
theorem die_down {b : Block} {ds : List DieSt} (h : b.dies = ds.map DieSt.down) (d : Nat) : (b.die d).powered = false := by
  unfold Block.die
  rw [h, List.getD_eq_getElem?_getD, List.getElem?_map]
  cases ds[d]? <;> rfl

/-! ## The bands of a lane (R64, R68) -/

section Bands

variable {b : Block} {l : Lane}

/-- A measurement of T30 leaves the lanes and the events. -/
theorem Block.measureT30_eq (b : Block) (l : Lane) (mv : Nat) :
    ∃ m, m.epoch = b.mod.epoch ∧ b.measureT30 l mv = { b with mod := m } := by
  unfold Block.measureT30
  split
  · exact ⟨{ b.mod with t30 := mv }, rfl, rfl⟩
  · exact ⟨b.mod, rfl, rfl⟩

/-- A lane whose application rail is lowered or restored: band 3 stands above the band that changes. -/
def LaneSt.enters (low : Bool) (x : LaneSt) : LaneSt :=
  { x with railsLow := low, band := if x.band = 3 then 3 else if low then 1 else 2, baseBand := if low then 1 else 2 }

/-- A lane's application rail and the bands it enters. -/
theorem Block.railBand_enters {low : Bool} (mv : Nat) (hst : (b.lane l).st ≠ 0) (hlow : (b.lane l).railsLow ≠ low) :
    ((b.railBand l low mv).lane l).railsLow = low ∧ ((b.railBand l low mv).lane l).baseBand = (if low then 1 else 2) ∧
    ((b.railBand l low mv).lane l).band = (if (b.lane l).band = 3 then 3 else if low then 1 else 2) ∧
    (b.runs l = true → (b.railBand l low mv).ev.items =
      b.ev.items ++ [b.evRec l 1 (if low then 1 else 2) noSubject mv]) := by
  obtain ⟨m, hepoch, hmeasured⟩ := b.measureT30_eq l mv
  have hband : b.railBand l low mv = (({ b with mod := m } : Block).modLane l (LaneSt.enters low)).raise l 1 (if low then 1 else 2) noSubject mv := by
    unfold Block.railBand
    dsimp only
    rw [if_neg hst, if_neg hlow, hmeasured]
    rfl
  have hlane := Block.lane_modLane ({ b with mod := m } : Block) l (LaneSt.enters low)
  have hfield {α : Type} (f : LaneSt → α) (hf : ∀ x : LaneSt, f x.unsent = f x) :
      f ((b.railBand l low mv).lane l) = f ((b.lane l).enters low) := by
    rw [hband, Block.field_of_untold (Block.untold_raise ..) l f hf, hlane]
    rfl
  refine ⟨hfield LaneSt.railsLow fun _ => rfl, hfield LaneSt.baseBand fun _ => rfl, hfield LaneSt.band fun _ => rfl, fun hruns => ?_⟩
  have hruns' : (({ b with mod := m } : Block).modLane l (LaneSt.enters low)).runs l = true := by
    unfold Block.runs
    rw [hlane]
    exact hruns
  rw [hband, Block.raise_running hruns']
  have hrec : (({ b with mod := m } : Block).modLane l (LaneSt.enters low)).evRec l 1 (if low then 1 else 2) noSubject mv =
      b.evRec l 1 (if low then 1 else 2) noSubject mv := by
    simp only [Block.evRec, Block.modLane_mod, hepoch]
  rw [hrec]
  rfl

end Bands

/-! ## Feeds (R70, R71, R73) -/

section Feeds

variable {b : Block} {f : Feed} {band : FeedBand} {v : Int}

@[simp] theorem Block.feed_setFeed (b : Block) (f : Feed) (x : FeedSt) : (b.setFeed f x).feed f = x := by cases f <;> rfl

@[simp] theorem Block.dies_setFeed (b : Block) (f : Feed) (x : FeedSt) : (b.setFeed f x).dies = b.dies := by cases f <;> rfl

/-- A feed is read off the module's state. -/
theorem Block.feed_congr {t u : Block} (h : t.mod = u.mod) (f : Feed) : t.feed f = u.feed f := by
  cases f
  · exact congrArg ModuleSt.feedA h
  · exact congrArg ModuleSt.feedB h

/-- The change of a feed's band at its dies. -/
def Block.feedDies (b : Block) (f : Feed) (band : FeedBand) : Block :=
  f.dies.foldl (fun b d => b.modDie d fun x => x.feedBand band) b

theorem Block.feedDies_mod (b : Block) (f : Feed) (band : FeedBand) : (b.feedDies f band).mod = b.mod := by cases f <;> rfl

/-- A die of the feed takes the band. -/
theorem Block.feedDies_die (band : FeedBand) (hlen : b.dies.length = 4) {d : Nat} (hd : d ∈ f.dies) :
    (b.feedDies f band).die d = (b.die d).feedBand band := by
  have hin (t : Block) (e : Nat) (g : DieSt → DieSt) (ht : t.dies.length = 4) (he : e < 4) : (t.modDie e g).die e = g (t.die e) :=
    Block.die_modDie t e g (ht.symm ▸ he)
  have hlen' (t : Block) (e : Nat) (g : DieSt → DieSt) (ht : t.dies.length = 4) : (t.modDie e g).dies.length = 4 :=
    (updAt_length t.dies e g).trans ht
  cases f with
  | a =>
    rcases mem_pair hd with rfl | rfl
    · exact (Block.die_modDie_other _ 1 0 _ (by decide)).trans (hin b 0 _ hlen (by decide))
    · exact (hin _ 1 _ (hlen' b 0 _ hlen) (by decide)).trans
        (congrArg (DieSt.feedBand · band) (Block.die_modDie_other b 0 1 _ (by decide)))
  | b =>
    rcases mem_pair hd with rfl | rfl
    · exact (Block.die_modDie_other _ 3 2 _ (by decide)).trans (hin b 2 _ hlen (by decide))
    · exact (hin _ 3 _ (hlen' b 2 _ hlen) (by decide)).trans
        (congrArg (DieSt.feedBand · band) (Block.die_modDie_other b 2 3 _ (by decide)))

/-- The event of a feed's new band, where a die of it is seen. -/
def Block.feedTold (b : Block) (f : Feed) (band : FeedBand) (v : Int) : Block :=
  match band.cause with
  | some c => if f.dies.any (fun d => !(b.link d).lost) then
      b.raiseAll (match f with | .a => 3 | .b => 4) c noSubject v else b
  | none => b

theorem Block.feedTold_mod (b : Block) (f : Feed) (band : FeedBand) (v : Int) : (b.feedTold f band v).mod = b.mod := by
  unfold Block.feedTold
  split
  · split
    · exact Block.raiseAll_mod ..
    · rfl
  · rfl

theorem Block.feedTold_dies (b : Block) (f : Feed) (band : FeedBand) (v : Int) : (b.feedTold f band v).dies = b.dies := by
  unfold Block.feedTold
  split
  · split
    · exact Block.raiseAll_dies ..
    · rfl
  · rfl

/-- The number of a feed among the logic sources. -/
def Feed.source : Feed → Fin 3
  | .a => 1
  | .b => 2

/-- The block in which a feed's new band stands, is told and has reached its dies. -/
def Block.feedEntered (b : Block) (f : Feed) (band : FeedBand) (v : Int) : Block :=
  ((b.setFeed f { band := band, mv := v }).feedTold f band v).feedDies f band

/-- A feed that changes its band, in its steps. -/
theorem Block.feedTo_new (h : (b.feed f).band ≠ band) : b.feedTo f band v =
    let t := b.feedEntered f band v
    let t := if (b.feed f).band.isValid && !band.isValid then t.sourceLost f.source else t
    if band.isValid && !(b.feed f).band.isValid then
      f.dies.foldl (fun b d => if (b.die d).powered then b.feedStep d 0 else b) t
    else t := by
  unfold Block.feedTo
  dsimp only
  rw [if_neg h]
  cases f <;> rfl

theorem Block.feedEntered_mod (b : Block) (f : Feed) (band : FeedBand) (v : Int) :
    (b.feedEntered f band v).mod = (b.setFeed f { band := band, mv := v }).mod := by
  rw [Block.feedEntered, Block.feedDies_mod, Block.feedTold_mod]

/-- The feed itself. -/
theorem Block.feedTo_feed (b : Block) (f : Feed) (band : FeedBand) (v : Int) : (b.feedTo f band v).feed f = { band := band, mv := v } := by
  have hset : (b.setFeed f { band := band, mv := v }).feed f = { band := band, mv := v } := Block.feed_setFeed ..
  by_cases hband : (b.feed f).band = band
  · have hsame : b.feedTo f band v = b.setFeed f { band := band, mv := v } := by
      unfold Block.feedTo
      dsimp only
      rw [if_pos hband]
    rw [hsame, hset]
  · refine (Block.feed_congr ?_ f).trans hset
    have hentered := b.feedEntered_mod f band v
    have hlost : (if (b.feed f).band.isValid && !band.isValid then (b.feedEntered f band v).sourceLost f.source
        else b.feedEntered f band v).mod = (b.setFeed f { band := band, mv := v }).mod := by
      split
      · rw [((b.feedEntered f band v).sourceLost_beside f.source).1, hentered]
      · exact hentered
    rw [Block.feedTo_new hband]
    dsimp only
    split
    · exact foldl_keeps (fun t : Block => t.mod = (b.setFeed f { band := band, mv := v }).mod) hlost fun t d ht => by
        split
        · exact (t.feedStep_mod d 0).trans ht
        · exact ht
    · exact hlost

/-- The dies of a feed that is no longer valid and whose logic does not take its supply from it. -/
theorem Block.feedTo_die (hlen : b.dies.length = 4) (hband : band.isValid = false) (hnew : (b.feed f).band ≠ band) {d : Nat}
    (hd : d ∈ f.dies) (hsource : (b.die d).source = 0) : (b.feedTo f band v).die d = (b.die d).feedBand band := by
  have htold : ((b.setFeed f { band := band, mv := v }).feedTold f band v).dies = b.dies := by
    rw [Block.feedTold_dies, Block.dies_setFeed]
  have hentered : (b.feedEntered f band v).die d = (b.die d).feedBand band := by
    rw [Block.feedEntered, Block.feedDies_die band (by rw [htold]; exact hlen) hd]
    exact congrArg (fun ds : List DieSt => (ds.getD d DieSt.delivered).feedBand band) htold
  rw [Block.feedTo_new hnew, hband]
  dsimp only
  rw [Bool.false_and, if_neg Bool.false_ne_true]
  split
  · rw [(((b.feedEntered f band v).sourceLost_beside f.source).2).2 d, hentered]
    rw [hentered]
    show (b.die d).source ≠ f.source
    rw [hsource]
    cases f <;> decide
  · exact hentered

/-- The channels of a die whose feed is not valid: without current where it is lost or reversed, their checks suspended. -/
theorem DieSt.feedBand_chans (x : DieSt) (hband : band.isValid = false) : (x.feedBand band).chans =
    x.chans.map fun y => (if band = .lost ∨ band = .reversed then y.feedLost else y).suspend true := by
  unfold DieSt.feedBand
  dsimp only
  rw [hband]
  cases band <;> rfl

end Feeds

end Sys2Proof

namespace Sys2Proof.Machine

/-- Settles O42: each supply command leaves the module, the bands and the dies as the rules of its cause say. -/
theorem suppliesAreFollowed : Obligations.SuppliesAreFollowed := by
  intro s hlen mv v
  have hdie (d : Die) : (d : Nat) < s.b.dies.length := hlen.symm ▸ d.isLt
  refine ⟨fun hoff => ?_, fun hon => ⟨?_, ?_⟩, fun hoff => ?_, fun hon hawake => ?_, fun l hst e low band he hlow => ?_,
    fun hband => ?_, fun hband => ?_, fun f band => ?_, fun f => ?_, fun f hrev => ?_, fun d => ⟨fun hnone => ?_,
      fun i hnext hvalid hnone => ?_, fun i k hnext hvalid hk => ?_, fun src hsrc hpowered hless => ?_, fun hpowered => ?_⟩⟩
  · obtain ⟨hvalid, ht30, hfeeds, hst, hdies⟩ := Block.powerUp_off mv hoff
    refine ⟨(s.withBlock (s.b.powerUp mv)).withMem { s.mem with sram := .both [] }, ?_, hvalid, ht30, hfeeds, hst,
      fun d => die_down hdies d, rfl, rfl, rfl⟩
    exact congrArg Host.Outcome.next (if_neg (Bool.not_eq_true _ ▸ hoff))
  · exact congrArg Host.Outcome.next (if_pos hon)
  · exact becomes_onBlock (show exec (.t30Valid mv) s = execT30Valid mv s from rfl) (if_pos hon)
  · exact becomes_onBlock (show exec (.t30Valid mv) s = execT30Valid mv s from rfl) (if_neg (Bool.not_eq_true _ ▸ hoff))
  · exact ⟨_, becomes_onBlock (show exec (.t30Invalid mv) s = execT30Invalid mv s from rfl) rfl, Block.t30Lost_off mv hon hawake⟩
  · obtain ⟨rfl, rfl, rfl⟩ | ⟨rfl, rfl, rfl⟩ : (e = .railsLowered l mv ∧ low = true ∧ band = 1) ∨
        (e = .railsRestored l mv ∧ low = false ∧ band = 2) := by simpa using he
    · exact ⟨_, becomes_onBlock (show exec (.railsLowered l mv) s = execRailsLowered l mv s from rfl) rfl,
        Block.railBand_enters mv hst hlow⟩
    · exact ⟨_, becomes_onBlock (show exec (.railsRestored l mv) s = execRailsRestored l mv s from rfl) rfl,
        Block.railBand_enters mv hst hlow⟩
  · refine ⟨_, becomes_onBlock (show exec (.t30Overvoltage mv) s = execT30Overvoltage mv s from rfl) (if_neg hband), ?_, fun l => ?_⟩
    · rw [Block.raiseAll_mod]
      rfl
    · rw [Block.field_of_untold (Block.untold_raiseAll ..) l LaneSt.band, Block.lane_modLanes]
  · refine ⟨_, becomes_onBlock (show exec (.t30Band3Left mv) s = execT30Band3Left mv s from rfl) (if_neg (not_not_intro hband)), ?_,
      fun l => ?_⟩
    · rw [Block.raiseAll_mod]
      rfl
    · rw [Block.field_of_untold (Block.untold_raiseAll ..) l LaneSt.band, Block.lane_modLanes]
      rfl
  · refine ⟨_, becomes_onBlock (show exec (.feedBandChange f band v) s = execFeedBandChange f band v s from rfl) rfl,
      Block.feedTo_feed .., fun hinvalid hnew d hd hsource => ?_⟩
    rw [Block.feedTo_die hlen hinvalid hnew hd hsource]
    exact ⟨rfl, DieSt.feedBand_chans _ hinvalid⟩
  · exact ⟨_, becomes_onBlock (show exec (.feedReversed f v) s = execFeedReversed f v s from rfl) rfl, Block.feedTo_feed ..⟩
  · exact ⟨_, becomes_onBlock (show exec (.feedUnreversed f v) s = execFeedUnreversed f v s from rfl) (if_pos hrev),
      Block.feedTo_feed ..⟩
  · refine becomes_onBlock (show exec (.feedReturnNextChannel d) s = execFeedReturnNextChannel d s from rfl) ?_
    rw [hnone]
  · refine becomes_onBlock (show exec (.feedReturnNextChannel d) s = execFeedReturnNextChannel d s from rfl) ?_
    rw [hnext]
    exact (if_pos hvalid).trans (Block.feedStep_end hnone)
  · refine ⟨s.b.feedStep d i, becomes_onBlock (show exec (.feedReturnNextChannel d) s = execFeedReturnNextChannel d s from rfl) ?_,
      Block.feedStep_next (hdie d) hk⟩
    rw [hnext]
    exact if_pos hvalid
  · exact ⟨_, becomes_onBlock (show exec (.logicSourceReturn d) s = execLogicSourceReturn d s from rfl) rfl,
      Block.sourceBack_source s.b d (hdie d) hsrc hpowered hless⟩
  · exact becomes_onBlock (show exec (.logicSourceReturn d) s = execLogicSourceReturn d s from rfl)
      (Block.sourceBack_unpowered s.b d hpowered)

end Sys2Proof.Machine
end

section
/-! PROOF. What the steps of a lane's start report, the lane in service, control and readiness (R75, R79, R155-R158, R274). -/

namespace Sys2Proof

/-! ## What a start reports of a lane: its state, readiness, broken pairs and band, and the active lane -/

/-- The state of a lane that its start sets. -/
def LaneSt.post (x : LaneSt) : Nat × Bool × BitVec 7 × Nat := (x.st, x.ready, x.broken, x.band)

/-- The state of both lanes and the active role. -/
def Block.posts (b : Block) : PerLane (Nat × Bool × BitVec 7 × Nat) × Option Lane := (b.lanes.map LaneSt.post, b.mod.active)

section Posts

variable {b t : Block}

theorem Block.post_of_posts (h : t.posts = b.posts) (l : Lane) : (t.lane l).post = (b.lane l).post := by
  have hget := congrArg (fun p : PerLane (Nat × Bool × BitVec 7 × Nat) × Option Lane => p.1.get l) h
  have hmap : (t.lanes.map LaneSt.post).get l = (b.lanes.map LaneSt.post).get l := hget
  rwa [PerLane.get_map, PerLane.get_map] at hmap

theorem Block.active_of_posts (h : t.posts = b.posts) : t.mod.active = b.mod.active := congrArg Prod.snd h

theorem Block.posts_of_untold (h : t.untold = b.untold) : t.posts = b.posts := by
  have hlanes : t.lanes.map LaneSt.unsent = b.lanes.map LaneSt.unsent := congrArg Block.lanes h
  have hpost (ls : PerLane LaneSt) : (ls.map LaneSt.unsent).map LaneSt.post = ls.map LaneSt.post := rfl
  have hactive := congrArg ModuleSt.active (Block.mod_of_untold h)
  refine Prod.ext ?_ hactive
  show t.lanes.map LaneSt.post = b.lanes.map LaneSt.post
  rw [← hpost, hlanes, hpost]

theorem Block.posts_modDie (b : Block) (d : Nat) (f : DieSt → DieSt) : (b.modDie d f).posts = b.posts := rfl

theorem Block.posts_modNw (b : Block) (f : NwSt → NwSt) : (b.modNw f).posts = b.posts := rfl

theorem Block.posts_modInput (b : Block) (i : Nat) (f : InputSt → InputSt) : (b.modInput i f).posts = b.posts := rfl

theorem Block.posts_ite {u : Block} {q : Prop} [Decidable q] (ht : t.posts = b.posts) (hu : u.posts = b.posts) :
    (if q then t else u).posts = b.posts := by
  split
  · exact ht
  · exact hu

theorem Block.posts_modLane (b : Block) (l : Lane) (f : LaneSt → LaneSt) (hf : ∀ x, (f x).post = x.post) :
    (b.modLane l f).posts = b.posts := by
  cases l <;> simp [Block.posts, Block.modLane, PerLane.upd, PerLane.map, PerLane.get, PerLane.set, hf]

theorem Block.posts_modLanes (b : Block) (f : LaneSt → LaneSt) (hf : ∀ x, (f x).post = x.post) :
    (b.modLanes f).posts = b.posts := by
  simp [Block.posts, Block.modLanes, PerLane.map, hf]

@[simp] theorem Block.posts_raise (b : Block) (l : Lane) (ev cause subject : Nat) (detail : Int) :
    (b.raise l ev cause subject detail).posts = b.posts := Block.posts_of_untold (Block.untold_raise ..)

@[simp] theorem Block.posts_raiseAll (b : Block) (ev cause subject : Nat) (detail : Int) :
    (b.raiseAll ev cause subject detail).posts = b.posts := Block.posts_of_untold (Block.untold_raiseAll ..)

end Posts

/-! ## The steps of a start leave what it reports (R75 steps 5 to 9) -/

section Steps

variable (b : Block) (l : Lane)

@[simp] theorem Block.posts_readBank (ae : Bool) : (b.readBank ae l).posts = b.posts := by
  unfold Block.readBank
  dsimp only
  split
  · exact Block.posts_modLane b l _ fun _ => rfl
  · split
    · exact Block.posts_modLane b l _ fun _ => rfl
    · rw [Block.posts_raise]
      exact Block.posts_modLane b l _ fun _ => rfl

theorem Block.posts_clearRestored : b.clearRestored.posts = b.posts := rfl

@[simp] theorem Block.posts_readStore : (b.readStore l).posts = b.posts := by
  unfold Block.readStore
  dsimp only
  split
  · split
    · exact Block.posts_raise ..
    · rw [Block.posts_clearRestored]
      exact Block.posts_raise ..
  · split
    · exact Block.posts_raise ..
    · rfl

@[simp] theorem Block.posts_bootSteps (ae : Bool) (env : StartEnv) : (b.bootSteps ae l env).posts = b.posts := by
  have hread : ((b.readBank ae l).readStore l).posts = b.posts := by rw [Block.posts_readStore, Block.posts_readBank]
  have hlanes (t : Block) (ht : t.posts = b.posts) (f g : LaneSt → LaneSt) (hf : ∀ x, (f x).post = x.post)
      (hg : ∀ x, (g x).post = x.post) : ((t.modLane l f).modLane l g).posts = b.posts := by
    rw [Block.posts_modLane _ _ _ hg, Block.posts_modLane _ _ _ hf, ht]
  unfold Block.bootSteps
  dsimp only
  split
  · refine hlanes _ ?_ _ _ (fun _ => rfl) (fun _ => rfl)
    split
    · exact hread
    · exact hread
  · refine hlanes _ ?_ _ _ (fun _ => rfl) (fun _ => rfl)
    split
    · exact hread
    · exact hread

/-- What the start reports, and the mailboxes. -/
def Block.postsAndMail : PerLane (Nat × Bool × BitVec 7 × Nat) × Option Lane × MailSt := (b.posts.1, b.posts.2, b.mail)

theorem Block.postsAndMail_ite {b t u : Block} {q : Prop} [Decidable q] (ht : t.postsAndMail = b.postsAndMail)
    (hu : u.postsAndMail = b.postsAndMail) : (if q then t else u).postsAndMail = b.postsAndMail := by
  split
  · exact ht
  · exact hu

theorem Block.postsAndMail_raise (ev cause subject : Nat) (detail : Int) :
    (b.raise l ev cause subject detail).postsAndMail = b.postsAndMail := by
  have hmail : (b.raise l ev cause subject detail).mail = b.mail := by
    obtain ⟨lanes, evs, h⟩ := Block.raise_frame b l ev cause subject detail
    rw [h]
  rw [Block.postsAndMail, Block.posts_raise, hmail]
  rfl

theorem Block.postsAndMail_raiseAll (ev cause subject : Nat) (detail : Int) :
    (b.raiseAll ev cause subject detail).postsAndMail = b.postsAndMail :=
  (Block.postsAndMail_raise ..).trans (Block.postsAndMail_raise ..)

theorem Block.postsAndMail_ownLoad (i : Nat) (ack : Bool) : (b.ownLoad i ack).postsAndMail = b.postsAndMail := by
  unfold Block.ownLoad
  split <;> rfl

theorem Block.postsAndMail_unlockSkipped (intrusion : Bool) : (b.unlockSkipped intrusion).postsAndMail = b.postsAndMail := by
  unfold Block.unlockSkipped
  dsimp only
  rw [Block.postsAndMail_raiseAll]
  cases intrusion with
  | false => rfl
  | true => exact Block.postsAndMail_ownLoad _ 240 true

theorem Block.postsAndMail_ownKeys : b.ownKeys.postsAndMail = b.postsAndMail := rfl

theorem Block.postsAndMail_unlockKeys : b.unlockKeys.postsAndMail = b.postsAndMail := by
  unfold Block.unlockKeys
  split
  · rfl
  · split
    · exact Block.postsAndMail_raiseAll ..
    · rw [Block.postsAndMail_ownKeys]
      exact foldl_keeps (fun t : Block => t.postsAndMail = b.postsAndMail) (items := [240, 241, 252, 253]) rfl
        fun t i ht => (Block.postsAndMail_ownLoad t i false).trans ht

theorem Block.postsAndMail_unlock : (b.unlock l).postsAndMail = b.postsAndMail := by
  unfold Block.unlock
  exact Block.postsAndMail_ite (Block.postsAndMail_unlockSkipped ..)
    (Block.postsAndMail_ite (Block.postsAndMail_unlockSkipped ..) (Block.postsAndMail_unlockKeys _))

theorem Block.postsAndMail_loadCfg (c : CfgImage) : (b.loadCfg c).postsAndMail = b.postsAndMail := by
  have hmarks (t : Block) (rs : List CfgRec) (ht : t.postsAndMail = b.postsAndMail) :
      (rs.foldl (fun b x => match x with | .mark c i base len => b.markNow c i base len | _ => b) t).postsAndMail = b.postsAndMail :=
    foldl_keeps (fun t : Block => t.postsAndMail = b.postsAndMail) ht fun t r ht => by
      split
      · exact ht
      · exact ht
  exact hmarks _ c.recs rfl

theorem Block.postsAndMail_loadBank (ae : Bool) : (b.loadBank ae l).postsAndMail = b.postsAndMail := by
  unfold Block.loadBank
  split
  · rfl
  · split
    · exact Block.postsAndMail_loadCfg ..
    · rfl

@[simp] theorem Block.posts_takeOver (d : Nat) : (b.takeOver d).posts = b.posts := by
  have hconf (t : Block) : (t.sendConf d).posts = t.posts := Block.posts_of_untold <| by
    unfold Block.sendConf
    dsimp only
    rw [Block.untold_sendFrame]
    exact foldl_keeps (fun u : Block => u.untold = t.untold) rfl fun u i hu => (Block.untold_sendFrame u d _ _ _).trans hu
  have hkeep := Block.posts_of_untold (Block.untold_sendFrame b d .keep 0 (zeroBytes 6))
  unfold Block.takeOver
  dsimp only
  rw [Block.posts_modDie, hconf, hkeep]

@[simp] theorem Block.posts_compareStores : (b.compareStores l).posts = b.posts := by
  unfold Block.compareStores
  split
  · rfl
  · exact foldl_keeps (fun t : Block => t.posts = b.posts) rfl fun t c ht => by
      dsimp only
      split
      · exact (Block.posts_raise ..).trans ht
      · exact ht

@[simp] theorem Block.posts_wakeRecord : (b.wakeRecord l).posts = b.posts := by
  unfold Block.wakeRecord
  dsimp only
  split
  · rfl
  · refine (Block.posts_modLanes _ _ fun _ => rfl).trans ((Block.posts_raise ..).trans ?_)
    exact Block.posts_ite ((Block.posts_modInput ..).trans rfl) rfl

@[simp] theorem Block.posts_wakeTaken : (b.wakeTaken l).posts = b.posts := by
  have hrecord := ((b.modNw fun n => { n with state := 0, latched := none, wakeSource := 0 }).posts_wakeRecord l).trans
    (Block.posts_modNw ..)
  have hconfirm (t : Block) (q : Prop) [Decidable q] (ht : t.posts = b.posts) : (if q then t.confirmWake else t).posts = b.posts :=
    Block.posts_ite ((Block.posts_modNw ..).trans ht) ht
  unfold Block.wakeTaken
  split
  · rfl
  · exact Block.posts_ite ((Block.posts_modNw ..).trans ((Block.posts_raise ..).trans (hconfirm _ _ hrecord))) (hconfirm _ _ hrecord)

theorem Block.posts_keyNow (i : Nat) (k : KeySlot) : (b.keyNow i k).posts = b.posts := by
  unfold Block.keyNow
  dsimp only
  split <;> rfl

@[simp] theorem Block.posts_loadBoot (otp : Otp) (m : MemSt) : (b.loadBoot otp m l).1.posts = b.posts := by
  unfold Block.loadBoot
  split
  · rfl
  · split
    · exact Block.posts_raise ..
    · dsimp only
      split
      · exact Block.posts_raise ..
      · split
        · exact Block.posts_raise ..
        · split
          · exact (Block.posts_raise ..).trans (Block.posts_keyNow ..)
          · split
            · exact (Block.posts_raise ..).trans (Block.posts_keyNow ..)
            · split
              · exact (Block.posts_raise ..).trans (Block.posts_keyNow ..)
              · exact Block.posts_keyNow ..

@[simp] theorem Block.posts_readyEvents : (b.readyEvents l).posts = b.posts := by
  have hdown (t : Block) (h : t.posts = b.posts) : ((t.modLane l fun x => { x with held := [], aonCause := none }).raise l 0
      (b.lane l).startCause l.num 0).posts = b.posts := by
    refine (Block.posts_raise ..).trans ((Block.posts_modLane _ _ _ ?_).trans h)
    exact fun _ => rfl
  unfold Block.readyEvents
  dsimp only
  split
  · exact hdown _ (Block.posts_of_untold (Block.untold_laneDownEvent ..))
  · exact hdown _ rfl

end Steps

/-! ## A lane enters state 4 (R274, R278, R281) -/

section InService

variable (b : Block) (l : Lane)

/-- The cipher's record stands when a lane leaves service. -/
theorem Block.leave_cipher (st : Nat) : (b.leave l st).cipher = b.cipher := by
  obtain ⟨links, mail, h⟩ := b.leave_eq l st
  have hevent := congrArg Block.cipher (Block.untold_raisedIf (b.stopped l st) (b.serves l = true) 18 2 l.num st)
  have hgone : (b.gone l st).cipher = b.cipher := hevent
  have happart : (b.apart l st).cipher = (b.gone l st).cipher := by
    unfold Block.apart
    split <;> rfl
  rw [h, ← hgone, ← happart]

/-- What the restart of the other lane leaves of a lane that is not taking its state, and of the module. -/
theorem Block.beginRestart_other (hst : (b.lane l).st ≠ 3) : ((b.beginRestart l.other).lane l).st = (b.lane l).st ∧
    ((b.beginRestart l.other).lane l).ready = (b.lane l).ready ∧ (b.beginRestart l.other).cipher = b.cipher ∧
    (b.beginRestart l.other).mod.resyncMs = b.mod.resyncMs ∧
    (b.mod.active = some l → (b.beginRestart l.other).mod.active = some l) := by
  unfold Block.beginRestart
  split
  · simp only [Block.handOver_lane, Block.lane_modLane_own]
    exact ⟨trivial, trivial, rfl, rfl, fun h => h⟩
  · let t := b.modLane l.other fun x => { x with startCause := 2, rolling := true, restartWaits := false }
    have hown : t.lane l.other.other = b.lane l := by rw [Lane.other_other]; exact Block.lane_modLane_own b l _
    have hleft := t.leave_other_st_of_ne l.other 0 (by rw [hown]; exact hst)
    have hready := t.leave_other_field l.other 0 LaneSt.ready
    rw [Block.restart_eq, Block.leave_cipher, Block.leave_mod]
    rw [hown, Lane.other_other] at hleft hready
    refine ⟨hleft, hready, rfl, rfl, fun h => ?_⟩
    have hne : b.mod.active ≠ some l.other := by rw [h]; cases l <;> decide
    exact (if_neg hne).trans h

/-- The lane that enters service, before what waited for it goes on. -/
def Block.entered : Block :=
  let t := b.modLane l fun x => { x with rolling := false, overdue := false, released := false, since := b.mod.epoch }
  let t := t.modLanes fun x => { x with expects := t.bothServe && x.st == 4 }
  t.modLanes fun x => { x with wetFull := !t.bothServe && x.st == 4 }

/-- Without an update under way a lane that enters service at most has the other one restart. -/
theorem Block.inService_eq (hact : b.activation = none) : ∃ mail, b.inService l = { b.entered l with mail := mail } ∨
    b.inService l = ({ b.entered l with mail := mail } : Block).beginRestart l.other := by
  let u := (b.entered l).finishWhere (fun e => match e.kind with | .laneRestart k => k == l | _ => false) .ok [] .none
  have hidle : u.activation = none := by
    rw [Block.activation, List.find?_eq_none, Block.finishWhere_pend]
    exact fun e he => List.find?_eq_none.mp hact e (List.mem_filter.mp he).1
  have hu : u = { b.entered l with mail := u.mail } := Block.finishWhere_beside ..
  have hin : b.inService l = if !u.activating && (u.lane l.other).restartWaits && u.serves l.other then u.beginRestart l.other else u := by
    show (let t := match u.activation with
      | some { kind := .updActivate _ _ _ (some c) _ _, .. } => if c = l then u.activateNext else u
      | _ => u
      if !t.activating && (t.lane l.other).restartWaits && t.serves l.other then t.beginRestart l.other else t) = _
    rw [hidle]
  rw [hin]
  refine ⟨u.mail, ?_⟩
  rw [← hu]
  split
  · exact .inr rfl
  · exact .inl rfl

/-- What entering service leaves of the lane and of the module. -/
theorem Block.inService_stands (hact : b.activation = none) (hst : (b.lane l).st ≠ 3) :
    ((b.inService l).lane l).st = (b.lane l).st ∧ ((b.inService l).lane l).ready = (b.lane l).ready ∧
    (b.inService l).cipher = b.cipher ∧ (b.inService l).mod.resyncMs = b.mod.resyncMs ∧
    (b.mod.active = some l → (b.inService l).mod.active = some l) := by
  obtain ⟨mail, h | h⟩ := b.inService_eq l hact
  · rw [h]
    cases l <;> exact ⟨rfl, rfl, rfl, rfl, fun h => h⟩
  · have hentered : ({ b.entered l with mail := mail } : Block).lane l = (b.entered l).lane l := rfl
    have hkeeps : ((b.entered l).lane l).st = (b.lane l).st ∧ ((b.entered l).lane l).ready = (b.lane l).ready := by
      cases l <;> exact ⟨rfl, rfl⟩
    obtain ⟨hst', hready, hcipher, hms, hactive⟩ :=
      ({ b.entered l with mail := mail } : Block).beginRestart_other l (by rw [hentered, hkeeps.1]; exact hst)
    rw [h]
    exact ⟨hst'.trans hkeeps.1, hready.trans hkeeps.2, hcipher, hms, hactive⟩

end InService

/-! ## Taking control (R78, R79, R155-R158) -/

section Control

variable (b : Block) (otp : Otp) (m : MemSt) (l : Lane)

/-- A lane in control: in service, with nothing of an earlier agreement left. -/
def LaneSt.controls (x : LaneSt) : LaneSt :=
  { x with st := 4, closeSeen := none, own := [], far := [], checks := [], farChecks := [], hashes := [], toFar := [] }

/-- The block of a lane that takes control, before it enters service. -/
def Block.controlled : Block :=
  let t := (b.fresh.modLane l LaneSt.controls).modMod fun y => { y with active := some l, activeSince := some b.mod.epoch }
  ((t.loadBank otp.codeAE l).fullBuckets.unlock l).raise l 18 1 l.num 4

/-- A lane takes control in these steps. -/
theorem Block.takeControl_eq : b.takeControl otp m l =
    let t := (b.controlled otp l).inService l
    let t := if t.configured then
        ((List.range 4).foldl (fun b d => if (b.die d).powered then b.takeOver d else b) t).compareStores l
      else t
    (t.wakeTaken l).loadBoot otp m l := rfl

/-- The lane that takes control. -/
theorem Block.controlled_stands : (b.controlled otp l).activation = none ∧ ((b.controlled otp l).lane l).st = 4 ∧
    ((b.controlled otp l).lane l).ready = (b.lane l).ready ∧ (b.controlled otp l).mod.active = some l := by
  let t := (b.fresh.modLane l LaneSt.controls).modMod fun y => { y with active := some l, activeSince := some b.mod.epoch }
  have hstands : (b.controlled otp l).postsAndMail = t.postsAndMail := by
    refine (Block.postsAndMail_raise ..).trans ((Block.postsAndMail_unlock ..).trans ?_)
    exact (show ((t.loadBank otp.codeAE l).fullBuckets).postsAndMail = (t.loadBank otp.codeAE l).postsAndMail from rfl).trans
      (Block.postsAndMail_loadBank ..)
  have hposts : (b.controlled otp l).posts = t.posts := congrArg (fun p => (p.1, p.2.1)) hstands
  have hmail : (b.controlled otp l).mail = t.mail := congrArg (fun p => p.2.2) hstands
  have hlane : t.lane l = (b.lane l).controls := Block.lane_modLane b.fresh l _
  have hpost := Block.post_of_posts hposts l
  have hst : ((b.controlled otp l).lane l).st = (t.lane l).st := congrArg Prod.fst hpost
  have hready : ((b.controlled otp l).lane l).ready = (t.lane l).ready := congrArg (fun p => p.2.1) hpost
  refine ⟨?_, by rw [hst, hlane]; rfl, by rw [hready, hlane]; rfl, Block.active_of_posts hposts⟩
  rw [Block.activation, hmail]
  rfl

/-- A lane that has taken control serves as the active lane. -/
theorem Block.takeControl_stands : ((b.takeControl otp m l).1.lane l).st = 4 ∧
    ((b.takeControl otp m l).1.lane l).ready = (b.lane l).ready ∧ (b.takeControl otp m l).1.mod.active = some l := by
  obtain ⟨hidle, hst, hready, hactive⟩ := b.controlled_stands otp l
  obtain ⟨gst, gready, -, -, gactive⟩ := (b.controlled otp l).inService_stands l hidle (by rw [hst]; decide)
  have hposts : (b.takeControl otp m l).1.posts = ((b.controlled otp l).inService l).posts := by
    rw [Block.takeControl_eq]
    dsimp only
    rw [Block.posts_loadBoot, Block.posts_wakeTaken]
    refine Block.posts_ite ((Block.posts_compareStores ..).trans ?_) rfl
    exact foldl_keeps (fun t : Block => t.posts = ((b.controlled otp l).inService l).posts) rfl
      fun t d ht => Block.posts_ite ((Block.posts_takeOver t d).trans ht) ht
  have hpost := Block.post_of_posts hposts l
  have hst' : ((b.takeControl otp m l).1.lane l).st = (((b.controlled otp l).inService l).lane l).st := congrArg Prod.fst hpost
  have hready' : ((b.takeControl otp m l).1.lane l).ready = (((b.controlled otp l).inService l).lane l).ready :=
    congrArg (fun p => p.2.1) hpost
  exact ⟨hst'.trans (gst.trans hst), hready'.trans (gready.trans hready), (Block.active_of_posts hposts).trans (gactive hactive)⟩

/-! ## Ready (R75, R79) -/

/-- The lane that is ready, before it takes control or waits for its pairing. -/
def Block.readied : Block := (b.modLane l fun x => { x with st := 2, ready := true }).acknowledges l

theorem Block.readied_own : ((b.readied l).lane l).st = 2 ∧ ((b.readied l).lane l).ready = true ∧
    (b.readied l).serves l.other = b.serves l.other ∧ (b.readied l).mod = b.mod := by
  unfold Block.readied Block.acknowledges
  cases l <;> dsimp only <;> split <;> exact ⟨rfl, rfl, rfl, rfl⟩

section Ready

variable {b l}
variable (hst : (b.lane l).st = 1) (hlife : b.keys.life = .production)

include hst hlife

/-- Reaching step 9 past its gate, the other lane not active since this epoch. -/
theorem Block.laneReady_eq (hsame : b.serves l.other = false ∨ b.mod.activeSince = none) :
    b.laneReady otp m l = if (b.readied l).serves l.other then
      let t := (b.readied l).readyEvents l
      let t := if t.bridge.link = 1 then t else t.modLane l fun x => { x with rolling := false }
      (if (t.lane l).defaults then t else t.compareStores l, m)
    else (((b.readied l).takeControl otp m l).1.readyEvents l, ((b.readied l).takeControl otp m l).2) := by
  obtain ⟨-, -, hserves, hmod⟩ := b.readied_own l
  have hnot : ¬(l == .a && (b.readied l).isActive .b && (b.readied l).serves .b &&
      (b.readied l).mod.activeSince == some (b.readied l).mod.epoch) = true := by
    cases l with
    | a =>
      rcases hsame with h | h
      · rw [show (b.readied .a).serves .b = false from hserves.trans h]
        simp
      · rw [hmod, h]
        simp
    | b => simp
  unfold Block.laneReady
  dsimp only
  rw [if_neg (by rw [hst, hlife]; decide)]
  exact congrArg (fun t : Block => if t.serves l.other then
      let t := t.readyEvents l
      let t := if t.bridge.link = 1 then t else t.modLane l fun x => { x with rolling := false }
      (if (t.lane l).defaults then t else t.compareStores l, m)
    else ((t.takeControl otp m l).1.readyEvents l, (t.takeControl otp m l).2)) (if_neg hnot)

/-- Ready with no lane in service, a lane takes control. -/
theorem Block.laneReady_alone (halone : b.serves l.other = false) : ((b.laneReady otp m l).1.lane l).st = 4 ∧
    (b.laneReady otp m l).1.mod.active = some l ∧ ((b.laneReady otp m l).1.lane l).ready = true := by
  obtain ⟨-, hready, hserves, -⟩ := b.readied_own l
  obtain ⟨gst, gready, gactive⟩ := (b.readied l).takeControl_stands otp m l
  have hposts := Block.posts_readyEvents ((b.readied l).takeControl otp m l).1 l
  have hpost := Block.post_of_posts hposts l
  rw [Block.laneReady_eq otp m hst hlife (.inl halone), hserves, halone, if_neg Bool.false_ne_true]
  have hst' : ((((b.readied l).takeControl otp m l).1.readyEvents l).lane l).st = (((b.readied l).takeControl otp m l).1.lane l).st :=
    congrArg Prod.fst hpost
  have hready' : ((((b.readied l).takeControl otp m l).1.readyEvents l).lane l).ready =
      (((b.readied l).takeControl otp m l).1.lane l).ready := congrArg (fun p => p.2.1) hpost
  exact ⟨hst'.trans gst, (Block.active_of_posts hposts).trans gactive, hready'.trans (gready.trans hready)⟩

/-- Ready with the other lane in service, a lane waits for its pairing. -/
theorem Block.laneReady_waits (hserving : b.serves l.other = true) (hsince : b.mod.activeSince = none) :
    ((b.laneReady otp m l).1.lane l).st = 2 ∧ ((b.laneReady otp m l).1.lane l).ready = true ∧
    (b.laneReady otp m l).1.mod.active = b.mod.active ∧ (b.laneReady otp m l).2 = m := by
  obtain ⟨gst, gready, hserves, hmod⟩ := b.readied_own l
  have hposts : (b.laneReady otp m l).1.posts = (b.readied l).posts := by
    rw [Block.laneReady_eq otp m hst hlife (.inr hsince), hserves, hserving, if_pos rfl]
    have hrolled : (if ((b.readied l).readyEvents l).bridge.link = 1 then (b.readied l).readyEvents l
        else ((b.readied l).readyEvents l).modLane l fun x => { x with rolling := false }).posts = (b.readied l).posts := by
      refine Block.posts_ite (Block.posts_readyEvents ..) ((Block.posts_modLane _ _ _ ?_).trans (Block.posts_readyEvents ..))
      exact fun _ => rfl
    exact Block.posts_ite hrolled ((Block.posts_compareStores ..).trans hrolled)
  have hpost := Block.post_of_posts hposts l
  have hst' : ((b.laneReady otp m l).1.lane l).st = ((b.readied l).lane l).st := congrArg Prod.fst hpost
  have hready' : ((b.laneReady otp m l).1.lane l).ready = ((b.readied l).lane l).ready := congrArg (fun p => p.2.1) hpost
  refine ⟨hst'.trans gst, hready'.trans gready, (Block.active_of_posts hposts).trans (congrArg ModuleSt.active hmod), ?_⟩
  rw [Block.laneReady_eq otp m hst hlife (.inr hsince), hserves, hserving, if_pos rfl]

end Ready

end Control

end Sys2Proof
end

section
/-! PROOF. A lane out of reset, its pairing and its resynchronisation (R75, R271-R274). Settles O41. The causes of a refused pairing
rest on log entry 25, what the cut takes over and its hold on log entries 26, 122 and 123. -/

namespace Sys2Proof

/-! ## Out of reset (R75 steps 4 to 8) -/

/-- The band of T30 (R64). -/
def bandOf (mv : Nat) : Nat := if mv < 9000 then 1 else if 36000 < mv then 3 else 2

/-- A lane that leaves reset. -/
def LaneSt.starts (env : StartEnv) (band : Nat) (x : LaneSt) : LaneSt :=
  { x with
    st := 1, hotHeld := false, device := env.device, xspiVcc := true, band := band, baseBand := satNat 2 band,
    railsLow := band == 1,
    tamperCode := (env.tamper.map (·.code)).getD (if x.latchedTamper.isSome then x.tamperCode else 0),
    glitchPresent := (env.tamper.map (!·.intrusion)).getD false || x.latchedTamper == some false,
    intrusionPresent := (env.tamper.map (·.intrusion)).getD false || x.latchedTamper == some true, latchedTamper := none }

theorem Block.posts_modKeys (b : Block) (f : KeySt → KeySt) : (b.modKeys f).posts = b.posts := rfl

section Starts

variable (b : Block) (life : Lifecycle) (l : Lane) (env : StartEnv)

/-- The block whose lane has left reset, its band told. -/
def Block.outOfReset : Block :=
  let t := (b.modKeys fun k => { k with life := life }).modLane l (LaneSt.starts env (bandOf b.mod.t30))
  let t := if bandOf b.mod.t30 = 1 then t.raise l 1 1 noSubject b.mod.t30
           else if bandOf b.mod.t30 = 3 then t.raise l 2 1 noSubject b.mod.t30 else t
  t.modBridge fun r => { r with link := if r.link = 0 then 2 else r.link }

theorem Block.outOfReset_untold : (b.outOfReset life l env).untold =
    ((((b.modKeys fun k => { k with life := life }).modLane l (LaneSt.starts env (bandOf b.mod.t30))).modBridge
      fun r => { r with link := if r.link = 0 then 2 else r.link })).untold := by
  unfold Block.outOfReset
  dsimp only
  let link : Block → Block := fun t => t.modBridge fun r => { r with link := if r.link = 0 then 2 else r.link }
  have hlink (t u : Block) (h : t.untold = u.untold) : (link t).untold = (link u).untold := congrArg link h
  refine hlink _ _ ?_
  split
  · exact Block.untold_raise ..
  · split
    · exact Block.untold_raise ..
    · rfl

/-- A field of the lane out of reset. -/
theorem Block.outOfReset_field {α : Type} (f : LaneSt → α) (hf : ∀ x : LaneSt, f x.unsent = f x) :
    f ((b.outOfReset life l env).lane l) = f ((b.lane l).starts env (bandOf b.mod.t30)) := by
  rw [Block.field_of_untold (b.outOfReset_untold life l env) l f hf]
  exact congrArg f (Block.lane_modLane (b.modKeys fun k => { k with life := life }) l _)

/-- The start of a lane from its boot image on (R75 steps 6 to 8). -/
def Block.afterBoot (found : Block × Bool) (otp : Otp) (l : Lane) (env : StartEnv) : Block :=
  let t := found.1.modStaging l fun s => { s with copying := false }
  if !found.2 then t.leave l 0
  else if otp.lifecycle = .blank then t.modMod fun m => { m with provision := true }
  else
    let t := t.modLane l fun x => { x with injectResult := env.injectFail }
    if env.injectFail ≠ 0 then ((t.laneFault l 6 0).modLane l fun x => { x with heldByFaults := true })
    else if !env.selfTestOk then t.staysInReset l
    else
      let t := t.modLane l fun x => { x with broken := 0 }
      let t := if otp.lifecycle = .fieldReturn then (t.breakPairs l 0x7F).testRootNow
               else if (t.lane l.other).broken = 0 then t.modKeys fun k => { k with testRoot := false } else t
      t.bootSteps otp.codeAE l env

/-- The boot code runs the image of the lane where none is staged. -/
theorem Block.bootImage_own {t : Block} {rollback : Nat} (hstaged : (t.lane l).staging.st ≠ .accepted)
    (hboots : (t.lane l).image.boots t.keys.life rollback = true) : t.bootImage l rollback = (t, true) := by
  unfold Block.bootImage
  dsimp only
  rw [if_neg hstaged, if_pos hboots]

variable {b l env} {otp : Otp}

/-- A start in PRODUCTION with an image to run, up to its self-tests. -/
theorem Block.laneStarts_eq (hst : (b.lane l).st = 0) (hvalid : b.mod.t30Valid = true) (hawake : b.nw.state ≠ 3)
    (hheld : (b.lane l).heldByFaults = false) (hasleep : (b.lane l).asleep = false) (hhot : (b.lane l).hotHeld = false)
    (hlife : otp.lifecycle = .production) (hstaged : (b.lane l).staging.st ≠ .accepted)
    (hboots : (b.lane l).image.boots .production (otp.rollback.get l) = true) (hinject : env.injectFail = 0) :
    b.laneStarts otp l env =
      let t := ((b.outOfReset .production l env).modStaging l fun s => { s with copying := false }).modLane l
        fun x => { x with injectResult := 0 }
      if env.selfTestOk = false then t.staysInReset l
      else
        let t := t.modLane l fun x => { x with broken := 0 }
        let t := if (t.lane l.other).broken = 0 then t.modKeys fun k => { k with testRoot := false } else t
        t.bootSteps otp.codeAE l env := by
  have hboot : (b.outOfReset .production l env).bootImage l (otp.rollback.get l) = (b.outOfReset .production l env, true) := by
    have hkeys : (b.outOfReset .production l env).keys.life = .production :=
      congrArg (fun t : Block => t.keys.life) (b.outOfReset_untold .production l env)
    refine Block.bootImage_own l ?_ ?_
    · rw [b.outOfReset_field .production l env (fun x => x.staging.st) fun _ => rfl]
      exact hstaged
    · rw [hkeys, b.outOfReset_field .production l env LaneSt.image fun _ => rfl]
      exact hboots
  have hgate : ¬(!b.mod.t30Valid || (b.lane l).st != 0 || b.nw.state == 3 || (b.lane l).heldByFaults || (b.lane l).asleep ||
      !(b.lane l).coolEnough) = true := by
    simp [hst, hvalid, hawake, hheld, hasleep, hhot, LaneSt.coolEnough]
  have hstarts : b.laneStarts otp l env =
      Block.afterBoot ((b.outOfReset otp.lifecycle l env).bootImage l (otp.rollback.get l)) otp l env := by
    unfold Block.laneStarts
    dsimp only
    rw [if_neg hgate, if_neg (by rw [hlife]; decide)]
    rfl
  rw [hstarts, hlife, hboot]
  unfold Block.afterBoot
  dsimp only
  rw [if_neg (by decide), if_neg (by rw [hlife]; decide), if_neg (not_not_intro hinject), hlife,
    if_neg (show ¬Lifecycle.production = .fieldReturn by decide), hinject]
  cases env.selfTestOk <;> rfl

section Results

variable (hst : (b.lane l).st = 0) (hvalid : b.mod.t30Valid = true) (hawake : b.nw.state ≠ 3)
    (hheld : (b.lane l).heldByFaults = false) (hasleep : (b.lane l).asleep = false) (hhot : (b.lane l).hotHeld = false)
    (hlife : otp.lifecycle = .production) (hstaged : (b.lane l).staging.st ≠ .accepted)
    (hboots : (b.lane l).image.boots .production (otp.rollback.get l) = true) (hinject : env.injectFail = 0)

include hst hvalid hawake hheld hasleep hhot hlife hstaged hboots hinject

/-- A lane that passed its self-tests is in state 1, its lockstep whole, in the band of T30. -/
theorem Block.laneStarts_runs (htest : env.selfTestOk = true) : ((b.laneStarts otp l env).lane l).st = 1 ∧
    ((b.laneStarts otp l env).lane l).broken = 0 ∧ ((b.laneStarts otp l env).lane l).band = bandOf b.mod.t30 := by
  let t := (((b.outOfReset .production l env).modStaging l fun s => { s with copying := false }).modLane l
    fun x => { x with injectResult := 0 }).modLane l fun x => { x with broken := 0 }
  have hposts : (b.laneStarts otp l env).posts = t.posts := by
    rw [Block.laneStarts_eq hst hvalid hawake hheld hasleep hhot hlife hstaged hboots hinject, htest]
    refine (Block.posts_bootSteps ..).trans ?_
    exact Block.posts_ite (Block.posts_modKeys ..) rfl
  have hpost := Block.post_of_posts hposts l
  have hlane : (t.lane l).st = ((b.outOfReset .production l env).lane l).st ∧ (t.lane l).broken = 0 ∧
      (t.lane l).band = ((b.outOfReset .production l env).lane l).band := by
    rw [Block.lane_modLane, Block.lane_modLane, Block.modStaging, Block.lane_modLane]
    exact ⟨rfl, rfl, rfl⟩
  have hst' : ((b.laneStarts otp l env).lane l).st = (t.lane l).st := congrArg Prod.fst hpost
  have hbroken : ((b.laneStarts otp l env).lane l).broken = (t.lane l).broken := congrArg (fun p => p.2.2.1) hpost
  have hband : ((b.laneStarts otp l env).lane l).band = (t.lane l).band := congrArg (fun p => p.2.2.2) hpost
  refine ⟨?_, hbroken.trans hlane.2.1, ?_⟩
  · rw [hst', hlane.1]
    exact b.outOfReset_field .production l env LaneSt.st fun _ => rfl
  · rw [hband, hlane.2.2]
    exact b.outOfReset_field .production l env LaneSt.band fun _ => rfl

/-- A lane whose self-test failed stays in reset. -/
theorem Block.laneStarts_fails (htest : env.selfTestOk = false) : ((b.laneStarts otp l env).lane l).st = 0 ∧
    ((b.laneStarts otp l env).lane l).heldByFaults = true := by
  rw [Block.laneStarts_eq hst hvalid hawake hheld hasleep hhot hlife hstaged hboots hinject]
  dsimp only
  rw [if_pos htest]
  unfold Block.staysInReset
  dsimp only
  rw [Block.field_of_untold (Block.untold_raise ..) l LaneSt.st, Block.field_of_untold (Block.untold_raise ..) l LaneSt.heldByFaults,
    Block.lane_modLane]
  exact ⟨Block.leave_st .., rfl⟩

end Results

/-- Without T30, or asleep, no lane starts. -/
theorem Block.laneStarts_off (h : b.mod.t30Valid = false ∨ b.nw.state = 3) : b.laneStarts otp l env = b := by
  unfold Block.laneStarts
  dsimp only
  rw [if_pos]
  rcases h with h | h <;> simp [h]

end Starts

/-! ## Pairing (R271, R279) -/

section Pairing

variable {b : Block} {l : Lane} {otp : Otp} {m : MemSt}

/-- A refused pairing holds the lane and is told by the lane in service. -/
theorem Block.pairingRefused_stands (b : Block) (l : Lane) (cause : Nat) :
    ((b.pairingRefused l cause).lane l).st = (b.lane l).st ∧ ((b.pairingRefused l cause).lane l).rolling = false ∧
    (b.runs l.other = true → (b.pairingRefused l cause).ev.items = b.ev.items ++ [b.evRec l.other 22 cause l.num 0]) := by
  unfold Block.pairingRefused
  rw [Block.lane_modLane]
  refine ⟨Block.field_of_untold (Block.untold_raise ..) l LaneSt.st, rfl, fun hruns => ?_⟩
  rw [Block.raise_running hruns]
  rfl

variable (hst : (b.lane l).st = 2) (hready : (b.lane l).ready = true) (hserving : b.serves l.other = true)
  (hlink : b.bridge.link = 1)

include hst hready hserving hlink

/-- A pairing whose exchange found something wrong. -/
theorem Block.pairs_refused {auth ident life : Bool} {cause : Nat} (hcause : (auth = false ∧ cause = 1) ∨
    (auth = true ∧ ident = false ∧ cause = 2) ∨ (auth = true ∧ ident = true ∧ life = false ∧ cause = 3)) :
    b.pairs otp m l ⟨auth, ident, life⟩ = (b.pairingRefused l cause, m) := by
  have hgate : ¬((b.lane l).st != 2 || !(b.lane l).ready || !b.serves l.other || b.bridge.link != 1) = true := by
    simp [hst, hready, hserving, hlink]
  unfold Block.pairs
  dsimp only
  rw [if_neg hgate]
  obtain ⟨rfl, rfl⟩ | ⟨rfl, rfl, rfl⟩ | ⟨rfl, rfl, rfl, rfl⟩ := hcause <;> rfl

/-- A lane of a level too far from its peer's, not at a cold start: refused and reported. -/
theorem Block.pairs_apart (hapart : levelsApart (b.lane l).image.level (b.lane l.other).image.level = true)
    (hcold : (b.lane l).startCause ≠ 0) : b.pairs otp m l ⟨true, true, true⟩ =
      ((b.pairingRefused l 4).raise l.other 46 0 l.num (b.lane l).image.level, m) := by
  have hgate : ¬((b.lane l).st != 2 || !(b.lane l).ready || !b.serves l.other || b.bridge.link != 1) = true := by
    simp [hst, hready, hserving, hlink]
  unfold Block.pairs
  dsimp only
  rw [if_neg hgate, if_neg (by decide), if_neg (by decide), if_neg (by decide), if_pos hapart,
    if_neg fun h => hcold h.1]

/-- A lane equal to its peer begins to take its state. -/
theorem Block.pairs_equal (hnear : levelsApart (b.lane l).image.level (b.lane l.other).image.level = false)
    (hdefaults : (b.lane l).defaults = (b.lane l.other).defaults)
    (hbanks : (b.lane l).defaults = true ∨ b.img.bank .a = b.img.bank .b) :
    b.pairs otp m l ⟨true, true, true⟩ = (b.beginResync l, m) := by
  have hgate : ¬((b.lane l).st != 2 || !(b.lane l).ready || !b.serves l.other || b.bridge.link != 1) = true := by
    simp [hst, hready, hserving, hlink]
  have hsame : ¬((b.lane l).defaults != (b.lane l.other).defaults ||
      (!(b.lane l).defaults && b.img.bank .a != b.img.bank .b)) = true := by
    rcases hbanks with h | h <;> simp [h, ← hdefaults]
  have hrepair : ¬((b.lane l.other).defaults && !(b.lane l).defaults) = true := by simp [hdefaults]
  unfold Block.pairs
  dsimp only
  rw [if_neg hgate, if_neg (by decide), if_neg (by decide), if_neg (by decide), if_neg (by rw [hnear]; decide), if_neg hrepair,
    if_neg hsame]

end Pairing

theorem Block.beginResync_lane (b : Block) (l : Lane) :
    ((b.beginResync l).lane l).st = 3 ∧ ((b.beginResync l).lane l).resyncStage = 1 := by
  cases l <;> exact ⟨rfl, rfl⟩

/-! ## Resynchronisation (R272-R274) -/

section Resync

variable {b : Block} {l : Lane} {m : MemSt} {n : Nat}

/-- The one lane that takes the state of the lane in service, at its stage. -/
theorem Block.atStage_of (hst : (b.lane l).st = 3) (hserving : b.serves l.other = true) (hlink : b.bridge.link = 1)
    (hstage : (b.lane l).resyncStage = n) : b.atStage n = some l := by
  have hother : (b.lane l.other).st = 4 := Block.st_of_serves hserving
  unfold Block.atStage
  cases l with
  | a => simp [hst, hserving, hlink, hstage]
  | b =>
    have ha : (b.lane .a).st = 4 := hother
    simp [hst, hserving, hlink, hstage, ha]

/-- No lane is at another stage. -/
theorem Block.atStage_none (hserving : b.serves l.other = true) (hstage : (b.lane l).resyncStage ≠ n) : b.atStage n = none := by
  have hother : (b.lane l.other).st = 4 := Block.st_of_serves hserving
  unfold Block.atStage
  cases l with
  | a =>
    have hb : (b.lane .b).st = 4 := hother
    simp [hstage, hb]
  | b =>
    have ha : (b.lane .a).st = 4 := hother
    simp [hstage, ha]

theorem Block.cutAsked_waits (holdUs : Nat) (hcopying : b.converged m = false) : b.cutAsked m l holdUs = b := by
  unfold Block.cutAsked
  rw [if_pos (by simp [hcopying])]

variable (hst : (b.lane l).st = 3) (hserving : b.serves l.other = true) (hlink : b.bridge.link = 1)

include hst hserving hlink

/-- The cut that is asked for. -/
theorem Block.cutAsked_asks (holdUs : Nat) (hstage : (b.lane l).resyncStage = 1) (hdone : b.converged m = true) :
    ((b.cutAsked m l holdUs).lane l).resyncStage = 2 ∧ (b.cutAsked m l holdUs).mod.cutHold = holdUs := by
  unfold Block.cutAsked
  rw [if_neg (by simp [hdone, Block.atStage_of hst hserving hlink hstage])]
  cases l <;> exact ⟨rfl, rfl⟩

/-- The cut that is over. -/
theorem Block.holdOver_over (ms : Nat) (hstage : (b.lane l).resyncStage = 3) :
    ((b.holdOver l ms).lane l).resyncStage = 4 ∧ (b.holdOver l ms).mod.cutMs = ms ∧ ((b.holdOver l ms).lane l).st = 3 := by
  have hlane : ((b.modLane l fun x => { x with resyncStage := 4 }).lane l) = { b.lane l with resyncStage := 4 } :=
    Block.lane_modLane ..
  unfold Block.holdOver
  rw [if_neg (by simp [Block.atStage_of hst hserving hlink hstage])]
  refine ⟨congrArg LaneSt.resyncStage hlane, rfl, (congrArg LaneSt.st hlane).trans hst⟩

/-- The lane that the cut reaches. -/
def LaneSt.cutFrom (a x : LaneSt) : LaneSt :=
  { x with
    resyncStage := 3, pairs := a.pairs.map PairSt.sent, log := a.log, logQueue := a.logQueue, sw := x.sw.joined a.sw,
    can := mapIdxFrom (fun i (c : CanCtl) => { c with tx := (a.ctl i).tx }) 0 x.can }

/-- The cut in its steps, the active lane's pairs idle. -/
theorem Block.cutNow_eq (hstage : (b.lane l).resyncStage = 2) (hidle : ∀ k < 7, ((b.lane l.other).lockPair k).fifo = []) :
    b.cutNow m =
      let t := (b.modLane l (LaneSt.cutFrom (b.lane l.other))).modMail
        fun y => { y with gov := y.gov.joined l, parts := y.parts.map fun w => w.joined l }
      (t.modMod fun y => { y with resyncHold := y.cutHold }, t.copyPass { m with sram := m.sram.set l (m.sram.get l.other) }) := by
  have hdrained : (List.range 7).foldl (fun b k => b.drainPair l.other k) b = b :=
    Block.drainPairs_idle _ fun k hk => hidle k (List.mem_range.mp hk)
  unfold Block.cutNow
  rw [Block.atStage_of hst hserving hlink hstage]
  dsimp only
  rw [hdrained, if_neg (by rw [hserving]; decide)]
  rfl

/-- The cut: pairs and memory of the active lane stand in the lane that takes its state, and the pairs are held. -/
theorem Block.cutNow_cuts (hstage : (b.lane l).resyncStage = 2) (hidle : ∀ k < 7, ((b.lane l.other).lockPair k).fifo = []) :
    ((b.cutNow m).1.lane l).resyncStage = 3 ∧ ((b.cutNow m).1.lane l).pairs = (b.lane l.other).pairs.map PairSt.sent ∧
    (b.cutNow m).2.sram.get l = m.sram.get l.other ∧ (b.cutNow m).1.mod.resyncHold = b.mod.cutHold ∧
    (b.cutNow m).1.pairsHeld = true := by
  let t := (b.modLane l (LaneSt.cutFrom (b.lane l.other))).modMail
    fun y => { y with gov := y.gov.joined l, parts := y.parts.map fun w => w.joined l }
  have hcut : b.cutNow m = (t.modMod fun y => { y with resyncHold := y.cutHold },
      t.copyPass { m with sram := m.sram.set l (m.sram.get l.other) }) := Block.cutNow_eq hst hserving hlink hstage hidle
  have hlane : t.lane l = LaneSt.cutFrom (b.lane l.other) (b.lane l) := Block.lane_modLane b l _
  have hother : t.serves l.other = true := by
    have hstands : t.lane l.other = b.lane l.other := Block.lane_modLane_other b l _
    rw [Block.serves, hstands]
    exact hserving
  have hthird : (t.lane l).resyncStage = 3 := congrArg LaneSt.resyncStage hlane
  have hpass : t.copyPass { m with sram := m.sram.set l (m.sram.get l.other) } =
      { m with sram := m.sram.set l (m.sram.get l.other), watch := none, dirty := [] } := by
    unfold Block.copyPass
    rw [Block.atStage_none (n := 1) hother (by rw [hthird]; decide), Block.atStage_none (n := 2) hother (by rw [hthird]; decide)]
    rfl
  rw [hcut, hpass]
  refine ⟨hthird, congrArg LaneSt.pairs hlane, PerLane.get_set .., rfl, ?_⟩
  have hheld : decide (3 ≤ (t.lane l).resyncStage) = true := by rw [hthird]; decide
  cases l with
  | a => exact Bool.or_eq_true_iff.mpr (.inl hheld)
  | b => exact Bool.or_eq_true_iff.mpr (.inr hheld)

/-- The block whose lane takes part again, before it is told. -/
def Block.rejoined (b : Block) (l : Lane) : Block :=
  let t := b.modLane l fun x =>
    { x with
      st := 4, resyncStage := 0, own := [], far := [], checks := [], farChecks := [], hashes := [], toFar := [], closeDue := none,
      can := x.can.map fun (c : CanCtl) => { c with countsFrom := b.mod.epoch } }
  let t := t.modLanes fun x => { x with closeSeen := some (b.mod.epoch - 1), missedClose := false }
  let t := t.modMod fun y => { y with resyncMs := satNat 65535 y.cutMs }
  { t with cipher := { t.cipher with logUsed := [], logFull := false } }

/-- The lane whose state stands again enters service at the first boundary after the hold. -/
theorem Block.resynced_serves (hstage : (b.lane l).resyncStage = 4) (hidle : b.activation = none) :
    ((b.resynced m).1.lane l).st = 4 ∧ (b.resynced m).1.mod.resyncMs = satNat 65535 b.mod.cutMs ∧
    (b.resynced m).1.cipher.logUsed = [] := by
  let u := b.rejoined l
  let v := (u.raiseAll 45 0 l.num b.mod.resyncHold).raiseAll 18 1 l.num 4
  have hresynced : (b.resynced m).1 = v.inService l := by
    unfold Block.resynced
    rw [Block.atStage_of hst hserving hlink hstage]
    rfl
  have htold : v.untold = u.untold := (Block.untold_raiseAll ..).trans (Block.untold_raiseAll ..)
  have hmail : v.mail = b.mail := by
    have h := Block.postsAndMail_raiseAll (u.raiseAll 45 0 l.num b.mod.resyncHold) 18 1 l.num 4
    have g := Block.postsAndMail_raiseAll u 45 0 l.num b.mod.resyncHold
    exact congrArg (fun p => p.2.2) (h.trans g)
  have hv : (v.lane l).st = 4 := by
    rw [Block.field_of_untold htold l LaneSt.st]
    cases l <;> rfl
  obtain ⟨gst, -, gcipher, gms, -⟩ := v.inService_stands l (by rw [Block.activation, hmail]; exact hidle) (by rw [hv]; decide)
  have htold' := congrArg Block.cipher htold
  have hcipher : v.cipher = u.cipher := htold'
  have hms := congrArg ModuleSt.resyncMs (Block.mod_of_untold htold)
  rw [hresynced]
  exact ⟨gst.trans hv, gms.trans hms, by rw [gcipher, hcipher]; rfl⟩

end Resync

end Sys2Proof

namespace Sys2Proof.Machine

/-- A start whose lane is not in state 1 afterwards leaves the memory. -/
theorem becomes_laneStart {l : Lane} {env : StartEnv} {s : State} {b' : Block} (h : s.b.laneStarts s.otp l env = b')
    (hst : (s.b.lane l).st = 0 → (b'.lane l).st ≠ 1) : Becomes (.laneStart l env) s b' := by
  show Host.Outcome.next _ = _
  rw [h, if_neg fun hboth => hst hboth.1 hboth.2]
  rfl

/-- A pairing that leaves the memory. -/
theorem becomes_lanePairing {l : Lane} {found : PairingFound} {s : State} {b' : Block}
    (h : s.b.pairs s.otp s.mem l found = (b', s.mem)) : Becomes (.lanePairing l found) s b' :=
  congrArg (fun p : Block × MemSt => Host.Outcome.next ((s.withBlock p.1).withMem p.2)) h

/-- Settles O41: a start, the readiness of a lane, its pairing, the cut and the end of the hold (log entries 25, 26, 122, 123). -/
theorem lanesStartAndRejoin : Obligations.LanesStartAndRejoin := by
  intro s l _
  refine ⟨fun env hst hvalid hawake hheld hasleep hhot hlife hstaged hboots hinject => ⟨fun htest => ?_, fun htest => ?_⟩,
    fun env hoff => ?_, fun hst hlife => ⟨fun halone => ?_, fun hserving hsince => ?_⟩,
    fun hserving => ⟨fun hst hready hlink => ⟨fun auth ident life cause hcause => ?_, fun hapart hcold => ?_,
      fun hnear hdefaults hbanks => ?_⟩, fun hst hlink => ⟨fun us hstage => ⟨fun hcopying => ?_, fun hdone => ?_⟩,
        fun hstage hidle => Block.cutNow_cuts hst hserving hlink hstage hidle, fun ms hstage => ?_,
        fun hstage hidle => Block.resynced_serves hst hserving hlink hstage hidle⟩⟩⟩
  · obtain ⟨hstarted, hbroken, hband⟩ :=
      Block.laneStarts_runs hst hvalid hawake hheld hasleep hhot hlife hstaged hboots hinject htest
    refine ⟨(s.withBlock (s.b.laneStarts s.otp l env)).withMem { s.mem with sram := s.mem.sram.set l [] }, ?_, hstarted, hbroken,
      hband, PerLane.get_set .., PerLane.get_set_other .., rfl, rfl⟩
    show Host.Outcome.next _ = _
    rw [if_pos ⟨hst, hstarted⟩]
  · obtain ⟨hreset, hkept⟩ := Block.laneStarts_fails hst hvalid hawake hheld hasleep hhot hlife hstaged hboots hinject htest
    exact ⟨_, becomes_laneStart rfl fun _ => by rw [hreset]; decide, hreset, hkept⟩
  · exact becomes_laneStart (Block.laneStarts_off hoff) fun h => by rw [h]; decide
  · obtain ⟨hserves, hactive, hready⟩ := Block.laneReady_alone s.otp s.mem hst hlife halone
    exact ⟨_, rfl, hserves, hactive, hready⟩
  · obtain ⟨hwaits, hready, hactive, hmem⟩ := Block.laneReady_waits s.otp s.mem hst hlife hserving hsince
    exact ⟨_, rfl, hwaits, hready, hactive, hmem⟩
  · obtain ⟨hstands, hrolling, hevent⟩ := s.b.pairingRefused_stands l cause
    exact ⟨_, becomes_lanePairing (Block.pairs_refused hst hready hserving hlink hcause), hstands.trans hst, hrolling, hevent⟩
  · obtain ⟨hstands, hrolling, -⟩ := s.b.pairingRefused_stands l 4
    refine ⟨_, becomes_lanePairing (Block.pairs_apart hst hready hserving hlink hapart hcold), ?_, ?_⟩
    · rw [Block.field_of_untold (Block.untold_raise ..) l LaneSt.st]
      exact hstands.trans hst
    · rw [Block.field_of_untold (Block.untold_raise ..) l LaneSt.rolling]
      exact hrolling
  · exact ⟨_, becomes_lanePairing (Block.pairs_equal hst hready hserving hlink hnear hdefaults hbanks), s.b.beginResync_lane l⟩
  · exact becomes_onBlock (show _ = execResyncCut l us s from rfl) (Block.cutAsked_waits us hcopying)
  · exact ⟨_, becomes_onBlock (show _ = execResyncCut l us s from rfl) rfl, Block.cutAsked_asks hst hserving hlink us hstage hdone⟩
  · exact ⟨_, becomes_onBlock (show _ = execResyncComplete l ms s from rfl) rfl, Block.holdOver_over hst hserving hlink ms hstage⟩

end Sys2Proof.Machine
end

section
/-! PROOF. Keys are loaded, replaced, evicted and destroyed (R450-R459). Settles O51. -/

namespace Sys2Proof

/-! ## What a heard request finds of the key store -/

section Heard

variable (b : Block) (q : Req)

@[simp] theorem Block.keys_heard : (b.heard q).keys = b.keys := by rw [Block.heard_eq]

@[simp] theorem Block.ownerFits_heard (i owner : Nat) : (b.heard q).ownerFits i owner = b.ownerFits i owner := by
  rw [Block.heard_eq]
  rfl

@[simp] theorem Block.keyLocked_heard (l : List Byte) : (b.heard q).keyLocked l = b.keyLocked l := by
  rw [Block.heard_eq]
  rfl

@[simp] theorem Block.keyGlitch_heard : (b.heard q).keyGlitch = b.keyGlitch := by
  rw [Block.heard_eq]
  rfl

@[simp] theorem Block.keyStale_heard (l : List Byte) : (b.heard q).keyStale l = b.keyStale l := by
  rw [Block.heard_eq]
  rfl

@[simp] theorem Block.slot_heard (i : Nat) : (b.heard q).slot i = b.slot i := by
  rw [Block.heard_eq]
  rfl

@[simp] theorem Block.done_heard : (b.heard q).mail.done = b.mail.done := by
  unfold Block.heard Block.setChallenge
  cases q.auth
  · rfl
  · cases q.path <;> rfl

@[simp] theorem Block.slotOccupied_heard (i : Nat) : (b.heard q).slotOccupied i = b.slotOccupied i := by
  unfold Block.slotOccupied
  rw [Block.slot_heard, Block.done_heard]

end Heard

/-! ## KEY_LOAD and KEY_REPLACE behind their checks (R452-R456) -/

theorem keyLen_le (n : Nat) : keyLen n ≤ 96 := by
  unfold keyLen
  split <;> decide

section Run

variable {b : Block} {q : Req} {op : Nat} {replace : Bool}

/-- A key request from check 8.3 on. -/
def Block.keyGoesOn (b : Block) (r : Req) (op : Nat) (replace : Bool) : Block :=
  let p := r.pay
  let i := fieldAt p 0 2
  let form1 := byteAt p 2 == 1
  let l := keyBody p
  if b.keyGlitch then b.reply r op .tamperAbort
  else if b.keyStale l then b.reply r op .staleGeneration
  else match (if form1 then b.keys.import l else b.keys.unwrap l) with
  | none =>
    let b := if replace then b.raiseAll 244 1 i 0 else b
    b.reply r op .badCheck
  | some key =>
    let k := keyOf l key
    let blob := if form1 then b.keys.wrap (l.take 16) key else []
    if !replace then
      if b.slotOccupied i then b.reply r op .busy
      else if form1 then b.hold r op (.keyImport i k blob) true
      else b.finish r op .ok (keyReply i []) (.keyLoad i k)
    else
      let old := b.slot i
      if 4 ≤ b.keys.shadows then b.reply r op .busy
      else if old.type = 0 ∨ old.type ≠ k.type ∨ old.owner ≠ k.owner ∨ old.uses ≠ k.uses then b.reply r op .badParam
      else
        let b := (b.modKeys fun s => { s with shadows := s.shadows + 1 }).modSlot i fun s => { s with replacing := true }
        b.hold r op (.keyReplace i k blob false) true

/-- A key request of its form, for a slot it may name and of the owner it must have, the tree unlocked. -/
theorem Block.runKey_past (hpay : keyPayOk q.pay = true)
    (hroom : 4 + (if (byteAt q.pay 2 == 1) = true then 48 + keyLen (byteAt (keyBody q.pay) 1) else 0) ≤ q.room)
    (hslot : slotAllows replace (fieldAt q.pay 0 2) = true)
    (howner : b.ownerFits (fieldAt q.pay 0 2) (byteAt (keyBody q.pay) 9) = true) (hlocked : b.keyLocked (keyBody q.pay) = false) :
    b.runKey q op replace = b.keyGoesOn q op replace := by
  unfold Block.runKey
  simp only [hpay, Block.check7_good, Block.needRoom_enough _ _ _ _ _ hroom]
  rw [if_neg (by rw [hslot]; decide), if_neg (by rw [howner]; decide), if_neg (by rw [hlocked]; decide)]
  rfl

theorem Block.keyGoesOn_glitch (h : b.keyGlitch = true) : b.keyGoesOn q op replace = b.reply q op .tamperAbort := if_pos h

variable (hglitch : b.keyGlitch = false)

include hglitch

theorem Block.keyGoesOn_stale (h : b.keyStale (keyBody q.pay) = true) : b.keyGoesOn q op replace = b.reply q op .staleGeneration := by
  unfold Block.keyGoesOn
  dsimp only
  rw [hglitch, if_neg Bool.false_ne_true, if_pos h]

variable (hstale : b.keyStale (keyBody q.pay) = false)

include hstale

/-- A blob that does not authenticate. -/
theorem Block.keyGoesOn_badCheck (hform : byteAt q.pay 2 = 0) (hkey : b.keys.unwrap (keyBody q.pay) = none) :
    b.keyGoesOn q op false = b.reply q op .badCheck := by
  unfold Block.keyGoesOn
  dsimp only
  rw [hglitch, hstale, if_neg Bool.false_ne_true, if_neg Bool.false_ne_true, hform]
  dsimp only [Nat.reduceBEq]
  rw [if_neg Bool.false_ne_true, hkey]
  rfl

variable {key : List Byte}

/-- A wrapped key whose slot is occupied. -/
theorem Block.keyGoesOn_busy (hform : byteAt q.pay 2 = 0) (hkey : b.keys.unwrap (keyBody q.pay) = some key)
    (hslot : b.slotOccupied (fieldAt q.pay 0 2) = true) : b.keyGoesOn q op false = b.reply q op .busy := by
  unfold Block.keyGoesOn
  dsimp only
  rw [hglitch, hstale, if_neg Bool.false_ne_true, if_neg Bool.false_ne_true, hform]
  dsimp only [Nat.reduceBEq]
  rw [if_neg Bool.false_ne_true, hkey]
  exact if_pos hslot

/-- A wrapped key that takes a free slot. -/
theorem Block.keyGoesOn_loads (hform : byteAt q.pay 2 = 0) (hkey : b.keys.unwrap (keyBody q.pay) = some key)
    (hslot : b.slotOccupied (fieldAt q.pay 0 2) = false) : b.keyGoesOn q op false =
      b.finish q op .ok (keyReply (fieldAt q.pay 0 2) []) (.keyLoad (fieldAt q.pay 0 2) (keyOf (keyBody q.pay) key)) := by
  unfold Block.keyGoesOn
  dsimp only
  rw [hglitch, hstale, if_neg Bool.false_ne_true, if_neg Bool.false_ne_true, hform]
  dsimp only [Nat.reduceBEq]
  rw [if_neg Bool.false_ne_true, hkey]
  exact if_neg (ne_true_of_eq_false hslot)

/-- A key in transit for a free slot goes on. -/
theorem Block.keyGoesOn_imports (hform : byteAt q.pay 2 = 1) (hkey : b.keys.import (keyBody q.pay) = some key)
    (hslot : b.slotOccupied (fieldAt q.pay 0 2) = false) : b.keyGoesOn q op false =
      b.hold q op (.keyImport (fieldAt q.pay 0 2) (keyOf (keyBody q.pay) key) (b.keys.wrap ((keyBody q.pay).take 16) key)) true := by
  unfold Block.keyGoesOn
  dsimp only
  rw [hglitch, hstale, if_neg Bool.false_ne_true, if_neg Bool.false_ne_true, hform]
  dsimp only [Nat.reduceBEq]
  rw [if_pos rfl, hkey]
  exact if_neg (ne_true_of_eq_false hslot)

/-- A replacement of a key by one of its type, owner and uses goes on, with a shadow register free. -/
theorem Block.keyGoesOn_replaces (hform : byteAt q.pay 2 = 0) (hkey : b.keys.unwrap (keyBody q.pay) = some key)
    (hshadows : b.keys.shadows < 4) (htype : (b.slot (fieldAt q.pay 0 2)).type ≠ 0)
    (hsame : (b.slot (fieldAt q.pay 0 2)).type = (keyOf (keyBody q.pay) key).type)
    (howner : (b.slot (fieldAt q.pay 0 2)).owner = (keyOf (keyBody q.pay) key).owner)
    (huses : (b.slot (fieldAt q.pay 0 2)).uses = (keyOf (keyBody q.pay) key).uses) : b.keyGoesOn q op true =
      ((b.modKeys fun s => { s with shadows := s.shadows + 1 }).modSlot (fieldAt q.pay 0 2)
        fun s => { s with replacing := true }).hold q op (.keyReplace (fieldAt q.pay 0 2) (keyOf (keyBody q.pay) key) [] false) true := by
  unfold Block.keyGoesOn
  dsimp only
  rw [hglitch, hstale, if_neg Bool.false_ne_true, if_neg Bool.false_ne_true, hform]
  dsimp only [Nat.reduceBEq]
  rw [if_neg Bool.false_ne_true, hkey]
  dsimp only
  rw [if_neg (by decide), if_neg (by omega), if_neg (by simp [hsame, howner, huses]; exact hsame ▸ htype)]
  rfl

end Run

/-! ## KEY_EVICT and KEY_DESTROY (R458, R459) -/

section Destroy

variable {b : Block} {q : Req}

/-- An eviction of its form. -/
theorem Block.runEvict_past (hlen : q.pay.length = 4) (hzeros : zerosAt q.pay 2 2 = true) {i : Nat} (hi : fieldAt q.pay 0 2 = i)
    (hrange : i ≤ 255) (hlife : b.keys.life ≠ .retired) : b.runEvict q =
      if 254 ≤ i then b.reply q 0x7004 .denied else b.finish q 0x7004 .ok [] (.keyEvict i) := by
  have hgood : (q.pay.length == 4 && decide (fieldAt q.pay 0 2 ≤ 255) && zerosAt q.pay 2 2) = true := by
    simp [hlen, hi, hrange, hzeros]
  unfold Block.runEvict
  simp only [hgood, Block.check7_good]
  rw [hi, if_neg (show ¬(b.keys.life == .retired) = true by simpa using hlife)]

/-- A destruction of its form. -/
theorem Block.runDestroy_past {left : Bool} (hlen : q.pay.length = 4) (hzeros : zerosAt q.pay 1 3 = true) (hroom : 4 ≤ q.room) {n : Nat}
    (hn : byteAt q.pay 0 = n) (hnode : n = 2 ∨ tenantNode n = true) (hlife : b.keys.life ≠ .retired) :
    b.runDestroy left q = if left = true then
      (b.modKeys fun k => { k with gens := setAt k.gens n (b.keys.gen n + 1) }).finish q 0x7003 .ok
        (leBytes 2 (b.keys.gen n + 1).toNat ++ zeroBytes 2) (.keyDestroy n)
    else b.reply q 0x7003 .locked := by
  have hgood : (q.pay.length == 4 && zerosAt q.pay 1 3) = true := by simp [hlen, hzeros]
  have hin : ¬(!(n == 2 || tenantNode n)) = true := by rcases hnode with h | h <;> simp [h]
  unfold Block.runDestroy
  simp only [hgood, Block.check7_good, Block.needRoom_enough _ _ _ _ _ hroom]
  rw [hn, if_neg hin]
  cases left with
  | true => rw [if_neg (by simpa using hlife), if_pos rfl]
  | false => rw [if_pos (by simp), if_neg Bool.false_ne_true]

/-- The block in which a heard destruction of a node has advanced its generation and is answered. -/
def Block.destroys (b : Block) (q : Req) (n : Nat) : Block :=
  ((b.heard q).modKeys fun k => { k with gens := setAt k.gens n (b.keys.gen n + 1) }).finish q 0x7003 .ok
    (leBytes 2 (b.keys.gen n + 1).toNat ++ zeroBytes 2) (.keyDestroy n)

theorem Block.destroys_spec (b : Block) (q : Req) (n : Nat) (hroom : 4 ≤ q.room) :
    (b.destroys q n).keys.gens = setAt b.keys.gens n (b.keys.gen n + 1) ∧
    q.response 0x7003 .ok (leBytes 2 (b.keys.gen n + 1).toNat ++ zeroBytes 2) (.keyDestroy n) ∈ (b.destroys q n).mail.done := by
  obtain ⟨copies, recent, hb, -⟩ := Block.finish_answered ((b.heard q).modKeys fun k => { k with gens := setAt k.gens n (b.keys.gen n + 1) })
    q 0x7003 .ok (leBytes 2 (b.keys.gen n + 1).toNat ++ zeroBytes 2) (.keyDestroy n) hroom rfl
  unfold Block.destroys
  rw [hb]
  refine ⟨?_, List.mem_append_right _ (List.mem_cons_self ..)⟩
  show setAt (b.heard q).keys.gens n _ = _
  rw [Block.keys_heard]

/-- The next generation stands in its place. -/
theorem KeySt.gen_set {k : KeySt} {n : Nat} (hn : n < k.gens.length) (g : Half) : ({ k with gens := setAt k.gens n g } : KeySt).gen n = g :=
  updAt_getD_same _ _ _ _ hn

/-- A node that has advanced leaves another table of generations. -/
theorem gens_advanced_ne {k : KeySt} {n : Nat} (hn : n < k.gens.length) : setAt k.gens n (k.gen n + 1) ≠ k.gens := by
  intro h
  have hgen : k.gen n + 1 = k.gen n := by
    rw [← KeySt.gen_set hn (k.gen n + 1)]
    exact congrArg (fun gs : List Half => gs.getD n 0) h
  bv_omega

end Destroy

/-! ## Key operations end (R453, R456, R457) -/

section KeyDone

variable {b : Block} {e : Pend} {k : KeySlot} {blob : List Byte} {i : Nat}

/-- The one pending request is answered and none pends. -/
theorem Block.finishWhere_single {sel : Pend → Bool} {st : Status} {pay : List Byte} {eff : Effect} (hpend : b.mail.pend = [e])
    (hsel : sel e = true) : (b.finishWhere sel st pay eff).mail.pend = [] ∧
      e.req.answer e.opcode st pay eff true true ∈ (b.finishWhere sel st pay eff).mail.done := by
  refine ⟨?_, Block.finishWhere_done _ _ _ (by rw [hpend]; exact List.mem_singleton_self e) hsel⟩
  rw [Block.finishWhere_pend, hpend]
  simp [hsel]

/-- A pending request selects itself. -/
theorem Pend.selects_self (e : Pend) : (e.req == e.req && e.kind == e.kind) = true := by simp

/-- An import that is done completes. -/
theorem Block.keyDone_import (hpend : b.mail.pend = [e]) (hkind : e.kind = .keyImport i k blob) : (b.keyDone i).mail.pend = [] ∧
    e.req.answer e.opcode .ok (keyReply i blob) (.keyLoad i k) true true ∈ (b.keyDone i).mail.done := by
  have hdone : b.keyDone i =
      b.finishWhere (fun x => x.req == e.req && x.kind == e.kind) .ok (keyReply i blob) (.keyLoad i k) := by
    unfold Block.keyDone
    rw [hpend]
    simp [hkind]
  rw [hdone]
  exact Block.finishWhere_single hpend e.selects_self

/-- A replacement whose self-test ran: the kind that waits for the boundary, or its end. -/
theorem Block.keyDone_replace (hpend : b.mail.pend = [e]) (hkind : e.kind = .keyReplace i k blob false) : b.keyDone i =
    if Config.selfTestOk k.material then
      b.modMail fun m => { m with pend := m.pend.map fun x =>
        if x.req == e.req && x.kind == e.kind then { x with kind := .keyReplace i k blob true } else x }
    else ((b.shadowFree i).raiseAll 244 2 i 0).finishWhere (fun x => x.req == e.req && x.kind == e.kind) .badCheck [] .none := by
  unfold Block.keyDone
  rw [hpend]
  simp [hkind]

/-- A passed self-test. -/
theorem Block.keyDone_passed (hpend : b.mail.pend = [e]) (hkind : e.kind = .keyReplace i k blob false)
    (htest : Config.selfTestOk k.material = true) : (b.keyDone i).mail.pend = [{ e with kind := .keyReplace i k blob true }] := by
  rw [Block.keyDone_replace hpend hkind, if_pos htest]
  show b.mail.pend.map _ = _
  rw [hpend]
  simp

/-- A failed one ends the replacement and frees its shadow register. -/
theorem Block.keyDone_failed (hpend : b.mail.pend = [e]) (hkind : e.kind = .keyReplace i k blob false)
    (htest : Config.selfTestOk k.material = false) : (b.keyDone i).mail.pend = [] ∧
      (b.keyDone i).keys.shadows = b.keys.shadows - 1 ∧
      e.req.answer e.opcode .badCheck [] .none true true ∈ (b.keyDone i).mail.done := by
  obtain ⟨lanes, evs, hraise⟩ := Block.raiseAll_frame (b.shadowFree i) 244 2 i 0
  have hpend' : ((b.shadowFree i).raiseAll 244 2 i 0).mail.pend = [e] := by
    rw [hraise]
    exact hpend
  rw [Block.keyDone_replace hpend hkind, if_neg (ne_true_of_eq_false htest)]
  obtain ⟨hgone, hdone⟩ := Block.finishWhere_single (sel := fun x => x.req == e.req && x.kind == e.kind) (st := .badCheck)
    (pay := []) (eff := .none) hpend' e.selects_self
  refine ⟨hgone, ?_, hdone⟩
  rw [Block.finishWhere_keys, hraise]
  rfl

/-- Without pending requests no operation ends. -/
theorem Block.keyDone_idle (hpend : b.mail.pend = []) : b.keyDone i = b := by
  unfold Block.keyDone
  rw [hpend]
  rfl

/-- The boundary of a replacement: the new key stands in its slot. -/
theorem Block.keySwaps_swaps (hlen : b.keys.slots.length = 256) (hpend : b.mail.pend = [e]) (hkind : e.kind = .keyReplace i k blob true)
    (hi : i < 240) : b.keySwaps.slot i = k ∧ b.keySwaps.mail.pend = [] := by
  have hnow (t : Block) : t.keyNow i k = t.modSlot i fun _ => k := by
    unfold Block.keyNow
    exact if_neg (by omega)
  have hswaps : b.keySwaps = ((b.shadowFree i).modSlot i fun _ => k).finishWhere (fun x => x.req == e.req && x.kind == e.kind) .ok
      (keyReply i blob) .none := by
    unfold Block.keySwaps
    rw [hpend, List.foldl_cons, List.foldl_nil, hkind, ← hnow]
  have hpend' : ((b.shadowFree i).modSlot i fun _ => k).mail.pend = [e] := hpend
  have hslots : i < (b.shadowFree i).keys.slots.length := by
    show i < (updAt b.keys.slots i _).length
    rw [updAt_length, hlen]
    omega
  rw [hswaps]
  refine ⟨?_, (Block.finishWhere_single hpend' e.selects_self).1⟩
  exact (congrArg (fun ks : KeySt => ks.slots.getD i KeySlot.empty) (Block.finishWhere_keys ..)).trans
    (Block.slot_modSlot (b.shadowFree i) i (fun _ => k) hslots)

end KeyDone

end Sys2Proof

namespace Sys2Proof.Machine

section KeyDestroy

variable {s : State} {q : Req}

/-- A destruction that stores its generation counts in one-time memory. -/
theorem keyDestroy_next {b' : Block} (h : s.b.serve 0x7003 q (fun b => b.runDestroy (decide (s.otp.destroyed < 1024)) q) = b') :
    exec (.keyDestroy q) s = .next ((s.withBlock b').withOtp
      { s.otp with destroyed := if b'.keys.gens = s.b.keys.gens then s.otp.destroyed else s.otp.destroyed + 1 }) :=
  congrArg (fun b : Block => Host.Outcome.next ((s.withBlock b).withOtp
    { s.otp with destroyed := if b.keys.gens = s.b.keys.gens then s.otp.destroyed else s.otp.destroyed + 1 })) h

end KeyDestroy

/-- Settles O51: the checks of a key request in their order, a destruction, an eviction and the ends of key operations. -/
theorem keysAreLoadedAndDestroyed : Obligations.KeysAreLoadedAndDestroyed := by
  intro s q hslots hgens
  refine ⟨fun i hi hpay hslot howner hlocked hpass hroom => ?_, fun i key hi hpay hform hslot howner hlocked hglitch hstale hkey hpass
    hroom hshadows hrange htype hsame howns huses => ?_, fun n hn hlen hzeros hroom hnode hpass hlife => ?_,
    fun i hi hlen hzeros hpass hlife => ?_, fun slot e k blob hpend => ?_, fun hpend slot => ?_⟩
  · subst hi
    have hneed : 4 + (if (byteAt q.pay 2 == 1) = true then 48 + keyLen (byteAt (keyBody q.pay) 1) else 0) ≤ q.room := by
      have := keyLen_le (byteAt (keyBody q.pay) 1)
      split <;> omega
    have hrun : (s.b.heard q).runKey q 0x7001 false = (s.b.heard q).keyGoesOn q 0x7001 false :=
      Block.runKey_past hpay hneed hslot (by simpa using howner) (by simpa using hlocked)
    refine ⟨fun hglitch => answersFrom_of _ rfl hpass ?_, fun hglitch hstale => answersFrom_of _ rfl hpass ?_,
      fun hglitch hstale => ⟨fun hform => ⟨fun hbad => answersFrom_of _ rfl hpass ?_, fun key hkey =>
        ⟨fun hfull => answersFrom_of _ rfl hpass ?_, fun hfree => answersFrom_of _ rfl hpass ?_⟩⟩,
        fun hform key hkey hfree => holdsFrom_of _ rfl hpass ?_⟩⟩
    all_goals rw [hrun]
    · rw [Block.keyGoesOn_glitch (by simpa using hglitch)]
      exact Block.reply_answered _ _ _ _ rfl
    · rw [Block.keyGoesOn_stale (by simpa using hglitch) (by simpa using hstale)]
      exact Block.reply_answered _ _ _ _ rfl
    · rw [Block.keyGoesOn_badCheck (by simpa using hglitch) (by simpa using hstale) hform (by simpa using hbad)]
      exact Block.reply_answered _ _ _ _ rfl
    · rw [Block.keyGoesOn_busy (by simpa using hglitch) (by simpa using hstale) hform (by simpa using hkey) (by simpa using hfull)]
      exact Block.reply_answered _ _ _ _ rfl
    · rw [Block.keyGoesOn_loads (by simpa using hglitch) (by simpa using hstale) hform (by simpa using hkey) (by simpa using hfree)]
      exact Block.finish_answered _ _ _ _ _ _ (show 4 ≤ q.room by omega) rfl
    · rw [Block.keyGoesOn_imports (by simpa using hglitch) (by simpa using hstale) hform (by simpa using hkey) (by simpa using hfree),
        Block.keys_heard]
      exact Block.hold_held ..
  · subst hi
    have hrun : (s.b.heard q).runKey q 0x7002 true = (s.b.heard q).keyGoesOn q 0x7002 true :=
      Block.runKey_past hpay (by rw [hform]; exact hroom) hslot (by simpa using howner) (by simpa using hlocked)
    refine ⟨((s.b.heard q).modKeys fun s => { s with shadows := s.shadows + 1 }).modSlot (fieldAt q.pay 0 2)
      fun s => { s with replacing := true }, holdsFrom_of _ rfl hpass ?_, ?_, ?_⟩
    · rw [hrun, Block.keyGoesOn_replaces (by simpa using hglitch) (by simpa using hstale) hform (by simpa using hkey)
        (by simpa using hshadows) (by simpa using htype) (by simpa using hsame) (by simpa using howns) (by simpa using huses)]
      exact Block.hold_held ..
    · show (s.b.heard q).keys.shadows + 1 = _
      rw [Block.keys_heard]
    · rw [Block.slot_modSlot _ _ _ (by show _ < (s.b.heard q).keys.slots.length; rw [Block.keys_heard, hslots]; exact hrange)]
      show ({ (s.b.heard q).slot _ with replacing := true } : KeySlot) = _
      rw [Block.slot_heard]
  · have hserve : s.b.serve 0x7003 q (fun b => b.runDestroy (decide (s.otp.destroyed < 1024)) q) =
        if decide (s.otp.destroyed < 1024) = true then s.b.destroys q n else (s.b.heard q).reply q 0x7003 .locked := by
      rw [Block.serve_passes _ _ _ _ hpass, Block.runDestroy_past hlen hzeros hroom hn hnode (by rw [Block.keys_heard]; exact hlife),
        Block.keys_heard]
      rfl
    have hin : n < s.b.keys.gens.length := by
      have hle : n = 2 ∨ n ≤ 40 := hnode.imp_right fun h => by simp [tenantNode] at h; omega
      omega
    refine ⟨fun hleft => ?_, fun hspent => ?_⟩
    · rw [if_pos (decide_eq_true hleft)] at hserve
      obtain ⟨hgens', hdone⟩ := s.b.destroys_spec q n hroom
      refine ⟨_, keyDestroy_next hserve, ?_, ?_, hdone⟩
      · show (s.b.destroys q n).keys.gens.getD n 0 = _
        rw [hgens']
        exact KeySt.gen_set hin _
      · show (if (s.b.destroys q n).keys.gens = s.b.keys.gens then s.otp.destroyed else s.otp.destroyed + 1) = _
        rw [hgens', if_neg (gens_advanced_ne hin)]
    · rw [if_neg (by rw [decide_eq_false (by omega)]; decide)] at hserve
      obtain ⟨copies, recent, hb, -⟩ := Block.reply_answered (s.b.heard q) q 0x7003 .locked rfl
      have hkeys : ((s.b.heard q).reply q 0x7003 .locked).keys = s.b.keys := by
        rw [hb]
        exact Block.keys_heard ..
      refine ⟨_, keyDestroy_next hserve, ?_, hkeys, ?_⟩
      · show ({ s.otp with destroyed := if ((s.b.heard q).reply q 0x7003 .locked).keys.gens = s.b.keys.gens then s.otp.destroyed
          else s.otp.destroyed + 1 } : Otp) = s.otp
        rw [hkeys, if_pos rfl]
      · show _ ∈ ((s.b.heard q).reply q 0x7003 .locked).mail.done
        rw [hb]
        exact List.mem_append_right _ (List.mem_cons_self ..)
  · have hrun := fun h => Block.runEvict_past (b := s.b.heard q) hlen hzeros hi h (by rw [Block.keys_heard]; exact hlife)
    refine ⟨fun hlow => answersFrom_of _ rfl hpass ?_, fun htop => answersFrom_of _ rfl hpass ?_⟩
    · rw [hrun (by omega), if_neg (by omega)]
      exact Block.finish_answered _ _ _ _ _ _ (Nat.zero_le _) rfl
    · rw [hrun (by omega), if_pos (by omega)]
      exact Block.reply_answered _ _ _ _ rfl
  · refine ⟨fun hkind => ?_, fun hkind => ?_, fun hkind hi => Block.keySwaps_swaps hslots hpend hkind hi⟩
    · exact ⟨_, becomes_onBlock (show _ = execKeyOperationDone slot s from rfl) rfl, Block.keyDone_import hpend hkind⟩
    · exact ⟨_, becomes_onBlock (show _ = execKeyOperationDone slot s from rfl) rfl, Block.keyDone_passed hpend hkind,
        Block.keyDone_failed hpend hkind⟩
  · exact becomes_onBlock (show _ = execKeyOperationDone slot s from rfl) (Block.keyDone_idle hpend)

end Sys2Proof.Machine
end

section
/-! PROOF. Tamper alarms and the life cycle (R460-R466). Settles O52. -/

namespace Sys2Proof

/-! ## Alarms (R463, R464) -/

section Alarm

variable {b : Block} {e : Nat}

/-- An alarm outside sleep. -/
theorem Block.tamper_awake (b : Block) (l : Lane) (k : TamperKind) (hawake : b.nw.state ≠ 3) :
    (b.tamper l k).keys.alarms = satNat 0xFFFFFFFF (b.keys.alarms + 1) ∧ (b.tamper l k).keys.cause = k.code ∧
    ((b.tamper l k).lane l).tamperCode = k.code ∧ (b.tamper l k).keys.pendingAlarm.isSome = true ∧
    (b.tamper l k).keys.slots = b.keys.slots := by
  unfold Block.tamper
  dsimp only
  split
  · next hasleep => exact absurd hasleep hawake
  · refine ⟨rfl, rfl, by cases l <;> rfl, ?_, rfl⟩
    show Option.isSome (match b.keys.pendingAlarm with | some (j, e) => some (k.intrusion || j, e) | none => _) = true
    cases b.keys.pendingAlarm <;> rfl

/-- The key store without its slots and shadow registers. -/
def KeySt.beside (k : KeySt) : KeySt := { k with slots := [], shadows := 0 }

/-- Freeing shadow registers changes the slots' marks and the registers alone. -/
theorem Block.shadowsFree_spec (b : Block) (is : List Nat) : (is.foldl Block.shadowFree b).keys.beside = b.keys.beside ∧
    (is.foldl Block.shadowFree b).keys.slots.length = b.keys.slots.length ∧ (is.foldl Block.shadowFree b).mod = b.mod :=
  foldl_keeps (fun t : Block => t.keys.beside = b.keys.beside ∧ t.keys.slots.length = b.keys.slots.length ∧ t.mod = b.mod)
    ⟨rfl, rfl, rfl⟩ fun _ _ ⟨hbeside, hlen, hmod⟩ => ⟨hbeside, (updAt_length ..).trans hlen, hmod⟩

/-- Key operations that end in an alarm leave the store but for their marks. -/
theorem Block.keysAbort_spec (b : Block) : b.keysAbort.keys.beside = b.keys.beside ∧
    b.keysAbort.keys.slots.length = b.keys.slots.length := by
  unfold Block.keysAbort
  dsimp only
  rw [show ∀ (t : Block) (f : MailSt → MailSt), (t.modMail f).keys = t.keys from fun _ _ => rfl, Block.finishWhere_keys]
  exact ⟨(b.shadowsFree_spec _).1, (b.shadowsFree_spec _).2.1⟩

/-- Loading a slot of Ottum's own changes that slot alone. -/
theorem Block.ownLoad_spec (b : Block) (i : Nat) (ack : Bool) : (b.ownLoad i ack).keys.beside = b.keys.beside ∧
    (b.ownLoad i ack).lanes = b.lanes ∧ ∀ j, j ≠ i → (b.ownLoad i ack).slot j = b.slot j := by
  unfold Block.ownLoad
  split
  · exact ⟨rfl, rfl, fun j hj => Block.slot_modSlot_other _ _ _ _ hj⟩
  · exact ⟨rfl, rfl, fun _ _ => rfl⟩

theorem Block.raiseAll_keys (b : Block) (ev cause subject : Nat) (detail : Int) :
    (b.raiseAll ev cause subject detail).keys = b.keys := by
  obtain ⟨lanes, evs, h⟩ := Block.raiseAll_frame b ev cause subject detail
  rw [h]

/-- The slots that an intrusion wipes. -/
def wipedSlots (ss : List KeySlot) : List KeySlot := mapIdxFrom (fun i s => if i < 254 then KeySlot.empty else s) 0 ss

theorem getElem?_mapIdxFrom {α β : Type} (f : Nat → α → β) (l : List α) (n i : Nat) :
    (mapIdxFrom f n l)[i]? = l[i]?.map (f (n + i)) := by
  induction l generalizing n i with
  | nil => rfl
  | cons x xs ih =>
    cases i with
    | zero => rfl
    | succ i =>
      rw [mapIdxFrom, List.getElem?_cons_succ, List.getElem?_cons_succ, ih, Nat.add_right_comm, Nat.add_assoc]

theorem wipedSlots_getD (ss : List KeySlot) {i : Nat} (hi : i < 254) : (wipedSlots ss).getD i KeySlot.empty = KeySlot.empty := by
  rw [wipedSlots, List.getD_eq_getElem?_getD, getElem?_mapIdxFrom, Nat.zero_add]
  cases ss[i]? with
  | none => rfl
  | some x => exact if_pos hi

/-- The key store once an intrusion-class alarm has ended what runs and wiped the slots. -/
def Block.intruded (b : Block) : Block :=
  ((b.keysAbort.modKeys fun k => { k with pendingAlarm := none }).finishWhere
    (fun x => match x.kind with | .cipher .. => true | _ => false) .tamperAbort [] .none).modKeys fun k =>
      { k with blocked := true, state := 3, slots := wipedSlots k.slots }

theorem Block.intruded_keys (b : Block) : b.intruded.keys =
    { b.keysAbort.keys with pendingAlarm := none, blocked := true, state := 3, slots := wipedSlots b.keysAbort.keys.slots } := by
  have hfinish := Block.finishWhere_keys (b.keysAbort.modKeys fun k => { k with pendingAlarm := none })
    (fun x => match x.kind with | .cipher .. => true | _ => false) .tamperAbort [] .none
  exact congrArg (fun k : KeySt => { k with blocked := true, state := 3, slots := wipedSlots k.slots }) hfinish

/-- The boundary of an intrusion-class alarm. -/
theorem Block.alarmNow_intrusion (halarm : b.keys.pendingAlarm = some (true, e)) (hdue : e < b.mod.epoch) :
    b.alarmNow.keys.blocked = true ∧ b.alarmNow.keys.state = 3 ∧ b.alarmNow.keys.pendingAlarm = none ∧
    ∀ i < 240, b.alarmNow.slot i = KeySlot.empty := by
  have hnow : b.alarmNow.keys = (b.intruded.ownLoad 240 true).keys := by
    unfold Block.alarmNow
    rw [halarm]
    dsimp only
    rw [if_neg (Nat.not_le_of_lt hdue), if_pos rfl, Block.raiseAll_keys]
    rfl
  obtain ⟨hbeside, -, hslots⟩ := b.intruded.ownLoad_spec 240 true
  rw [Block.intruded_keys] at hbeside
  rw [hnow]
  refine ⟨(congrArg KeySt.blocked hbeside), (congrArg KeySt.state hbeside), (congrArg KeySt.pendingAlarm hbeside), fun i hi => ?_⟩
  have hslot : b.alarmNow.slot i = (b.intruded.ownLoad 240 true).slot i := congrArg (fun k : KeySt => k.slots.getD i KeySlot.empty) hnow
  rw [hslot, hslots i (by omega)]
  show b.intruded.keys.slots.getD i KeySlot.empty = _
  rw [Block.intruded_keys]
  exact wipedSlots_getD _ (by omega)

/-- The boundary of a glitch-class alarm. -/
theorem Block.alarmNow_glitch (halarm : b.keys.pendingAlarm = some (false, e)) (hdue : e < b.mod.epoch) (hready : b.keys.state = 0) :
    b.alarmNow.keys.state = 1 ∧ b.alarmNow.keys.blocked = b.keys.blocked := by
  obtain ⟨hbeside, -⟩ := b.keysAbort_spec
  have hsame := congrArg KeySt.state hbeside
  have hstate : b.keysAbort.keys.state = 0 := hsame.trans hready
  unfold Block.alarmNow
  rw [halarm]
  dsimp only
  rw [if_neg (Nat.not_le_of_lt hdue), if_neg Bool.false_ne_true, Block.raiseAll_keys]
  have hblocked := congrArg KeySt.blocked hbeside
  exact ⟨if_pos hstate, hblocked⟩

/-! ## Glitches clear, and TAMPER_ACK (R464, R466) -/

theorem Block.raiseAll_glitches (b : Block) (ev cause subject : Nat) (detail : Int) (k : Lane) :
    ((b.raiseAll ev cause subject detail).lane k).glitchPresent = (b.lane k).glitchPresent :=
  Block.field_of_untold (Block.untold_raiseAll ..) k LaneSt.glitchPresent

/-- A suspended service goes on. -/
theorem Block.glitchOver_resumes (hstate : b.keys.state = 1) :
    b.glitchOver.keys.state = 0 ∧ ∀ k, (b.glitchOver.lane k).glitchPresent = false := by
  have hover : b.glitchOver = ((b.modLanes fun x => { x with glitchPresent := false }).modKeys fun k =>
      { k with state := 0 }).raiseAll 242 1 noSubject 0 := by
    unfold Block.glitchOver
    dsimp only
    rw [Block.modLanes_keys, hstate]
    rfl
  rw [hover]
  refine ⟨by rw [Block.raiseAll_keys]; rfl, fun k => ?_⟩
  rw [Block.raiseAll_glitches]
  cases k <;> rfl

theorem Block.glitchOver_ready (hstate : b.keys.state = 0) : b.glitchOver.keys = b.keys := by
  unfold Block.glitchOver
  dsimp only
  rw [Block.modLanes_keys, hstate]
  exact Block.modLanes_keys ..

/-- Loads are not blocked and no intrusion stands. -/
def Block.Unblocked (b : Block) : Prop := b.keys.blocked = false ∧ ∀ k, (b.lane k).intrusionPresent = false

theorem Block.Unblocked.raiseAll (h : b.Unblocked) (ev cause subject : Nat) (detail : Int) :
    (b.raiseAll ev cause subject detail).Unblocked := by
  refine ⟨by rw [Block.raiseAll_keys]; exact h.1, fun k => ?_⟩
  rw [Block.field_of_untold (Block.untold_raiseAll ..) k LaneSt.intrusionPresent]
  exact h.2 k

theorem Block.Unblocked.ownLoad (h : b.Unblocked) (i : Nat) (ack : Bool) : (b.ownLoad i ack).Unblocked := by
  obtain ⟨hbeside, hlanes, -⟩ := b.ownLoad_spec i ack
  have hblocked := congrArg KeySt.blocked hbeside
  refine ⟨Eq.trans hblocked h.1, fun k => ?_⟩
  rw [Block.lane, hlanes]
  exact h.2 k

theorem Block.Unblocked.ownLoads (h : b.Unblocked) (is : List Nat) : (is.foldl (fun b i => b.ownLoad i false) b).Unblocked :=
  foldl_keeps Block.Unblocked h fun _ i ht => ht.ownLoad i false

theorem Block.Unblocked.ownKeys (h : b.Unblocked) : b.ownKeys.Unblocked := ⟨h.1, h.2⟩

/-- A change of the key store that does not block loads. -/
theorem Block.Unblocked.modKeys (h : ∀ k, (b.lane k).intrusionPresent = false) (f : KeySt → KeySt) (hf : (f b.keys).blocked = false) :
    (b.modKeys f).Unblocked := ⟨hf, h⟩

theorem Block.Unblocked.unlockKeys (h : b.Unblocked) : b.unlockKeys.Unblocked := by
  unfold Block.unlockKeys
  split
  · exact h
  · split
    · exact Block.Unblocked.raiseAll (.modKeys h.2 _ h.1) ..
    · have hloads := Block.Unblocked.ownLoads (b := b.modKeys fun k =>
        { k with state := 0, tableOk := true, unlocked := true, blocked := false }) (.modKeys h.2 _ rfl) [240, 241, 252, 253]
      exact hloads.ownKeys

/-- What TAMPER_ACK does at visibility: loads are unblocked and no intrusion stands. -/
theorem Block.ackNow_unblocks (b : Block) : b.ackNow.Unblocked := by
  have hclear : ∀ k, ((b.modLanes fun x => { x with intrusionPresent := false }).lane k).intrusionPresent = false := fun k => by
    cases k <;> rfl
  have hglitch (t : Block) (ht : t.Unblocked) (q : Prop) [Decidable q] :
      (if q then t.modKeys fun k => { k with state := 1 } else t).Unblocked := by
    split
    · exact .modKeys ht.2 _ ht.1
    · exact ht
  unfold Block.ackNow
  dsimp only
  split
  · next hfree => exact ⟨by simpa using hfree, hclear⟩
  · refine Block.Unblocked.raiseAll (hglitch _ ?_ _) ..
    split
    · exact Block.Unblocked.ownLoads (.modKeys hclear _ rfl) _
    · exact Block.Unblocked.unlockKeys (.modKeys hclear _ rfl)

end Alarm

/-! ## TAMPER_ACK and the life cycle (R460, R461, R466) -/

section Life

variable {b : Block} {q : Req}

/-- TAMPER_ACK where no monitor has seen an intrusion. -/
theorem Block.runTamperAck_past (hlen : q.pay.length = 4) (hone : byteAt q.pay 0 = 1) (hzeros : zerosAt q.pay 1 3 = true)
    (hseen : ∀ k, (b.lane k).intrusionPresent = false) : b.runTamperAck q = b.finish q 0x7005 .ok [] .tamperAck := by
  have hgood : (q.pay.length == 4 && byteAt q.pay 0 == 1 && zerosAt q.pay 1 3) = true := by simp [hlen, hone, hzeros]
  unfold Block.runTamperAck
  simp only [hgood, Block.check7_good, hseen]
  rfl

theorem Block.runLifecycle_past (hlen : q.pay.length = 4) (hrange : byteAt q.pay 0 ≤ 4) (hzeros : zerosAt q.pay 1 3 = true) :
    b.runLifecycle q = if lifeStep b.keys.life (byteAt q.pay 0) then b.hold q 0x8020 (.lifecycle (byteAt q.pay 0)) true
      else b.reply q 0x8020 .locked := by
  have hgood : (q.pay.length == 4 && decide (byteAt q.pay 0 ≤ 4) && zerosAt q.pay 1 3) = true := by simp [hlen, hrange, hzeros]
  unfold Block.runLifecycle
  simp only [hgood, Block.check7_good]

/-- The state that a single pending LIFECYCLE_SET writes. -/
theorem Block.lifeTarget_single {e : Pend} {n : Nat} (hpend : b.mail.pend = [e]) (hkind : e.kind = .lifecycle n) :
    b.lifeTarget = lifecycleOf? n := by
  unfold Block.lifeTarget
  rw [hpend]
  simp only [List.findSome?_cons, hkind, List.findSome?_nil]
  cases lifecycleOf? n <;> rfl

theorem Block.lifeTarget_none (hpend : b.mail.pend = []) : b.lifeTarget = none := by
  unfold Block.lifeTarget
  rw [hpend]
  rfl

/-- Both writes complete: the request is answered. -/
theorem Block.lifeWritten_answers {e : Pend} {n : Nat} {t : Lifecycle} (hpend : b.mail.pend = [e]) (hkind : e.kind = .lifecycle n)
    (htarget : lifecycleOf? n = some t) : b.lifeWritten.mail.pend = [] ∧
      e.req.answer e.opcode .ok [] .lifeRestart true true ∈ b.lifeWritten.mail.done := by
  have hsel : (match e.kind with | .lifecycle _ => true | _ => false) = true := by rw [hkind]
  unfold Block.lifeWritten
  rw [Block.lifeTarget_single hpend hkind, htarget]
  dsimp only
  split
  · exact Block.finishWhere_single (b := { b with dies := _ }) hpend hsel
  · exact Block.finishWhere_single hpend hsel

theorem Block.lifeWritten_idle (hpend : b.mail.pend = []) : b.lifeWritten = b := by
  unfold Block.lifeWritten
  rw [Block.lifeTarget_none hpend]

end Life

end Sys2Proof

namespace Sys2Proof.Machine

/-- Settles O52: alarms and their boundary, the end of a glitch, TAMPER_ACK and the steps of the life cycle. -/
theorem alarmsAndLifeCycle : Obligations.AlarmsAndLifeCycle := by
  intro s q l
  refine ⟨fun k hawake => ?_, fun e halarm hdue _ => Block.alarmNow_intrusion halarm hdue,
    fun e halarm hdue hready => Block.alarmNow_glitch halarm hdue hready, fun hstate => ?_, fun hstate => ?_,
    fun hpass hlen hone hzeros hseen => answersFrom_of _ rfl hpass ?_, s.b.ackNow_unblocks,
    fun hpass hlen hrange hzeros => ⟨fun hstep => holdsFrom_of _ rfl hpass ?_, fun hstep => answersFrom_of _ rfl hpass ?_⟩,
    fun e n t hpend hkind htarget => ?_, fun hpend => ?_⟩
  · exact ⟨_, becomes_onBlock (show _ = execTamperAlarm l k s from rfl) rfl, s.b.tamper_awake l k hawake⟩
  · exact ⟨_, becomes_onBlock (show _ = execGlitchClear s from rfl) rfl, Block.glitchOver_resumes hstate⟩
  · exact ⟨_, becomes_onBlock (show _ = execGlitchClear s from rfl) rfl, Block.glitchOver_ready hstate⟩
  · have hlane (k : Lane) : (s.b.heard q).lane k = s.b.lane k := by
      rw [Block.heard_eq]
      rfl
    rw [Block.runTamperAck_past hlen hone hzeros fun k => by rw [hlane]; exact hseen k]
    exact Block.finish_answered _ _ _ _ _ _ (Nat.zero_le _) rfl
  · rw [Block.runLifecycle_past hlen hrange hzeros, Block.keys_heard, if_pos hstep]
    exact Block.hold_held ..
  · rw [Block.runLifecycle_past hlen hrange hzeros, Block.keys_heard, if_neg (ne_true_of_eq_false hstep)]
    exact Block.reply_answered _ _ _ _ rfl
  · obtain ⟨hgone, hdone⟩ := Block.lifeWritten_answers hpend hkind htarget
    refine ⟨(s.withBlock s.b.lifeWritten).withOtp { s.otp with lifecycle := t }, ?_, rfl, hgone, hdone⟩
    show Host.Outcome.next _ = _
    rw [Block.lifeTarget_single hpend hkind, htarget]
  · show Host.Outcome.next _ = _
    rw [Block.lifeTarget_none hpend, Block.lifeWritten_idle hpend]
    rfl

end Sys2Proof.Machine
end

section
/-! PROOF. What ends at the bridge: completions, lines, locks and fences (R429, R433, R436, R438, R440). Settles O45. -/

namespace Sys2Proof

/-! ## A pair of a lane -/

section Pair

variable {b : Block} {l : Lane} {k : Nat}

theorem Block.pair_modPair (hk : k < (b.lane l).pairs.length) (f : PairSt → PairSt) :
    ((b.modLane l fun x => x.modPair k f).lane l).pair k = f ((b.lane l).pair k) := by
  rw [Block.lane_modLane]
  exact updAt_getD_same _ _ _ _ hk

theorem Block.pairs_modPair (f : PairSt → PairSt) :
    ((b.modLane l fun x => x.modPair k f).lane l).pairs.length = (b.lane l).pairs.length := by
  rw [Block.lane_modLane]
  exact updAt_length ..

theorem Block.broken_modPair (f : PairSt → PairSt) :
    ((b.modLane l fun x => x.modPair k f).lane l).broken = (b.lane l).broken := by
  rw [Block.lane_modLane]
  rfl

/-- A pair but for its budget interrupt. -/
def PairSt.plain (p : PairSt) : PairSt := { p with budgetIrq := false }

/-- From `b` to `t` a pair may take its budget interrupt; the lane's broken pairs and the bridge stand. -/
def Block.PairStands (b t : Block) (l : Lane) (k : Nat) : Prop :=
  ((t.lane l).pair k).plain = ((b.lane l).pair k).plain ∧ (t.lane l).broken = (b.lane l).broken ∧ t.bridge = b.bridge ∧
    (t.lane l).pairs.length = (b.lane l).pairs.length

theorem Block.PairStands.refl (b : Block) (l : Lane) (k : Nat) : b.PairStands b l k := ⟨rfl, rfl, rfl, rfl⟩

/-- An instruction that is charged changes a pair by its budget interrupt alone (R145). -/
theorem Block.charged_stands (hk : k < (b.lane l).pairs.length) (g : Nat) (virt : Bool) :
    b.PairStands (b.charged l k g virt) l k := by
  have htrap : b.PairStands (b.modLane l fun x => x.modPair k fun y => { y with budgetIrq := true }) l k :=
    ⟨by rw [Block.pair_modPair hk]; rfl, Block.broken_modPair _, rfl, Block.pairs_modPair _⟩
  unfold Block.charged
  dsimp only
  split
  · unfold Block.budgetTrap
    dsimp only
    split
    · exact htrap
    · exact htrap
  · exact .refl ..

/-- A retirement that waits for no comparison leaves what the pair's access ended in and its lines, and the bridge. -/
theorem Block.retires_ended (hk : k < (b.lane l).pairs.length) (hroom : ((b.lane l).pair k).fifo.length < 2) (t : Token) :
    (((b.retires l k t false).lane l).pair k).result = ((b.lane l).pair k).result ∧
    (((b.retires l k t false).lane l).pair k).lines = ((b.lane l).pair k).lines ∧ (b.retires l k t false).bridge = b.bridge := by
  have hends (f : PairSt → PairSt) (g : Nat) (hresult : (f ((b.lane l).pair k)).result = ((b.lane l).pair k).result)
      (hlines : (f ((b.lane l).pair k)).lines = ((b.lane l).pair k).lines) :
      let u := (b.modLane l fun x => x.modPair k f).charged l k g t.virt
      ((u.lane l).pair k).result = ((b.lane l).pair k).result ∧ ((u.lane l).pair k).lines = ((b.lane l).pair k).lines ∧
        u.bridge = b.bridge := by
    obtain ⟨hplain, -, hbridge, -⟩ := Block.charged_stands (b := b.modLane l fun x => x.modPair k f) (k := k) (l := l)
      (by rw [Block.pairs_modPair]; exact hk) g t.virt
    rw [Block.pair_modPair hk] at hplain
    have hres := congrArg PairSt.result hplain
    have hlin := congrArg PairSt.lines hplain
    exact ⟨Eq.trans hres hresult, Eq.trans hlin hlines, hbridge⟩
  unfold Block.retires
  dsimp only
  split
  · exact hends _ _ rfl rfl
  · rw [PairSt.retire_room hroom]
    dsimp only
    rw [if_neg (by simp)]
    exact hends (fun _ => ((b.lane l).pair k).retired t) _ rfl rfl

theorem Block.setResult_pair (hk : k < (b.lane l).pairs.length) (r : AccResult) :
    ((b.setResult l k r).lane l).pair k = { (b.lane l).pair k with result := r, waits := none } := Block.pair_modPair hk _

theorem Block.setResult_pairs (r : AccResult) : ((b.setResult l k r).lane l).pairs.length = (b.lane l).pairs.length :=
  Block.pairs_modPair _

/-- A counter of the bridge leaves the lanes. -/
theorem Block.brCount_lanes (b : Block) (l : Lane) (f : BridgeSt → BridgeSt) : (b.brCount l f).lanes = b.lanes := by
  unfold Block.brCount
  split <;> rfl

/-- Lines that go leave the others. -/
theorem Block.dropLines_pair (hk : k < (b.lane l).pairs.length) (sel : PrefLine → Bool) :
    ((b.dropLines l k sel).lane l).pair k =
      { (b.lane l).pair k with lines := ((b.lane l).pair k).lines.filter fun y => !sel y } := by
  unfold Block.dropLines
  dsimp only
  split
  · next hnone =>
    have hkept : ((b.lane l).pair k).lines.filter (fun y => !sel y) = ((b.lane l).pair k).lines := by
      rw [List.filter_eq_self]
      intro y hy
      have hempty := List.eq_nil_of_length_eq_zero hnone
      simpa using List.filter_eq_nil_iff.mp hempty y hy
    rw [hkept]
  · rw [Block.lane, Block.brCount_lanes]
    exact Block.pair_modPair hk _

theorem Block.dropLines_pairs (sel : PrefLine → Bool) :
    ((b.dropLines l k sel).lane l).pairs.length = (b.lane l).pairs.length := by
  unfold Block.dropLines
  dsimp only
  split
  · rfl
  · rw [Block.lane, Block.brCount_lanes]
    exact Block.pairs_modPair _

end Pair

/-! ## What ends at the bridge -/

section Ends

variable {b : Block} {l : Lane} {k : Nat}

/-- A rate-limited event leaves the bridge. -/
theorem Block.raiseLimited_bridge (b : Block) (key : Nat) (l : Lane) (ev cause subject : Nat) (detail : Int) :
    (b.raiseLimited key l ev cause subject detail).bridge = b.bridge := by
  obtain ⟨lanes, evs, h⟩ := Block.raise_frame b l ev cause subject detail
  unfold Block.raiseLimited
  dsimp only
  rw [h]
  repeat' split
  all_goals rfl

/-- Without lines to take a pair's buffer stands empty. -/
theorem Block.holdLines_none (hlines : ((b.lane l).pair k).lines = []) :
    b.holdLines l k [] = b.modLane l fun x => x.modPair k fun p => { p with lines := [] } := by
  unfold Block.holdLines
  dsimp only
  rw [hlines]
  rfl

/-- A read collected in order: its bytes are at the core, and it has left the bridge. -/
theorem Block.completes_collected (hk : k < (b.lane l).pairs.length) (hroom : ((b.lane l).pair k).fifo.length < 2) {r : BridgeRead}
    {rest : List BridgeRead} (hreads : b.bridge.reads.get l = r :: rest) (hpair : r.pair.val = k) (hkept : r.abandoned = false)
    (hfetched : r.lines = []) (hlines : ((b.lane l).pair k).lines = []) :
    (((b.completes l k true).lane l).pair k).result = .done r.data ∧ (b.completes l k true).bridge.reads.get l = rest := by
  let t := b.modBridge fun x => { x with reads := x.reads.upd l (·.erase r) }
  let u := (t.setResult l k (.done r.data)).modLane l fun x => x.modPair k fun p => { p with lines := [] }
  have hset : ((t.setResult l k (.done r.data)).lane l).pair k =
      { (b.lane l).pair k with result := .done r.data, waits := none } := Block.setResult_pair (b := t) hk _
  have hin : k < ((t.setResult l k (.done r.data)).lane l).pairs.length := by
    rw [Block.setResult_pairs]
    exact hk
  have hu : (u.lane l).pair k = { (b.lane l).pair k with result := .done r.data, waits := none, lines := [] } := by
    rw [Block.pair_modPair hin, hset]
  have hcompletes : b.completes l k true = u.accRetires l k (u.readToken l r) false := by
    unfold Block.completes
    rw [hreads, List.find?_cons_of_pos (by simpa using hpair)]
    dsimp only
    rw [if_pos (by rw [hkept]; rfl), hfetched,
      Block.holdLines_none (by rw [hset]; exact hlines)]
  have hretires : u.accRetires l k (u.readToken l r) false =
      u.retires l k { u.readToken l r with load := BitVec.ofNat 64 (leNat r.data), scOk := true } false := by
    unfold Block.accRetires
    rw [hu]
  obtain ⟨hresult, -, hbridge⟩ := Block.retires_ended (b := u) (l := l) (k := k)
    (by rw [Block.pairs_modPair]; exact hin) (by rw [hu]; exact hroom)
    { u.readToken l r with load := BitVec.ofNat 64 (leNat r.data), scOk := true }
  rw [hcompletes, hretires]
  refine ⟨by rw [hresult, hu], ?_⟩
  rw [hbridge]
  show (b.bridge.reads.upd l (·.erase r)).get l = rest
  rw [PerLane.get_upd, hreads, List.erase_cons_head]

theorem Block.completes_none (hreads : b.bridge.reads.get l = []) (collected : Bool) : b.completes l k collected = b := by
  unfold Block.completes
  rw [hreads]
  rfl

/-- The completion that times out. -/
theorem Block.timesOut_spec (b : Block) (l : Lane) (t : List BridgeRead) :
    let u := ((b.modBridge fun r => { r with uncollected := r.uncollected.set l t }).brCount l fun r =>
      { r with discards := satNat 0xFFFFFFFF (r.discards + 1) }).bridgeEvent l 2
    u.bridge.uncollected.get l = t ∧ (b.act = l → u.bridge.discards = satNat 0xFFFFFFFF (b.bridge.discards + 1)) := by
  dsimp only
  rw [Block.bridgeEvent, Block.raiseLimited_bridge, Block.brCount]
  have hact : (b.modBridge fun r => { r with uncollected := r.uncollected.set l t }).act = b.act := rfl
  rw [hact]
  split
  · exact ⟨PerLane.get_set .., fun _ => rfl⟩
  · next hother => exact ⟨PerLane.get_set .., fun h => absurd h hother⟩

/-- A fence, made outside the hold of a cut. -/
def Block.fenced (b : Block) (l : Lane) (k : Nat) (order : FenceOrder) : Block :=
  let t := if order.reads then b.dropLines l k (fun _ => true) else b
  if order.writes then t.setResult l k (.done []) else t

theorem Block.fenced_pairs (order : FenceOrder) : ((b.fenced l k order).lane l).pairs.length = (b.lane l).pairs.length := by
  unfold Block.fenced
  dsimp only
  cases order.reads <;> cases order.writes <;> simp [Block.setResult_pairs, Block.dropLines_pairs]

/-- What a fence discards and completes. -/
theorem Block.fenced_pair (hk : k < (b.lane l).pairs.length) (order : FenceOrder) :
    ((b.fenced l k order).lane l).pair k =
      let p := (b.lane l).pair k
      let p := if order.reads then { p with lines := [] } else p
      if order.writes then { p with result := .done [], waits := none } else p := by
  have hdropped : ((if order.reads then b.dropLines l k (fun _ => true) else b).lane l).pair k =
      if order.reads then { (b.lane l).pair k with lines := [] } else (b.lane l).pair k := by
    cases order.reads with
    | false => rfl
    | true =>
      have hnone : ((b.lane l).pair k).lines.filter (fun _ => !true) = [] := List.filter_eq_nil_iff.mpr fun _ _ => by decide
      exact (Block.dropLines_pair hk fun _ => true).trans (congrArg (fun ls => { (b.lane l).pair k with lines := ls }) hnone)
  have hin : k < ((if order.reads then b.dropLines l k (fun _ => true) else b).lane l).pairs.length := by
    cases order.reads with
    | false => exact hk
    | true => simpa [Block.dropLines_pairs] using hk
  unfold Block.fenced
  dsimp only
  cases order.writes with
  | false => exact hdropped
  | true => simpa [hdropped] using Block.setResult_pair hin (.done [])

/-- The fence retires; what it discarded and completed stands. -/
theorem Block.fence_retires (hk : k < (b.lane l).pairs.length) (hroom : ((b.lane l).pair k).fifo.length < 2) (order : FenceOrder)
    (t : Token) : (((((b.fenced l k order).retires l k t false)).lane l).pair k).result = (((b.fenced l k order).lane l).pair k).result ∧
      (((((b.fenced l k order).retires l k t false)).lane l).pair k).lines = (((b.fenced l k order).lane l).pair k).lines := by
  have hfifo : (((b.fenced l k order).lane l).pair k).fifo = ((b.lane l).pair k).fifo := by
    rw [Block.fenced_pair hk]
    cases order.reads <;> cases order.writes <;> rfl
  obtain ⟨hresult, hlines, -⟩ := Block.retires_ended (b := b.fenced l k order) (l := l) (k := k)
    (by rw [Block.fenced_pairs]; exact hk) (by rw [hfifo]; exact hroom) t
  exact ⟨hresult, hlines⟩

end Ends

end Sys2Proof
namespace Sys2Proof.Machine

/-- Settles O45: completions, the life of lines and locks, timeouts and fences. -/
theorem bridgeOperationsEnd : Obligations.BridgeOperationsEnd := by
  intro s l k hlen hroom
  have hk : k.val < (s.b.lane l).pairs.length := hlen.symm ▸ k.isLt
  refine ⟨fun r rest hreads hpair hkept hfetched hlines => ?_, fun hreads c => ?_, fun y t hlines hothers => ?_, fun hlines => ?_,
    fun h htoken => ?_, fun htoken => ?_, fun r t huncollected => ?_, fun hheld virt o => ?_, fun hfree virt o => ?_⟩
  · exact ⟨_, becomes_onBlock (show _ = execBridgeCompletion l k true s from rfl) rfl,
      Block.completes_collected hk hroom hreads (congrArg Fin.val hpair) hkept hfetched hlines⟩
  · exact becomes_onBlock (show _ = execBridgeCompletion l k c s from rfl) (Block.completes_none hreads c)
  · refine ⟨s.b.dropLines l k.val fun z => z.addr == y.addr, becomes_onBlock (show _ = execPrefetchLifeExpiry l k s from rfl) ?_, ?_⟩
    · rw [hlines]
    · rw [Block.dropLines_pair hk, hlines]
      have hkeeps : t.filter (fun z => !(z.addr == y.addr)) = t :=
        List.filter_eq_self.mpr fun z hz => by simpa using hothers z hz
      simpa using hkeeps
  · refine becomes_onBlock (show _ = execPrefetchLifeExpiry l k s from rfl) ?_
    rw [hlines]
  · obtain ⟨k', pr, line⟩ := h
    refine ⟨(s.b.modBridge fun r => { r with token := none, expired := satNat 0xFFFFFFFF (r.expired + 1) }).bridgeEvent k'.other 1,
      becomes_onBlock (show _ = execLockExpiry s from rfl) ?_, ?_⟩
    · rw [htoken]
    · rw [Block.bridgeEvent, Block.raiseLimited_bridge]
      exact ⟨rfl, rfl⟩
  · refine becomes_onBlock (show _ = execLockExpiry s from rfl) ?_
    rw [htoken]
  · refine ⟨_, becomes_onBlock (show _ = execCompletionTimeout l s from rfl) ?_, s.b.timesOut_spec l t⟩
    rw [huncollected]
  · exact becomes_onBlock (show _ = execFence l k virt o s from rfl) (if_pos hheld)
  · let t : Token := Token.plain (((s.b.fenced l k o).lane l).pair k).main.arch virt none
    obtain ⟨hresult, hlines⟩ := Block.fence_retires hk hroom o t
    have hpair := Block.fenced_pair hk o
    refine ⟨(s.b.fenced l k o).retires l k t false, becomes_onBlock (show _ = execFence l k virt o s from rfl)
      (if_neg (ne_true_of_eq_false hfree)), fun hreads => ?_, fun hwrites => ?_, fun hreads => ?_⟩
    · rw [hlines, hpair]
      simp only [hreads, if_true]
      cases o.writes <;> rfl
    · rw [hresult, hpair]
      simp only [hwrites, if_true]
    · rw [hlines, hpair]
      simp only [hreads, Bool.false_eq_true, if_false]
      cases o.writes <;> rfl

end Sys2Proof.Machine
end

section
/-! PROOF. Accesses through the bridge window (R149, R152, R287, R288, R427-R436). Settles O44. What an AMO leaves is log entry 98's. -/

namespace Sys2Proof

/-! ## A retirement whose output leaves at once (R287, R288) -/

section Retire

variable {b : Block} {l : Lane} {k : Nat}

/-- An instruction that is not a halt counts. -/
theorem CoreSt.step_instret (c : CoreSt) {t : Token} (h : t.kind ≠ .halt) : (c.step t).instret = c.instret + 1 := by
  rw [CoreSt.step, if_neg h]

theorem LaneSt.lockPair_of_ne (x : LaneSt) (h : k ≠ 6) : x.lockPair k = x.pair k := if_neg h

/-- The output of a pair that stands alike is equal. -/
theorem Block.outputEqual_alike (hfifo : ((b.lane l).pair k).fifo = []) (halike : ((b.lane l).pair k).chk = ((b.lane l).pair k).main)
    (t : Token) : b.outputEqual l k t = true := by
  have hverdict : verdictEq ((b.lane l).pair k).chk ((b.lane l).pair k).main t = true := by
    rw [verdictEq, decide_eq_true halike, Bool.true_or]
  unfold Block.outputEqual
  dsimp only
  rw [PairSt.drain_empty hfifo, hverdict]
  simp

/-- A pair that stands alike and waits for the comparison stands alike again, its instruction counted. -/
theorem Block.retires_alike (hk : k < (b.lane l).pairs.length) (hpair : k ≠ 6) (hbroken : (b.lane l).broken.getLsbD k = false)
    (hfifo : ((b.lane l).pair k).fifo = []) (halike : ((b.lane l).pair k).chk = ((b.lane l).pair k).main) (t : Token) :
    let u := b.retires l k t true
    ((u.lane l).pair k).result = ((b.lane l).pair k).result ∧ ((u.lane l).pair k).fifo = [] ∧
    ((u.lane l).pair k).chk = ((b.lane l).pair k).main.step t ∧ ((u.lane l).pair k).main = ((b.lane l).pair k).main.step t ∧
    u.bridge = b.bridge := by
  let p := (b.lane l).pair k
  let c := (b.modLane l fun x => x.modPair k fun _ => p.retired t).charged l k p.hgprid.val t.virt
  have hroom : p.fifo.length < 2 := by rw [show p.fifo = [] from hfifo]; decide
  have hretires : b.retires l k t true = c.drainPair l k := by
    unfold Block.retires
    dsimp only
    rw [if_neg (ne_true_of_eq_false hbroken), PairSt.retire_room hroom]
    rfl
  obtain ⟨hplain, hbroken', hbridge, hlen⟩ := Block.charged_stands (b := b.modLane l fun x => x.modPair k fun _ => p.retired t)
    (k := k) (l := l) (by rw [Block.pairs_modPair]; exact hk) p.hgprid.val t.virt
  rw [Block.pair_modPair hk] at hplain
  rw [Block.broken_modPair] at hbroken'
  rw [Block.pairs_modPair] at hlen
  have hresult := congrArg PairSt.result hplain
  have hqfifo := congrArg PairSt.fifo hplain
  have hqchk := congrArg PairSt.chk hplain
  have hqmain := congrArg PairSt.main hplain
  have hone : ((c.lane l).lockPair k).fifo = [(t.sealed, p.main)] := by
    rw [LaneSt.lockPair_of_ne _ hpair]
    refine Eq.trans hqfifo ?_
    show p.fifo ++ [(t.sealed, p.main)] = _
    rw [show p.fifo = [] from hfifo]
    rfl
  have hchk : ((c.lane l).lockPair k).chk = p.main := by
    rw [LaneSt.lockPair_of_ne _ hpair]
    exact Eq.trans hqchk halike
  have hdrain : c.drainPair l k = c.modLane l fun x => x.modLockPair k fun _ =>
      { (c.lane l).lockPair k with chk := ((c.lane l).lockPair k).chk.step t.sealed, fifo := [] } := by
    unfold Block.drainPair
    rw [if_neg (by rw [show (c.lane l).broken = (b.lane l).broken from hbroken', hbroken]; decide), PairSt.drain_single hone,
      PairSt.verdict_alike hchk]
    rfl
  have hpairs : k = 6 ∨ k < (c.lane l).pairs.length := .inr (by rw [show (c.lane l).pairs.length = _ from hlen]; exact hk)
  have hend : (((c.drainPair l k).lane l).pair k) =
      { (c.lane l).pair k with chk := p.main.step t, fifo := [] } := by
    rw [hdrain, Block.lane_modLane, ← LaneSt.lockPair_of_ne _ hpair, LaneSt.lockPair_modLockPair hpairs, hchk, CoreSt.step_sealed,
      LaneSt.lockPair_of_ne _ hpair]
  dsimp only
  rw [hretires, hend]
  refine ⟨hresult, rfl, rfl, hqmain, ?_⟩
  rw [hdrain]
  exact hbridge

end Retire

/-! ## The gate of the window (R149, R152, R427, R428) -/

section Gate

variable {b : Block} {m : MemSt} {l : Lane} {k : Nat} {virt : Bool} {op : BridgeOp} {a n : Nat}

/-- An access as it waits. -/
def bridgeWaitOf (b : Block) (l : Lane) (k : Nat) (virt : Bool) (op : BridgeOp) (a n : Nat) : BridgeWait :=
  { prid := b.accPrid l k virt, virt := virt, op := op, addr := a, size := n }

/-- What a lane in service does with an access, in the order of the gate's checks. -/
theorem Block.bridgeAccess_serving (hst : (b.lane l).st = 4) : b.bridgeAccess m l k virt op a n =
    let p := b.accPrid l k virt
    if !(n == 1 || n == 2 || n == 4 || n == 8) || a % n != 0 then (b.setResult l k .misaligned, m)
    else if b.drainsRange p a n then (b.setResult l k .fault, m)
    else if (b.slice p).phase == .none || !(b.slice p).holdsSram a n then (b.gateRefuses l k p 1 (bridgeBase + a), m)
    else if (b.slice p).frozen then (b.gateStalls l k p (bridgeAcc virt op a n), m)
    else if !b.serves l.other then (b.setResult l k .fault, m)
    else
      let w := bridgeWaitOf b l k virt op a n
      let t := b.bridgeWork l k w
      let r := if (t.rates p).bridgeTok < 8 * n then (t.setResult l k .waits, m) else t.bridgePerform m l k p op a n
      (r.1.bridgeServed l k w, r.2) := by
  unfold Block.bridgeAccess
  dsimp only
  rw [if_neg (by rw [hst]; decide)]
  rfl

variable (hst : (b.lane l).st = 4) (hfree : b.pairsHeld = false) (hfifo : ((b.lane l).pair k).fifo = [])
  (halike : ((b.lane l).pair k).chk = ((b.lane l).pair k).main)

include hst hfree hfifo halike

/-- What goes through a pair that stands alike. -/
theorem Block.bridgeThrough_alike : b.bridgeThrough m l k virt op a n =
    ((b.bridgeAccess m l k virt op a n).1.accRetires l k (b.accToken l k virt (bridgeBase + a) n op.code) (b.bridgeHeld op a n),
      (b.bridgeAccess m l k virt op a n).2) := by
  unfold Block.bridgeThrough Block.throughPair
  rw [if_neg (by rw [hst]; decide), if_neg (by rw [hfree]; decide), if_neg (by rw [Block.outputEqual_alike hfifo halike]; simp)]

/-- An access that has not ended leaves the pair's instruction. -/
theorem Block.bridgeThrough_unended {t : Block} (haccess : b.bridgeAccess m l k virt op a n = (t, m))
    (hends : ((t.lane l).pair k).result.unended = true) : b.bridgeThrough m l k virt op a n = (t, m) := by
  rw [Block.bridgeThrough_alike hst hfree hfifo halike, haccess, Block.accRetires_unended _ _ hends]

end Gate

/-! ## An access that is performed (R147, R150, R431-R436) -/

section Perform

variable {b : Block} {l : Lane} {k : Nat}

/-- Counting work on the bridge changes the accounts of the partitions alone, and no tokens. -/
theorem Block.bridgeWork_spec (b : Block) (l : Lane) (k : Nat) (w : BridgeWait) :
    (∃ part, b.bridgeWork l k w = { b with part := part }) ∧ ∀ p, ((b.bridgeWork l k w).rates p).bridgeTok = (b.rates p).bridgeTok := by
  unfold Block.bridgeWork
  split
  · refine ⟨⟨_, rfl⟩, fun p => ?_⟩
    show ((updAt b.part.rates w.prid fun x => { x with bridgeWork := x.bridgeWork + 8 * w.size }).getD p Rates.fresh).bridgeTok = _
    rw [List.getD_eq_getElem?_getD, updAt_getElem?]
    show _ = (b.part.rates.getD p Rates.fresh).bridgeTok
    rw [List.getD_eq_getElem?_getD]
    by_cases hp : p = w.prid
    · simp only [hp, if_true]
      cases b.part.rates[w.prid]? <;> rfl
    · simp only [hp, if_false]
  · exact ⟨⟨b.part, rfl⟩, fun _ => rfl⟩

/-- An access that does not wait takes its tokens. -/
theorem Block.bridgeServed_part (w : BridgeWait) (h : ((b.lane l).pair k).result ≠ .waits) :
    ∃ part, b.bridgeServed l k w = { b with part := part } := by
  unfold Block.bridgeServed
  rw [if_neg h]
  split
  · exact ⟨_, rfl⟩
  · exact ⟨b.part, rfl⟩

/-- One that waits is remembered. -/
theorem Block.bridgeServed_waits (hk : k < (b.lane l).pairs.length) (w : BridgeWait) (h : ((b.lane l).pair k).result = .waits) :
    ((b.bridgeServed l k w).lane l).pair k = { (b.lane l).pair k with waits := some w } := by
  unfold Block.bridgeServed
  rw [if_pos h]
  exact Block.pair_modPair hk _

/-- An access that is done retires its instruction in both cores. -/
theorem Block.performed_retires (hk : k < (b.lane l).pairs.length) (hpair : k ≠ 6) (hbroken : (b.lane l).broken.getLsbD k = false)
    {d : List Byte} (hresult : ((b.lane l).pair k).result = .done d) (hfifo : ((b.lane l).pair k).fifo = [])
    (halike : ((b.lane l).pair k).chk = ((b.lane l).pair k).main) (w : BridgeWait) {t : Token} (hkind : t.kind ≠ .halt) :
    let u := (b.bridgeServed l k w).accRetires l k t true
    ((u.lane l).pair k).result = .done d ∧ ((u.lane l).pair k).fifo = [] ∧
    ((u.lane l).pair k).chk = ((u.lane l).pair k).main ∧
    ((u.lane l).pair k).main.instret = ((b.lane l).pair k).main.instret + 1 ∧ u.bridge = b.bridge := by
  obtain ⟨part, hserved⟩ := Block.bridgeServed_part (b := b) (l := l) (k := k) w (by rw [hresult]; exact nofun)
  have hretires : (b.bridgeServed l k w).accRetires l k t true =
      ({ b with part := part } : Block).retires l k { t with load := BitVec.ofNat 64 (leNat d), scOk := true } true := by
    rw [hserved]
    unfold Block.accRetires
    rw [show ((({ b with part := part } : Block).lane l).pair k).result = .done d from hresult]
  obtain ⟨hres, hempty, hchk, hmain, hbridge⟩ := Block.retires_alike (b := { b with part := part }) (l := l) (k := k) hk hpair hbroken
    hfifo halike { t with load := BitVec.ofNat 64 (leNat d), scOk := true }
  dsimp only
  rw [hretires]
  refine ⟨hres.trans hresult, hempty, hchk.trans hmain.symm, ?_, hbridge⟩
  rw [hmain]
  exact CoreSt.step_instret _ hkind

theorem Block.dropLines_broken (sel : PrefLine → Bool) : ((b.dropLines l k sel).lane l).broken = (b.lane l).broken := by
  unfold Block.dropLines
  dsimp only
  split
  · rfl
  · rw [Block.lane, Block.brCount_lanes]
    exact Block.broken_modPair _

theorem Block.dropLines_token (sel : PrefLine → Bool) : (b.dropLines l k sel).bridge.token = b.bridge.token := by
  unfold Block.dropLines
  dsimp only
  split
  · rfl
  · unfold Block.brCount
    split <;> rfl

/-- A pair whose lines went and whose access is done. -/
theorem Block.droppedDone_pair {t : Block} (hk : k < (b.lane l).pairs.length) (sel : PrefLine → Bool) (d : List Byte)
    (ht : t.lanes = (b.dropLines l k sel).lanes) : ((t.setResult l k (.done d)).lane l).pair k =
      { (b.lane l).pair k with lines := ((b.lane l).pair k).lines.filter (fun y => !sel y), result := .done d, waits := none } ∧
    ((t.setResult l k (.done d)).lane l).pairs.length = (b.lane l).pairs.length ∧
    ((t.setResult l k (.done d)).lane l).broken = (b.lane l).broken := by
  have hlane : t.lane l = (b.dropLines l k sel).lane l := congrArg (fun ls : PerLane LaneSt => ls.get l) ht
  have hin : k < (t.lane l).pairs.length := by rw [hlane, Block.dropLines_pairs]; exact hk
  refine ⟨?_, ?_, ?_⟩
  · rw [Block.setResult_pair hin, hlane, Block.dropLines_pair hk]
  · rw [Block.setResult_pairs, hlane, Block.dropLines_pairs]
  · rw [Block.setResult, Block.broken_modPair, hlane, Block.dropLines_broken]

end Perform


/-! ## The cases of the gate -/

section Cases

variable {b : Block} {m : MemSt} {l : Lane} {k : Nat} {virt : Bool} {op : BridgeOp} {a n : Nat}

theorem misaligned_iff (a n : Nat) : (!(n == 1 || n == 2 || n == 4 || n == 8) || a % n != 0) = true ↔
    ¬((n = 1 ∨ n = 2 ∨ n = 4 ∨ n = 8) ∧ a % n = 0) := by
  rw [← Bool.not_eq_false, Bool.or_eq_false_iff, Bool.not_eq_false', bne_eq_false_iff_eq, Bool.or_eq_true, Bool.or_eq_true, Bool.or_eq_true,
    beq_iff_eq, beq_iff_eq, beq_iff_eq, beq_iff_eq, or_assoc, or_assoc]

theorem outside_iff (b : Block) (p a n : Nat) : ((b.slice p).phase == .none || !(b.slice p).holdsSram a n) = true ↔
    ¬((b.slice p).phase ≠ .none ∧ (b.slice p).holdsSram a n = true) := by
  rw [← Bool.not_eq_false, Bool.or_eq_false_iff, beq_eq_false_iff_ne, Bool.not_eq_false']

variable (hst : (b.lane l).st = 4)

include hst

/-- A misaligned access ends so (R427). -/
theorem Block.bridgeAccess_misaligned (h : ¬((n = 1 ∨ n = 2 ∨ n = 4 ∨ n = 8) ∧ a % n = 0)) :
    b.bridgeAccess m l k virt op a n = (b.setResult l k .misaligned, m) := by
  rw [Block.bridgeAccess_serving hst]
  exact if_pos ((misaligned_iff a n).mpr h)

variable (haligned : (n = 1 ∨ n = 2 ∨ n = 4 ∨ n = 8) ∧ a % n = 0) (hkept : b.drainsRange (b.accPrid l k virt) a n = false)

include haligned hkept

/-- Outside the slice the gate refuses it (R149). -/
theorem Block.bridgeAccess_outside (h : ¬((b.slice (b.accPrid l k virt)).phase ≠ .none ∧ (b.slice (b.accPrid l k virt)).holdsSram a n = true)) :
    b.bridgeAccess m l k virt op a n = (b.gateRefuses l k (b.accPrid l k virt) 1 (bridgeBase + a), m) := by
  rw [Block.bridgeAccess_serving hst]
  dsimp only
  rw [if_neg (mt (misaligned_iff a n).mp (not_not_intro haligned)), if_neg (ne_true_of_eq_false hkept), if_pos ((outside_iff ..).mpr h)]

variable (hinside : (b.slice (b.accPrid l k virt)).phase ≠ .none ∧ (b.slice (b.accPrid l k virt)).holdsSram a n = true)

include hinside

/-- A frozen PRID's access stalls (R152). -/
theorem Block.bridgeAccess_frozen (h : (b.slice (b.accPrid l k virt)).frozen = true) :
    b.bridgeAccess m l k virt op a n = (b.gateStalls l k (b.accPrid l k virt) (bridgeAcc virt op a n), m) := by
  rw [Block.bridgeAccess_serving hst]
  dsimp only
  rw [if_neg (mt (misaligned_iff a n).mp (not_not_intro haligned)), if_neg (ne_true_of_eq_false hkept),
    if_neg (mt (outside_iff ..).mp (not_not_intro hinside)), if_pos h]

variable (hruns : (b.slice (b.accPrid l k virt)).frozen = false)

include hruns

/-- Without the far lane it faults (R428). -/
theorem Block.bridgeAccess_alone (h : b.serves l.other = false) : b.bridgeAccess m l k virt op a n = (b.setResult l k .fault, m) := by
  rw [Block.bridgeAccess_serving hst]
  dsimp only
  rw [if_neg (mt (misaligned_iff a n).mp (not_not_intro haligned)), if_neg (ne_true_of_eq_false hkept),
    if_neg (mt (outside_iff ..).mp (not_not_intro hinside)), if_neg (ne_true_of_eq_false hruns), if_pos (by rw [h]; rfl)]

variable (hfar : b.serves l.other = true)

include hfar

/-- Without its tokens it waits (R147). -/
theorem Block.bridgeAccess_waits (hk : k < (b.lane l).pairs.length) (h : (b.rates (b.accPrid l k virt)).bridgeTok < 8 * n) :
    ∃ t, b.bridgeAccess m l k virt op a n = (t, m) ∧ ((t.lane l).pair k).result = .waits ∧
      ((t.lane l).pair k).waits = some (bridgeWaitOf b l k virt op a n) := by
  obtain ⟨⟨part, hwork⟩, htok⟩ := b.bridgeWork_spec l k (bridgeWaitOf b l k virt op a n)
  let t : Block := { b with part := part }
  have hin : k < (t.lane l).pairs.length := hk
  have hpair := Block.setResult_pair hin .waits
  have hserved := Block.bridgeServed_waits (b := t.setResult l k .waits) (by rw [Block.setResult_pairs]; exact hin)
    (bridgeWaitOf b l k virt op a n) (by rw [hpair])
  refine ⟨(t.setResult l k .waits).bridgeServed l k (bridgeWaitOf b l k virt op a n), ?_, ?_, ?_⟩
  · rw [Block.bridgeAccess_serving hst]
    dsimp only
    rw [if_neg (mt (misaligned_iff a n).mp (not_not_intro haligned)), if_neg (ne_true_of_eq_false hkept),
      if_neg (mt (outside_iff ..).mp (not_not_intro hinside)), if_neg (ne_true_of_eq_false hruns), if_neg (by rw [hfar]; decide),
      if_pos (by rw [htok]; exact h), hwork]
  · rw [hserved, hpair]
  · rw [hserved]

/-- With its tokens it is performed, its work counted in the accounts of the partitions. -/
theorem Block.bridgeAccess_performs (h : 8 * n ≤ (b.rates (b.accPrid l k virt)).bridgeTok) : ∃ part,
    b.bridgeAccess m l k virt op a n =
      let r := ({ b with part := part } : Block).bridgePerform m l k (b.accPrid l k virt) op a n
      (r.1.bridgeServed l k (bridgeWaitOf b l k virt op a n), r.2) := by
  obtain ⟨⟨part, hwork⟩, htok⟩ := b.bridgeWork_spec l k (bridgeWaitOf b l k virt op a n)
  refine ⟨part, ?_⟩
  rw [Block.bridgeAccess_serving hst]
  dsimp only
  rw [if_neg (mt (misaligned_iff a n).mp (not_not_intro haligned)), if_neg (ne_true_of_eq_false hkept),
    if_neg (mt (outside_iff ..).mp (not_not_intro hinside)), if_neg (ne_true_of_eq_false hruns), if_neg (by rw [hfar]; decide),
    if_neg (by rw [htok]; exact Nat.not_lt.mpr h), hwork]

end Cases

/-! ## Reads, writes and AMOs at the far port (R427, R431, R434, R436) -/

section Performs

variable {b : Block} {m : MemSt} {l : Lane} {k p a n : Nat}

/-- The lines that an access overlaps. -/
def overlaps (a n : Nat) (x : PrefLine) : Bool := decide (x.addr < a + n) && decide (a < x.addr + x.data.length)

theorem Block.bridgePerform_write (hlock : b.lineLocked l.other a = false) (d : List Byte) :
    b.bridgePerform m l k p (.write d) a n =
      (((b.dropLines l k (overlaps a n)).traffic l n).setResult l k (.done []), m.write l.other a (d.take n)) := by
  unfold Block.bridgePerform
  dsimp only
  rw [if_neg (ne_true_of_eq_false hlock)]
  rfl

/-- The block whose token an AMO has been granted, the pair's lines gone. -/
def Block.granted (b : Block) (l : Lane) (k n : Nat) : Block :=
  ((b.dropLines l k fun _ => true).modBridge fun r => { r with grants := satNat 0xFFFFFFFF (r.grants + 1) }).traffic l n

/-- A grant and its traffic leave the lanes and the token. -/
theorem Block.grant_beside (t : Block) (l : Lane) (n : Nat) (f : BridgeSt → BridgeSt) (hf : ∀ r, (f r).token = r.token) :
    ((t.modBridge f).traffic l n).lanes = t.lanes ∧ ((t.modBridge f).traffic l n).bridge.token = t.bridge.token := ⟨rfl, hf _⟩

theorem Block.granted_lanes (b : Block) (l : Lane) (k n : Nat) : (b.granted l k n).lanes = (b.dropLines l k fun _ => true).lanes :=
  (Block.grant_beside (b.dropLines l k fun _ => true) l n _ fun _ => rfl).1

theorem Block.granted_token (b : Block) (l : Lane) (k n : Nat) : (b.granted l k n).bridge.token = b.bridge.token :=
  (Block.grant_beside (b.dropLines l k fun _ => true) l n _ fun _ => rfl).2.trans (Block.dropLines_token _)

theorem Block.bridgePerform_amo (htoken : b.bridge.token = none) (o : AmoOp) (d : List Byte) :
    b.bridgePerform m l k p (.amo o d) a n =
      ((b.granted l k n).setResult l k (.done (m.read l.other a n)),
        m.write l.other a (leBytes n (o.result n (leNat (m.read l.other a n)) (leNat (d.take n))))) := by
  unfold Block.bridgePerform
  dsimp only
  rw [if_neg (by rw [htoken]; decide)]
  rfl

/-- A read that no line holds is sent: the far lane's bytes are on their way. -/
theorem Block.bridgePerform_read (hheld : b.heldLine l k a n = none) (hlock : b.lineLocked l.other a = false)
    (hroom : b.readRoom l k = true) : ∃ (t : Block) (m' : MemSt) (ls : List PrefLine), b.bridgePerform m l k p .read a n =
      (t.setResult l k .sent, m') ∧ t.lanes = b.lanes ∧ t.bridge.reads.get l = b.bridge.reads.get l ++
        [{ pair := Fin.ofNat 6 k, prid := Fin.ofNat 32 p, addr := a, data := m.read l.other a n, lines := ls, abandoned := false }] := by
  let got := (m.farRead l.other b.bridge.consumeMarks a n).2.fetchLines l.other b.bridge.consumeMarks (b.prefetchLines p a n)
  let rd : BridgeRead :=
    { pair := Fin.ofNat 6 k, prid := Fin.ofNat 32 p, addr := a, data := m.read l.other a n, lines := got.1, abandoned := false }
  refine ⟨(b.modBridge fun r => { r with reads := r.reads.upd l (· ++ [rd]) }).traffic l.other (n + 64 * got.1.length), got.2, got.1,
    ?_, rfl, PerLane.get_upd ..⟩
  unfold Block.bridgePerform
  dsimp only
  rw [hheld, if_neg (by rw [hlock, hroom]; decide)]
  rfl

end Performs

/-! ## BRIDGE_RANGE_MARK (R430) -/

/-- A mark that is cleared is answered, to take effect at visibility. -/
theorem Block.runMark_cleared (b : Block) {q : Req} (hlen : q.pay.length = 12) (hentry : byteAt q.pay 0 < 16) (hflags : byteAt q.pay 1 < 4)
    (hzeros : zerosAt q.pay 2 2 = true) (hvalid : (byteAt q.pay 1).testBit 0 = false) (hbase : fieldAt q.pay 4 4 = 0)
    (hlength : fieldAt q.pay 8 4 = 0) :
    b.runMark q = b.finish q 0x6001 .ok [] (.mark ((byteAt q.pay 1).testBit 1) (byteAt q.pay 0) 0 0) := by
  unfold Block.runMark
  dsimp only
  rw [hlen, hzeros, hvalid, hbase, hlength, decide_eq_true hentry, decide_eq_true hflags]
  rfl

end Sys2Proof

namespace Sys2Proof.Machine

/-- A window access that leaves the memories changes the block alone. -/
theorem becomes_bridgeAccess {s : State} {l : Lane} {k : Pair} {virt : Bool} {op : BridgeOp} {a n : Nat} {b' : Block}
    (h : s.b.bridgeThrough s.mem l k virt op a n = (b', s.mem)) : Becomes (.bridgeWindowAccess l k virt op a n) s b' :=
  congrArg (fun p : Block × MemSt => Host.Outcome.next ((s.withBlock p.1).withMem p.2)) h

/-- The next state of a window access. -/
theorem exec_bridgeAccess {s : State} {l : Lane} {k : Pair} {virt : Bool} {op : BridgeOp} {a n : Nat} {t : Block} {m : MemSt}
    (h : s.b.bridgeThrough s.mem l k virt op a n = (t, m)) :
    exec (.bridgeWindowAccess l k virt op a n) s = .next ((s.withBlock t).withMem m) :=
  congrArg (fun p : Block × MemSt => Host.Outcome.next ((s.withBlock p.1).withMem p.2)) h

section Performed

variable {s : State} {l : Lane} {k : Pair} {virt : Bool} {a n : Nat}
variable (hlen : (s.b.lane l).pairs.length = 6) (hst : (s.b.lane l).st = 4) (hfree : s.b.pairsHeld = false)
  (hbroken : (s.b.lane l).broken.getLsbD k = false) (hfifo : ((s.b.lane l).pair k).fifo = [])
  (halike : ((s.b.lane l).pair k).chk = ((s.b.lane l).pair k).main)

include hlen hst hfree hbroken hfifo halike

/-- A held operation whose access is done at the far port with bytes for the core: the pair retires it alike. -/
theorem exec_bridgeDone {op : BridgeOp} {u : Block} {m : MemSt} {d : List Byte} {sel : PrefLine → Bool} (hheld : s.b.bridgeHeld op a n = true)
    {part : PartSt} (hu : u.lanes = (({ s.b with part := part } : Block).dropLines l k sel).lanes)
    (haccess : s.b.bridgeAccess s.mem l k virt op a n =
      ((u.setResult l k (.done d)).bridgeServed l k (bridgeWaitOf s.b l k virt op a n), m)) :
    ∃ t, exec (.bridgeWindowAccess l k virt op a n) s = .next ((s.withBlock t).withMem m) ∧
      ((t.lane l).pair k).result = .done d ∧ ((t.lane l).pair k).fifo = [] ∧ ((t.lane l).pair k).chk = ((t.lane l).pair k).main ∧
      ((t.lane l).pair k).main.instret = ((s.b.lane l).pair k).main.instret + 1 ∧ t.bridge = u.bridge := by
  have hk : k.val < (s.b.lane l).pairs.length := hlen.symm ▸ k.isLt
  obtain ⟨hpair, hpairs, hwhole⟩ := Block.droppedDone_pair (b := { s.b with part := part }) (k := k.val) hk sel d hu
  have hthrough := Block.bridgeThrough_alike (m := s.mem) (virt := virt) (op := op) (a := a) (n := n) hst hfree hfifo halike
  rw [haccess, hheld] at hthrough
  obtain ⟨hresult, hempty, hchk, hinstret, hbridge⟩ := Block.performed_retires (b := u.setResult l k (.done d)) (l := l) (k := k.val)
    (by rw [hpairs]; exact hk) (by omega) (by rw [hwhole]; exact hbroken) (by rw [hpair]) (by rw [hpair]; exact hfifo)
    (by rw [hpair]; exact halike) (bridgeWaitOf s.b l k virt op a n) (t := s.b.accToken l k virt (bridgeBase + a) n op.code) nofun
  exact ⟨_, exec_bridgeAccess hthrough, hresult, hempty, hchk, hinstret.trans (by rw [hpair]; rfl), hbridge⟩

variable (haligned : (n = 1 ∨ n = 2 ∨ n = 4 ∨ n = 8) ∧ a % n = 0) (hkept : s.b.drainsRange (s.b.accPrid l k virt) a n = false)
  (hinside : (s.b.slice (s.b.accPrid l k virt)).phase ≠ .none ∧ (s.b.slice (s.b.accPrid l k virt)).holdsSram a n = true)
  (hruns : (s.b.slice (s.b.accPrid l k virt)).frozen = false) (hfar : s.b.serves l.other = true)
  (htok : 8 * n ≤ (s.b.rates (s.b.accPrid l k virt)).bridgeTok)

include haligned hkept hinside hruns hfar htok

/-- A write stands in the far lane's memory, and no other byte of it changes. -/
theorem exec_bridgeWrite (hlock : s.b.lineLocked l.other a = false) (hwf : s.mem.Wf) {d : List Byte} (hd : d.length = n) :
    ∃ t, exec (.bridgeWindowAccess l k virt (.write d) a n) s = .next t ∧ t.mem.read l.other a n = d ∧
      ((t.b.lane l).pair k).result = .done [] ∧ ((t.b.lane l).pair k).fifo = [] ∧
      ((t.b.lane l).pair k).chk = ((t.b.lane l).pair k).main ∧
      ((t.b.lane l).pair k).main.instret = ((s.b.lane l).pair k).main.instret + 1 ∧
      (∀ y m, (y + m ≤ a ∨ a + n ≤ y) → t.mem.read l.other y m = s.mem.read l.other y m) ∧
      ∀ y m, t.mem.read l y m = s.mem.read l y m := by
  obtain ⟨part, haccess⟩ := Block.bridgeAccess_performs (m := s.mem) (op := .write d) hst haligned hkept hinside hruns hfar htok
  rw [Block.bridgePerform_write (b := { s.b with part := part }) hlock] at haccess
  dsimp only at haccess
  obtain ⟨t, hexec, hresult, hempty, hchk, hinstret, -⟩ := exec_bridgeDone hlen hst hfree hbroken hfifo halike (sel := overlaps a n)
    (part := part) (u := (({ s.b with part := part } : Block).dropLines l k (overlaps a n)).traffic l n) rfl rfl haccess
  have htake : d.take n = d := List.take_of_length_le (Nat.le_of_eq hd)
  rw [htake] at hexec
  refine ⟨_, hexec, ?_, hresult, hempty, hchk, hinstret, fun y m hapart => ?_, fun y m => ?_⟩
  · have hread := MemSt.read_write_same l.other a d hwf
    rw [hd] at hread
    exact hread
  · exact MemSt.read_write_apart s.mem l.other l.other fun i hlow hhigh => by omega
  · have hread := MemSt.read_write_other s.mem l.other a y m d
    rw [Lane.other_other] at hread
    exact hread

omit hbroken in
/-- A read that no line holds is sent with the far lane's bytes. -/
theorem exec_bridgeRead (hlock : s.b.lineLocked l.other a = false) (hheld : s.b.heldLine l k a n = none)
    (hroom : s.b.readRoom l k = true) :
    ∃ t, exec (.bridgeWindowAccess l k virt .read a n) s = .next t ∧ ((t.b.lane l).pair k).result = .sent ∧
      ∃ r, t.b.bridge.reads.get l = s.b.bridge.reads.get l ++ [r] ∧ r.data = s.mem.read l.other a n ∧ r.pair = k := by
  have hk : k.val < (s.b.lane l).pairs.length := hlen.symm ▸ k.isLt
  obtain ⟨part, haccess⟩ := Block.bridgeAccess_performs (m := s.mem) (op := .read) hst haligned hkept hinside hruns hfar htok
  obtain ⟨t, m', ls, hperform, hlanes, hreads⟩ := Block.bridgePerform_read (b := { s.b with part := part }) (m := s.mem)
    (p := s.b.accPrid l k virt) hheld hlock hroom
  have hlane : t.lane l = s.b.lane l := congrArg (fun xs : PerLane LaneSt => xs.get l) hlanes
  have hsent := congrArg PairSt.result (Block.setResult_pair (b := t) (l := l) (k := k.val) (by rw [hlane]; exact hk) .sent)
  obtain ⟨part', hserved⟩ := Block.bridgeServed_part (b := t.setResult l k .sent) (l := l) (k := k.val)
    (bridgeWaitOf s.b l k virt .read a n) (by rw [hsent]; exact nofun)
  rw [hperform] at haccess
  dsimp only at haccess
  rw [hserved] at haccess
  have hunended : (((({ t.setResult l k .sent with part := part' } : Block).lane l).pair k).result).unended = true := by
    rw [show ((({ t.setResult l k .sent with part := part' } : Block).lane l).pair k).result = .sent from hsent]
    rfl
  have hthrough := Block.bridgeThrough_alike (m := s.mem) (virt := virt) (op := .read) (a := a) (n := n) hst hfree hfifo halike
  rw [haccess] at hthrough
  dsimp only at hthrough
  rw [Block.accRetires_unended _ _ hunended] at hthrough
  exact ⟨_, exec_bridgeAccess hthrough, hsent, _, hreads, rfl, Fin.ofNat_val_eq_self k⟩

/-- An AMO answers the old bytes and leaves the result of its operation. -/
theorem exec_bridgeAmo (hwf : s.mem.Wf) {o : AmoOp} {d : List Byte} (hd : d.length = n) (htoken : s.b.bridge.token = none) :
    ∃ t, exec (.bridgeWindowAccess l k virt (.amo o d) a n) s = .next t ∧
      ((t.b.lane l).pair k).result = .done (s.mem.read l.other a n) ∧
      t.mem.read l.other a n = leBytes n (o.result n (leNat (s.mem.read l.other a n)) (leNat d)) ∧ t.b.bridge.token = none := by
  obtain ⟨part, haccess⟩ := Block.bridgeAccess_performs (m := s.mem) (op := .amo o d) hst haligned hkept hinside hruns hfar htok
  rw [Block.bridgePerform_amo (b := { s.b with part := part }) htoken] at haccess
  dsimp only at haccess
  have hlanes := Block.granted_lanes ({ s.b with part := part } : Block) l k n
  have htok' := (Block.granted_token ({ s.b with part := part } : Block) l k n).trans htoken
  obtain ⟨t, hexec, hresult, -, -, -, hbridge⟩ := exec_bridgeDone hlen hst hfree hbroken hfifo halike (op := .amo o d) rfl hlanes haccess
  have htake : d.take n = d := List.take_of_length_le (Nat.le_of_eq hd)
  rw [htake] at hexec
  refine ⟨_, hexec, hresult, ?_, ?_⟩
  · have hread := MemSt.read_write_same l.other a (leBytes n (o.result n (leNat (s.mem.read l.other a n)) (leNat d))) hwf
    rw [leBytes_length] at hread
    exact hread
  · exact (congrArg BridgeSt.token hbridge).trans htok'

end Performed

/-- Settles O44: the hold of a cut, the comparison, the gate's checks in their order, and what is performed at the far port (the
functions of an AMO: log entry 98). -/
theorem bridgeReachesTheFarLane : Obligations.BridgeReachesTheFarLane := by
  intro s l k virt a n hwf hlen hserves p x aligned inside
  have hst := Block.st_of_serves hserves
  have hk : k.val < (s.b.lane l).pairs.length := hlen.symm ▸ k.isLt
  refine ⟨fun hheld op => ?_, fun hfree hbroken hfifo => ⟨fun d hdiffers => ?_, fun halike hkept => ⟨fun op hodd => ?_,
    fun op hal hout => ?_, fun op hal hin hfrozen => ?_, fun op hal hin hruns hfar => ?_, fun op hal hin hruns hfar htok => ?_,
    fun hal hin hruns hfar htok hrates hlock => ⟨fun d hd => ?_, fun hheld hroom => ?_, fun o d hd htoken => ?_⟩⟩⟩,
    fun q hpass hplen hentry hflags hzeros hvalid hbase hlength => answersFrom_of _ rfl hpass ?_⟩
  · apply becomes_bridgeAccess
    unfold Block.bridgeThrough Block.throughPair
    rw [if_neg (by rw [hst]; decide), if_pos hheld]
  · have hfault : s.b.bridgeThrough s.mem l k virt (.write d) a n = (s.b.laneFault l 1 k, s.mem) := by
      unfold Block.bridgeThrough Block.throughPair
      rw [if_neg (by rw [hst]; decide), if_neg (ne_true_of_eq_false hfree), if_pos]
      rw [show (BridgeOp.write d).code = 1 from rfl, hdiffers]
      rfl
    obtain ⟨hoff, haon, -⟩ := Block.laneFault_spec (b := s.b) (l := l) (by rw [hst]; decide) 1 k
    exact ⟨_, becomes_bridgeAccess hfault, hoff, haon⟩
  · exact becomes_bridgeAccess (Block.bridgeThrough_unended hst hfree hfifo halike (Block.bridgeAccess_misaligned hst hodd)
      (Block.setResult_unended rfl))
  · have hfault : (((s.b.gateRefuses l k p 1 (bridgeBase + a)).lane l).pair k).result = .fault := by
      have hset := congrArg PairSt.result (Block.setResult_pair hk .fault)
      unfold Block.gateRefuses
      dsimp only
      split
      · exact hset
      · rw [LaneSt.pair, Block.gateViolation_pairs]
        exact hset
    exact ⟨_, becomes_bridgeAccess (Block.bridgeThrough_unended hst hfree hfifo halike (Block.bridgeAccess_outside hst hal hkept hout)
      (by rw [hfault]; rfl)), hfault⟩
  · exact ⟨_, becomes_bridgeAccess (Block.bridgeThrough_unended hst hfree hfifo halike
      (Block.bridgeAccess_frozen hst hal hkept hin hfrozen) Block.gateStalls_unended), congrArg PairSt.result (Block.pair_modPair hk _)⟩
  · exact becomes_bridgeAccess (Block.bridgeThrough_unended hst hfree hfifo halike
      (Block.bridgeAccess_alone hst hal hkept hin hruns hfar) (Block.setResult_unended rfl))
  · obtain ⟨t, haccess, hresult, hwaits⟩ := Block.bridgeAccess_waits (m := s.mem) (op := op) hst hal hkept hin hruns hfar hk htok
    exact ⟨t, becomes_bridgeAccess (Block.bridgeThrough_unended hst hfree hfifo halike haccess (by rw [hresult]; rfl)), hresult, hwaits⟩
  · exact exec_bridgeWrite hlen hst hfree hbroken hfifo halike hal hkept hin hruns hfar htok hlock hwf hd
  · exact exec_bridgeRead hlen hst hfree hfifo halike hal hkept hin hruns hfar htok hlock hheld hroom
  · exact exec_bridgeAmo hlen hst hfree hbroken hfifo halike hal hkept hin hruns hfar htok hwf hd htoken
  · rw [Block.runMark_cleared _ hplen hentry hflags hzeros hvalid hbase hlength]
    exact Block.finish_answered _ _ _ _ _ _ (Nat.zero_le _) rfl

end Sys2Proof.Machine
end

section
/-! PROOF. Network sleep and wake (R86, R88, R405-R423). Settles O49. -/

namespace Sys2Proof

/-! ## What leaves the states of network management -/

section Kept

variable (b : Block) (l : Lane)

@[simp] theorem Block.raise_nw (ev cause subject : Nat) (detail : Int) : (b.raise l ev cause subject detail).nw = b.nw := by
  obtain ⟨lanes, evs, h⟩ := Block.raise_frame b l ev cause subject detail
  rw [h]

@[simp] theorem Block.raiseAll_nw (ev cause subject : Nat) (detail : Int) : (b.raiseAll ev cause subject detail).nw = b.nw := by
  obtain ⟨lanes, evs, h⟩ := Block.raiseAll_frame b ev cause subject detail
  rw [h]

theorem Block.raiseAll_mail (ev cause subject : Nat) (detail : Int) : (b.raiseAll ev cause subject detail).mail = b.mail := by
  obtain ⟨lanes, evs, h⟩ := Block.raiseAll_frame b ev cause subject detail
  rw [h]

@[simp] theorem Block.breakCopy_nw : (b.breakCopy l).nw = b.nw := by
  unfold Block.breakCopy
  dsimp only
  split <;> rfl

@[simp] theorem Block.canEv_nw (i : Nat) (state : Bool) (cause n : Nat) : (b.canEv l i state cause n).nw = b.nw := by
  have hcount (f : CanBus → CanBus) : (if state then b else b.modBus i f).nw = b.nw := by split <;> rfl
  unfold Block.canEv
  dsimp only
  rw [apply_ite Block.nw, Block.modEv_nw, Block.raise_nw, hcount, hcount, ite_self]

@[simp] theorem Block.canQueue_nw (i : Nat) (t : CanTx) : (b.canQueue l i t).nw = b.nw := by
  unfold Block.canQueue
  split
  · rw [Block.canEv_nw, Block.modLane_nw]
  · exact Block.modLane_nw ..

@[simp] theorem Block.nmSend_nw (i : Nat) (keep commit : Bool) : (b.nmSend i keep commit).nw = b.nw :=
  foldl_keeps (fun t : Block => t.nw = b.nw) rfl fun t k h => (t.canQueue_nw k i _).trans h

@[simp] theorem Block.heard_nw (q : Req) : (b.heard q).nw = b.nw := by rw [Block.heard_eq]

/-- The epoch of a take-up is the same whether or not a challenge was used up. -/
theorem Block.heard_taken (q : Req) : (b.heard q).taken = b.taken := by
  unfold Block.heard Block.setChallenge
  cases q.auth
  · rfl
  · cases q.path <;> rfl

/-- Leaving service keeps the states of network management. -/
theorem Block.leave_nw (st : Nat) : (b.leave l st).nw = b.nw := by
  obtain ⟨links, mail, h⟩ := b.leave_eq l st
  have hevent : (if b.serves l then (b.stopped l st).raiseAll 18 2 l.num st else b.stopped l st).nw = b.nw := by
    split
    · exact Block.raiseAll_nw ..
    · rfl
  have hgone : (b.gone l st).nw = b.nw := by
    rw [Block.gone_eq]
    exact hevent
  have happart : (b.apart l st).nw = (b.gone l st).nw := by
    unfold Block.apart
    split <;> rfl
  rw [h]
  exact happart.trans hgone

end Kept

/-! ## A sleep sequence begins and ends (R413-R415, R419) -/

section Sequence

variable (b : Block) (src detail : Nat)

/-- State 1 is entered with the rest of what is counted kept. -/
theorem Block.sleepBegins_nw : b.sleepBegins.nw.state = 1 ∧ b.sleepBegins.nw.falseCount = b.nw.falseCount := by
  unfold Block.sleepBegins
  dsimp only
  rw [Block.modLanes_nw]
  dsimp only
  rw [Block.raiseAll_nw]
  exact ⟨rfl, rfl⟩

/-- The beginning of a sleep sequence leaves the mailboxes. -/
theorem Block.sleepBegins_mail : b.sleepBegins.mail = b.mail := by
  unfold Block.sleepBegins
  dsimp only
  rw [Block.modLanes_mail]
  dsimp only
  rw [Block.raiseAll_mail]
  rfl

/-- The sleep sequence ends in state 0. -/
theorem Block.sleepEnds_nw : (b.sleepEnds src detail).nw =
    { b.nw with state := 0, log := b.nw.log.map fun e => e.stop b.mod.epoch } := by
  unfold Block.sleepEnds
  dsimp only
  refine (foldl_keeps (fun t : Block => t.nw = { b.nw with state := 0, log := b.nw.log.map fun e => e.stop b.mod.epoch })
    ?_ fun t i h => (t.nmSend_nw i true false).trans h)
  rw [Block.modLane_nw, Block.modLane_nw, Block.finishWhere_nw, Block.raiseAll_nw, Block.modNw_nw]

theorem Block.wakeRequest_ends (h : b.nw.state = 1) : b.wakeRequest src detail = b.sleepEnds src detail := by
  unfold Block.wakeRequest
  rw [h]
  rfl

/-- A wake request keeps the holds and the confirmation. -/
theorem Block.wakeRequest_keeps : (b.wakeRequest src detail).nw.holds = b.nw.holds ∧
    (b.wakeRequest src detail).nw.confirmed = b.nw.confirmed := by
  unfold Block.wakeRequest
  split
  · rw [Block.sleepEnds_nw]
    exact ⟨rfl, rfl⟩
  · exact ⟨rfl, rfl⟩
  · exact ⟨rfl, rfl⟩

/-- A wake request in state 1. -/
theorem Block.wakeRequest_state (h : b.nw.state = 1) : (b.wakeRequest src detail).nw.state = 0 := by
  rw [b.wakeRequest_ends src detail h, Block.sleepEnds_nw]

end Sequence

/-! ## Power-down (R86, R88, R405) -/

section Down

variable (b : Block) (dom : Lane)

/-- The module sleeps. -/
theorem Block.sleepNow_sleeps : (∀ l, (b.sleepNow.lane l).st = 0) ∧ (∀ l, (b.sleepNow.lane l).asleep = true) ∧
    (∀ d ∈ b.sleepNow.dies, d.powered = false) ∧ b.sleepNow.nw.state = 3 ∧ b.sleepNow.nw.ackFailed = b.nw.ackFailed := by
  refine ⟨fun l => by cases l <;> rfl, fun l => by cases l <;> rfl, fun d hd => ?_, rfl, ?_⟩
  · obtain ⟨x, -, rfl⟩ := List.mem_map.mp hd
    rfl
  · have hcopies : ((b.breakCopy .a).breakCopy .b).nw.ackFailed = b.nw.ackFailed := by rw [Block.breakCopy_nw, Block.breakCopy_nw]
    exact hcopies

/-- A module that a domain wakes from state 3 is starting. -/
def Block.starting : Block :=
  if b.nw.state = 3 then b.drawNat.2.modNw fun n => { n with state := 4, confirmed := false, sleepMs := b.drawNat.1 % 2 ^ 64 } else b

theorem Block.wakes_eq : b.wakes dom =
    if b.starting.nw.linkFailed then b.starting.modLane dom LaneSt.woken else b.starting.modLanes LaneSt.woken := by
  unfold Block.wakes Block.starting
  by_cases h : b.nw.state = 3
  · rw [if_pos h]
    dsimp only
    rw [if_pos (show b.drawNat.2.nw.state = 3 from h), if_pos h]
  · rw [if_neg h, if_neg h]
    dsimp only
    rw [if_neg h]

theorem Block.starting_keeps : b.starting.lanes = b.lanes ∧ b.starting.dies = b.dies ∧
    b.starting.nw.state = if b.nw.state = 3 then 4 else b.nw.state := by
  unfold Block.starting
  split
  · exact ⟨rfl, rfl, rfl⟩
  · exact ⟨rfl, rfl, rfl⟩

/-- A lane woken is no other but for its sleep, its acknowledgement and the cause of its start. -/
theorem Block.wakes_lane (l : Lane) : ((b.wakes dom).lane l).st = (b.lane l).st ∧
    ((b.wakes dom).lane l).domFirst = (b.lane l).domFirst := by
  have hsame : b.starting.lane l = b.lane l := congrArg (PerLane.get · l) b.starting_keeps.1
  rw [Block.wakes_eq, ← hsame]
  split <;> cases dom <;> cases l <;> exact ⟨rfl, rfl⟩

theorem Block.wakes_dies : (b.wakes dom).dies = b.dies := by
  rw [Block.wakes_eq, ← b.starting_keeps.2.1]
  split <;> rfl

/-- From state 3 a woken module is starting; from any other its state stands. -/
theorem Block.wakes_state : (b.wakes dom).nw.state = if b.nw.state = 3 then 4 else b.nw.state := by
  rw [Block.wakes_eq, ← b.starting_keeps.2.2]
  by_cases h : b.starting.nw.linkFailed
  · rw [if_pos h, Block.modLane_nw]
  · rw [if_neg h, Block.modLanes_nw]

theorem Block.poweredDown_stays (h : b.nw.state ≠ 2 ∨ ∃ d ∈ b.dies, d.mayGoDown = false) : b.poweredDown = b := by
  have hstays : (b.nw.state != 2 || !b.dies.all DieSt.mayGoDown) = true := by
    rcases h with h | ⟨d, hd, hgo⟩
    · rw [bne_iff_ne.mpr h, Bool.true_or]
    · rw [List.all_eq_false.mpr ⟨d, hd, ne_true_of_eq_false hgo⟩, Bool.not_false, Bool.or_true]
  unfold Block.poweredDown
  rw [if_pos hstays]

section Goes

variable {b} (hstate : b.nw.state = 2) (hdies : ∀ d ∈ b.dies, d.mayGoDown = true)
include hstate hdies

theorem Block.poweredDown_sleeps (hlatched : b.nw.latched = none) : b.poweredDown = b.sleepNow := by
  unfold Block.poweredDown
  rw [if_neg (by rw [hstate, List.all_eq_true.mpr hdies]; decide), hlatched]

/-- A request that was latched starts the module at once. -/
theorem Block.poweredDown_starts {src detail : Nat} (hlatched : b.nw.latched = some (src, detail)) : b.poweredDown =
    ((b.sleepNow.modLanes fun x => x.detect src detail 1).wakes .a).wakes .b := by
  unfold Block.poweredDown
  rw [if_neg (by rw [hstate, List.all_eq_true.mpr hdies]; decide), hlatched]

/-- The power-down of a module whose dies may all go. -/
theorem Block.poweredDown_spec : (∀ l, (b.poweredDown.lane l).st = 0) ∧ (∀ d ∈ b.poweredDown.dies, d.powered = false) ∧
    b.poweredDown.nw.state = (if b.nw.latched.isSome then 4 else 3) ∧
    (b.nw.latched = none → b.poweredDown.inh = false ∧ ∀ l, (b.poweredDown.lane l).asleep = true) := by
  obtain ⟨hst, hasleep, hpower, hnw, -⟩ := b.sleepNow_sleeps
  cases hlatched : b.nw.latched with
  | none =>
    rw [Block.poweredDown_sleeps hstate hdies hlatched]
    exact ⟨hst, hpower, hnw, fun _ => ⟨rfl, hasleep⟩⟩
  | some r =>
    rw [Block.poweredDown_starts hstate hdies hlatched]
    let t := b.sleepNow.modLanes fun x => x.detect r.1 r.2 1
    have hwoken : ((t.wakes .a).wakes .b).nw.state = 4 := by
      rw [Block.wakes_state, Block.wakes_state, Block.modLanes_nw, hnw]
      rfl
    refine ⟨fun l => ?_, fun d hd => hpower d ?_, hwoken, nofun⟩
    · exact ((t.wakes .a).wakes_lane .b l).1.trans ((t.wakes_lane .a l).1.trans (by cases l <;> rfl))
    · have hsame : ((t.wakes .a).wakes .b).dies = b.sleepNow.dies := by rw [Block.wakes_dies, Block.wakes_dies]; rfl
      exact hsame ▸ hd

end Goes

/-- A powered die with a channel that is not off, and no command of the power-down behind it, may not go down. -/
theorem DieSt.stays {d : DieSt} (hpower : d.powered = true) (hsince : d.offSince = none) {c : ChanSt} (hc : c ∈ d.chans)
    (hon : c.phase.isOff = false) : d.mayGoDown = false := by
  have hall : d.chans.all (fun y => y.phase.isOff && !y.stuck) = false :=
    List.all_eq_false.mpr ⟨c, hc, by rw [hon]; exact Bool.false_ne_true⟩
  unfold DieSt.mayGoDown
  rw [hpower, hall, hsince]
  rfl

end Down

/-! ## Waking (R406, R416-R419) -/

section Waking

variable {b : Block} {dom : Lane} {src : WakeSrc}

/-- A source that is not enabled. -/
theorem Block.wakeDetected_disabled (h : b.wakeCode dom src = none) : b.wakeDetected dom src = b := by
  unfold Block.wakeDetected
  rw [h]

/-- A source detected in state 3. -/
theorem Block.wakeDetected_asleep {r : Nat × Nat × Nat} (h : b.wakeCode dom src = some r) (hstate : b.nw.state = 3) :
    b.wakeDetected dom src = (b.modLane dom fun x => x.detect r.1 r.2.1 r.2.2).wakes dom := by
  unfold Block.wakeDetected
  rw [h]
  dsimp only
  rw [if_neg (by rw [hstate]; simp), hstate]
  rfl

theorem LaneSt.detect_first (x : LaneSt) (code detail flags : Nat) : (x.detect code detail flags).domFirst.isSome = true := by
  unfold LaneSt.detect
  cases x.domFirst <;> rfl

/-- A source detected in state 3 starts the module and stands in its domain. -/
theorem Block.wakeDetected_starts {r : Nat × Nat × Nat} (h : b.wakeCode dom src = some r) (hstate : b.nw.state = 3) :
    (b.wakeDetected dom src).nw.state = 4 ∧ ((b.wakeDetected dom src).lane dom).domFirst.isSome = true := by
  rw [Block.wakeDetected_asleep h hstate, Block.wakes_state, Block.modLane_nw, (Block.wakes_lane ..).2, Block.lane_modLane]
  exact ⟨if_pos hstate, LaneSt.detect_first ..⟩

/-! ## No acknowledgement, no traffic (R418, R419) -/

variable {life : Lifecycle} (hlife : life ≠ .blank)
include hlife

/-- Without an acknowledgement in either domain the module returns to sleep. -/
theorem Block.wakeAckLate_returns (hstate : b.nw.state = 4) (hlink : b.nw.linkFailed = false) (hack : ∀ l, (b.lane l).wakeAck = false) :
    b.wakeAckLate life dom = b.backToSleep := by
  unfold Block.wakeAckLate
  rw [if_neg hlife, hlink, hstate, hack .a, hack .b]
  rfl

/-- With the wake-coordination link failed the domain switches its own lane off. -/
theorem Block.wakeAckLate_own (hstate : b.nw.state = 4) (hlink : b.nw.linkFailed = true) (hack : (b.lane dom).wakeAck = false)
    (hasleep : (b.lane dom).asleep = false) (hother : (b.lane dom.other).asleep = false) :
    b.wakeAckLate life dom = (b.leave dom 0).modLane dom LaneSt.sleeps := by
  have hfar : (((b.leave dom 0).modLane dom LaneSt.sleeps).lane dom.other).asleep = false := by
    rw [Block.lane_modLane_other, Block.leave_other_field b dom 0 LaneSt.asleep]
    exact hother
  unfold Block.wakeAckLate
  rw [if_neg hlife, hlink, hstate, hack, hasleep]
  dsimp only
  rw [if_neg (by decide), if_neg (by decide), hfar]
  rfl

end Waking

/-- No confirming condition in time. -/
theorem Block.falseWake_begins {b : Block} (hstate : b.nw.state = 0) (hconfirmed : b.nw.confirmed = false) (hserves : b.anyServes = true) :
    b.falseWake = ((b.modNw fun n => { n with falseCount := satNat 0xFFFFFFFF (n.falseCount + 1), confirmed := true }).raiseAll 236 0
      noSubject b.nw.wakeSource).sleepBegins := by
  unfold Block.falseWake
  rw [hstate, hconfirmed, hserves]
  rfl

theorem Block.falseWake_confirmed {b : Block} (hconfirmed : b.nw.confirmed = true) : b.falseWake = b := by
  unfold Block.falseWake
  rw [hconfirmed, Bool.or_true, Bool.true_or, if_pos rfl]

/-- The first node to pass the threshold in a sleep sequence. -/
theorem Block.keepsAwake_log {b : Block} {network node : Nat} {r : AwakeRun} (hstate : b.nw.state = 1) (hawake : b.nw.awake = [r])
    (hnetwork : r.network = network) (hnode : r.node = node) (hlog : b.nw.log = []) : (b.keepsAwake network node).nw.log =
      [{ network := network, node := node, running := true, start := r.start, epoch0 := r.epoch0,
         seconds := (b.mod.epoch - r.epoch0) / epochsPerSec }] := by
  have hfind : b.nw.awake.find? (fun r => r.network == network && r.node == node) = some r := by
    rw [hawake]
    exact List.find?_cons_of_pos (by rw [hnetwork, hnode, beq_self_eq_true, beq_self_eq_true]; rfl)
  unfold Block.keepsAwake
  rw [hstate, hfind]
  dsimp only
  rw [if_neg (by decide), Block.raiseAll_nw, Block.modNw_nw, hlog]
  rfl

/-! ## SLEEP_REQUEST and WAKE_HOLD (R422, R423) -/

theorem Req.withByte_length (r : Req) (i v : Nat) : (r.withByte i v).pay.length = r.pay.length := by
  have hsame : (r.withByte i v).payload.length = r.payload.length := updAt_length ..
  have hauth : (r.withByte i v).auth = r.auth := rfl
  unfold Req.pay
  rw [hauth]
  split
  · rw [List.length_take, List.length_take, hsame]
  · exact hsame

section Commands

variable {b : Block} {r : Req} (hlen : r.pay.length = 4) (hzeros : zerosAt r.pay 1 3 = true)
include hlen hzeros

theorem Block.runSleep_wakes (hfn : byteAt r.pay 0 = 1) : b.runSleep r = (b.wakeRequest 7 0).ok r 0x5801 [] := by
  unfold Block.runSleep
  dsimp only
  rw [hlen, hfn, hzeros]
  rfl

theorem Block.runSleep_request (hfn : byteAt r.pay 0 = 0) : b.runSleep r =
    if b.nw.state = 1 ∨ b.nw.state = 2 ∨ b.nw.holds ≠ 0 then b.reply r 0x5801 .busy
    else (b.hold r 0x5801 .sleep true).sleepBegins := by
  unfold Block.runSleep
  dsimp only
  rw [hlen, hfn, hzeros]
  rfl

/-- What WAKE_HOLD leaves before its answer. -/
def Block.wakeHeld (b : Block) (prid on : Nat) : Block :=
  if on = 1 then
    ((b.modNw fun n => { n with holds := n.holds ||| BitVec.ofNat 32 (2 ^ prid) }).confirmWake).wakeRequest 6 prid
  else b.modNw fun n => { n with holds := n.holds &&& ~~~ (BitVec.ofNat 32 (2 ^ prid)) }

omit hlen hzeros in
theorem Block.wakeHeld_holds (prid on : Nat) : (b.wakeHeld prid on).nw.holds =
    if on = 1 then b.nw.holds ||| BitVec.ofNat 32 (2 ^ prid) else b.nw.holds &&& ~~~ (BitVec.ofNat 32 (2 ^ prid)) := by
  unfold Block.wakeHeld
  split
  · exact (Block.wakeRequest_keeps ..).1
  · rfl

theorem Block.runWakeHold_holds (hfn : byteAt r.pay 0 ≤ 1) : b.runWakeHold r =
    (b.wakeHeld r.path.prid (byteAt r.pay 0)).ok r 0x5802 [] := by
  unfold Block.runWakeHold Block.wakeHeld
  dsimp only
  rw [hlen, hzeros, decide_eq_true (Nat.lt_succ_of_le hfn)]
  rw [show ((4 == 4) && true && true) = true from rfl, Block.check7_good]
  split <;> rfl

end Commands

end Sys2Proof

namespace Sys2Proof.Machine

/-- The mailboxes once SLEEP_REQUEST is left pending. -/
theorem hold_pend (b : Block) (q : Req) (op : Nat) (k : PendKind) : (b.hold q op k true).mail.pend =
    b.mail.pend ++ [{ req := q, opcode := op, kind := k, epoch := b.taken.1, told := true }] := by
  unfold Block.hold
  dsimp only
  split <;> rfl

/-- Settles O49: what each command of the way to sleep and back leaves. -/
theorem theModuleSleepsAndWakes : Obligations.TheModuleSleepsAndWakes := by
  unfold Obligations.TheModuleSleepsAndWakes
  intro s q hlen
  refine ⟨fun hpass hzeros hfn => ⟨fun hbusy => ?_, fun hstate hholds => ?_⟩, fun hpass hzeros hfn => ?_,
    fun on hpass hzeros hfn hon => ?_, fun hstate hdies => ?_, fun hstays => ?_, fun d hpower hsince hchan => ?_,
    fun dom src hcode hstate => ?_, fun dom src hcode => ?_, fun hstate => ?_, fun hstate hlink hack hlife dom => ?_,
    fun hstate hlink hlife dom hack hasleep hother => ?_, fun hstate hconfirmed hserves => ?_, fun hconfirmed => ?_, rfl,
    fun n node r hstate hawake hnetwork hnode hlog => ?_⟩
  · refine answersFrom_of _ rfl hpass ?_
    rw [Block.runSleep_request ((Req.withByte_length ..).trans hlen) hzeros hfn, if_pos (by rw [Block.heard_nw]; exact hbusy)]
    exact Block.reply_answered _ _ _ _ rfl
  · let r := q.withByte 0 0
    refine ⟨((s.b.heard r).hold r 0x5801 .sleep true).sleepBegins, ?_, (Block.sleepBegins_nw _).1, ?_⟩
    · refine becomes_onBlock (f := fun b => b.serve 0x5801 r fun b => b.runSleep r) rfl ?_
      rw [Block.serve_passes _ _ _ _ hpass, Block.runSleep_request ((Req.withByte_length ..).trans hlen) hzeros hfn,
        if_neg (by rw [Block.heard_nw, hstate, hholds]; simp)]
    · rw [Block.sleepBegins_mail, hold_pend, Block.heard_pend, Block.heard_taken]
  · refine ⟨(s.b.heard (q.withByte 0 1)).wakeRequest 7 0, ?_, fun hstate => ?_⟩
    · refine answersFrom_of _ rfl hpass ?_
      rw [Block.runSleep_wakes ((Req.withByte_length ..).trans hlen) hzeros hfn]
      exact Block.finish_answered _ _ _ _ _ _ (Nat.zero_le _) rfl
    · exact Block.wakeRequest_state _ _ _ (by rw [Block.heard_nw]; exact hstate)
  · refine ⟨(s.b.heard q).wakeHeld q.path.prid on, ?_, ?_⟩
    · refine answersFrom_of _ rfl hpass ?_
      rw [Block.runWakeHold_holds hlen hzeros (hfn ▸ hon), hfn]
      exact Block.finish_answered _ _ _ _ _ _ (Nat.zero_le _) rfl
    · rw [Block.wakeHeld_holds, Block.heard_nw]
  · exact ⟨s.b.poweredDown, rfl, Block.poweredDown_spec hstate hdies⟩
  · exact becomes_onBlock (f := fun b => b.poweredDown) rfl (s.b.poweredDown_stays hstays)
  · obtain ⟨c, hc, hon⟩ := hchan
    exact DieSt.stays hpower hsince hc hon
  · obtain ⟨r, hr⟩ := Option.isSome_iff_exists.mp hcode
    exact ⟨s.b.wakeDetected dom src, rfl, Block.wakeDetected_starts hr hstate⟩
  · exact becomes_onBlock (f := fun b => b.wakeDetected dom src) rfl (Block.wakeDetected_disabled hcode)
  · exact ⟨s.b.confirmWake.wakeRequest 2 0, rfl, Block.wakeRequest_state _ _ _ hstate, (Block.wakeRequest_keeps ..).2⟩
  · refine ⟨s.b.backToSleep, becomes_onBlock (f := fun b => b.wakeAckLate s.otp.lifecycle dom) rfl
      (Block.wakeAckLate_returns hlife hstate hlink hack), rfl, ?_⟩
    exact congrArg (fun n => satNat 0xFFFFFFFF (n + 1)) s.b.sleepNow_sleeps.2.2.2.2
  · have hlate := Block.wakeAckLate_own hlife hstate hlink hack hasleep hother
    refine ⟨(s.b.leave dom 0).modLane dom LaneSt.sleeps, becomes_onBlock (f := fun b => b.wakeAckLate s.otp.lifecycle dom) rfl hlate,
      ?_, ?_, ?_, ?_⟩
    · rw [Block.modLane_nw, Block.leave_nw]
      exact hstate
    · rw [Block.lane_modLane]
      exact Block.leave_st ..
    · rw [Block.lane_modLane]
      rfl
    · rw [Block.lane_modLane_other, Block.leave_other_field s.b dom 0 LaneSt.asleep]
      exact hother
  · refine ⟨s.b.falseWake, rfl, ?_, ?_⟩ <;> rw [Block.falseWake_begins hstate hconfirmed hserves]
    · exact (Block.sleepBegins_nw _).1
    · rw [(Block.sleepBegins_nw _).2, Block.raiseAll_nw, Block.modNw_nw]
  · exact becomes_onBlock (f := fun b => b.falseWake) rfl (Block.falseWake_confirmed hconfirmed)
  · exact ⟨s.b.keepsAwake n node, rfl, _, Block.keepsAwake_log hstate hawake hnetwork hnode hlog, rfl, rfl, rfl⟩

end Sys2Proof.Machine
end

section
/-! PROOF. Network management in sleep and commit (R252, R253, R407, R411-R413). Settles O50. -/

namespace Sys2Proof

/-! ## Entries of the tables of controllers -/

theorem LaneSt.ctl_modCtl (x : LaneSt) {i : Nat} (f : CanCtl → CanCtl) (h : i < x.can.length) :
    (x.modCtl i f).ctl i = f (x.ctl i) := updAt_getD_same _ _ _ _ h

/-! ## Checks of wake inputs (R252, R253) -/

section Inputs

variable {b : Block} {dom : Lane} {i : Nat} {mv : Int}

/-- What a comparator makes of a voltage outside its band. -/
theorem InputSt.wakeLevel_outside {x : InputSt} {level : Bool}
    (h : (mv < x.wakeLow ∧ level = false) ∨ (x.wakeLow ≤ mv ∧ x.wakeHigh < mv ∧ level = true)) : x.wakeLevel dom mv = level := by
  unfold InputSt.wakeLevel
  rcases h with ⟨hlow, rfl⟩ | ⟨hlow, hhigh, rfl⟩
  · exact if_pos hlow
  · rw [if_neg (Int.not_lt.mpr hlow), if_pos hhigh]

theorem Block.wakeInputChecked_failed (h : (b.lane dom).aonFault = true) : b.wakeInputChecked dom i mv = b := by
  unfold Block.wakeInputChecked
  rw [h, Bool.or_true, if_pos rfl]

/-- A check that a domain makes of a wake-enabled input in state 3. -/
theorem Block.wakeInputChecked_made (hstate : b.nw.state = 3) (hinput : b.wakeInput i = true) (haon : (b.lane dom).aonFault = false) :
    b.wakeInputChecked dom i mv =
      if (b.input i).wakeLevel dom mv = (b.input i).atSleep then b.modInput i fun x => { x with wakeRun := x.wakeRun.set dom 0 }
      else if (b.input i).wakeRun.get dom = 0 then b.modInput i fun x => { x with wakeRun := x.wakeRun.set dom 1 }
      else (b.modInput i fun x => { x with wakeRun := x.wakeRun.set dom 2 }).wakeDetected dom (.input (Fin.ofNat 48 i)) := by
  unfold Block.wakeInputChecked
  rw [hstate, hinput, haon]
  rfl

/-- The number of checks that a modification records. -/
theorem Block.wakeRun_set (h : i < b.inputs.length) (n : Nat) :
    (((b.modInput i fun x => { x with wakeRun := x.wakeRun.set dom n }).input i).wakeRun.get dom) = n := by
  rw [Block.input_modInput _ _ _ h]
  exact PerLane.get_set ..

end Inputs

/-! ## NM frames (R411, R412) -/

section Frames

variable {b : Block} {l : Lane}

/-- What a bus has agreed, but for the counts of its events. -/
def CanBus.uncounted (c : CanBus) : CanBus := { c with counts := [] }

/-- The agreed states of the buses, but for the counts of their events. -/
def Block.buses (b : Block) : List CanBus := b.can.map CanBus.uncounted

theorem Block.buses_raise (b : Block) (l : Lane) (ev cause subject : Nat) (detail : Int) :
    (b.raise l ev cause subject detail).buses = b.buses := by
  obtain ⟨lanes, evs, h⟩ := Block.raise_frame b l ev cause subject detail
  rw [h]
  rfl

theorem updAt_map_kept {α β : Type} (g : α → β) (f : α → α) (hkept : ∀ x, g (f x) = g x) (l : List α) (i : Nat) :
    (updAt l i f).map g = l.map g := by
  induction l generalizing i with
  | nil => cases i <;> rfl
  | cons x xs ih =>
    cases i with
    | zero => exact congrArg (· :: xs.map g) (hkept x)
    | succ i => exact congrArg (g x :: ·) (ih i)

/-- An event of a bus changes its counts alone. -/
theorem Block.buses_canEv (b : Block) (l : Lane) (i : Nat) (state : Bool) (cause n : Nat) :
    (b.canEv l i state cause n).buses = b.buses := by
  have hcount (cs : List (Nat × Nat) → List (Nat × Nat)) :
      (if state then b else b.modBus i fun c => { c with counts := cs c.counts }).buses = b.buses := by
    split
    · rfl
    · exact updAt_map_kept CanBus.uncounted (fun c => { c with counts := cs c.counts }) (fun _ => rfl) b.can i
  unfold Block.canEv
  dsimp only
  rw [apply_ite Block.buses, hcount fun cs => assocSet cs _ _]
  refine ite_eq_left_iff.mpr fun _ => ?_
  exact (Block.buses_raise ..).trans (hcount fun cs => assocSet cs _ _)

theorem Block.buses_canQueue (b : Block) (l : Lane) (i : Nat) (t : CanTx) : (b.canQueue l i t).buses = b.buses := by
  unfold Block.canQueue
  split
  · exact Block.buses_canEv ..
  · rfl

theorem Block.buses_nmSend (b : Block) (i : Nat) (keep commit : Bool) : (b.nmSend i keep commit).buses = b.buses :=
  foldl_keeps (fun t : Block => t.buses = b.buses) rfl fun t k h => (t.buses_canQueue k i _).trans h

/-- A field of a bus that counting events leaves. -/
theorem Block.field_of_buses {t u : Block} (h : t.buses = u.buses) (i : Nat) {α : Type} (f : CanBus → α)
    (hf : ∀ x : CanBus, f x.uncounted = f x := by intro; rfl) : f (t.bus i) = f (u.bus i) := by
  have hget := congrArg (fun cs : List CanBus => (cs[i]?).getD CanBus.fresh.uncounted) h
  have hbus (v : Block) : (v.buses[i]?).getD CanBus.fresh.uncounted = (v.bus i).uncounted := by
    unfold Block.buses Block.bus
    rw [List.getElem?_map, List.getD_eq_getElem?_getD]
    cases v.can[i]? <;> rfl
  rw [← hf, ← hbus, hget, hbus, hf]

/-- A frame that a controller outside bus-off takes into its queue. -/
theorem Block.canQueue_takes {i : Nat} (t : CanTx) (hoff : ((b.lane l).ctl i).busOff = false) (hlen : i < (b.lane l).can.length) :
    (((b.canQueue l i t).lane l).ctl i).tx = ((b.lane l).ctl i).tx ++ [t] := by
  unfold Block.canQueue
  rw [if_neg (ne_true_of_eq_false hoff), Block.lane_modLane, LaneSt.ctl_modCtl _ _ hlen]

/-- The cycle of the module's NM frames. -/
def Block.nmCycled (b : Block) : Block :=
  if 2 ≤ b.nw.state then b
  else b.nmBuses.foldl (fun b i => if (b.bus i).committed || (b.bus i).finalSent then b else b.nmSend i (b.nw.state == 0) false) b

/-- One NM bus that has not committed, and one lane in service: it takes the module's NM frame. -/
theorem Block.nmCycled_single {i : Nat} (hbuses : b.nmBuses = [i]) (hcommitted : (b.bus i).committed = false)
    (hfinal : (b.bus i).finalSent = false) (hstate : b.nw.state ≤ 1) (hserving : b.serving = [l]) :
    b.nmCycled = b.canQueue l i { frame := b.nmFrame (b.nw.state == 0) false, tries := 0, prid := none, final := false } := by
  unfold Block.nmCycled Block.nmSend
  rw [if_neg (by omega), hbuses, List.foldl_cons, List.foldl_nil, hcommitted, hfinal, hserving]
  rfl

/-! ## Commit (R407, R412) -/

/-- The timeout of network management on a bus. -/
def Block.nmTimedOut (b : Block) (i : Nat) : Block :=
  if b.nw.state != 1 || !b.nmBus i || (b.bus i).committed then b
  else if (b.bus i).finalSent then (b.serving.foldl (fun b l => b.canEv l i false 5 1) b).busCommits i
  else if b.busReady i then (b.modBus i fun u => { u with finalSent := true }).nmSend i false true
  else b

theorem Block.busCommits_commits {i : Nat} (h : i < b.can.length) : ((b.busCommits i).bus i).committed = true := by
  unfold Block.busCommits
  split
  · next hdone => exact hdone
  · have hevents : ((b.modBus i fun u => { u with committed := true }).raiseAll 234 0 i 0).buses =
        (b.modBus i fun u => { u with committed := true }).buses := (Block.buses_raise ..).trans (Block.buses_raise ..)
    rw [Block.field_of_buses hevents i CanBus.committed, Block.bus_modBus _ _ _ h]

section Due

variable {i : Nat} (hstate : b.nw.state = 1) (hbus : b.nmBus i = true) (hcommitted : (b.bus i).committed = false)
include hstate hbus hcommitted

theorem Block.nmTimedOut_due : b.nmTimedOut i =
    if (b.bus i).finalSent then (b.serving.foldl (fun b l => b.canEv l i false 5 1) b).busCommits i
    else if b.busReady i then (b.modBus i fun u => { u with finalSent := true }).nmSend i false true
    else b := by
  unfold Block.nmTimedOut
  rw [if_neg (by rw [hstate, hbus, hcommitted]; decide)]

/-- The final frame has not been sent in time: the bus commits without it. -/
theorem Block.nmTimedOut_late (hfinal : (b.bus i).finalSent = true) (hlen : i < b.can.length) :
    ((b.nmTimedOut i).bus i).committed = true := by
  rw [Block.nmTimedOut_due hstate hbus hcommitted, if_pos hfinal]
  have hbuses : (b.serving.foldl (fun b l => b.canEv l i false 5 1) b).buses = b.buses :=
    foldl_keeps (fun t : Block => t.buses = b.buses) rfl fun t l h => (t.buses_canEv l i false 5 1).trans h
  have hsame := congrArg List.length hbuses
  unfold Block.buses at hsame
  rw [List.length_map, List.length_map] at hsame
  exact Block.busCommits_commits (hsame ▸ hlen)

/-- With no other node heard the final frame follows. -/
theorem Block.nmTimedOut_final (hfinal : (b.bus i).finalSent = false) (hready : b.busReady i = true) (hlen : i < b.can.length) :
    ((b.nmTimedOut i).bus i).finalSent = true ∧ ((b.nmTimedOut i).bus i).committed = false := by
  rw [Block.nmTimedOut_due hstate hbus hcommitted, if_neg (ne_true_of_eq_false hfinal), if_pos hready]
  have hsent := Block.buses_nmSend (b.modBus i fun u => { u with finalSent := true }) i false true
  rw [Block.field_of_buses hsent i CanBus.finalSent, Block.field_of_buses hsent i CanBus.committed, Block.bus_modBus _ _ _ hlen]
  exact ⟨rfl, hcommitted⟩

theorem Block.nmTimedOut_waits (hfinal : (b.bus i).finalSent = false) (hready : b.busReady i = false) : b.nmTimedOut i = b := by
  rw [Block.nmTimedOut_due hstate hbus hcommitted, if_neg (ne_true_of_eq_false hfinal), if_neg (ne_true_of_eq_false hready)]

end Due

end Frames

end Sys2Proof

namespace Sys2Proof.Machine

/-- A wake-enabled input found once more at another level than at sleep entry starts the module (R253). -/
theorem wakeInput_starts {b : Block} {dom : Lane} {i : Input} (hstate : b.nw.state = 3) (hinput : b.wakeInput i = true) :
    ((b.modInput i fun x => { x with wakeRun := x.wakeRun.set dom 2 }).wakeDetected dom (.input (Fin.ofNat 48 i))).nw.state = 4 := by
  have hcode : (b.modInput i fun x => { x with wakeRun := x.wakeRun.set dom 2 }).wakeCode dom (.input (Fin.ofNat 48 i)) =
      some (3, i.val, 0) := by
    rw [Fin.ofNat_val_eq_self]
    exact if_pos hinput
  exact (Block.wakeDetected_starts hcode hstate).1

/-- Settles O50: the checks of wake inputs, the NM cycle and the NM timeout. -/
theorem networksAreManaged : Obligations.NetworksAreManaged := by
  unfold Obligations.NetworksAreManaged
  intro s hinputs hcan
  refine ⟨fun dom i mv haon => ?_, fun dom i mv level hstate hinput haon hlevel => ?_,
    fun i l hbuses hcommitted hfinal hstate hserving hlen hoff => ?_, fun hstate => ?_, fun i hstate hbus hcommitted => ?_⟩
  · exact becomes_onBlock (f := fun b => b.wakeInputChecked dom i mv) rfl (Block.wakeInputChecked_failed haon)
  · have hlt : i.val < s.b.inputs.length := by rw [hinputs]; exact i.isLt
    have hmade := Block.wakeInputChecked_made (mv := (mv : Int)) hstate hinput haon
    rw [InputSt.wakeLevel_outside (by exact_mod_cast hlevel)] at hmade
    refine ⟨fun hsame => ?_, fun hdiffers hrun => ?_, fun hdiffers hrun => ?_⟩ <;>
      refine ⟨s.b.wakeInputChecked dom i mv, rfl, ?_⟩ <;> rw [hmade]
    · rw [if_pos hsame]
      exact ⟨Block.wakeRun_set hlt 0, hstate⟩
    · rw [if_neg hdiffers, if_pos hrun]
      exact ⟨Block.wakeRun_set hlt 1, hstate⟩
    · rw [if_neg hdiffers, if_neg (by rw [hrun]; decide)]
      exact wakeInput_starts hstate hinput
  · refine ⟨s.b.nmCycled, rfl, ?_⟩
    rw [Block.nmCycled_single hbuses hcommitted hfinal hstate hserving]
    exact Block.canQueue_takes _ hoff (by rw [hlen]; exact i.isLt)
  · exact becomes_onBlock (f := Block.nmCycled) rfl (if_pos hstate)
  · have hlt : i.val < s.b.can.length := by rw [hcan]; exact i.isLt
    refine ⟨fun hfinal => ⟨s.b.nmTimedOut i, rfl, Block.nmTimedOut_late hstate hbus hcommitted hfinal hlt⟩,
      fun hfinal hready => ⟨s.b.nmTimedOut i, rfl, Block.nmTimedOut_final hstate hbus hcommitted hfinal hready hlt⟩,
      fun hfinal hready => becomes_onBlock (f := fun b => b.nmTimedOut i) rfl
        (Block.nmTimedOut_waits hstate hbus hcommitted hfinal hready)⟩

end Sys2Proof.Machine
end

section
/-! PROOF. Firmware images: staging, verification and activation (R280, R281, R493-R496). Settles O54. -/

namespace Sys2Proof

/-! ## What a heard request finds of images and updates -/

section Heard

variable (b : Block) (q : Req)

@[simp] theorem Block.lane_heard (l : Lane) : (b.heard q).lane l = b.lane l := by rw [Block.heard_eq]; rfl
@[simp] theorem Block.serves_heard (l : Lane) : (b.heard q).serves l = b.serves l := by rw [Block.heard_eq]; rfl
@[simp] theorem Block.act_heard : (b.heard q).act = b.act := by rw [Block.heard_eq]; rfl
@[simp] theorem Block.isActive_heard (l : Lane) : (b.heard q).isActive l = b.isActive l := by rw [Block.heard_eq]; rfl
@[simp] theorem Block.authLess_heard : (b.heard q).authLess = b.authLess := by rw [Block.heard_eq]; rfl
@[simp] theorem Block.img_heard : (b.heard q).img = b.img := by rw [Block.heard_eq]
@[simp] theorem Block.settled_heard : (b.heard q).settled = b.settled := by rw [Block.heard_eq]; rfl

@[simp] theorem Block.activating_heard : (b.heard q).activating = b.activating := by
  unfold Block.activating
  rw [Block.heard_pend]

@[simp] theorem Block.restarting_heard : (b.heard q).restarting = b.restarting := by
  unfold Block.restarting
  rw [Block.heard_pend, Block.lane_heard, Block.lane_heard]

end Heard

/-! ## Staging slots (R493-R495) -/

section Slots

variable (b : Block) (l : Lane)

theorem Block.staging_modStaging (f : Staging → Staging) : ((b.modStaging l f).lane l).staging = f (b.lane l).staging :=
  congrArg LaneSt.staging (Block.lane_modLane ..)

theorem Block.lane_modStaging_other (f : Staging → Staging) : (b.modStaging l f).lane l.other = b.lane l.other :=
  Block.lane_modLane_other ..

theorem Block.st_modStaging (f : Staging → Staging) (k : Lane) : ((b.modStaging l f).lane k).st = (b.lane k).st := by
  cases l <;> cases k <;> rfl

/-- What the lanes that run write into their slots. -/
def Block.written (f : Staging → Staging) : Block := b.writers.foldl (fun b l => b.modStaging l f) b

/-- A slot changed on a condition. -/
theorem Block.staging_modStagingIf (p : Prop) [Decidable p] (f : Staging → Staging) :
    ((if p then b.modStaging l f else b).lane l).staging = if p then f (b.lane l).staging else (b.lane l).staging := by
  split
  · exact Block.staging_modStaging ..
  · rfl

theorem Block.lane_modStagingIf_other (p : Prop) [Decidable p] (f : Staging → Staging) :
    (if p then b.modStaging l f else b).lane l.other = b.lane l.other := by
  split
  · exact Block.lane_modStaging_other ..
  · rfl

/-- A slot is written where its lane runs. -/
theorem Block.written_staging (f : Staging → Staging) :
    ((b.written f).lane l).staging = if 2 ≤ (b.lane l).st then f (b.lane l).staging else (b.lane l).staging := by
  unfold Block.written Block.writers
  simp only [List.foldl_filter, decide_eq_true_eq]
  rw [List.foldl_cons, List.foldl_cons, List.foldl_nil]
  have hfirst := b.lane_modStagingIf_other .a (2 ≤ (b.lane .a).st) f
  cases l with
  | a => exact (congrArg LaneSt.staging (Block.lane_modStagingIf_other _ .b _ f)).trans (b.staging_modStagingIf .a _ f)
  | b =>
    rw [Block.staging_modStagingIf]
    exact congrArg (fun x : LaneSt => if 2 ≤ (b.lane .b).st then f x.staging else x.staging) hfirst

end Slots

/-- A slot whose erase has ended. -/
def Staging.erased (s : Staging) : Staging := if s.st = .erasing then { s with st := .receiving } else s

theorem Staging.erased_st (s : Staging) : s.erased.st = if s.st = .erasing then .receiving else s.st := by
  unfold Staging.erased
  split <;> rfl

/-! ## UPDATE_BEGIN, UPDATE_BLOCK (R493, R494) -/

section Transfer

variable {b : Block} {r : Req}

/-- The staging slot that UPDATE_BEGIN erases. -/
def Staging.begun (n : Nat) : Staging := { Staging.empty with st := .erasing, declared := n }

theorem Block.runUpdateBegin_malformed
    (h : r.pay.length ≠ 8 ∨ fieldAt r.pay 0 4 < 400 ∨ 6291456 < fieldAt r.pay 0 4 ∨ zerosAt r.pay 4 4 = false) :
    b.runUpdateBegin r = b.reply r 0x8001 .badParam := by
  have hbad : (r.pay.length == 8 && decide (400 ≤ fieldAt r.pay 0 4) && decide (fieldAt r.pay 0 4 ≤ 6291456) && zerosAt r.pay 4 4) =
      false := by
    rcases h with h | h | h | h
    · simp [h]
    · simp [Nat.not_le.mpr h]
    · simp [Nat.not_le.mpr h]
    · simp [h]
  unfold Block.runUpdateBegin
  dsimp only
  rw [hbad]
  rfl

theorem Block.runUpdateBegin_formed (hlen : r.pay.length = 8) (hlow : 400 ≤ fieldAt r.pay 0 4) (hhigh : fieldAt r.pay 0 4 ≤ 6291456)
    (hzeros : zerosAt r.pay 4 4 = true) : b.runUpdateBegin r =
      if b.activating || b.restarting then b.reply r 0x8001 .busy
      else (b.written fun _ => Staging.begun (fieldAt r.pay 0 4)).ok r 0x8001 [] := by
  unfold Block.runUpdateBegin
  dsimp only
  rw [hlen, decide_eq_true hlow, decide_eq_true hhigh, hzeros]
  rfl

/-- The outcome of a block in a staging slot. -/
def Staging.blockInto (r : Req) (s : Staging) : Status × List (Nat × Byte) :=
  blockOutcome s.declared (s.st == .erasing) s.bytes (fieldAt r.pay 0 4) (r.pay.drop 12)

theorem Block.runUpdateBlock_formed (hform : blockPayOk r.pay = true) : b.runUpdateBlock r =
    if blockSumOk r.pay = false then b.reply r 0x8002 .badCheck
    else (b.written fun s => { s with bytes := (s.blockInto r).2 }).reply r 0x8002 ((b.lane b.act).staging.blockInto r).1 := by
  unfold Block.runUpdateBlock
  dsimp only
  rw [hform, Block.check7_good]
  cases blockSumOk r.pay <;> rfl

/-- The outcome of a block is final. -/
theorem blockOutcome_final (size : Nat) (erasing : Bool) (l : List (Nat × Byte)) (off : Nat) (data : List Byte) :
    (blockOutcome size erasing l off data).1.final = true := by
  unfold blockOutcome
  repeat' split
  all_goals rfl

end Transfer

/-! ## UPDATE_VERIFY (R491, R496) -/

section Verify

/-- The slot that the present transfer has written begins its verification. -/
def Block.verifiesAt (b : Block) (l : Lane) : Block :=
  if (b.lane l).transferred then b.modStaging l fun s => { s with verifying := true } else b

/-- Both slots. -/
def Block.verifies (b : Block) : Block := (b.verifiesAt .a).verifiesAt .b

theorem Block.verifiesAt_staging (b : Block) {l : Lane} (h : (b.lane l).transferred = true) :
    ((b.verifiesAt l).lane l).staging.verifying = true := by
  unfold Block.verifiesAt
  rw [if_pos h, Block.staging_modStaging]

theorem Block.verifiesAt_other (b : Block) (l : Lane) : (b.verifiesAt l).lane l.other = b.lane l.other :=
  Block.lane_modStagingIf_other ..

theorem Block.verifies_staging (b : Block) {l : Lane} (h : (b.lane l).transferred = true) :
    (b.verifies.lane l).staging.verifying = true := by
  cases l with
  | a => exact (congrArg (fun x : LaneSt => x.staging.verifying) ((b.verifiesAt .a).verifiesAt_other .b)).trans (b.verifiesAt_staging h)
  | b => exact Block.verifiesAt_staging _ ((congrArg LaneSt.transferred (b.verifiesAt_other .a)).trans h)

theorem Block.runUpdateVerify_formed {b : Block} {r : Req} (hpay : r.pay = []) (hroom : 8 ≤ r.room) : b.runUpdateVerify r =
    if b.authLess then b.finish r 0x8003 .locked (b.verifyPay (b.lane .a).staging.result (b.lane .b).staging.result) .none
    else b.verifies.hold r 0x8003 .updVerify true := by
  unfold Block.runUpdateVerify
  rw [hpay, show ([] : List Byte).isEmpty = true from rfl, Block.check7_good, Block.needRoom_enough _ _ _ _ _ hroom]
  rfl

/-- A failed step has a result code. -/
theorem imageFault_code {k : KeySt} {rollback : Nat} {verify : Bool} {s : Staging} {f : Nat × Nat}
    (h : imageFault k rollback verify s = some f) : f.2 ≠ 0 := by
  unfold imageFault at h
  dsimp only at h
  repeat' split at h
  all_goals cases h <;> decide

/-- A slot of a lane that runs is verified; a slot of one that does not stops waiting. -/
def Block.slotChecked (b : Block) (run : Bool) (rollback : Nat) (l : Lane) : Block :=
  if run then (b.verifyLane rollback l).2 else b.modStaging l fun s => { s with verifying := false }

theorem Block.raise_staging (b : Block) (l k : Lane) (ev cause subject : Nat) (detail : Int) :
    ((b.raise l ev cause subject detail).lane k).staging = (b.lane k).staging :=
  Block.field_of_untold (Block.untold_raise ..) k LaneSt.staging

theorem Block.raise_keys (b : Block) (l : Lane) (ev cause subject : Nat) (detail : Int) :
    (b.raise l ev cause subject detail).keys = b.keys := by
  obtain ⟨lanes, evs, h⟩ := Block.raise_frame b l ev cause subject detail
  rw [h]

theorem Block.raise_mail (b : Block) (l : Lane) (ev cause subject : Nat) (detail : Int) :
    (b.raise l ev cause subject detail).mail = b.mail := by
  obtain ⟨lanes, evs, h⟩ := Block.raise_frame b l ev cause subject detail
  rw [h]

variable (b : Block) (rollback : Nat) (l : Lane)

theorem Block.verifyLane_fails {f : Nat × Nat} (h : imageFault b.keys rollback true (b.lane l).staging = some f) :
    (b.verifyLane rollback l).2 =
      (b.modStaging l fun s => { s with st := .rejected, result := f.2, verifying := false }).raise l 250 f.2 l.num 0 := by
  unfold Block.verifyLane
  dsimp only
  rw [h]

/-- The slot of an image without a fault. -/
theorem Block.verifyLane_passes (h : imageFault b.keys rollback true (b.lane l).staging = none) : ∃ f : Staging → Staging,
    (b.verifyLane rollback l).2 = b.modStaging l f ∧ ∀ s, (f s).result = 0 ∧ (f s).verifying = false := by
  unfold Block.verifyLane
  dsimp only
  rw [h]
  dsimp only
  refine ⟨_, rfl, ?_⟩
  exact fun _ => ⟨rfl, rfl⟩

/-- A verified slot carries its result, and nothing else of keys, mailboxes and the other slot changes. -/
theorem Block.verifyLane_spec : ((b.verifyLane rollback l).2.lane l).staging.verifying = false ∧
    (((b.verifyLane rollback l).2.lane l).staging.result = 0 ↔ imageFault b.keys rollback true (b.lane l).staging = none) ∧
    ((b.verifyLane rollback l).2.lane l.other).staging = (b.lane l.other).staging ∧
    (b.verifyLane rollback l).2.keys = b.keys ∧ (b.verifyLane rollback l).2.mail = b.mail := by
  cases h : imageFault b.keys rollback true (b.lane l).staging with
  | none =>
    obtain ⟨f, hslot, hf⟩ := b.verifyLane_passes rollback l h
    rw [hslot, Block.staging_modStaging, Block.lane_modStaging_other]
    exact ⟨(hf _).2, ⟨fun _ => rfl, fun _ => (hf _).1⟩, rfl, rfl, rfl⟩
  | some f =>
    rw [b.verifyLane_fails rollback l h, Block.raise_staging, Block.raise_staging, Block.staging_modStaging,
      Block.lane_modStaging_other, Block.raise_keys, Block.raise_mail]
    exact ⟨rfl, ⟨fun hzero => absurd hzero (imageFault_code h), fun hnone => absurd hnone (by nofun)⟩, rfl, rfl, rfl⟩

/-- The check of one slot leaves the other one, the keys and the mailboxes. -/
theorem Block.slotChecked_beside (run : Bool) : ((b.slotChecked run rollback l).lane l.other).staging = (b.lane l.other).staging ∧
    (b.slotChecked run rollback l).keys = b.keys ∧ (b.slotChecked run rollback l).mail = b.mail := by
  unfold Block.slotChecked
  split
  · exact (b.verifyLane_spec rollback l).2.2
  · rw [Block.lane_modStaging_other]
    exact ⟨rfl, rfl, rfl⟩

/-- The slot of a lane is verified while the lane runs. -/
def Block.verifyRuns (b : Block) (l : Lane) : Bool := (b.lane l).staging.verifying && decide (2 ≤ (b.lane l).st)

/-- Both slots checked. -/
def Block.slotsChecked (b : Block) (rollback : PerLane Nat) : Block :=
  (b.slotChecked (b.verifyRuns .a) (rollback.get .a) .a).slotChecked (b.verifyRuns .b) (rollback.get .b) .b

/-- A slot that was to be verified carries its result. -/
theorem Block.slotsChecked_result {b : Block} {l : Lane} (rollback : PerLane Nat) (hrun : b.verifyRuns l = true) :
    ((b.slotsChecked rollback).lane l).staging.verifying = false ∧
    (((b.slotsChecked rollback).lane l).staging.result = 0 ↔
      imageFault b.keys (rollback.get l) true (b.lane l).staging = none) := by
  unfold Block.slotsChecked
  cases l with
  | a =>
    obtain ⟨hother, -, -⟩ := (b.slotChecked (b.verifyRuns .a) (rollback.get .a) .a).slotChecked_beside (rollback.get .b) .b (b.verifyRuns .b)
    rw [show Lane.b.other = Lane.a from rfl] at hother
    rw [hother, hrun]
    obtain ⟨hoff, hresult, -⟩ := b.verifyLane_spec (rollback.get .a) .a
    exact ⟨hoff, hresult⟩
  | b =>
    obtain ⟨hother, hkeys, -⟩ := b.slotChecked_beside (rollback.get .a) .a (b.verifyRuns .a)
    rw [show Lane.a.other = Lane.b from rfl] at hother
    obtain ⟨hoff, hresult, -⟩ := (b.slotChecked (b.verifyRuns .a) (rollback.get .a) .a).verifyLane_spec (rollback.get .b) .b
    rw [hother, hkeys] at hresult
    rw [hrun]
    exact ⟨hoff, hresult⟩

/-- A request that waits for the verification. -/
def Pend.verifies (e : Pend) : Bool := match e.kind with | .updVerify => true | _ => false

/-- A verification that is done: both slots are checked, and what waited for it is answered. -/
theorem Block.verifyDone_checked {b : Block} {rollback : PerLane Nat} (h : b.mail.pend.any Pend.verifies = true) : ∃ st pay,
    b.verifyDone rollback = (b.slotsChecked rollback).finishWhere Pend.verifies st pay .none := by
  unfold Block.verifyDone
  refine ⟨_, _, (if_neg ?_).trans rfl⟩
  exact fun hnone => absurd ((congrArg not h).symm.trans hnone) (by decide)

theorem Block.verifyDone_idle {b : Block} {rollback : PerLane Nat} (h : b.mail.pend = []) : b.verifyDone rollback = b := by
  unfold Block.verifyDone
  rw [h]
  rfl

end Verify

/-! ## UPDATE_ACTIVATE (R280, R281) -/

section Activate

variable {b : Block} {r : Req} {l : Lane} {level : LaneSt → Nat}

/-- The steps of UPDATE_ACTIVATE for one lane, without a way back. -/
theorem Block.runUpdateActivate_single (hlen : r.pay.length = 4) (hlane : byteAt r.pay 0 = l.num + 1) (hback : byteAt r.pay 1 = 0)
    (hzeros : zerosAt r.pay 2 2 = true) (hroom : 8 ≤ r.room) : b.runUpdateActivate level r =
      if (b.lane l).staging.st != .accepted then b.reply r 0x8004 .badCheck
      else if [Lane.a, Lane.b].any (fun k => levelsApart (level (b.lane l)) (b.lane k).image.level) then b.reply r 0x8004 .denied
      else if !b.serves l.other then b.reply r 0x8004 .notActive
      else if !b.settled || b.activating then b.reply r 0x8004 .busy
      else (b.hold r 0x8004 (.updActivate (BitVec.ofNat 2 (l.num + 1)) false b.act none (l == .a) (l == .b)) true).activateNext := by
  have hbits : (l.num + 1).testBit 0 = (l == .a) ∧ (l.num + 1).testBit 1 = (l == .b) := by cases l <;> exact ⟨rfl, rfl⟩
  have hlanes : (if (l == Lane.a) = true then [Lane.a] else []) ++ (if (l == Lane.b) = true then [Lane.b] else []) = [l] := by
    cases l <;> rfl
  have hform : ((4 == 4) && decide (1 ≤ l.num + 1) && decide (l.num + 1 ≤ 3) && decide (0 ≤ 1) && true) = true := by cases l <;> rfl
  unfold Block.runUpdateActivate
  dsimp only
  rw [hlen, hlane, hback, hzeros, hform, hbits.1, hbits.2, hlanes, Block.check7_good, Block.needRoom_enough _ _ _ _ _ hroom]
  simp only [List.any_cons, List.any_nil, Bool.or_false]
  rfl

/-- A request left pending changes the mailboxes alone. -/
theorem Block.hold_keeps (b : Block) (q : Req) (op : Nat) (k : PendKind) (now : Bool) :
    b.hold q op k now = { b with mail := (b.hold q op k now).mail } := by
  have hheld : b.hold q op k now = b.modMail _ := b.hold_held q op k now
  rw [hheld]
  rfl

/-- A request that is an update's. -/
def Pend.updates (e : Pend) : Bool := match e.kind with | .updActivate .. => true | _ => false

theorem Block.activation_eq (b : Block) : b.activation = b.mail.pend.find? Pend.updates := rfl

/-- With no update running, one left pending is the running one. -/
theorem Block.activation_hold (b : Block) (q : Req) (op : Nat) {sel : BitVec 2} {back : Bool} {origin : Lane} {cur : Option Lane}
    {la lb : Bool} (hnone : b.activating = false) : ∃ e, (b.hold q op (.updActivate sel back origin cur la lb) true).activation = some e ∧
      e.kind = .updActivate sel back origin cur la lb := by
  have hfind : b.mail.pend.find? Pend.updates = none :=
    List.find?_eq_none.mpr fun e he => List.any_eq_false.mp hnone e he
  rw [Block.activation_eq, Machine.hold_pend, List.find?_append, hfind]
  exact ⟨_, rfl, rfl⟩

/-- The first lane of an update is a standby lane: it restarts on its staged image. -/
theorem Block.activateNext_standby {e : Pend} {origin : Lane} (hfind : b.activation = some e)
    (hkind : e.kind = .updActivate (BitVec.ofNat 2 (l.num + 1)) false origin none (l == .a) (l == .b)) (hact : b.act = l.other) :
    ∃ k, b.activateNext = (b.setActivation k).beginRestart l := by
  obtain ⟨req, op, kind, rest⟩ := e
  subst hkind
  unfold Block.activateNext
  rw [hfind]
  dsimp only
  rw [hact, Lane.other_other]
  cases l <;> exact ⟨_, rfl⟩

/-- A standby lane that begins its restart is in reset. -/
theorem Block.beginRestart_standby (hstandby : b.isActive l = false) : ((b.beginRestart l).lane l).st = 0 ∧
    ((b.beginRestart l).lane l).rolling = true := by
  have hrestart : b.beginRestart l = b.restart l 2 := if_neg (ne_true_of_eq_false hstandby)
  rw [hrestart, Block.restart_eq]
  refine ⟨Block.leave_st .., ?_⟩
  have hleft := congrArg LaneSt.rolling ((b.modLane l fun x =>
    { x with startCause := 2, rolling := true, restartWaits := false }).leave_lane l 0)
  rw [Block.lane_modLane] at hleft
  exact hleft

/-- The update of a standby lane restarts it at once. -/
theorem Block.update_restarts (b : Block) (l : Lane) (q : Req) (op : Nat) (hnone : b.activating = false)
    (hstandby : b.isActive l = false) (hactive : b.isActive l.other = true) :
    let t := (b.hold q op (.updActivate (BitVec.ofNat 2 (l.num + 1)) false b.act none (l == .a) (l == .b)) true).activateNext
    (t.lane l).st = 0 ∧ (t.lane l).rolling = true := by
  obtain ⟨e, hfind, hkind⟩ := b.activation_hold q op (sel := BitVec.ofNat 2 (l.num + 1)) (back := false) (origin := b.act)
    (cur := none) (la := l == .a) (lb := l == .b) hnone
  have hact : b.act = l.other := by
    unfold Block.act
    rw [beq_iff_eq.mp hactive]
    rfl
  have hkept := b.hold_keeps q op (.updActivate (BitVec.ofNat 2 (l.num + 1)) false b.act none (l == .a) (l == .b)) true
  obtain ⟨k, hnext⟩ := Block.activateNext_standby hfind hkind (by rw [hkept]; exact hact)
  dsimp only
  rw [hnext]
  refine Block.beginRestart_standby ?_
  rw [hkept]
  exact hstandby

end Activate

end Sys2Proof

namespace Sys2Proof.Machine

/-- Settles O54: each request about a firmware image, and what ends its erase and its verification. -/
theorem firmwareIsStaged : Obligations.FirmwareIsStaged := by
  unfold Obligations.FirmwareIsStaged
  intro s q
  refine ⟨fun hpass hbad => ?_, fun hpass hlen hlow hhigh hzeros => ⟨fun hbusy => ?_, fun hidle hsteady => ?_⟩, fun l => ?_,
    fun hpass hform => ⟨fun hsum => ?_, fun hsum => ?_⟩, fun hpass hpay hroom => ⟨fun hless => ?_, fun hauth => ?_⟩,
    fun e hpend hkind => ?_, fun hpend => ?_, fun l hpass hlen hlane hback hzeros hroom => ⟨fun hstaged => ?_, fun hstaged hlevels =>
      ⟨fun hother => ?_, fun hother hsettled hidle hstandby hactive => ?_⟩⟩⟩
  · refine answersFrom_of _ rfl hpass ?_
    rw [Block.runUpdateBegin_malformed hbad]
    exact Block.reply_answered _ _ _ _ rfl
  · refine answersFrom_of _ rfl hpass ?_
    rw [Block.runUpdateBegin_formed hlen hlow hhigh hzeros, Block.activating_heard, Block.restarting_heard, if_pos (by simpa using hbusy)]
    exact Block.reply_answered _ _ _ _ rfl
  · refine ⟨(s.b.heard q).written fun _ => Staging.begun (fieldAt q.pay 0 4), answersFrom_of _ rfl hpass ?_, fun l => ?_⟩
    · rw [Block.runUpdateBegin_formed hlen hlow hhigh hzeros, Block.activating_heard, Block.restarting_heard, hidle, hsteady, if_neg (by decide)]
      exact Block.finish_answered _ _ _ _ _ _ (Nat.zero_le _) rfl
    · rw [Block.written_staging, Block.lane_heard]
      exact ⟨fun hruns => if_pos hruns, fun hstopped => if_neg (Nat.not_le_of_lt hstopped)⟩
  · refine ⟨s.b.eraseDone (.firmware l), rfl, ?_, Block.lane_modLane_other ..⟩
    exact (congrArg Staging.st (Block.staging_modStaging _ _ Staging.erased)).trans (Staging.erased_st _)
  · refine answersFrom_of _ rfl hpass ?_
    rw [Block.runUpdateBlock_formed hform, if_pos hsum]
    exact Block.reply_answered _ _ _ _ rfl
  · refine ⟨(s.b.heard q).written fun t => { t with bytes := (t.blockInto q).2 }, answersFrom_of _ rfl hpass ?_, fun l hruns => ?_⟩
    · rw [Block.runUpdateBlock_formed hform, if_neg (by rw [hsum]; decide), Block.act_heard, Block.lane_heard]
      exact Block.reply_answered _ _ _ _ (blockOutcome_final ..)
    · rw [Block.written_staging, Block.lane_heard, if_pos hruns]
      rfl
  · refine answersFrom_of _ rfl hpass ?_
    rw [Block.runUpdateVerify_formed hpay hroom, Block.authLess_heard, if_pos hless, Block.lane_heard, Block.lane_heard]
    have hsame (ra rb : Nat) : (s.b.heard q).verifyPay ra rb = s.b.verifyPay ra rb := by
      unfold Block.verifyPay
      rw [Block.act_heard, Block.lane_heard]
    rw [hsame]
    exact Block.finish_answered _ _ _ _ _ _ hroom rfl
  · refine ⟨(s.b.heard q).verifies, holdsFrom_of _ rfl hpass ?_, fun l htransferred => ?_⟩
    · rw [Block.runUpdateVerify_formed hpay hroom, Block.authLess_heard, if_neg (ne_true_of_eq_false hauth)]
      exact Block.hold_held ..
    · exact Block.verifies_staging _ (by rw [Block.lane_heard]; exact htransferred)
  · have hself : e.verifies = true := by rw [Pend.verifies, hkind]
    obtain ⟨st, pay, hdone⟩ := Block.verifyDone_checked (b := s.b) (rollback := s.otp.rollback) (by rw [hpend]; simp [hself])
    refine ⟨s.b.verifyDone s.otp.rollback, rfl, ?_, fun l hverifying hruns => ?_⟩ <;> rw [hdone]
    · refine (Block.finishWhere_single ?_ hself).1
      obtain ⟨-, -, hmailA⟩ := s.b.slotChecked_beside (s.otp.rollback.get .a) .a (s.b.verifyRuns .a)
      obtain ⟨-, -, hmailB⟩ := (s.b.slotChecked (s.b.verifyRuns .a) (s.otp.rollback.get .a) .a).slotChecked_beside
        (s.otp.rollback.get .b) .b (s.b.verifyRuns .b)
      exact (congrArg MailSt.pend (hmailB.trans hmailA)).trans hpend
    · have hlane : ((s.b.slotsChecked s.otp.rollback).finishWhere Pend.verifies st pay .none).lane l =
          (s.b.slotsChecked s.otp.rollback).lane l := congrArg (PerLane.get · l) (Block.finishWhere_lanes ..)
      rw [hlane]
      exact Block.slotsChecked_result _ (by rw [Block.verifyRuns, hverifying, decide_eq_true hruns]; rfl)
  · exact becomes_onBlock (f := fun b => b.verifyDone s.otp.rollback) rfl (Block.verifyDone_idle hpend)
  · refine answersFrom_of _ rfl hpass ?_
    rw [Block.runUpdateActivate_single hlen hlane hback hzeros hroom, Block.lane_heard, if_pos (bne_iff_ne.mpr hstaged)]
    exact Block.reply_answered _ _ _ _ rfl
  all_goals
    have hnear : [Lane.a, Lane.b].any (fun k => levelsApart (fieldAt (s.b.lane l).staging.image 12 2) (s.b.lane k).image.level) =
        false := by simp [hlevels]
    have hrun := Block.runUpdateActivate_single (b := s.b.heard q) (level := fun x => fieldAt x.staging.image 12 2) hlen hlane hback
      hzeros hroom
    simp only [Block.lane_heard, Block.serves_heard, Block.settled_heard, Block.activating_heard] at hrun
    rw [hstaged, if_neg (by decide), if_neg (ne_true_of_eq_false hnear), hother] at hrun
  · refine answersFrom_of _ rfl hpass ?_
    rw [hrun]
    exact Block.reply_answered _ _ _ _ rfl
  · rw [hsettled, hidle, if_neg (by decide), if_neg (by decide)] at hrun
    refine ⟨_, becomes_onBlock (show _ = execUpdateActivate q s from rfl) ((Block.serve_passes _ _ _ _ hpass).trans hrun), ?_⟩
    exact (s.b.heard q).update_restarts l q 0x8004 (by rw [Block.activating_heard]; exact hidle)
      (by rw [Block.isActive_heard]; exact hstandby) (by rw [Block.isActive_heard]; exact hactive)

end Sys2Proof.Machine
end

section
/-! PROOF. Configuration images: staging, the commit and its restart (R506-R508). Settles O55. That the image is checked when the commit
has been written is log entry 92's. -/

namespace Sys2Proof

/-! ## CONFIG_BLOCK (R506) -/

section Blocks

variable {b : Block} {r : Req}

/-- A block that meets no written byte is programmed. -/
theorem blockOutcome_empty {size off : Nat} {data : List Byte} (hsize : off + data.length ≤ size) :
    blockOutcome size false [] off data = (.ok, bytesPut [] off data) := by
  have hfree (l : List Byte) (n : Nat) : (mapIdxFrom (fun i (v : Byte) => (byteAt? [] i, v)) n l).any
      (fun e => match e.1 with | some w => w != e.2 | none => false) = false := by
    induction l generalizing n with
    | nil => rfl
    | cons x xs ih => exact ih (n + 1)
  unfold blockOutcome
  rw [if_neg (Nat.not_lt.mpr hsize), if_neg Bool.false_ne_true]
  exact if_neg (ne_true_of_eq_false (hfree data off))

theorem Block.runConfigBlock_badSum (hform : blockPayOk r.pay = true) (hsum : blockSumOk r.pay = false) :
    b.runConfigBlock r = b.reply r 0x8010 .badCheck := by
  unfold Block.runConfigBlock
  dsimp only
  rw [hform, hsum]
  rfl

theorem Block.runConfigBlock_formed (hform : blockPayOk r.pay = true) (hsum : blockSumOk r.pay = true)
    (hsize : fieldAt r.pay 0 4 + (r.pay.drop 12).length ≤ 524288) : b.runConfigBlock r =
      if fieldAt r.pay 0 4 = 0 ∧ b.img.staging ≠ [] then
        (b.modImg fun i => { i with cfgSt := 1, staging := [] }).reply r 0x8010 .busy
      else
        let o := blockOutcome 524288 (b.img.cfgSt == 1) b.img.staging (fieldAt r.pay 0 4) (r.pay.drop 12)
        (b.modImg fun i => { i with staging := o.2, cfgSt := if o.1 = .ok then 2 else i.cfgSt }).reply r 0x8010 o.1 := by
  unfold Block.runConfigBlock
  dsimp only
  rw [hform, hsum, Block.check7_good, if_neg (by decide), if_neg (Nat.not_lt.mpr hsize)]

/-- A block finds the staging area empty. -/
theorem Block.runConfigBlock_first (hform : blockPayOk r.pay = true) (hsum : blockSumOk r.pay = true)
    (hsize : fieldAt r.pay 0 4 + (r.pay.drop 12).length ≤ 524288) (hempty : b.img.staging = []) (herased : b.img.cfgSt ≠ 1) :
    b.runConfigBlock r = (b.modImg fun i =>
      { i with staging := bytesPut [] (fieldAt r.pay 0 4) (r.pay.drop 12), cfgSt := 2 }).reply r 0x8010 .ok := by
  rw [Block.runConfigBlock_formed hform hsum hsize, if_neg fun h => h.2 hempty, hempty, beq_eq_false_iff_ne.mpr herased]
  dsimp only
  rw [blockOutcome_empty hsize]
  rfl

end Blocks

/-! ## CONFIG_COMMIT (R507) -/

section Commit

variable {b : Block}

theorem Block.runConfigCommit_formed {r : Req} (hlen : r.pay.length = 4) (hmode : byteAt r.pay 0 ≤ 2)
    (hzeros : zerosAt r.pay 1 3 = true) (hroom : 8 ≤ r.room) : b.runConfigCommit r =
      if b.activating || !b.settled then b.reply r 0x8011 .busy
      else (b.modImg fun i => { i with cfgSt := 3 }).hold r 0x8011 (.cfgCommit (byteAt r.pay 0)) true := by
  unfold Block.runConfigCommit
  dsimp only
  rw [hlen, decide_eq_true hmode, hzeros, show ((4 == 4) && true && true) = true from rfl, Block.check7_good,
    Block.needRoom_enough _ _ _ _ _ hroom]

/-- A request that waits for a commit. -/
def Pend.commits (e : Pend) : Bool := match e.kind with | .cfgCommit _ => true | _ => false

/-- The banks of the lanes in service replaced. -/
def Block.banksSet (b : Block) (pl : List Byte) : Block := b.serving.foldl (fun b l => b.modImg fun i => i.setBank l pl) b

/-- The images once a commit is written. -/
def ImgSt.committed (i : ImgSt) (c : CfgImage) (mode waits : Nat) : ImgSt :=
  { i with staging := [], cfgSt := 1, commits := satNat 0xFFFFFFFF (i.commits + 1), deferred := satNat 65535 waits,
           version := if mode = 1 then c.version.toNat else i.version }

section Written

variable {e : Pend} {mode : Nat} {ae : Bool} (hpend : b.mail.pend = [e]) (hkind : e.kind = .cfgCommit mode)
include hpend hkind

/-- A commit whose checks fail. -/
theorem Block.commitWritten_fails {st : Status} {i : Nat} (hcheck : b.commitCheck ae = .error (st, i)) : b.commitWritten ae =
    (b.modImg fun x => { x with cfgSt := if x.staging.isEmpty then 0 else 2 }).finishWhere Pend.commits st (leBytes 4 i) .none := by
  obtain ⟨req, op, kind, rest⟩ := e
  subst hkind
  unfold Block.commitWritten
  rw [hpend, hcheck]
  rfl

/-- A commit whose checks pass. -/
theorem Block.commitWritten_passes {pl : List Byte} {c : CfgImage} (hcheck : b.commitCheck ae = .ok (pl, c)) :
    ∃ mode waits pay eff, b.commitWritten ae = (((b.banksSet pl).modImg fun i => i.committed c mode waits).raiseAll 249 0 noSubject
      (toSigned 4 c.version.toNat)).finishWhere Pend.commits .ok pay eff := by
  obtain ⟨req, op, kind, rest⟩ := e
  subst hkind
  unfold Block.commitWritten
  rw [hpend, hcheck]
  exact ⟨_, _, _, _, rfl⟩

end Written

theorem Block.commitWritten_idle {ae : Bool} (hpend : b.mail.pend = []) : b.commitWritten ae = b := by
  unfold Block.commitWritten
  rw [hpend]
  rfl

/-- Both banks replaced in both lanes hold the image. -/
theorem ImgSt.setBank_both (i : ImgSt) (pl : List Byte) (l : Lane) : ((i.setBank .a pl).setBank .b pl).bank l = pl := by
  have hsame : (i.setBank .a pl).setBank .b pl = { i with accepted := pl, acceptedB := none } := by
    unfold ImgSt.setBank ImgSt.bank
    dsimp only
    rw [if_pos rfl]
  rw [hsame]
  cases l <;> rfl

theorem ImgSt.setBank_commits (i : ImgSt) (pl : List Byte) (l : Lane) : (i.setBank l pl).commits = i.commits := by
  unfold ImgSt.setBank
  cases l <;> rfl

/-- With both lanes in service both take the image. -/
theorem Block.banksSet_img (pl : List Byte) (hboth : b.bothServe = true) :
    (b.banksSet pl).img = (b.img.setBank .a pl).setBank .b pl := by
  obtain ⟨ha, hb⟩ := Bool.and_eq_true_iff.mp hboth
  unfold Block.banksSet Block.serving
  rw [List.filter_cons_of_pos ha, List.filter_cons_of_pos hb]
  rfl

theorem Block.banksSet_mail (pl : List Byte) : (b.banksSet pl).mail = b.mail :=
  foldl_keeps (fun t : Block => t.mail = b.mail) rfl fun _ _ h => h

theorem Block.raiseAll_img (b : Block) (ev cause subject : Nat) (detail : Int) : (b.raiseAll ev cause subject detail).img = b.img := by
  obtain ⟨lanes, evs, h⟩ := Block.raiseAll_frame b ev cause subject detail
  rw [h]

theorem Block.finishWhere_img (b : Block) (sel : Pend → Bool) (st : Status) (pay : List Byte) (eff : Effect) :
    (b.finishWhere sel st pay eff).img = b.img := by rw [Block.finishWhere_beside]

theorem Block.breakCopy_img (b : Block) (l : Lane) : (b.breakCopy l).img = b.img := by
  unfold Block.breakCopy
  dsimp only
  split <;> rfl

/-- Lanes that are off leave the images. -/
theorem Block.lanesOff_img (b : Block) (cause : Nat) : (b.lanesOff cause).img = b.img := by
  have hcopies : ((b.breakCopy .a).breakCopy .b).img = b.img := by rw [Block.breakCopy_img, Block.breakCopy_img]
  rw [← hcopies]
  rfl

/-- The restart that a commit of mode 2 asks for. -/
def Block.commitRestarts (b : Block) : Block :=
  if b.img.commitRestart then (b.modImg fun i => { i with commitRestart := false }).lanesOff 0 else b

end Commit

end Sys2Proof

namespace Sys2Proof.Machine

/-- Settles O55: each request about a configuration image, the commit that is written, and its restart. -/
theorem configurationIsCommitted : Obligations.ConfigurationIsCommitted := by
  unfold Obligations.ConfigurationIsCommitted
  intro s q
  refine ⟨fun hpass hform hsize => ⟨fun hsum => ?_, fun hsum hoff hold => ?_, fun hsum hempty herased => ?_⟩, ?_,
    fun hpass hlen hmode hzeros hroom => ⟨fun hbusy => ?_, fun hidle hsettled => ?_⟩, fun e mode hpend hkind =>
      ⟨fun st i hcheck => ?_, fun pl c hcheck hboth => ?_⟩, fun hpend => ?_, fun hasked => ?_, fun hnone => ?_⟩
  · refine answersFrom_of _ rfl hpass ?_
    rw [Block.runConfigBlock_badSum hform hsum]
    exact Block.reply_answered _ _ _ _ rfl
  · refine ⟨(s.b.heard q).modImg fun i => { i with cfgSt := 1, staging := [] }, answersFrom_of _ rfl hpass ?_, rfl, rfl⟩
    rw [Block.runConfigBlock_formed hform hsum hsize, Block.img_heard, if_pos ⟨hoff, hold⟩]
    exact Block.reply_answered _ _ _ _ rfl
  · refine ⟨(s.b.heard q).modImg fun i => { i with staging := bytesPut [] (fieldAt q.pay 0 4) (q.pay.drop 12), cfgSt := 2 },
      answersFrom_of _ rfl hpass ?_, rfl, rfl⟩
    rw [Block.runConfigBlock_first hform hsum hsize (by rw [Block.img_heard]; exact hempty) (by rw [Block.img_heard]; exact herased)]
    exact Block.reply_answered _ _ _ _ rfl
  · refine ⟨s.b.eraseDone .config, rfl, ?_⟩
    by_cases herasing : s.b.img.cfgSt = 1
    · rw [if_pos herasing]
      exact congrArg ImgSt.cfgSt (if_pos herasing)
    · rw [if_neg herasing]
      exact congrArg ImgSt.cfgSt (if_neg herasing)
  · refine answersFrom_of _ rfl hpass ?_
    rw [Block.runConfigCommit_formed hlen hmode hzeros hroom, Block.activating_heard, Block.settled_heard,
      if_pos (by rcases hbusy with h | h <;> simp [h])]
    exact Block.reply_answered _ _ _ _ rfl
  · refine holdsFrom_of _ rfl hpass ?_
    rw [Block.runConfigCommit_formed hlen hmode hzeros hroom, Block.activating_heard, Block.settled_heard, hidle, hsettled,
      if_neg (by decide)]
    exact Block.hold_held ..
  · have hself : e.commits = true := by rw [Pend.commits, hkind]
    refine ⟨s.b.commitWritten s.otp.codeAE, rfl, ?_⟩
    rw [Block.commitWritten_fails hpend hkind hcheck, Block.finishWhere_img]
    obtain ⟨hpend', hdone⟩ := Block.finishWhere_single (b := s.b.modImg fun x =>
      { x with cfgSt := if x.staging.isEmpty then 0 else 2 }) (sel := Pend.commits) (st := st) (pay := leBytes 4 i) (eff := .none) hpend hself
    exact ⟨hpend', rfl, hdone⟩
  · have hself : e.commits = true := by rw [Pend.commits, hkind]
    obtain ⟨mode', waits, pay, eff, hwritten⟩ := Block.commitWritten_passes hpend hkind hcheck
    have hbanks := s.b.banksSet_img pl hboth
    refine ⟨s.b.commitWritten s.otp.codeAE, rfl, ?_⟩
    rw [hwritten, Block.finishWhere_img, Block.raiseAll_img, Block.modImg_img, hbanks]
    refine ⟨(Block.finishWhere_single ?_ hself).1, fun l => ImgSt.setBank_both s.b.img pl l, rfl, ?_⟩
    · rw [Block.raiseAll_mail, Block.modImg_mail, Block.banksSet_mail]
      exact hpend
    · show satNat 0xFFFFFFFF (((s.b.img.setBank .a pl).setBank .b pl).commits + 1) = _
      rw [ImgSt.setBank_commits, ImgSt.setBank_commits]
  · exact becomes_onBlock (f := fun b => b.commitWritten s.otp.codeAE) rfl (Block.commitWritten_idle hpend)
  · refine ⟨(s.b.modImg fun i => { i with commitRestart := false }).lanesOff 0,
      becomes_onBlock (f := Block.commitRestarts) rfl (if_pos hasked), ?_⟩
    obtain ⟨-, hactive, hst⟩ := (s.b.modImg fun i => { i with commitRestart := false }).lanesOff_off 0
    exact ⟨hst, hactive, by rw [Block.lanesOff_img]; rfl⟩
  · exact becomes_onBlock (f := Block.commitRestarts) rfl (if_neg (ne_true_of_eq_false hnone))

end Sys2Proof.Machine
end

section
/-! PROOF. A bid that had waited. Refutes O57: RING_BID for another hand goes on behind PENDING, but a request that was told PENDING while
it waited is not told it again (R112), so no PENDING response of it joins those that wait for visibility. -/

namespace Sys2Proof.Machine

/-- PRID 3's bid for hand 2, its buffers in the first granule of tenant SRAM. -/
def bidOfTwo : Req :=
  { path := .part 3, auth := false, fence := false, tag := 1, seq := 1, payload := [2, 0, 0, 0], payAddr := 0, respAddr := 8192,
    cap := 4096, stamp := 0, unsecured := false }

/-- The slice of PRID 3: one granule of shared tenant SRAM. -/
def sliceOfThree : Slice := { Slice.empty with phase := .running, sram := [{ base := 0, len := 65536, shared := true }] }

/-- Both lanes in service with their nodes synchronised under hand 0 and PRID 3 permitted to bid, while a request that has waited and
was told PENDING is carried out; nothing else waits or pends. -/
def resumedBid : State :=
  { State.reset with
    b := { Block.delivered with
      lanes := .both { LaneSt.off with st := 4, ring := { RingNode.fresh with st := .synchronised, hand := 0 } },
      mod := { ModuleSt.off with active := some .a },
      params := [(pkey 0x400D 0, 8)],
      part := { PartSt.fresh with slices := setAt (List.replicate 32 Slice.empty) 3 sliceOfThree },
      mail := { Block.delivered.mail with resuming := some (0, true) } } }

/-- The bid meets every hypothesis of the clause of RING_BID for another hand. -/
theorem resumedBid_hyps : resumedBid.b.passes 0x4001 bidOfTwo = true ∧ bidOfTwo.pay.length = 4 ∧ byteAt bidOfTwo.pay 0 = 2 ∧
    byteAt bidOfTwo.pay 1 = 0 ∧ zerosAt bidOfTwo.pay 2 2 = true ∧ (resumedBid.b.p 0x400D 0).testBit bidOfTwo.path.prid = true ∧
    (resumedBid.b.ring resumedBid.b.act).running = true ∧ resumedBid.b.mail.pend = [] ∧ resumedBid.b.serves .a = true ∧
    (resumedBid.b.ring .a).hand ≠ Fin.ofNat 8 2 := by decide +kernel

/-- The block the bid leaves has no response that waits for visibility. -/
theorem resumedBid_untold : ((resumedBid.b.serve 0x4001 bidOfTwo fun b => b.runRingBid bidOfTwo).mail.done.isEmpty) = true := by
  decide +kernel

/-- Refutes O57: the bid of a request that was told PENDING while it waited completes no PENDING response. -/
theorem not_nodesKeepTheRound : ¬ Obligations.NodesKeepTheRound := by
  unfold Obligations.NodesKeepTheRound
  intro h
  obtain ⟨hpass, hlen, hhand, hfn, hzeros, hpermit, hruns, hpend, hserves, hother⟩ := resumedBid_hyps
  obtain ⟨-, hbid⟩ := (h resumedBid bidOfTwo .a).1 hpass hlen (by rw [hhand]; decide) (by rw [hfn]; decide) hzeros
  obtain ⟨-, -, hanother, -⟩ := hbid hpermit
  obtain ⟨b', hbecomes, -, hdone, -⟩ := hanother hruns hfn hpend ⟨.a, hserves, by rw [hhand]; exact hother⟩
  have hexec : exec (.ringBid bidOfTwo) resumedBid = .next (resumedBid.withBlock
      (resumedBid.b.serve 0x4001 bidOfTwo fun b => b.runRingBid bidOfTwo)) := rfl
  have hblock : resumedBid.b.serve 0x4001 bidOfTwo (fun b => b.runRingBid bidOfTwo) = b' :=
    congrArg State.b (Host.Outcome.next.inj (hexec.symm.trans hbecomes))
  rw [← hblock, List.isEmpty_iff.mp resumedBid_untold] at hdone
  exact absurd hdone (List.not_mem_nil)

end Sys2Proof.Machine
end

section
/-! PROOF. The node of a lane: what leaves it alone and what each of its operations changes (R310-R348). -/

namespace Sys2Proof

/-! ## What leaves a node alone -/

section Nodes

variable (b : Block) (l k : Lane)

theorem Block.ring_modNode (f : RingNode → RingNode) : (b.modNode l f).ring l = f (b.ring l) :=
  congrArg LaneSt.ring (Block.lane_modLane ..)

theorem Block.ring_modSw (f : SwitchSt → SwitchSt) : (b.modLane l fun x => x.modSw f).ring k = b.ring k := by
  cases l <;> cases k <;> rfl

theorem Block.ring_raise (ev cause subject : Nat) (detail : Int) : (b.raise l ev cause subject detail).ring k = b.ring k :=
  Block.field_of_untold (Block.untold_raise ..) k LaneSt.ring

theorem Block.ring_ringEv (ev cause subject : Nat) : (b.ringEv l ev cause subject).ring k = b.ring k := Block.ring_raise ..

theorem Block.params_ringEv (ev cause subject : Nat) : (b.ringEv l ev cause subject).params = b.params := Block.raise_params ..

theorem Block.ring_raiseLimited (key ev cause subject : Nat) (detail : Int) :
    (b.raiseLimited key l ev cause subject detail).ring k = b.ring k := by
  unfold Block.raiseLimited
  dsimp only
  rw [apply_ite (Block.ring · k)]
  exact (ite_congr rfl (fun _ => b.ring_raise l k ev cause subject detail) fun _ => rfl).trans (ite_self _)

theorem Block.ring_swEvent (ev port : Nat) (detail : Int) : (b.swEvent l ev port detail).ring k = b.ring k := Block.ring_raiseLimited ..

theorem Block.ring_swCount (port ev : Nat) (f : PortStats → PortStats) : (b.swCount l port ev f).ring k = b.ring k :=
  (Block.ring_swEvent ..).trans (Block.ring_modSw ..)

theorem Block.ring_fromResidue (port : Nat) : (b.fromResidue l port).ring k = b.ring k := by
  refine foldl_keeps (fun t : Block => t.ring k = b.ring k) rfl fun t r h => ?_
  dsimp only
  split
  · exact ((Block.ring_swCount ..).trans (Block.ring_modSw ..)).trans h
  · split
    · exact (Block.ring_modSw ..).trans h
    · exact h

theorem Block.ring_checkSent (stream num prid : Nat) (content : List Byte) :
    (b.checkSent l stream num prid content).ring k = b.ring k :=
  Block.field_of_untold (Block.untold_checkSent ..) k LaneSt.ring

/-- A frame leaves a queue. -/
theorem Block.ring_takeHead (port q : Nat) (f : SwFrame) (send : Bool) : (b.takeHead l port q f send).ring k = b.ring k := by
  unfold Block.takeHead
  dsimp only
  rw [Block.ring_modSw, Block.ring_fromResidue]
  split
  · split
    · exact (Block.ring_checkSent ..).trans (Block.ring_modSw ..)
    · exact Block.ring_modSw ..
  · exact (Block.ring_swEvent ..).trans (Block.ring_modSw ..)

/-- What tells whether a node keeps the ring awake leaves the nodes. -/
theorem Block.ring_sleepWatch (f : RingFrame) : (b.sleepWatch l f).ring k = b.ring k := by
  unfold Block.sleepWatch
  split <;> rfl

end Nodes

/-! ## Synchronisation left -/

section Leaving

variable (b : Block) (l : Lane)

/-- A node that has left synchronisation. -/
def RingNode.unsynced (r : RingNode) (dest : RingState) : RingNode :=
  { r with st := dest, iAmDealer := false, goodRounds := 0, goodRate := false, zeroRounds := 0, overLimit := 0, devs := [],
           devsPrev := [], callKind := .none, callState := .none, sent := [], beacon := none }

theorem Block.ring_leaveSync (dest : RingState) : (b.leaveSync l dest).ring l = (b.ring l).unsynced dest := by
  unfold Block.leaveSync
  dsimp only
  split
  · exact (Block.ring_ringEv ..).trans (Block.ring_modNode ..)
  · exact Block.ring_modNode ..

theorem Block.ring_enterSync : (b.enterSync l).ring l = { b.ring l with st := .synchronised } :=
  (Block.ring_ringEv ..).trans (Block.ring_modNode ..)

/-- A node out of the ring is not synchronised. -/
theorem Block.ringIdle_ne : b.ringIdle l ≠ .synchronised := by
  unfold Block.ringIdle
  split
  · decide
  · split <;> decide

/-- The state of a node out of the ring rests on parameters and its configuration. -/
theorem Block.ringIdle_congr {t : Block} (hparams : t.params = b.params) (hcfg : (t.ring l).cfg = (b.ring l).cfg) :
    t.ringIdle l = b.ringIdle l := by
  have hp (id i : Nat) : t.p id i = b.p id i := by
    unfold Block.p
    rw [hparams]
  have hnode : (t.lane l).ring.cfg = (b.lane l).ring.cfg := hcfg
  unfold Block.ringIdle
  rw [hp, hnode]

end Leaving

/-! ## Wake requests by a ring (R413) -/

section Wakes

variable {b : Block} {l : Lane}

theorem Block.ringWakes_awake (hcommit : (b.ring l).sleepCommit = false) (hst : (b.ring l).st ≠ .asleep) : b.ringWakes l = b := by
  unfold Block.ringWakes
  rw [hcommit, beq_eq_false_iff_ne.mpr hst]
  rfl

theorem Block.ringWakes_latches (hcommit : (b.ring l).sleepCommit = true) (hstate : b.nw.state = 2) (hlatched : b.nw.latched = none) :
    (b.ringWakes l).nw.latched = some (5, l.num) := by
  unfold Block.ringWakes Block.wakeRequest
  rw [hcommit, hstate]
  exact congrArg (fun x : Option (Nat × Nat) => match x with | some x => some x | none => some (5, l.num)) hlatched

theorem RingNode.follows_awake {r : RingNode} (h : r.follows = true) : r.st ≠ .asleep := by
  intro hasleep
  unfold RingNode.follows RingNode.running at h
  rw [hasleep] at h
  exact absurd h (by decide)

theorem RingNode.follows_of_running {r : RingNode} (h : r.running = true) : r.follows = true := by
  unfold RingNode.follows
  rw [h]
  rfl

end Wakes

/-! ## Own frames (R311, R314, R319, R320) -/

section Own

variable {b : Block} {l : Lane} {slot : Nat} {sl : Slot}

/-- A control frame on the wire. -/
def RingFrame.control (l : Lane) (f : RingFrame) : RingFrame := { f with wire := ringWire l (dirPort f.west).num none }

/-- An own frame at a port that is not looped. -/
theorem Block.sendOwn_direct {f : RingFrame} (h : (b.ring l).looped.get (dirPort f.west).side = false) :
    (b.sendOwn l f).ring l =
      { b.ring l with sent := { f with wire := ringWire l (dirPort f.west).num f.carried } :: (b.ring l).sent } := by
  unfold Block.sendOwn
  dsimp only
  rw [h]
  exact Block.ring_modNode ..

/-- With nothing that waits in the slot lists there is no frame to carry. -/
theorem Block.slotFrame_empty (h1 : (b.lane l).sw.queue 1 7 = []) (h2 : (b.lane l).sw.queue 2 7 = []) :
    b.slotFrame l slot = (b, none) := by
  unfold Block.slotFrame
  rw [h1]
  dsimp only [Block.slotHead]
  rw [h2]
  rfl

/-- The frame that waits for the slot at the eastern port. -/
theorem Block.slotFrame_waits {id : Nat} {x : SwFrame} (hqueue : (b.lane l).sw.queue 1 7 = [id])
    (hframe : (b.lane l).sw.frame? id = some x) (hslot : x.slot = slot) (hage : b.aged x = false) :
    b.slotFrame l slot = (b.takeHead l 1 7 x true, some x.frame) := by
  unfold Block.slotFrame
  rw [hqueue]
  dsimp only [Block.slotHead]
  rw [hframe]
  dsimp only
  rw [hslot, hage, if_neg (by simp), if_neg (by decide)]

section Slots

variable (hslot : (b.handOf l).slots[slot]? = some sl)
include hslot

theorem Block.sendStatic_own (horiginates : (b.ring l).originates = true) (hstatic : sl.polled = false)
    (howner : sl.owner = (b.ring l).cfg.node) : b.sendStatic l slot =
      let f := { (b.ring l).header (if (b.slotFrame l slot).2.isSome then 1 else 2) slot sl.west with carried := (b.slotFrame l slot).2 }
      ((b.slotFrame l slot).1.modNode l fun n => n.tells f).sendOwn l f := by
  unfold Block.sendStatic
  rw [hslot]
  dsimp only
  rw [horiginates, hstatic, howner, if_neg (by simp)]

theorem Block.sendPolled_own (horiginates : (b.ring l).originates = true) (hpolled : sl.polled = true) : b.sendPolled l slot =
    ((b.slotFrame l slot).1.modNode l fun n => { n with polledSlots := slot :: n.polledSlots }).sendOwn l
      { (b.ring l).header (if (b.slotFrame l slot).2.isSome then 4 else 5) slot sl.west with carried := (b.slotFrame l slot).2 } := by
  unfold Block.sendPolled
  rw [hslot]
  dsimp only
  rw [horiginates, hpolled, if_neg (by decide)]

/-- A null frame in an own slot. -/
theorem Block.sendStatic_null (horiginates : (b.ring l).originates = true) (hstatic : sl.polled = false)
    (howner : sl.owner = (b.ring l).cfg.node) (hloop : (b.ring l).looped.get (dirPort sl.west).side = false)
    (hempty : b.slotFrame l slot = (b, none)) :
    ((b.sendStatic l slot).ring l).sent = ((b.ring l).header 2 slot sl.west).control l :: (b.ring l).sent := by
  rw [Block.sendStatic_own hslot horiginates hstatic howner, hempty]
  dsimp only
  rw [Block.sendOwn_direct (by rw [Block.ring_modNode]; exact hloop), Block.ring_modNode]
  rfl

/-- The frame that waits in an own slot. -/
theorem Block.sendStatic_data {t : Block} {e : EthFrame} (horiginates : (b.ring l).originates = true) (hstatic : sl.polled = false)
    (howner : sl.owner = (b.ring l).cfg.node) (hloop : (b.ring l).looped.get (dirPort sl.west).side = false)
    (hframe : b.slotFrame l slot = (t, some e)) (hring : t.ring l = b.ring l) : ((b.sendStatic l slot).ring l).sent =
      { (b.ring l).header 1 slot sl.west with carried := some e, wire := { dst := e.dst, src := e.src, version := 1, fcsOk := true } } ::
        (b.ring l).sent := by
  rw [Block.sendStatic_own hslot horiginates hstatic howner, hframe]
  dsimp only
  rw [Block.sendOwn_direct (by rw [Block.ring_modNode, hring]; exact hloop), Block.ring_modNode, hring]
  rfl

/-- The answer to a poll. -/
theorem Block.sendPolled_null (horiginates : (b.ring l).originates = true) (hpolled : sl.polled = true)
    (hloop : (b.ring l).looped.get (dirPort sl.west).side = false) (hempty : b.slotFrame l slot = (b, none)) :
    ((b.sendPolled l slot).ring l).sent = ((b.ring l).header 5 slot sl.west).control l :: (b.ring l).sent ∧
    ((b.sendPolled l slot).ring l).polledSlots = slot :: (b.ring l).polledSlots := by
  rw [Block.sendPolled_own hslot horiginates hpolled, hempty]
  dsimp only
  rw [Block.sendOwn_direct (by rw [Block.ring_modNode]; exact hloop), Block.ring_modNode]
  exact ⟨rfl, rfl⟩

/-- The Dealer's poll of another node. -/
theorem Block.poll_other (horiginates : (b.ring l).originates = true) (hpolled : sl.polled = true) (hdealer : (b.ring l).iAmDealer = true)
    (hloop : (b.ring l).looped.get (dirPort sl.west).side = false) (hnamed : (b.handOf l).polledNode (b.ring l).round slot ≠ 255)
    (hother : (b.handOf l).polledNode (b.ring l).round slot ≠ (b.ring l).cfg.node) :
    ((b.poll l slot).ring l).sent = ((b.ring l).header 3 slot sl.west).control l :: (b.ring l).sent := by
  unfold Block.poll
  rw [hslot]
  dsimp only
  rw [horiginates, hdealer, hpolled, beq_eq_false_iff_ne.mpr hnamed, if_neg (by decide), if_neg hother, Block.sendOwn_direct hloop]
  rfl

end Slots

theorem Block.sendStatic_shut (h : (b.ring l).originates = false) : b.sendStatic l slot = b := by
  unfold Block.sendStatic
  dsimp only
  rw [h]
  cases (b.handOf l).slots[slot]? <;> rfl

theorem Block.poll_shut (h : (b.ring l).originates = false) : b.poll l slot = b := by
  unfold Block.poll
  dsimp only
  rw [h]
  cases (b.handOf l).slots[slot]? <;> rfl

end Own

/-! ## Frames taken in and repeated (R310, R314, R315) -/

section Arrivals

variable {b : Block} {l : Lane} {port : RingPort} {f : RingFrame}

/-- A node but for what the static frames of a round tell it. -/
def RingNode.untold (r : RingNode) : RingNode :=
  { r with aliveNow := 0, bids := [], acks := 0, noSleepBid := 0, claims := [], devs := [] }

theorem Block.untold_ite {p : Prop} [Decidable p] {t u : Block} {r : RingNode} (ht : (t.ring l).untold = r)
    (hu : (u.ring l).untold = r) : ((if p then t else u).ring l).untold = r := by
  split
  · exact ht
  · exact hu

/-- A node that has noted the key of a frame. -/
def RingNode.notes (r : RingNode) (f : RingFrame) : RingNode := { r with seen := (f.origin.val, f.round.toNat, f.slot) :: r.seen }

/-- A frame that carries none and is taken in: its key is noted, and what it tells. -/
theorem Block.takeIn_new (hfollows : (b.ring l).follows = true)
    (hnew : (b.ring l).seen.contains (f.origin.val, f.round.toNat, f.slot) = false) (hcarried : f.carried = none) :
    ((b.takeIn l port f).ring l).untold = ((b.ring l).notes f).untold := by
  have hnoted : ((b.modNode l fun n => n.notes f).ring l).untold = ((b.ring l).notes f).untold :=
    congrArg RingNode.untold (Block.ring_modNode ..)
  have htold : ((((b.modNode l fun n => n.notes f).modNode l fun n => n.tells f).sleepWatch l f).ring l).untold =
      ((b.ring l).notes f).untold := by
    rw [Block.ring_sleepWatch, Block.ring_modNode]
    exact hnoted
  have hstage (p : Prop) [Decidable p] := Block.untold_ite (p := p) htold hnoted
  unfold Block.takeIn
  dsimp only
  rw [hfollows, hnew, if_neg (by decide), hcarried]
  exact Block.untold_ite ((congrArg RingNode.untold (Block.ring_modNode ..)).trans (hstage _)) (hstage _)

/-- A frame passed on at a port that is not looped. -/
theorem Block.repeatFrame_direct (hhops : f.hops < 32) (hloop : (b.ring l).looped.get port.other.side = false) : ∃ res,
    ((b.repeatFrame l port f).ring l) = { b.ring l with
      sent := { f with hops := f.hops + 1, corr := f.corr + (b.ring l).delays.get port.side + res } :: (b.ring l).sent } := by
  refine ⟨b.drawNat.1, ?_⟩
  unfold Block.repeatFrame
  dsimp only
  rw [if_neg (Nat.not_le_of_lt hhops), hloop]
  exact Block.ring_modNode ..

theorem Block.repeatFrame_limit (hhops : 32 ≤ f.hops) : (b.repeatFrame l port f).ring l = b.ring l := by
  unfold Block.repeatFrame
  dsimp only
  rw [if_pos hhops]
  exact Block.ring_ringEv ..

theorem RingWire.good_iff (w : RingWire) : w.good = true ↔ w.version = 1 ∧ w.fcsOk = true := by
  unfold RingWire.good
  rw [Bool.and_eq_true, beq_iff_eq]

section Slots

variable (hgood : f.wire.good = true) (hcommit : (b.ring l).sleepCommit = false) (hruns : (b.ring l).running = true)
  (hkind : f.kind.val ≤ 5) (hwrap : f.wrap.val ≠ 3) (hfeed : f.feed = false)
include hgood hcommit hruns hkind hwrap hfeed

/-- A slot frame of another node at a running one. -/
theorem Block.slotArrives_other (horigin : f.origin.val ≠ (b.ring l).cfg.node) :
    b.slotArrives l port f = (b.takeIn l port f).repeatFrame l port f := by
  have hfollows := RingNode.follows_of_running hruns
  unfold Block.slotArrives
  dsimp only
  rw [hgood, Block.ringWakes_awake hcommit (RingNode.follows_awake hfollows), hfollows, hfeed, hruns, ite_self,
    decide_eq_false (Nat.not_lt.mpr hkind), beq_eq_false_iff_ne.mpr hwrap, beq_eq_false_iff_ne.mpr horigin]
  rfl

/-- An own frame that the node did not send. -/
theorem Block.slotArrives_own (horigin : f.origin.val = (b.ring l).cfg.node) (hsent : (b.ring l).sent = []) :
    b.slotArrives l port f = b.ringEv l 180 0 f.slot := by
  have hfollows := RingNode.follows_of_running hruns
  unfold Block.slotArrives
  dsimp only
  rw [hgood, Block.ringWakes_awake hcommit (RingNode.follows_awake hfollows), hfollows, hfeed, hsent, ite_self,
    decide_eq_false (Nat.not_lt.mpr hkind), beq_eq_false_iff_ne.mpr hwrap, beq_iff_eq.mpr horigin]
  rfl

end Slots

theorem Block.slotArrives_discards (hbad : f.wire.good = false) : b.slotArrives l port f = b := by
  unfold Block.slotArrives
  rw [hbad]
  rfl

theorem Block.openArrives_discards (hbad : f.wire.good = false) : b.openArrives l port f = b := by
  unfold Block.openArrives
  rw [hbad]
  rfl

section Open

variable (hgood : f.wire.good = true) (hcommit : (b.ring l).sleepCommit = false) (hfollows : (b.ring l).follows = true)
include hgood hcommit hfollows

/-- A link check. -/
theorem Block.openArrives_check (hkind : f.kind = 7) :
    ((b.openArrives l port f).ring l).peerNow.get port.side = f.healthy := by
  have htaken : b.openArrives l port f = b.modNode l fun n => { n with peerNow := n.peerNow.set port.side f.healthy } := by
    unfold Block.openArrives
    dsimp only
    rw [hgood, Block.ringWakes_awake hcommit (RingNode.follows_awake hfollows), hfollows, hkind, ite_self]
    rfl
  rw [htaken, Block.ring_modNode]
  exact PerLane.get_set ..

/-- A carried frame that the switch core does not take in waits for the other port while there is room. -/
theorem Block.openArrives_carried {e : EthFrame} (hkind : f.kind = 6) (hcarried : f.carried = some e)
    (hclass : classifyIn b.net.entries port.num none (e.vid.getD (b.p 0x4805 port.num)) e = none) :
    ((b.openArrives l port f).ring l).openTransit.get port.other.side =
      if (b.ring l).openTransit.get port.other.side + e.len ≤ 65536 then (b.ring l).openTransit.get port.other.side + e.len
      else (b.ring l).openTransit.get port.other.side := by
  have htaken : b.openArrives l port f = if (b.ring l).openTransit.get port.other.side + e.len ≤ 65536 then
      b.modNode l fun n => { n with openTransit := n.openTransit.upd port.other.side (· + e.len) }
      else b.ringEv l 179 0 255 := by
    unfold Block.openArrives
    dsimp only
    rw [hgood, Block.ringWakes_awake hcommit (RingNode.follows_awake hfollows), hfollows, hkind, ite_self, if_neg (by decide),
      if_neg (by decide), if_neg (by decide), if_pos rfl, hcarried]
    dsimp only
    rw [hclass]
    rfl
  rw [htaken]
  split
  · rw [Block.ring_modNode]
    exact PerLane.get_upd ..
  · rw [Block.ring_ringEv]

end Open

end Arrivals

end Sys2Proof
end

section
/-! PROOF. What a node sends, repeats and measures (R308-R346, R413). Settles O58. -/

namespace Sys2Proof

/-! ## Delays (R327) -/

section Delays

variable {b : Block} {l : Lane}

/-- Two delays lie more than 50 ns apart. -/
def farApart (x y : Nat) : Prop := x + 50 < y ∨ y + 50 < x

theorem farApart_iff (x y : Nat) : (decide (x + 50 < y) || decide (y + 50 < x)) = true ↔ farApart x y := by
  rw [Bool.or_eq_true, decide_eq_true_eq, decide_eq_true_eq]
  rfl

/-- The delay of the western port measured alone. -/
theorem Block.delaysMeasured_west {m : List Nat} (hfollows : (b.ring l).follows = true) (hm : m ≠ []) :
    b.delaysMeasured l [] m =
      let t := b.modNode l fun n => { n with delays := ⟨(b.ring l).delays.a, median m⟩ }
      if (decide ((b.ring l).delays.b + 50 < median m) || decide (median m + 50 < (b.ring l).delays.b)) = true then
        if (b.ring l).running then (t.ringEv l 177 0 255).leaveSync l ((t.ringEv l 177 0 255).ringIdle l) else t.ringEv l 177 0 255
      else t := by
  have hnear : (decide ((b.ring l).delays.a + 50 < (b.ring l).delays.a) || decide ((b.ring l).delays.a + 50 < (b.ring l).delays.a)) =
      false := by simp
  obtain ⟨x, rest, rfl⟩ := List.exists_cons_of_ne_nil hm
  unfold Block.delaysMeasured
  simp only [List.isEmpty_nil, List.isEmpty_cons, if_true, Bool.false_eq_true, if_false]
  rw [hfollows, hnear, Bool.false_or, if_neg (by decide)]

/-- A measured delay stands; a change beyond 50 ns ends synchronisation. -/
theorem Block.delaysMeasured_spec {m : List Nat} (hfollows : (b.ring l).follows = true) (hm : m ≠ []) :
    ((b.delaysMeasured l [] m).ring l).delays = ⟨(b.ring l).delays.a, median m⟩ ∧ ((b.delaysMeasured l [] m).ring l).st =
      if (b.ring l).running = true ∧ ((b.ring l).delays.b + 50 < median m ∨ median m + 50 < (b.ring l).delays.b) then b.ringIdle l
      else (b.ring l).st := by
  let t := b.modNode l fun n => { n with delays := ⟨(b.ring l).delays.a, median m⟩ }
  have ht : t.ring l = { b.ring l with delays := ⟨(b.ring l).delays.a, median m⟩ } := Block.ring_modNode ..
  have hevent : (t.ringEv l 177 0 255).ring l = { b.ring l with delays := ⟨(b.ring l).delays.a, median m⟩ } :=
    (Block.ring_ringEv ..).trans ht
  have hidle : (t.ringEv l 177 0 255).ringIdle l = b.ringIdle l :=
    Block.ringIdle_congr b l (Block.params_ringEv t l 177 0 255) (by rw [hevent])
  rw [Block.delaysMeasured_west hfollows hm]
  dsimp only
  by_cases hfar : (b.ring l).delays.b + 50 < median m ∨ median m + 50 < (b.ring l).delays.b
  · rw [if_pos ((farApart_iff ..).mpr hfar)]
    by_cases hruns : (b.ring l).running = true
    · rw [if_pos hruns, if_pos ⟨hruns, hfar⟩, Block.ring_leaveSync, hidle, hevent]
      exact ⟨rfl, rfl⟩
    · rw [if_neg hruns, if_neg fun h => hruns h.1, hevent]
      exact ⟨rfl, rfl⟩
  · rw [if_neg fun h => hfar ((farApart_iff ..).mp h), if_neg fun h => hfar h.2, ht]
    exact ⟨rfl, rfl⟩

end Delays

/-! ## The end of the slots (R329-R332, R336) -/

section Slots

variable (b : Block) (l : Lane)

/-- A node but for its Call's outcome, its sleep bid and the polls it missed. -/
def RingNode.atCall (r : RingNode) : RingNode :=
  { r with callKind := .none, callState := .none, withdrawn := 0, sleepCommit := false, sleepBid := false, noCallBefore := 0,
           pollsMissed := 0 }

theorem RingNode.values_atCall (r : RingNode) : r.atCall.values = r.values := rfl

/-- The parameters and the nodes but for their Calls stand. -/
def Block.CallsApart (b : Block) (l : Lane) (t : Block) : Prop := t.params = b.params ∧ (t.ring l).atCall = (b.ring l).atCall

variable {b l} in
theorem Block.CallsApart.ringEv {t : Block} (h : b.CallsApart l t) (ev cause subject : Nat) :
    b.CallsApart l (t.ringEv l ev cause subject) :=
  ⟨(Block.params_ringEv ..).trans h.1, (congrArg RingNode.atCall (Block.ring_ringEv ..)).trans h.2⟩

variable {b l} in
theorem Block.CallsApart.modNode {t : Block} (h : b.CallsApart l t) {f : RingNode → RingNode} (hf : ∀ r, (f r).atCall = r.atCall) :
    b.CallsApart l (t.modNode l f) :=
  ⟨h.1, (congrArg RingNode.atCall (Block.ring_modNode ..)).trans ((hf _).trans h.2)⟩

theorem Block.CallsApart.rfl : b.CallsApart l b := ⟨by rfl, by rfl⟩

variable {b l} in
theorem Block.CallsApart.findCall {t : Block} (h : b.CallsApart l t) : b.CallsApart l (t.findCall l) := by
  unfold Block.findCall
  dsimp only
  split
  · exact h
  · split
    · exact h.modNode fun _ => by rfl
    · exact (h.modNode fun _ => by rfl).ringEv ..

variable {b l} in
theorem Block.CallsApart.findAwake {t : Block} (h : b.CallsApart l t) : b.CallsApart l (t.findAwake l) := by
  unfold Block.findAwake
  dsimp only
  split
  · exact h.modNode fun _ => by rfl
  · exact h

variable {b l} in
theorem Block.CallsApart.missedPolls {t : Block} (h : b.CallsApart l t) : b.CallsApart l (t.missedPolls l) := by
  unfold Block.missedPolls
  dsimp only
  split
  · exact h
  · exact foldl_keeps (b.CallsApart l) h fun _ _ hu => (hu.modNode fun _ => by rfl).ringEv ..

/-- The polls that were missed leave the Call. -/
theorem Block.missedPolls_call : ((b.missedPolls l).ring l).callState = (b.ring l).callState := by
  unfold Block.missedPolls
  dsimp only
  split
  · rfl
  · refine foldl_keeps (fun t : Block => (t.ring l).callState = (b.ring l).callState) rfl fun t k h => ?_
    rw [Block.ring_ringEv, Block.ring_modNode]
    exact h

/-- What ends the averages: the node leaves synchronisation, enters it, or goes on. -/
def Block.settlesSync (b : Block) (l : Lane) : Block :=
  let r := b.ring l
  if r.running && (decide (2 ≤ r.zeroRounds) || decide (2 ≤ r.overLimit)) then b.leaveSync l (b.ringIdle l)
  else if r.st == .integrating && decide (2 ≤ r.goodRounds) && r.goodRate && (b.lane l).ready then b.enterSync l
  else b

theorem Block.ring_settlesSync : ((b.settlesSync l).ring l).syncN = (b.ring l).syncN ∧
    ((b.settlesSync l).ring l).pendingCorr = (b.ring l).pendingCorr ∧
    (((b.settlesSync l).ring l).st = .synchronised → ((b.settlesSync l).ring l).callState = (b.ring l).callState) := by
  unfold Block.settlesSync
  dsimp only
  split
  · rw [Block.ring_leaveSync]
    exact ⟨rfl, rfl, fun h => absurd h (b.ringIdle_ne l)⟩
  · split
    · rw [Block.ring_enterSync]
      exact ⟨rfl, rfl, fun _ => rfl⟩
    · exact ⟨rfl, rfl, fun _ => rfl⟩

theorem clampInt_between {lim v : Int} (h : 0 ≤ lim) : -lim ≤ clampInt (-lim) lim v ∧ clampInt (-lim) lim v ≤ lim := by
  unfold clampInt
  split
  · omega
  · split <;> omega

theorem Block.ring_rateStep (vals : List (Nat × Int)) : ((b.rateStep l vals).ring l).callState = (b.ring l).callState := by
  unfold Block.rateStep
  dsimp only
  split
  · rfl
  · split
    · rw [Block.ring_ringEv, Block.ring_modNode]
    · rw [Block.ring_modNode]

/-- An event on a condition leaves the Call. -/
theorem Block.call_ringEvIf (t : Block) (p : Prop) [Decidable p] (ev cause subject : Nat) :
    ((if p then t.ringEv l ev cause subject else t).ring l).callState = (t.ring l).callState := by
  split
  · rw [Block.ring_ringEv]
  · rfl

/-- The averages set the number of values and a correction within its limit, and leave the Call before the node settles. -/
theorem Block.average_steps : ∃ (u : Block) (f : RingNode → RingNode), b.average l = (u.modNode l f).settlesSync l ∧ (u.ring l).callState = (b.ring l).callState ∧
    ∀ x, (f x).callState = x.callState ∧ (f x).syncN = (b.ring l).values.length ∧
      -(b.p 0x400B 0 : Int) ≤ (f x).pendingCorr ∧ (f x).pendingCorr ≤ (b.p 0x400B 0 : Int) := by
  refine ⟨_, _, rfl, ?_, fun x => ⟨rfl, rfl, ?_, ?_⟩⟩
  · rw [Block.ring_rateStep, Block.call_ringEvIf, Block.call_ringEvIf]
  · exact Int.neg_le_neg (clampInt_between (Int.natCast_nonneg _)).2
  · exact Int.neg_le_of_neg_le (clampInt_between (Int.natCast_nonneg _)).1

/-- The averages. -/
theorem Block.average_spec : ((b.average l).ring l).syncN = (b.ring l).values.length ∧
    -(b.p 0x400B 0 : Int) ≤ ((b.average l).ring l).pendingCorr ∧ ((b.average l).ring l).pendingCorr ≤ (b.p 0x400B 0 : Int) ∧
    (((b.average l).ring l).st = .synchronised → ((b.average l).ring l).callState = (b.ring l).callState) := by
  obtain ⟨u, f, haverage, hcall, hf⟩ := b.average_steps l
  obtain ⟨hn, hcorr, hkept⟩ := (u.modNode l f).ring_settlesSync l
  rw [Block.ring_modNode] at hn hcorr hkept
  obtain ⟨hfcall, hfn, hlow, hhigh⟩ := hf (u.ring l)
  rw [haverage, hn, hcorr]
  exact ⟨hfn, hlow, hhigh, fun hst => (hkept hst).trans (hfcall.trans hcall)⟩

variable {b l}

theorem Block.slotsOver_follows (hfollows : (b.ring l).follows = true) :
    b.slotsOver l = (((b.findCall l).findAwake l).missedPolls l).average l := by
  unfold Block.slotsOver
  rw [hfollows]
  rfl

/-- What the end of the slots averages. -/
theorem Block.slotsOver_spec (hfollows : (b.ring l).follows = true) : ((b.slotsOver l).ring l).syncN = (b.ring l).values.length ∧
    -(b.p 0x400B 0 : Int) ≤ ((b.slotsOver l).ring l).pendingCorr ∧ ((b.slotsOver l).ring l).pendingCorr ≤ (b.p 0x400B 0 : Int) ∧
    (((b.slotsOver l).ring l).st = .synchronised →
      ((b.slotsOver l).ring l).callState = (((b.findCall l).findAwake l).ring l).callState) := by
  obtain ⟨hparams, hring⟩ := ((Block.CallsApart.rfl b l).findCall.findAwake).missedPolls
  have hvalues : (((((b.findCall l).findAwake l).missedPolls l).ring l).values) = (b.ring l).values := by
    rw [← RingNode.values_atCall, hring, RingNode.values_atCall]
  have hp : (((b.findCall l).findAwake l).missedPolls l).p 0x400B 0 = b.p 0x400B 0 := by
    unfold Block.p
    rw [hparams]
  have haverage := (((b.findCall l).findAwake l).missedPolls l).average_spec l
  rw [hvalues, hp, Block.missedPolls_call] at haverage
  rw [Block.slotsOver_follows hfollows]
  exact haverage

/-- The outcome of a hand Call that the node finds. -/
theorem Block.findCall_hand (hst : (b.ring l).st = .synchronised) (hkind : (b.ring l).callKind = .hand)
    (hstate : (b.ring l).callState = .announced) (hround : (b.ring l).callRound = (b.ring l).round) :
    ((b.findCall l).ring l).callKind = .hand ∧ ((b.findCall l).ring l).callState =
      if (b.ring l).aliveLast &&& ~~~ (b.ring l).acks = 0 then .confirmed else .withdrawn := by
  have hruns : (b.ring l).running = true := by
    unfold RingNode.running
    rw [hst]
    rfl
  unfold Block.findCall
  dsimp only
  rw [hruns, hkind, hstate, hround, if_neg (by simp)]
  by_cases hall : (b.ring l).aliveLast &&& ~~~ (b.ring l).acks = 0
  · rw [if_pos (beq_iff_eq.mpr hall), if_pos hall, Block.ring_modNode]
    exact ⟨hkind, rfl⟩
  · rw [if_neg fun h => hall (beq_iff_eq.mp h), if_neg hall, Block.ring_ringEv, Block.ring_modNode]
    exact ⟨hkind, rfl⟩

theorem Block.findAwake_hand (hkind : (b.ring l).callKind = .hand) : b.findAwake l = b := by
  unfold Block.findAwake
  dsimp only
  rw [hkind]
  exact if_neg Bool.false_ne_true

end Slots

/-! ## The guard (R330, R344) -/

section Guard

variable {b : Block} {l : Lane}

/-- A looped port whose link is healthy on both sides reverts. -/
def RingNode.reverts (r : RingNode) (p : RingPort) : RingNode :=
  if r.looped.get p.side && r.healthy.get p.side && r.peerHealthy.get p.side then
    { r with looped := r.looped.set p.side false, broken := r.broken.set p.side false }
  else r

theorem RingNode.reverts_same (r : RingNode) (p : RingPort) : (r.reverts p).looped.get p.side =
    (r.looped.get p.side && !(r.healthy.get p.side && r.peerHealthy.get p.side)) := by
  unfold RingNode.reverts
  by_cases h : (r.looped.get p.side && r.healthy.get p.side && r.peerHealthy.get p.side) = true
  · rw [if_pos h]
    rw [Bool.and_assoc, Bool.and_eq_true] at h
    rw [h.2, Bool.not_true, Bool.and_false]
    exact PerLane.get_set ..
  · rw [if_neg h]
    rw [Bool.and_assoc, Bool.not_eq_true, Bool.and_eq_false_iff] at h
    rcases h with h | h <;> rw [h]
    · rfl
    · exact (Bool.and_true _).symm

theorem RingNode.reverts_keeps (r : RingNode) (p : RingPort) : (r.reverts p).looped.get p.other.side = r.looped.get p.other.side ∧
    (r.reverts p).healthy = r.healthy ∧ (r.reverts p).peerHealthy = r.peerHealthy ∧ (r.reverts p).offset = r.offset ∧
    (r.reverts p).pendingCorr = r.pendingCorr := by
  unfold RingNode.reverts
  split
  · exact ⟨by cases p <;> rfl, rfl, rfl, rfl, rfl⟩
  · exact ⟨rfl, rfl, rfl, rfl, rfl⟩

/-- The block once a port has reverted where it may. -/
def Block.revertsAt (b : Block) (l : Lane) (p : RingPort) : Block :=
  let r := b.ring l
  if r.looped.get p.side && r.healthy.get p.side && r.peerHealthy.get p.side then
    (b.modNode l fun n => { n with looped := n.looped.set p.side false, broken := n.broken.set p.side false }).ringEv l 171 0 255
  else b

theorem Block.ring_revertsAt (p : RingPort) : (b.revertsAt l p).ring l = (b.ring l).reverts p := by
  unfold Block.revertsAt RingNode.reverts
  dsimp only
  split
  · rw [Block.ring_ringEv, Block.ring_modNode]
  · rfl

theorem Block.guardOver_ring (hfollows : (b.ring l).follows = true) : (b.guardOver l).ring l =
    (({ b.ring l with offset := (b.ring l).pendingCorr, pendingCorr := 0, openTransit := .both 0 } : RingNode).reverts .rge).reverts
      .rgw := by
  have hsteps : b.guardOver l = ((b.modNode l fun n =>
      { n with offset := n.pendingCorr, pendingCorr := 0, openTransit := .both 0 }).revertsAt l .rge).revertsAt l .rgw := by
    unfold Block.guardOver
    rw [hfollows]
    rfl
  rw [hsteps, Block.ring_revertsAt, Block.ring_revertsAt, Block.ring_modNode]

/-- The end of the guard: the correction is taken, and healthy loop-backs revert. -/
theorem Block.guardOver_spec (hfollows : (b.ring l).follows = true) : ((b.guardOver l).ring l).offset = (b.ring l).pendingCorr ∧
    ((b.guardOver l).ring l).pendingCorr = 0 ∧ ∀ p : RingPort, ((b.guardOver l).ring l).looped.get p.side =
      ((b.ring l).looped.get p.side && !((b.ring l).healthy.get p.side && (b.ring l).peerHealthy.get p.side)) := by
  let r : RingNode := { b.ring l with offset := (b.ring l).pendingCorr, pendingCorr := 0, openTransit := .both 0 }
  obtain ⟨hwest, hhealthy, hpeer, hoffset, hcorr⟩ := r.reverts_keeps .rge
  obtain ⟨heast, -, -, hoffset', hcorr'⟩ := (r.reverts .rge).reverts_keeps .rgw
  rw [Block.guardOver_ring hfollows]
  refine ⟨hoffset'.trans hoffset, hcorr'.trans hcorr, fun p => ?_⟩
  cases p with
  | rge => exact heast.trans (r.reverts_same .rge)
  | rgw =>
    have hsame := (r.reverts .rge).reverts_same .rgw
    rw [hhealthy, hpeer] at hsame
    rw [hsame]
    exact congrArg (fun x : Bool => x && !(r.healthy.get RingPort.rgw.side && r.peerHealthy.get RingPort.rgw.side)) hwest

end Guard

/-! ## The Keep, cuts and links (R317, R318, R341, R344) -/

section Links

variable {b : Block} {l : Lane} {port : RingPort}

/-- A blocked transmission is counted. -/
def Block.blocks (b : Block) (l : Lane) : Block :=
  (b.modNode l fun n => { n with blocked := satNat 0xFFFFFFFF (n.blocked + 1), blockedRecent := b.mod.epoch ::
    (b.ring l).blockedRecent.filter fun t => decide (b.mod.epoch < t + epochsPerSec) }).ringEv l 166 0 255

theorem Block.blocks_ring : (b.blocks l).ring l = { b.ring l with
    blocked := satNat 0xFFFFFFFF ((b.ring l).blocked + 1),
    blockedRecent := b.mod.epoch :: (b.ring l).blockedRecent.filter fun t => decide (b.mod.epoch < t + epochsPerSec) } :=
  (Block.ring_ringEv ..).trans (Block.ring_modNode ..)

/-- Fewer than three blocks within a second. -/
theorem Block.keepBlocks_few (h : ((b.ring l).blockedRecent.filter fun t => decide (b.mod.epoch < t + epochsPerSec)).length < 2) :
    b.keepBlocks l = b.blocks l := by
  unfold Block.keepBlocks
  dsimp only
  rw [List.length_cons, decide_eq_true (Nat.succ_lt_succ h)]
  rfl

theorem Block.serves_ringEv (b : Block) (l k : Lane) (ev cause subject : Nat) : (b.ringEv l ev cause subject).serves k = b.serves k := by
  have hst : ((b.ringEv l ev cause subject).lane k).st = (b.lane k).st := Block.field_of_untold (Block.untold_raise ..) k LaneSt.st
  unfold Block.serves
  rw [hst]

theorem Block.serves_modNode (b : Block) (l k : Lane) (f : RingNode → RingNode) : (b.modNode l f).serves k = b.serves k := by
  cases l <;> cases k <;> rfl

/-- The third block within a second shuts origination; a lane that serves alone turns passive. -/
theorem Block.keepBlocks_shuts (h : 2 ≤ ((b.ring l).blockedRecent.filter fun t => decide (b.mod.epoch < t + epochsPerSec)).length)
    (hopen : (b.ring l).keepShut = false) (halone : (b.serves l && b.serves l.other) = false) :
    ((b.keepBlocks l).ring l).keepShut = true ∧ ((b.keepBlocks l).ring l).st = .passive := by
  let t := ((b.blocks l).modNode l fun n => { n with keepShut := true }).ringEv l 167 0 255
  have hserves (k : Lane) : t.serves k = b.serves k := by
    rw [Block.serves_ringEv, Block.serves_modNode, Block.blocks, Block.serves_ringEv, Block.serves_modNode]
  have hopen' : ((b.blocks l).ring l).keepShut = false := by
    rw [Block.blocks_ring]
    exact hopen
  have hshuts : b.keepBlocks l = t.leaveSync l .passive := by
    have halone' : ¬ (t.serves l && t.serves l.other) = true := by rw [hserves, hserves, halone]; exact Bool.false_ne_true
    unfold Block.keepBlocks
    dsimp only
    rw [List.length_cons, decide_eq_false (by omega), Bool.false_or]
    exact (if_neg (ne_true_of_eq_false hopen')).trans (if_neg halone')
  rw [hshuts, Block.ring_leaveSync, Block.ring_ringEv, Block.ring_modNode]
  exact ⟨rfl, rfl⟩

/-- A repeated frame cut short is counted. -/
def Block.repeatCuts (b : Block) (l : Lane) : Block :=
  if (b.ring l).st == .off then b else
  let first := !(b.ring l).cutThisRound
  let b := b.modNode l fun n => { n with cut := satNat 0xFFFFFFFF (n.cut + 1), cutThisRound := true }
  if first then b.ringEv l 168 0 255 else b

theorem Block.repeatCuts_ring (hst : (b.ring l).st ≠ .off) :
    (b.repeatCuts l).ring l = { b.ring l with cut := satNat 0xFFFFFFFF ((b.ring l).cut + 1), cutThisRound := true } := by
  unfold Block.repeatCuts
  rw [if_neg (by rw [beq_eq_false_iff_ne.mpr hst]; exact Bool.false_ne_true)]
  dsimp only
  split
  · rw [Block.ring_ringEv, Block.ring_modNode]
  · rw [Block.ring_modNode]

/-- A broken link. -/
theorem Block.ringBreaks_ring (hst : (b.ring l).st ≠ .off) (hawake : (b.ring l).st ≠ .asleep) : (b.ringBreaks l port).ring l =
    { b.ring l with
      broken := (b.ring l).broken.set port.side true, looped := (b.ring l).looped.set port.side true,
      healthy := (b.ring l).healthy.set port.side false } := by
  unfold Block.ringBreaks
  dsimp only
  rw [beq_eq_false_iff_ne.mpr hst, beq_eq_false_iff_ne.mpr hawake, if_neg (by decide), Block.ring_modNode]
  split
  · rfl
  · rw [Block.ring_ringEv]

theorem Block.ringBreaks_off (hst : (b.ring l).st = .off) : b.ringBreaks l port = b := by
  unfold Block.ringBreaks
  dsimp only
  rw [hst]
  rfl

/-- A healthy link. -/
def Block.linkHeals (b : Block) (l : Lane) (port : RingPort) : Block :=
  if (b.ring l).st == .off || (b.ring l).st == .asleep then b
  else b.modNode l fun n => { n with healthy := n.healthy.set port.side true }

end Links

/-! ## Frames passed on (R314) -/

/-- A frame passed on leaves the keys of the frames taken in. -/
theorem Block.repeatFrame_seen (b : Block) (l : Lane) (port : RingPort) (f : RingFrame) :
    ((b.repeatFrame l port f).ring l).seen = (b.ring l).seen := by
  have hsent (t : Block) (g : RingFrame) : ((t.ringSend l g).ring l).seen = (t.ring l).seen := by
    rw [Block.ringSend, Block.ring_modNode]
  unfold Block.repeatFrame
  dsimp only
  split
  · rw [Block.ring_ringEv]
  · split
    · exact hsent ..
    · split
      · rw [Block.ring_ringEv]
        rfl
      · rw [hsent]
        split
        · exact hsent ..
        · rfl

/-! ## Polls received (R320) -/

/-- A poll that a node takes in. -/
def Block.pollTaken (b : Block) (l : Lane) (w : RingWire) (slot : Nat) (poll : Poll) : Block :=
  if w.good = true ∧ poll.node = (b.ring l).cfg.node ∧ poll.round.toNat = (b.ring l).round % 2 ^ 32 then b.sendPolled l slot else b

end Sys2Proof

namespace Sys2Proof.Machine

/-- Settles O58: what a node sends, takes in, repeats and measures, and what its links do. -/
theorem nodesCarryFrames : Obligations.NodesCarryFrames := by
  unfold Obligations.NodesCarryFrames
  intro s l slot port f
  dsimp only
  refine ⟨fun hshut => ⟨?_, ?_⟩, fun sl hslot horiginates hloop => ⟨fun hstatic howner => ⟨?_, ?_⟩, fun hpolled => ⟨?_, ?_⟩⟩,
    fun w node round hbad => ?_, fun hbad => ⟨?_, ?_⟩, fun hgood hcommit hruns hkind hwrap hfeed hcarried => ⟨fun horigin hnew => ?_,
      fun horigin hsent => ?_⟩, fun hgood hcommit hfollows => ⟨fun hkind => ?_, fun e hkind hcarried hclass => ?_⟩,
    fun hfollows m hm => ?_, fun hfollows => ?_, fun hfollows => ?_, fun hoff => ⟨?_, ?_, ?_, ?_⟩, fun hon => ⟨?_, ?_, ?_, ?_⟩,
    fun hcommit hawake => ?_, fun hcommit hstate hlatched => ?_⟩
  · exact becomes_onBlock (f := fun b => b.sendStatic l slot) rfl (Block.sendStatic_shut hshut)
  · exact becomes_onBlock (f := fun b => b.poll l slot) rfl (Block.poll_shut hshut)
  · exact fun hquiet => ⟨s.b.sendStatic l slot, rfl,
      Block.sendStatic_null hslot horiginates hstatic howner hloop (Block.slotFrame_empty hquiet.1 hquiet.2)⟩
  · exact fun id x hqueue hframe hat hage => ⟨s.b.sendStatic l slot, rfl, Block.sendStatic_data hslot horiginates hstatic howner hloop
      (Block.slotFrame_waits hqueue hframe hat hage) (Block.ring_takeHead ..)⟩
  · exact fun hdealer hnamed hother => ⟨s.b.poll l slot, rfl,
      Block.poll_other hslot horiginates hpolled hdealer hloop hnamed hother⟩
  · intro hquiet w round hgood hround
    have hanswers : s.b.pollTaken l w slot ⟨(s.b.ring l).cfg.node, round⟩ = s.b.sendPolled l slot :=
      if_pos ⟨(RingWire.good_iff w).mpr hgood, rfl, hround⟩
    exact ⟨s.b.sendPolled l slot, becomes_onBlock (f := fun b => b.pollTaken l w slot ⟨(s.b.ring l).cfg.node, round⟩) rfl hanswers,
      Block.sendPolled_null hslot horiginates hpolled hloop (Block.slotFrame_empty hquiet.1 hquiet.2)⟩
  · refine becomes_onBlock (f := fun b => b.pollTaken l w slot ⟨node, round⟩) rfl (if_neg fun h => ?_)
    rcases hbad with hnode | hwire
    · exact hnode h.2.1
    · exact hwire ((RingWire.good_iff w).mp h.1)
  · exact becomes_onBlock (f := fun b => b.slotArrives l port f) rfl
      (Block.slotArrives_discards (eq_false_of_ne_true fun h => hbad ((RingWire.good_iff _).mp h)))
  · exact becomes_onBlock (f := fun b => b.openArrives l port f) rfl
      (Block.openArrives_discards (eq_false_of_ne_true fun h => hbad ((RingWire.good_iff _).mp h)))
  · have hlow : f.kind.val ≤ 5 := by rcases hkind with h | h | h <;> rw [h] <;> decide
    have harrives := Block.slotArrives_other (port := port) ((RingWire.good_iff _).mpr hgood) hcommit hruns hlow hwrap hfeed horigin
    have htaken := Block.takeIn_new (port := port) (RingNode.follows_of_running hruns) hnew hcarried
    have hseen := congrArg RingNode.seen htaken
    have hsent := congrArg RingNode.sent htaken
    have hlooped := congrArg RingNode.looped htaken
    have hdelays := congrArg RingNode.delays htaken
    refine ⟨s.b.slotArrives l port f, rfl, ?_, fun hhops hloop => ?_, fun hhops => ?_⟩ <;> rw [harrives]
    · rw [Block.repeatFrame_seen]
      exact hseen
    · obtain ⟨res, hrepeated⟩ := Block.repeatFrame_direct (b := s.b.takeIn l port f) (f := f) hhops
        ((congrArg (PerLane.get · port.other.side) hlooped).trans hloop)
      refine ⟨res, (congrArg RingNode.sent hrepeated).trans ?_⟩
      have hdelays' : ((s.b.takeIn l port f).ring l).delays = (s.b.ring l).delays := hdelays
      have hsent' : ((s.b.takeIn l port f).ring l).sent = (s.b.ring l).sent := hsent
      dsimp only
      rw [hdelays', hsent']
    · rw [Block.repeatFrame_limit hhops]
      exact hsent
  · have hlow : f.kind.val ≤ 5 := by rcases hkind with h | h | h <;> rw [h] <;> decide
    exact becomes_onBlock (f := fun b => b.slotArrives l port f) rfl
      (Block.slotArrives_own ((RingWire.good_iff _).mpr hgood) hcommit hruns hlow hwrap hfeed horigin hsent)
  · exact ⟨s.b.openArrives l port f, rfl, Block.openArrives_check ((RingWire.good_iff _).mpr hgood) hcommit hfollows hkind⟩
  · exact ⟨s.b.openArrives l port f, rfl,
      Block.openArrives_carried ((RingWire.good_iff _).mpr hgood) hcommit hfollows hkind hcarried hclass⟩
  · exact ⟨s.b.delaysMeasured l [] m, rfl, Block.delaysMeasured_spec hfollows hm⟩
  · obtain ⟨hn, hlow, hhigh, hcall⟩ := Block.slotsOver_spec hfollows
    refine ⟨s.b.slotsOver l, rfl, hn, hlow, hhigh, fun hst hkind hstate hround hsync => ?_⟩
    obtain ⟨hkind', hfound⟩ := Block.findCall_hand hst hkind hstate hround
    rw [hcall hsync, Block.findAwake_hand hkind']
    exact hfound
  · exact ⟨s.b.guardOver l, rfl, Block.guardOver_spec hfollows⟩
  · exact becomes_onBlock (f := fun b => if (b.ring l).st == .off then b else b.keepBlocks l) rfl (if_pos (beq_iff_eq.mpr hoff))
  · exact becomes_onBlock (f := fun b => b.repeatCuts l) rfl (if_pos (beq_iff_eq.mpr hoff))
  · exact becomes_onBlock (f := fun b => b.ringBreaks l port) rfl (Block.ringBreaks_off hoff)
  · exact becomes_onBlock (f := fun b => b.linkHeals l port) rfl (if_pos (by rw [hoff]; rfl))
  · have hkeeps : Becomes (.keepBlock l port) s (s.b.keepBlocks l) :=
      becomes_onBlock (f := fun b => if (b.ring l).st == .off then b else b.keepBlocks l) rfl
        (if_neg fun h => hon (beq_iff_eq.mp h))
    refine ⟨s.b.keepBlocks l, hkeeps, fun hfew => ?_, fun hmany hopen halone => Block.keepBlocks_shuts hmany hopen halone⟩
    rw [Block.keepBlocks_few hfew, Block.blocks_ring]
    exact ⟨rfl, rfl, rfl⟩
  · refine ⟨s.b.repeatCuts l, rfl, ?_⟩
    rw [Block.repeatCuts_ring hon]
    exact ⟨rfl, rfl⟩
  · refine fun hawake => ⟨s.b.ringBreaks l port, rfl, ?_⟩
    rw [Block.ringBreaks_ring hon hawake]
    exact ⟨PerLane.get_set .., by cases port <;> rfl, PerLane.get_set ..⟩
  · refine fun hawake => ⟨s.b.linkHeals l port, rfl, ?_⟩
    rw [Block.linkHeals, beq_eq_false_iff_ne.mpr hon, beq_eq_false_iff_ne.mpr hawake, if_neg (by decide), Block.ring_modNode]
    exact PerLane.get_set ..
  · exact becomes_onBlock (f := fun b => b.ringWakes l) rfl (Block.ringWakes_awake hcommit hawake)
  · exact ⟨s.b.ringWakes l, rfl, Block.ringWakes_latches hcommit hstate hlatched⟩

end Sys2Proof.Machine
end

section
/-! PROOF. Switch entries, statistics and MACsec associations (R362-R365, R378-R380). Settles O59. -/

namespace Sys2Proof

/-! ## Zero bytes and fields -/

section Fields

theorem zerosAt_iff (l : List Byte) (off len : Nat) : zerosAt l off len = true ↔ ∀ i < len, l.getD (off + i) 0 = 0 := by
  unfold zerosAt bytesAt
  rw [List.all_eq_true]
  constructor
  · intro h i hi
    rcases Nat.lt_or_ge (off + i) l.length with hin | hout
    · have hmem : l[off + i] ∈ (l.drop off).take len := by
        rw [List.mem_take_iff_getElem]
        exact ⟨i, by rw [List.length_drop]; omega, List.getElem_drop ..⟩
      rw [getD_in _ _ hin]
      exact beq_iff_eq.mp (h _ hmem)
    · exact getD_out _ _ hout
  · intro h x hx
    obtain ⟨i, hi, rfl⟩ := List.mem_take_iff_getElem.mp hx
    rw [List.length_drop] at hi
    have hzero := h i (by omega)
    rw [getD_in _ _ (by omega)] at hzero
    rw [List.getElem_drop]
    exact beq_iff_eq.mpr hzero

/-- Zero bytes of a part. -/
theorem zerosAt_part {l : List Byte} {off len o n : Nat} (h : zerosAt l off len = true) (hlow : off ≤ o) (hhigh : o + n ≤ off + len) :
    zerosAt l o n = true := by
  rw [zerosAt_iff] at h ⊢
  intro i hi
  have hzero := h (o - off + i) (by omega)
  rwa [show off + (o - off + i) = o + i by omega] at hzero

theorem byteAt_zeros {l : List Byte} {off len o : Nat} (h : zerosAt l off len = true) (hlow : off ≤ o) (hhigh : o < off + len) :
    byteAt l o = 0 := by
  have hzero := (zerosAt_iff l off len).mp h (o - off) (by omega)
  rw [show off + (o - off) = o by omega] at hzero
  unfold byteAt
  rw [hzero]
  rfl

theorem leNat_zeros {l : List Byte} (h : l.all (· == 0) = true) : leNat l = 0 := by
  induction l with
  | nil => rfl
  | cons x xs ih =>
    obtain ⟨hx, hxs⟩ := Bool.and_eq_true_iff.mp h
    rw [leNat, ih hxs, beq_iff_eq.mp hx]
    rfl

theorem fieldAt_zeros {l : List Byte} {off len o n : Nat} (h : zerosAt l off len = true) (hlow : off ≤ o)
    (hhigh : o + n ≤ off + len) : fieldAt l o n = 0 := leNat_zeros (zerosAt_part h hlow hhigh)

theorem satNat_le (hi v : Nat) : satNat hi v ≤ hi := by
  unfold satNat
  split <;> omega

/-- A field that holds a number kept at its limit. -/
theorem fieldAt_sat {l : List Byte} {off n hi v : Nat} (hbytes : bytesAt l off n = leBytes n (satNat hi v)) (hhi : hi < 256 ^ n) :
    fieldAt l off n = satNat hi v := by
  rw [fieldAt, hbytes, leNat_leBytes, Nat.mod_eq_of_lt (Nat.lt_of_le_of_lt (satNat_le hi v) hhi)]

end Fields

/-! ## Entries (R362, R363) -/

section Entries

variable {b : Block} {r : Req} {op : Nat}

/-- The generation after another. -/
def genAfter (g : Nat) : Nat := if g = 65534 then 0 else g + 1

/-- The entry that a change without one leaves. -/
def Block.entryOut (b : Block) (i : Nat) : SwEntry := { (b.net.entry? i).getD (swEntryOf (zeroBytes 32)) with valid := false }

/-- The tables once a change is taken up. -/
def Block.entryChanges (b : Block) (i : Nat) (x : SwEntry) : Block :=
  b.modNet fun n => { n with gens := assocSet n.gens i (genAfter (b.net.gen i)), cuts := n.cuts ++ [(i, x)] }

theorem Block.entryChanges_spec (i : Nat) (x : SwEntry) : (b.entryChanges i x).net.gen i = genAfter (b.net.gen i) ∧
    (b.entryChanges i x).net.cuts = b.net.cuts ++ [(i, x)] ∧ (b.entryChanges i x).net.entries = b.net.entries :=
  ⟨if_pos rfl, rfl, rfl⟩

/-- The request names the present generation, or none. -/
def Block.entryFresh (b : Block) (r : Req) : Prop :=
  fieldAt r.pay 2 2 = 0xFFFF ∨ fieldAt r.pay 2 2 = b.net.gen (fieldAt r.pay 0 2)

theorem Block.runEntry_stale (e : Option SwEntry) (h : ¬ b.entryFresh r) : b.runEntry r op e = b.reply r op .staleGeneration := by
  unfold Block.entryFresh at h
  rw [not_or] at h
  unfold Block.runEntry
  dsimp only
  rw [bne_iff_ne.mpr h.1, bne_iff_ne.mpr h.2]
  rfl

theorem Block.runEntry_fresh (e : Option SwEntry) (h : b.entryFresh r) : b.runEntry r op e =
    (b.entryChanges (fieldAt r.pay 0 2) (e.getD (b.entryOut (fieldAt r.pay 0 2)))).hold r op
      (.swEntry (fieldAt r.pay 0 2) (genAfter (b.net.gen (fieldAt r.pay 0 2))) false false) true := by
  have hgo : ¬ (fieldAt r.pay 2 2 != 0xFFFF && fieldAt r.pay 2 2 != b.net.gen (fieldAt r.pay 0 2)) = true := by
    rw [Bool.and_eq_true, bne_iff_ne, bne_iff_ne]
    rcases h with h | h
    · exact fun hne => hne.1 h
    · exact fun hne => hne.2 h
  unfold Block.runEntry
  dsimp only
  rw [if_neg hgo]
  cases e <;> rfl

theorem Block.runEntrySet_formed (hlen : r.pay.length = 36) (hindex : fieldAt r.pay 0 2 < 4096)
    (hbytes : swEntryBytesOk (bytesAt r.pay 4 32) = true) (hroom : 4 ≤ r.room) : b.runEntrySet r =
      if (swEntryOf (bytesAt r.pay 4 32)).valid && !b.entryRules (fieldAt r.pay 0 2) (swEntryOf (bytesAt r.pay 4 32)) then
        b.reply r 0x4801 .badParam
      else b.runEntry r 0x4801 (some (swEntryOf (bytesAt r.pay 4 32))) := by
  unfold Block.runEntrySet
  dsimp only
  rw [hlen, decide_eq_true hindex, hbytes, show (36 == 36 && true && true) = true from rfl, Block.check7_good,
    Block.needRoom_enough _ _ _ _ _ hroom]

theorem Block.runEntryDel_formed (hlen : r.pay.length = 4) (hindex : fieldAt r.pay 0 2 < 4096) (hroom : 4 ≤ r.room) :
    b.runEntryDel r = b.runEntry r 0x4802 none := by
  unfold Block.runEntryDel
  dsimp only
  rw [hlen, decide_eq_true hindex, show (4 == 4 && true) = true from rfl, Block.check7_good, Block.needRoom_enough _ _ _ _ _ hroom]

theorem Block.entryRules_heard (q : Req) (i : Nat) (e : SwEntry) : (b.heard q).entryRules i e = b.entryRules i e := by
  rw [Block.heard_eq]
  rfl

end Entries

/-! ## Generations drained (R365) -/

section Drained

variable {b : Block} {l : Lane} {i : Nat}

/-- A request whose change has completed in a lane. -/
def Pend.drainedIn (l : Lane) (index : Nat) (e : Pend) : Pend :=
  match e.kind with
  | .swEntry i g da db => if i = index then { e with kind := .swEntry i g (da || l == .a) (db || l == .b) } else e
  | _ => e

/-- A request whose change has completed in every lane in service. -/
def Block.entryEnds (b : Block) (index : Nat) (e : Pend) : Bool :=
  match e.kind with
  | .swEntry i _ da db => i == index && (da || !b.serves .a) && (db || !b.serves .b)
  | _ => false

theorem Block.entryDrained_waits (h : (b.lane l).drained i (b.net.gen i) = false) : b.entryDrained l i = b := by
  unfold Block.entryDrained
  rw [h, Bool.not_false, Bool.or_true, if_pos rfl]

theorem Block.entryDrained_done (hcuts : b.net.cuts = []) (h : (b.lane l).drained i (b.net.gen i) = true) : b.entryDrained l i =
    (b.modMail fun m => { m with pend := m.pend.map (Pend.drainedIn l i) }).finishWhere (b.entryEnds i) .ok
      (leBytes 2 (b.net.gen i) ++ zeroBytes 2) .none := by
  unfold Block.entryDrained
  rw [hcuts, h]
  rfl

/-- The one request that waits for the entry. -/
theorem Block.entryDrained_single {e : Pend} {g : Nat} {da db : Bool} (hpend : b.mail.pend = [e]) (hkind : e.kind = .swEntry i g da db)
    (hcuts : b.net.cuts = []) (h : (b.lane l).drained i (b.net.gen i) = true) :
    let e' : Pend := { e with kind := .swEntry i g (da || l == .a) (db || l == .b) }
    (b.entryEnds i e' = true → (b.entryDrained l i).mail.pend = [] ∧
      e.req.answer e.opcode .ok (leBytes 2 (b.net.gen i) ++ zeroBytes 2) .none true true ∈ (b.entryDrained l i).mail.done) ∧
    (b.entryEnds i e' = false → (b.entryDrained l i).mail.pend = [e']) := by
  have hdrained : e.drainedIn l i = { e with kind := .swEntry i g (da || l == .a) (db || l == .b) } := by
    unfold Pend.drainedIn
    rw [hkind]
    exact if_pos rfl
  have hpend' : (b.modMail fun m => { m with pend := m.pend.map (Pend.drainedIn l i) }).mail.pend =
      [{ e with kind := .swEntry i g (da || l == .a) (db || l == .b) }] := by
    rw [← hdrained]
    exact congrArg (List.map (Pend.drainedIn l i)) hpend
  rw [Block.entryDrained_done hcuts h]
  refine ⟨fun hends => Block.finishWhere_single
    (e := { e with kind := .swEntry i g (da || l == .a) (db || l == .b) }) hpend' hends, fun hends => ?_⟩
  rw [Block.finishWhere_pend, hpend']
  exact List.filter_cons_of_pos (congrArg not hends)

end Drained

/-! ## Statistics (R380) -/

section Stats

/-- The payload of PORT_STATS. -/
def PortStats.bytes (t : PortStats) : List Byte :=
  ([t.rxF, t.rxB, t.txF, t.txB].flatMap fun n => leBytes 8 (satNat (2 ^ 64 - 1) n)) ++
    ([t.noEntry, t.policer, t.red, t.queue, t.life, t.hold, t.mcast, t.errs].flatMap fun n => leBytes 4 (satNat 0xFFFFFFFF n))

theorem PortStats.bytes_length (t : PortStats) : t.bytes.length = 64 := rfl

theorem PortStats.bytes_fields (t : PortStats) : fieldAt t.bytes 0 8 = satNat (2 ^ 64 - 1) t.rxF ∧
    fieldAt t.bytes 24 8 = satNat (2 ^ 64 - 1) t.txB ∧ fieldAt t.bytes 32 4 = satNat 0xFFFFFFFF t.noEntry ∧
    fieldAt t.bytes 60 4 = satNat 0xFFFFFFFF t.errs :=
  ⟨fieldAt_sat rfl (by decide), fieldAt_sat rfl (by decide), fieldAt_sat rfl (by decide), fieldAt_sat rfl (by decide)⟩

theorem Block.runPortStats_formed {b : Block} {r : Req} (hlen : r.pay.length = 4) (hport : byteAt r.pay 0 ≤ 38)
    (hzeros : zerosAt r.pay 1 3 = true) : b.runPortStats r =
      b.ok r 0x4803 ((b.lane b.act).sw.stats.getD (byteAt r.pay 0) PortStats.zero).bytes := by
  unfold Block.runPortStats
  dsimp only
  rw [hlen, decide_eq_true hport, hzeros]
  rfl

end Stats

/-! ## MACSEC_SA (R378, R379) -/

section Associations

variable {b : Block} {r : Req}

/-- No association. -/
def Sa.idle : Sa := { installed := false, inUse := false, an := 0, pn := 0 }

/-- The association beside another of its channel. -/
def Block.saBeside (b : Block) (k : Nat) : Sa := b.net.sas.getD (if k % 2 = 0 then k + 1 else k - 1) Sa.idle

/-- The form of a MACSEC_SA payload. -/
def saFormOk (p : List Byte) : Bool :=
  p.length == 16 && decide (byteAt p 0 ≤ 2) && decide (byteAt p 1 < 16) && ((byteAt p 1).testBit 1 || decide (byteAt p 1 < 4)) &&
    decide (byteAt p 2 < 4) && byteAt p 3 == 0 && zerosAt p 12 4 &&
    (byteAt p 0 == 0 || (byteAt p 2 == 0 && fieldAt p 4 8 == 0)) && (byteAt p 0 != 1 || !(byteAt p 1).testBit 1)

/-- An association is installed. -/
theorem Block.runMacsecSa_install (hform : saFormOk r.pay = true) (hfn : byteAt r.pay 0 = 0) : b.runMacsecSa r =
    let k := saIndex (byteAt r.pay 1)
    if (b.slot (saSlot k)).type != (if b.p 0x4841 0 % 2 = 0 then 1 else 2) || !(b.slot (saSlot k)).uses.getLsbD 2 ||
        (decide (k < 2) && fieldAt r.pay 4 8 == 0) || ((b.saBeside k).installed && (b.saBeside k).an.val == byteAt r.pay 2) then
      b.reply r 0x4804 .badParam
    else if decide (k < 2) && (b.net.sas.getD k Sa.idle).inUse then b.reply r 0x4804 .busy
    else b.finish r 0x4804 .ok [] (.saInstall (Fin.ofNat 10 k) (Fin.ofNat 4 (byteAt r.pay 2)) (fieldAt r.pay 4 8)) := by
  unfold saFormOk at hform
  unfold Block.runMacsecSa
  dsimp only
  rw [hform, Block.check7_good, if_pos hfn]
  rfl

/-- An association is made current. -/
theorem Block.runMacsecSa_current (hform : saFormOk r.pay = true) (hfn : byteAt r.pay 0 = 1) : b.runMacsecSa r =
    let k := saIndex (byteAt r.pay 1)
    if !(b.net.sas.getD k Sa.idle).installed then b.reply r 0x4804 .badParam
    else if (b.net.sas.getD k Sa.idle).inUse then b.ok r 0x4804 []
    else b.finish r 0x4804 .ok [] (.saCurrent (Fin.ofNat 2 k)) := by
  unfold saFormOk at hform
  unfold Block.runMacsecSa
  dsimp only
  rw [hform, Block.check7_good, if_neg (by rw [hfn]; decide), if_pos hfn]
  rfl

/-- An association is retired. -/
theorem Block.runMacsecSa_retire (hform : saFormOk r.pay = true) (hfn : byteAt r.pay 0 = 2) : b.runMacsecSa r =
    let k := saIndex (byteAt r.pay 1)
    if decide (k < 2) && (b.net.sas.getD k Sa.idle).inUse then b.reply r 0x4804 .busy
    else b.finish r 0x4804 .ok [] (.saRetire (Fin.ofNat 10 k)) := by
  unfold saFormOk at hform
  unfold Block.runMacsecSa
  dsimp only
  rw [hform, Block.check7_good, if_neg (by rw [hfn]; decide), if_neg (by rw [hfn]; decide)]
  rfl

theorem saFormOk_install {p : List Byte} (hlen : p.length = 16) (hfn : byteAt p 0 = 0) (hn : byteAt p 1 < 16)
    (hname : (byteAt p 1).testBit 1 = true ∨ byteAt p 1 < 4) (han : byteAt p 2 < 4) (hres : byteAt p 3 = 0)
    (hzeros : zerosAt p 12 4 = true) : saFormOk p = true := by
  have hname' : ((byteAt p 1).testBit 1 || decide (byteAt p 1 < 4)) = true := by simpa using hname
  unfold saFormOk
  rw [hlen, hfn, hname', decide_eq_true hn, decide_eq_true han, hres, hzeros]
  rfl

theorem testBit_one_of_small : ∀ k : Fin 2, k.val.testBit 1 = false := by decide

/-- A transmit association named with nothing beside it. -/
theorem saFormOk_named {p : List Byte} {k : Fin 2} (hlen : p.length = 16) (hfn : byteAt p 0 ≤ 2) (hname : byteAt p 1 = k.val)
    (hzeros : zerosAt p 2 14 = true) : saFormOk p = true := by
  have h2 := byteAt_zeros hzeros (o := 2) (by decide) (by decide)
  have h3 := byteAt_zeros hzeros (o := 3) (by decide) (by decide)
  have hpn := fieldAt_zeros hzeros (o := 4) (n := 8) (by decide) (by decide)
  have hlast := zerosAt_part hzeros (o := 12) (n := 4) (by decide) (by decide)
  have hbit := testBit_one_of_small k
  have hlow : decide (k.val < 4) = true := decide_eq_true (by omega)
  unfold saFormOk
  rw [hlen, hname, h2, h3, hpn, hlast, hbit, hlow, decide_eq_true hfn, decide_eq_true (show k.val < 16 by omega)]
  simp

theorem saIndex_named (k : Fin 2) : saIndex k.val = k.val := by revert k; decide

end Associations

end Sys2Proof

namespace Sys2Proof.Machine

section Clauses

variable {s : State} {q : Req}

/-- A change of an entry by a formed request. -/
theorem entrySet_answers (hindex : fieldAt q.pay 0 2 < 4096) (hroom : 4 ≤ q.room) (hpass : s.b.passes 0x4801 q = true)
    (hlen : q.pay.length = 36) (hbytes : swEntryBytesOk (bytesAt q.pay 4 32) = true) :
    ((swEntryOf (bytesAt q.pay 4 32)).valid = true → s.b.entryRules (fieldAt q.pay 0 2) (swEntryOf (bytesAt q.pay 4 32)) = false →
      AnswersFrom (.switchEntrySet q) s (s.b.heard q) (q.response 0x4801 .badParam [] .none)) ∧
    ((swEntryOf (bytesAt q.pay 4 32)).valid = false ∨ s.b.entryRules (fieldAt q.pay 0 2) (swEntryOf (bytesAt q.pay 4 32)) = true →
      (¬ s.b.entryFresh q → AnswersFrom (.switchEntrySet q) s (s.b.heard q) (q.response 0x4801 .staleGeneration [] .none)) ∧
      (s.b.entryFresh q → HoldsFrom (.switchEntrySet q) s
        ((s.b.heard q).entryChanges (fieldAt q.pay 0 2) (swEntryOf (bytesAt q.pay 4 32))) q 0x4801
        (.swEntry (fieldAt q.pay 0 2) (genAfter (s.b.net.gen (fieldAt q.pay 0 2))) false false) true)) := by
  have hrun := (s.b.heard q).runEntrySet_formed hlen hindex hbytes hroom
  rw [Block.entryRules_heard] at hrun
  refine ⟨fun hvalid hrules => ?_, fun hgood => ?_⟩
  · refine answersFrom_of _ rfl hpass ?_
    rw [hrun, hvalid, hrules, if_pos (by decide)]
    exact Block.reply_answered _ _ _ _ rfl
  · rw [if_neg (by rcases hgood with h | h <;> simp [h])] at hrun
    refine ⟨fun hstale => answersFrom_of _ rfl hpass ?_, fun hfresh => holdsFrom_of _ rfl hpass ?_⟩
    · rw [hrun, Block.runEntry_stale _ (by rw [Block.entryFresh, Block.heard_net]; exact hstale)]
      exact Block.reply_answered _ _ _ _ rfl
    · rw [hrun, Block.runEntry_fresh _ (by rw [Block.entryFresh, Block.heard_net]; exact hfresh), Block.heard_net]
      exact Block.hold_held ..

/-- A deletion of an entry by a formed request. -/
theorem entryDel_answers (hindex : fieldAt q.pay 0 2 < 4096) (hroom : 4 ≤ q.room) (hpass : s.b.passes 0x4802 q = true)
    (hlen : q.pay.length = 4) :
    (¬ s.b.entryFresh q → AnswersFrom (.switchEntryDel q) s (s.b.heard q) (q.response 0x4802 .staleGeneration [] .none)) ∧
    (s.b.entryFresh q → HoldsFrom (.switchEntryDel q) s
      ((s.b.heard q).entryChanges (fieldAt q.pay 0 2) ((s.b.heard q).entryOut (fieldAt q.pay 0 2))) q 0x4802
      (.swEntry (fieldAt q.pay 0 2) (genAfter (s.b.net.gen (fieldAt q.pay 0 2))) false false) true) := by
  have hrun := (s.b.heard q).runEntryDel_formed hlen hindex hroom
  refine ⟨fun hstale => answersFrom_of _ rfl hpass ?_, fun hfresh => holdsFrom_of _ rfl hpass ?_⟩
  · rw [hrun, Block.runEntry_stale _ (by rw [Block.entryFresh, Block.heard_net]; exact hstale)]
    exact Block.reply_answered _ _ _ _ rfl
  · rw [hrun, Block.runEntry_fresh _ (by rw [Block.entryFresh, Block.heard_net]; exact hfresh), Block.heard_net]
    exact Block.hold_held ..

/-- The change that a request leaves behind in the tables. -/
theorem entryChanges_heard (i : Nat) (x : SwEntry) : ((s.b.heard q).entryChanges i x).net.gen i = genAfter (s.b.net.gen i) ∧
    ((s.b.heard q).entryChanges i x).net.cuts = s.b.net.cuts ++ [(i, x)] ∧
    ((s.b.heard q).entryChanges i x).net.entries = s.b.net.entries := by
  have hspec := (s.b.heard q).entryChanges_spec i x
  rwa [Block.heard_net] at hspec

/-- MACSEC_SA, install, of a formed request whose slot and channel allow it. -/
theorem saInstall_answers (hpass : s.b.passes 0x4804 (q.withByte 0 0) = true) (hform : saFormOk (q.withByte 0 0).pay = true)
    (hfn : byteAt (q.withByte 0 0).pay 0 = 0)
    (htype : (s.b.slot (saSlot (saIndex (byteAt (q.withByte 0 0).pay 1)))).type = (if s.b.p 0x4841 0 % 2 = 0 then 1 else 2))
    (huses : (s.b.slot (saSlot (saIndex (byteAt (q.withByte 0 0).pay 1)))).uses.getLsbD 2 = true)
    (hpn : saIndex (byteAt (q.withByte 0 0).pay 1) < 2 → fieldAt (q.withByte 0 0).pay 4 8 ≠ 0)
    (hother : (s.b.saBeside (saIndex (byteAt (q.withByte 0 0).pay 1))).installed = true →
      (s.b.saBeside (saIndex (byteAt (q.withByte 0 0).pay 1))).an.val ≠ byteAt (q.withByte 0 0).pay 2) :
    let k := saIndex (byteAt (q.withByte 0 0).pay 1)
    (k < 2 → (s.b.net.sas.getD k Sa.idle).inUse = true →
      AnswersFrom (.macsecSaInstall q) s (s.b.heard (q.withByte 0 0)) ((q.withByte 0 0).response 0x4804 .busy [] .none)) ∧
    ((k < 2 → (s.b.net.sas.getD k Sa.idle).inUse = false) →
      AnswersFrom (.macsecSaInstall q) s (s.b.heard (q.withByte 0 0)) ((q.withByte 0 0).response 0x4804 .ok []
        (.saInstall (Fin.ofNat 10 k) (Fin.ofNat 4 (byteAt (q.withByte 0 0).pay 2)) (fieldAt (q.withByte 0 0).pay 4 8)))) := by
  intro k
  have hrun := (s.b.heard (q.withByte 0 0)).runMacsecSa_install hform hfn
  dsimp only at hrun
  rw [Block.slot_heard, Block.p_heard, Block.saBeside, Block.heard_net, ← Block.saBeside, htype, huses, bne_self_eq_false,
    show (decide (k < 2) && fieldAt (q.withByte 0 0).pay 4 8 == 0) = false by
      rw [Bool.and_eq_false_imp]; exact fun h => beq_false_of_ne (hpn (of_decide_eq_true h)),
    show ((s.b.saBeside k).installed && (s.b.saBeside k).an.val == byteAt (q.withByte 0 0).pay 2) = false by
      rw [Bool.and_eq_false_imp]; exact fun h => beq_false_of_ne (hother h), if_neg (by decide)] at hrun
  refine ⟨fun hk huse => ?_, fun huse => ?_⟩
  · refine answersFrom_of _ rfl hpass ?_
    rw [hrun, if_pos (by rw [decide_eq_true hk, huse]; rfl)]
    exact Block.reply_answered _ _ _ _ rfl
  · refine answersFrom_of _ rfl hpass ?_
    rw [hrun, if_neg (by rw [Bool.and_eq_true]; exact fun h => Bool.false_ne_true ((huse (of_decide_eq_true h.1)).symm.trans h.2))]
    exact Block.finish_answered _ _ _ _ _ _ (Nat.zero_le _) rfl

end Clauses

/-- Settles O59: the changes of entries, their end, the statistics, and the three functions of MACSEC_SA. -/
theorem entriesAndAssociationsChange : Obligations.EntriesAndAssociationsChange := by
  unfold Obligations.EntriesAndAssociationsChange
  intro s q l
  refine ⟨fun hindex hroom => ⟨fun hpass hlen hbytes => ?_, fun hpass hlen => ?_⟩, fun i hdrained => ?_,
    fun i e g da db hpend hkind hcuts hdrained => ?_, fun hpass hlen hport hzeros hroom => ?_,
    fun hpass hlen hfn hn hname han hres hzeros htype huses hpn hother => ?_, fun k hpass hlen hfn hname hzeros => ?_,
    fun k hpass hlen hfn hname hzeros => ?_⟩
  · obtain ⟨hbad, hgood⟩ := entrySet_answers hindex hroom hpass hlen hbytes
    exact ⟨hbad, fun h => ⟨(hgood h).1, fun hfresh => ⟨_, (hgood h).2 hfresh, entryChanges_heard _ _⟩⟩⟩
  · obtain ⟨hstale, hfresh⟩ := entryDel_answers hindex hroom hpass hlen
    refine ⟨hstale, fun h => ⟨_, hfresh h, ?_⟩⟩
    obtain ⟨hgen, hcuts, -⟩ := entryChanges_heard (s := s) (q := q) (fieldAt q.pay 0 2) ((s.b.heard q).entryOut (fieldAt q.pay 0 2))
    exact ⟨hgen, _, hcuts, rfl⟩
  · exact becomes_onBlock (f := fun b => b.entryDrained l i) rfl (Block.entryDrained_waits hdrained)
  · obtain ⟨hends, hwaits⟩ := Block.entryDrained_single hpend hkind hcuts hdrained
    have hsel : s.b.entryEnds i { e with kind := .swEntry i g (da || l == .a) (db || l == .b) } =
        (((da || l == .a) || !s.b.serves .a) && ((db || l == .b) || !s.b.serves .b)) := by
      show (i.val == i.val && ((da || l == .a) || !s.b.serves .a) && ((db || l == .b) || !s.b.serves .b)) = _
      rw [beq_self_eq_true, Bool.true_and]
    rw [hsel] at hends hwaits
    exact ⟨s.b.entryDrained l i, rfl, hends, hwaits⟩
  · refine ⟨((s.b.lane s.b.act).sw.stats.getD (byteAt q.pay 0) PortStats.zero).bytes, answersFrom_of _ rfl hpass ?_,
      PortStats.bytes_length _, PortStats.bytes_fields _⟩
    rw [Block.runPortStats_formed hlen hport hzeros, Block.lane_heard, Block.act_heard]
    exact Block.finish_answered _ _ _ _ _ _ hroom rfl
  · exact saInstall_answers hpass (saFormOk_install hlen hfn hn hname han hres hzeros) hfn htype huses hpn hother
  · have hform := saFormOk_named hlen (by rw [hfn]; decide) hname hzeros
    have hrun := (s.b.heard (q.withByte 0 1)).runMacsecSa_current hform hfn
    dsimp only at hrun
    rw [hname, saIndex_named, Block.heard_net, Sa.idle] at hrun
    refine ⟨fun hout => answersFrom_of _ rfl hpass ?_, fun hin huse => answersFrom_of _ rfl hpass ?_,
      fun hin huse => answersFrom_of _ rfl hpass ?_⟩
    · rw [hrun, hout, if_pos (by decide)]
      exact Block.reply_answered _ _ _ _ rfl
    · rw [hrun, hin, if_neg (by decide), if_pos huse]
      exact Block.finish_answered _ _ _ _ _ _ (Nat.zero_le _) rfl
    · rw [hrun, hin, if_neg (by decide), if_neg (ne_true_of_eq_false huse), Fin.ofNat_val_eq_self]
      exact Block.finish_answered _ _ _ _ _ _ (Nat.zero_le _) rfl
  · have hform := saFormOk_named hlen (Nat.le_of_eq hfn) hname hzeros
    have hrun := (s.b.heard (q.withByte 0 2)).runMacsecSa_retire hform hfn
    dsimp only at hrun
    rw [hname, saIndex_named, Block.heard_net, Sa.idle, decide_eq_true k.isLt, Bool.true_and] at hrun
    refine ⟨fun huse => answersFrom_of _ rfl hpass ?_, fun huse => answersFrom_of _ rfl hpass ?_⟩
    · rw [hrun, if_pos huse]
      exact Block.reply_answered _ _ _ _ rfl
    · rw [hrun, if_neg (ne_true_of_eq_false huse)]
      exact Block.finish_answered _ _ _ _ _ _ (Nat.zero_le _) rfl

end Sys2Proof.Machine
end

section
/-! PROOF. Responses become visible at a boundary (R96, R99, R100, R113, R114, R125). Settles O35. -/

namespace Sys2Proof

/-! ## Windows and their memories -/

section Windows

variable {b : Block} {w : Win} {f : WinAgreed → WinAgreed}

/-- A window reads back as changed. -/
theorem Block.win_modWin (hparts : b.mail.parts.length = 32) : (b.modWin w f).win w = f (b.win w) := by
  cases w with
  | gov => rfl
  | part p => exact updAt_getD_same _ _ _ _ (by rw [hparts]; exact p.isLt)

theorem Block.modWin_done : (b.modWin w f).mail.done = b.mail.done := by cases w <;> rfl

theorem Win.size_pos (w : Win) : 0 < w.size := by
  cases w <;> exact Nat.zero_lt_succ _

/-- A response taken into its ring. -/
theorem WinAgreed.respond_spec (x : WinAgreed) {n : Nat} (a : Response) (hslots : x.slots.length = n) (hn : 0 < n) :
    (x.respond n a).slots.getD (x.respProd.toNat % n) none = some a ∧ (x.respond n a).respProd = x.respProd + 1 ∧
      (x.respond n a).irqStatus.getLsbD 0 = true := by
  refine ⟨updAt_getD_same _ _ _ _ (by rw [hslots]; exact Nat.mod_lt _ hn), rfl, ?_⟩
  show (x.irqStatus ||| 1).getLsbD 0 = true
  rw [BitVec.getLsbD_or]
  simp

/-- The bytes written in each of some lanes. -/
def MemSt.writeLanes (m : MemSt) (ls : List Lane) (a : Nat) (v : List Byte) : MemSt := ls.foldl (fun m l => m.write l a v) m

/-- Bytes written in some lanes read back in each of them. -/
theorem MemSt.read_writeLanes_same {ls : List Lane} {l : Lane} (a : Nat) (v : List Byte) :
    ∀ {m : MemSt}, m.Wf → (l ∈ ls ∨ m.read l a v.length = v) → (m.writeLanes ls a v).read l a v.length = v := by
  induction ls with
  | nil => exact fun _ h => h.elim (fun hmem => (List.not_mem_nil hmem).elim) id
  | cons k ks ih =>
    intro m hwf h
    refine ih (MemSt.write_wf k a v hwf) ?_
    by_cases hkl : l = k
    · subst hkl
      exact .inr (MemSt.read_write_same l a v hwf)
    · obtain rfl := Lane.eq_other hkl
      rw [MemSt.read_write_other]
      exact h.imp_left fun hmem => (List.mem_cons.mp hmem).resolve_left (Lane.other_ne k)

/-- Bytes apart from those written stand in every lane. -/
theorem MemSt.read_writeLanes_apart (l : Lane) {ls : List Lane} {a x n : Nat} {v : List Byte}
    (h : ∀ i, x ≤ i → i < x + n → i < a ∨ a + v.length ≤ i) (m : MemSt) : (m.writeLanes ls a v).read l x n = m.read l x n :=
  foldl_keeps (fun t : MemSt => t.read l x n = m.read l x n) rfl
    fun t k hkeeps => (MemSt.read_write_apart t k l h).trans hkeeps

end Windows

/-! ## One response -/

section Shown

variable {b : Block} {m : MemSt} {a : Response}

/-- The payload of a response taken into the memories. -/
def Block.payloadInto (b : Block) (m : MemSt) (a : Response) : MemSt :=
  if a.payload.isEmpty then m else m.writeLanes b.mirrored a.addr a.payload

theorem Block.payloadInto_reads {l : Lane} (hwf : m.Wf) (hserves : b.serves l = true) :
    (b.payloadInto m a).read l a.addr a.payload.length = a.payload := by
  unfold Block.payloadInto
  by_cases hempty : a.payload = []
  · rw [hempty]
    cases l <;> rfl
  · have hmem : l ∈ b.mirrored := List.mem_filter.mpr ⟨by cases l <;> decide, by rw [Block.mirrors, hserves, Bool.true_or]⟩
    rw [if_neg (by rwa [List.isEmpty_iff])]
    exact MemSt.read_writeLanes_same _ _ hwf (.inl hmem)

theorem Block.payloadInto_apart (l : Lane) {x n : Nat}
    (h : ∀ k, x ≤ k → k < x + n → ¬ (a.addr ≤ k ∧ k < a.addr + a.payload.length)) :
    (b.payloadInto m a).read l x n = m.read l x n := by
  unfold Block.payloadInto
  by_cases hempty : a.payload.isEmpty = true
  · rw [if_pos hempty]
  · rw [if_neg hempty]
    exact MemSt.read_writeLanes_apart l (fun i hlow hhigh => by have := h i hlow hhigh; omega) m

/-- While its ring is full a response goes back to those that wait. -/
theorem Block.show_full {w : Win} (hwin : a.path.win = some w) (hphase : (b.slice w.prid).phase ≠ .none)
    (hfull : w.size ≤ ((b.win w).respProd - (b.win w).respCons).toNat) :
    b.show m a = (b.modMail fun y => { y with done := y.done ++ [a] }, m) := by
  unfold Block.show
  rw [hwin]
  exact if_pos ⟨hphase, hfull⟩

/-- A response without an effect takes its slot, and its payload its buffer. -/
theorem Block.show_room {w : Win} (hwin : a.path.win = some w) (heffect : a.effect = .none)
    (hphase : (b.slice w.prid).phase ≠ .none) (hroom : ((b.win w).respProd - (b.win w).respCons).toNat < w.size)
    (hheld : (b.slice w.prid).holdsSram a.addr a.payload.length = true) :
    b.show m a = (b.modWin w fun x => x.respond w.size a, b.payloadInto m a) := by
  have hphase' : ((b.slice w.prid).phase == SlicePhase.none) = false := beq_false_of_ne hphase
  have hwhole : ¬ ((b.slice w.prid).phase ≠ SlicePhase.none ∧ w.size ≤ ((b.win w).respProd - (b.win w).respCons).toNat) :=
    fun h => Nat.not_le.mpr hroom h.2
  unfold Block.show
  rw [hwin, heffect]
  dsimp only
  rw [if_neg hwhole, hphase', hheld]
  unfold Block.payloadInto
  cases a.payload.isEmpty <;> rfl

/-- A management response leaves on the uplink. -/
theorem Block.show_mgmt (hpath : a.path = .mgmt) (heffect : a.effect = .none) : b.show m a = (b.sendMgmt b.serving a, m) := by
  unfold Block.show
  rw [hpath, heffect]
  rfl

/-- What leaves on the uplink of some lanes. -/
theorem Block.sendMgmt_mail (ls : List Lane) : (b.sendMgmt ls a).mail = { b.mail with
    mgSent := ls.foldl (fun s l => s.upd l fun q => { resp := a, rtag := b.mail.mgSeq } :: q) b.mail.mgSent
    mgSeq := b.mail.mgSeq + 1 } := by
  unfold Block.sendMgmt
  refine foldl_keeps (fun t : Block => t.mail = _) rfl fun t l h => ?_
  obtain ⟨mod, lanes, evs, hsent⟩ := Block.checkSent_frame t l mgmtHandle b.mail.mgSeq.toNat a.path.prid (a.header ++ a.payload)
  rw [hsent]
  exact h

/-- A change in the lanes in service, each once. -/
theorem Block.foldl_serving {α : Type} (x : PerLane α) (f : α → α) (l : Lane) :
    (b.serving.foldl (fun s l => s.upd l f) x).get l = if b.serves l then f (x.get l) else x.get l := by
  unfold Block.serving
  cases ha : b.serves .a <;> cases hb : b.serves .b <;> cases l <;> simp [ha, hb, PerLane.upd, PerLane.get, PerLane.set]

end Shown

/-! ## The one response that waits -/

section One

variable {b : Block} {m : MemSt} {a : Response}

/-- The responses once those that become visible are taken out. -/
def Block.doneTaken (b : Block) : Block := b.modMail fun y => { y with done := [] }

theorem Block.showAll_eq : b.showAll m = (b.mail.done.filter fun a => !b.unmatched a).foldl
    (fun acc a => acc.1.show acc.2 a) (b.modMail fun y => { y with done := b.mail.done.filter b.unmatched }, m) := rfl

theorem Block.doneKept (hdone : b.mail.done = [a]) : (b.modMail fun y => { y with done := [a] }) = b := by
  rw [← hdone]
  rfl

theorem Block.showAll_unmatched (hdone : b.mail.done = [a]) (h : b.unmatched a = true) : b.showAll m = (b, m) := by
  have hgo : [a].filter (fun a => !b.unmatched a) = [] := List.filter_cons_of_neg (by rw [h]; decide)
  have hstay : [a].filter b.unmatched = [a] := List.filter_cons_of_pos h
  rw [Block.showAll_eq, hdone, hgo, hstay]
  exact congrArg (·, m) (Block.doneKept hdone)

theorem Block.showAll_matched (hdone : b.mail.done = [a]) (h : b.unmatched a = false) : b.showAll m = b.doneTaken.show m a := by
  have hgo : [a].filter (fun a => !b.unmatched a) = [a] := List.filter_cons_of_pos (by rw [h]; decide)
  have hstay : [a].filter b.unmatched = [] := List.filter_cons_of_neg (ne_true_of_eq_false h)
  rw [Block.showAll_eq, hdone, hgo, hstay]
  rfl

end One

end Sys2Proof

namespace Sys2Proof.Machine

/-- Settles O35: the waiting response, the full ring, the slot with its payload, and the management response. -/
theorem responsesBecomeVisible : Obligations.ResponsesBecomeVisible := by
  unfold Obligations.ResponsesBecomeVisible
  intro b m a hdone heffect hwf hparts
  refine ⟨Block.showAll_unmatched hdone, fun hmatched w hwin hphase => ⟨fun hfull => ?_, fun hroom hheld hslots => ?_⟩,
    fun hmatched hpath => ?_⟩
  · rw [Block.showAll_matched hdone hmatched, Block.show_full (b := b.doneTaken) hwin hphase hfull]
    exact congrArg (·, m) (Block.doneKept hdone)
  · have hshow := Block.show_room (b := b.doneTaken) (m := m) hwin heffect hphase hroom hheld
    have hreads : ∀ l, b.serves l = true → (b.doneTaken.payloadInto m a).read l a.addr a.payload.length = a.payload :=
      fun l hserves => Block.payloadInto_reads hwf hserves
    have hring := (b.win w).respond_spec a hslots w.size_pos
    rw [Block.showAll_matched hdone hmatched, hshow]
    dsimp only
    rw [Block.modWin_done, Block.win_modWin (b := b.doneTaken) hparts]
    exact ⟨rfl, hring.1, hring.2.1, hring.2.2, fun l => ⟨hreads l, fun x n h => Block.payloadInto_apart l h⟩⟩
  · rw [Block.showAll_matched hdone hmatched, Block.show_mgmt hpath heffect]
    dsimp only
    rw [Block.sendMgmt_mail]
    exact ⟨rfl, rfl, fun l => Block.foldl_serving (b := b.doneTaken) _ _ l⟩

end Sys2Proof.Machine
end

section
/-! PROOF. What takes effect when a response becomes visible (R114, R137, R166, R379, R430, R455-R473, R507, R533). Settles O36. -/

namespace Sys2Proof

/-! ## Keys -/

section Keys

variable {b : Block}

/-- A key loaded, and an evicted slot, besides every other slot. -/
theorem Block.keyNow_slot {i : Nat} {k : KeySlot} (j : Nat) : (b.keyNow i k).slot j = (b.modSlot i fun _ => k).slot j := by
  unfold Block.keyNow
  dsimp only
  split <;> rfl

/-- Every slot changed by a function that keeps the empty one. -/
theorem KeySt.slot_map {f : KeySlot → KeySlot} (hempty : f KeySlot.empty = KeySlot.empty) (slots : List KeySlot) (i : Nat) :
    (slots.map f).getD i KeySlot.empty = f (slots.getD i KeySlot.empty) := by
  have hmap := getD_map (n := i) slots KeySlot.empty f
  rwa [hempty] at hmap

/-- A destruction empties the slots under its node (R459). -/
theorem Block.destroyNow_slot (hpend : b.mail.pend = []) (n i : Nat) :
    (b.destroyNow n).slot i = if underNode n (b.slot i) then KeySlot.empty else b.slot i := by
  have hkeys : (b.destroyNow n).keys.slots = b.keys.slots.map fun s => if underNode n s then KeySlot.empty else s := by
    unfold Block.destroyNow
    dsimp only
    rw [Block.raiseAll_keys, hpend]
    show (Block.finishWhere b _ _ _ _).keys.slots.map _ = _
    rw [Block.finishWhere_keys]
  unfold Block.slot
  rw [hkeys]
  exact KeySt.slot_map (f := fun s => if underNode n s then KeySlot.empty else s) (ite_self _) b.keys.slots i

theorem Block.breakPairs_keys (l : Lane) (mask : BitVec 7) : (b.breakPairs l mask).keys = b.keys := by
  unfold Block.breakPairs
  exact foldl_keeps (fun t : Block => t.keys = b.keys) rfl fun t k h => (Block.raise_keys t l 42 0 l.num k).trans h

theorem Block.testRootNow_keys : b.testRootNow.keys.testRoot = true := by
  unfold Block.testRootNow
  by_cases h : b.keys.testRoot = true
  · rw [if_pos h]
    exact h
  · rw [if_neg h]
    rfl

theorem Block.breakCopy_keys (l : Lane) : (b.breakCopy l).keys = b.keys := by
  unfold Block.breakCopy
  dsimp only
  split <;> rfl

theorem Block.lanesOff_keys (cause : Nat) : (b.lanesOff cause).keys = b.keys := by
  have hcopies : ((b.breakCopy .a).breakCopy .b).keys = b.keys := by rw [Block.breakCopy_keys, Block.breakCopy_keys]
  rw [← hcopies]
  rfl

/-- A change of the life cycle wipes every slot (R461). -/
theorem Block.lifeRestarts_slot (i : Nat) : b.lifeRestarts.slot i = KeySlot.empty := by
  have hkeys : b.lifeRestarts.keys.slots = b.keys.slots.map fun _ => KeySlot.empty := by
    unfold Block.lifeRestarts
    rw [Block.lanesOff_keys]
    rfl
  unfold Block.slot
  rw [hkeys]
  exact KeySt.slot_map rfl b.keys.slots i

end Keys

/-! ## Range marks and MACsec associations -/

section Associations

variable {b : Block}

theorem Block.saUse_sa (k i : Nat) : (b.saUse k).net.sas[i]? =
    b.net.sas[i]?.map fun x : Sa => if i < 2 then { x with inUse := i == k } else x := by
  show (mapIdxFrom _ 0 b.net.sas)[i]? = _
  rw [getElem?_mapIdxFrom, Nat.zero_add]

/-- The use of the transmit associations leaves what is installed. -/
theorem Block.saUse_installed (k i : Nat) (d : Sa) : ((b.saUse k).net.sas.getD i d).installed = (b.net.sas.getD i d).installed ∧
    ((b.saUse k).net.sas.getD i d).an = (b.net.sas.getD i d).an := by
  rw [List.getD_eq_getElem?_getD, List.getD_eq_getElem?_getD, Block.saUse_sa]
  cases b.net.sas[i]? with
  | none => exact ⟨rfl, rfl⟩
  | some x =>
    show (if i < 2 then { x with inUse := i == k } else x : Sa).installed = _ ∧
      (if i < 2 then { x with inUse := i == k } else x : Sa).an = _
    by_cases h : i < 2
    · rw [if_pos h]
      exact ⟨rfl, rfl⟩
    · rw [if_neg h]
      exact ⟨rfl, rfl⟩

/-- The transmit association in use. -/
theorem Block.saUse_inUse {i : Nat} (hlen : b.net.sas.length = 10) (hi : i < 2) (k : Nat) (d : Sa) :
    ((b.saUse k).net.sas.getD i d).inUse = (i == k) := by
  rw [List.getD_eq_getElem?_getD, Block.saUse_sa, List.getElem?_eq_getElem (by omega : i < b.net.sas.length)]
  show (if i < 2 then { b.net.sas[i] with inUse := i == k } else b.net.sas[i] : Sa).inUse = _
  rw [if_pos hi]

/-- An association installed, before any comes into use. -/
def Block.saWritten (b : Block) (k : Nat) (an : Fin 4) (pn : Nat) : Block :=
  b.modNet fun n => { n with sas := updAt n.sas k fun s => { s with installed := true, an := an, pn := pn } }

theorem Block.saWritten_spec {k : Nat} (hk : k < b.net.sas.length) (an : Fin 4) (pn : Nat) (d : Sa) :
    ((b.saWritten k an pn).net.sas.getD k d).installed = true ∧ ((b.saWritten k an pn).net.sas.getD k d).an = an := by
  have hsa : (b.saWritten k an pn).net.sas.getD k d = { b.net.sas.getD k d with installed := true, an := an, pn := pn } :=
    updAt_getD_same _ _ _ _ hk
  rw [hsa]
  exact ⟨rfl, rfl⟩

/-- An association is installed at its boundary (R379). -/
theorem Block.saInstallNow_spec {k : Nat} (hk : k < b.net.sas.length) (an : Fin 4) (pn : Nat) (d : Sa) :
    ((b.saInstallNow k an pn).net.sas.getD k d).installed = true ∧ ((b.saInstallNow k an pn).net.sas.getD k d).an = an := by
  have hwritten := b.saWritten_spec hk an pn d
  unfold Block.saInstallNow
  dsimp only
  by_cases htx : k < 2
  · rw [if_pos htx]
    split
    · obtain ⟨hinst, han⟩ := Block.saUse_installed (b := (b.saWritten k an pn).modCtx (saSlot k) fun c =>
        { c with slot := saSlot k, counter := pn, warned := false }) k k d
      exact ⟨hinst.trans hwritten.1, han.trans hwritten.2⟩
    · exact hwritten
  · rw [if_neg htx]
    exact hwritten

theorem Block.saRetireNow_spec {k : Nat} (hk : k < b.net.sas.length) (d : Sa) :
    ((b.saRetireNow k).net.sas.getD k d).installed = false := by
  have hsa : (b.saRetireNow k).net.sas.getD k d = { b.net.sas.getD k d with installed := false, inUse := false } :=
    updAt_getD_same _ _ _ _ hk
  rw [hsa]

end Associations

/-! ## Slices -/

section Slices

variable {b : Block}

/-- A new slice has a fresh window, and no violation (R137, R166). -/
theorem Block.sliceNow_created {p : Nat} (hviol : p < b.part.viol.length) (hparts : p < b.mail.parts.length) (recs : List ResRec) :
    (b.sliceNow p true recs).mail.parts.getD p (WinAgreed.fresh 4) = WinAgreed.fresh 4 ∧
      (b.sliceNow p true recs).viol p = { Violations.fresh with budgetTraps := (b.viol p).budgetTraps } :=
  ⟨updAt_getD_same _ _ _ _ hparts, updAt_getD_same _ _ _ _ hviol⟩

end Slices

end Sys2Proof

namespace Sys2Proof.Machine

/-- Settles O36, effect by effect. -/
theorem effectsTakePlace : Obligations.EffectsTakePlace := by
  unfold Obligations.EffectsTakePlace
  intro b hsized
  obtain ⟨-, -, -, -, hviol, -, hparts, -, -, hslots, -, hctxs, -, -⟩ := hsized
  refine ⟨fun i k hi => ?_, fun hpend n i => Block.destroyNow_slot hpend n i, fun c r hc => ⟨?_, ?_⟩,
    fun e base len hpre hcons => ⟨?_, ?_, rfl⟩, fun k an pn hsas => ?_, fun p recs => ?_, fun l => ?_, rfl, fun c hc => ?_,
    fun _ => (Block.ackNow_unblocks b).1, fun ls ps => Block.testRootNow_keys, rfl, Block.lifeRestarts_slot, ?_, ?_⟩
  · have hin : i < b.keys.slots.length := by omega
    refine ⟨(Block.keyNow_slot i).trans (Block.slot_modSlot b i _ hin), Block.slot_modSlot b i _ hin, fun j hj => ⟨?_, ?_⟩⟩
    · exact (Block.keyNow_slot j).trans (Block.slot_modSlot_other b i j _ hj)
    · exact Block.slot_modSlot_other b i j _ hj
  · exact Block.ctx_modCtx b c _ (by omega)
  · exact Block.ctx_modCtx b c _ (by omega)
  · exact updAt_getD_same _ _ _ _ hpre
  · exact updAt_getD_same _ _ _ _ hcons
  · have hk : k.val < b.net.sas.length := by omega
    obtain ⟨hinst, han⟩ := Block.saInstallNow_spec hk an pn { installed := false, inUse := false, an := 0, pn := 0 }
    refine ⟨hinst, han, Block.saRetireNow_spec hk _, fun c => ⟨?_, ?_⟩⟩
    · exact (Block.saUse_inUse hsas c.isLt c.val _).trans (beq_self_eq_true c.val)
    · exact (Block.saUse_inUse hsas (by omega) c.val _).trans (beq_false_of_ne (by omega))
  · obtain ⟨hwin, hfresh⟩ := Block.sliceNow_created (b := b) (p := p.val) (by omega) (by omega) recs
    exact ⟨hwin, hfresh, rfl⟩
  · cases l <;> exact ⟨rfl, rfl, rfl⟩
  · obtain ⟨x, -, rfl⟩ := List.mem_map.mp hc
    rfl
  · exact (Block.lanesOff_off _ 0).2.2
  · exact (Block.lanesOff_off _ 0).2.1

end Sys2Proof.Machine
end

section
/-! PROOF. Requests are taken up from windows and the uplink (R84, R98, R99, R105, R110-R115, R123-R126, R147, R266; log
entry 111). Settles O32. -/

namespace Sys2Proof

/-! ## A window's index -/

section Windows

variable {b : Block} {l : Lane} {w : Win} {i : Word}

/-- A lane's index past a request: its copy joins those that wait unless it is matched, and the other lane's of that request is
taken out. -/
def WinAgreed.advance (a : WinAgreed) (l : Lane) (i : Word) (matched done : Bool) (content : List Byte) : WinAgreed :=
  (a.modLane l fun x => { x with taken := x.taken + 1, copies := if matched then x.copies else x.copies ++ [(i, done, content)] }).modLane
    l.other fun x => { x with copies := x.copies.filter fun c => c.1 != i }

theorem WinAgreed.advance_spec (a : WinAgreed) (matched done : Bool) (content : List Byte) :
    ((a.advance l i matched done content).lanes.get l).taken = (a.lanes.get l).taken + 1 ∧
      ((a.advance l i matched done content).lanes.get l.other).copies = (a.lanes.get l.other).copies.filter (fun c => c.1 != i) := by
  cases l <;> exact ⟨rfl, rfl⟩

/-- The window once its next request is admitted (R115). -/
theorem Block.letIn_win (hparts : b.mail.parts.length = 32) :
    (b.letIn w).win w = { b.win w with admitted := (b.win w).admitted + 1, pacing := false } := by
  cases w with
  | gov => rfl
  | part p => exact Block.win_modWin (b := b) (w := .part p) (f := fun a => { a with admitted := a.admitted + 1, pacing := false }) hparts

theorem Block.letIn_tokens {p : Prid} (hrates : b.part.rates.length = 32) :
    ((b.letIn (.part p)).rates p).mailTok = (b.rates p).mailTok - mailToken := by
  have hp : p.val < b.part.rates.length := by rw [hrates]; exact p.isLt
  have hrate : (b.letIn (.part p)).rates p = { b.rates p with mailTok := (b.rates p).mailTok - mailToken } :=
    updAt_getD_same _ _ _ _ hp
  rw [hrate]

theorem Block.letIn_parts : (b.letIn w).mail.parts.length = b.mail.parts.length := by
  cases w with
  | gov => rfl
  | part p => exact updAt_length _ _ _

theorem Block.rates_modWin (f : WinAgreed → WinAgreed) (p : Nat) : (b.modWin w f).rates p = b.rates p := by cases w <;> rfl

theorem Block.modWin_beside (f : WinAgreed → WinAgreed) : (b.modWin w f).part = b.part ∧ (b.modWin w f).mod = b.mod := by
  cases w <;> exact ⟨rfl, rfl⟩

theorem Block.win_of_mail {t : Block} (h : t.mail = b.mail) (w : Win) : t.win w = b.win w := by
  cases w with
  | gov => exact congrArg MailSt.gov h
  | part p => exact congrArg (fun m : MailSt => m.parts.getD p.val (WinAgreed.fresh 4)) h

/-- A difference between the lanes' copies is recorded. -/
def Block.copiesMet (b : Block) (w : Win) (c content : List Byte) : Block := if c = content then b else b.diverge 2 w.prid

theorem Block.copiesMet_spec (c content : List Byte) : (b.copiesMet w c content).mail = b.mail ∧
    (b.copiesMet w c content).part = b.part ∧
    (b.copiesMet w c content).mod.divSeen = b.mod.divSeen ++ (if c = content then [] else [(2, w.prid)]) := by
  unfold Block.copiesMet
  by_cases h : c = content
  · rw [if_pos h, if_pos h, List.append_nil]
    exact ⟨rfl, rfl, rfl⟩
  · rw [if_neg h, if_neg h]
    obtain ⟨mod, lanes, evs, hframe⟩ := Block.diverge_frame b 2 w.prid
    refine ⟨by rw [hframe], by rw [hframe], ?_⟩
    unfold Block.diverge
    show (b.raiseAll _ _ _ _).mod.divSeen ++ _ = _
    rw [raiseAll_mod]

end Windows

/-! ## Management frames (R123, R124) -/

section Management

variable {b : Block} {l : Lane} {f : MgmtFrame} {identity : DWord}

/-- The secure channel of a management frame. -/
def Block.mgmtChannel (b : Block) (l : Lane) (f : MgmtFrame) : Bool :=
  if f.secTag then f.scOk && f.verified else (b.lane l).defaults

/-- What a management frame must meet. -/
def Block.mgmtGood (b : Block) (identity : DWord) (l : Lane) (f : MgmtFrame) : Prop :=
  b.mgmtChannel l f = true ∧ f.forMe identity = true ∧ f.len ≤ 4200 ∧ b.mgmtInFlight < 16

theorem MgmtFrame.forMe_iff : f.forMe identity = true ↔
    byteAt f.body 0 = 1 ∧ byteAt f.body 1 = 1 ∧ beNat (bytesAt f.body 4 8) = identity.toNat := by
  unfold MgmtFrame.forMe
  rw [Bool.and_eq_true, Bool.and_eq_true, beq_iff_eq, beq_iff_eq, beq_iff_eq, and_assoc]

theorem Block.mgmtIn_taken (hserves : b.serves l = true) (h : b.mgmtGood identity l f) :
    b.mgmtIn identity l f = (b.modMail fun m => { m with mgRx := (m.mgRx + 1) % 2 ^ 32 }).takesIn l (.mgmt f) := by
  obtain ⟨hchannel, hme, hlen, hflight⟩ := h
  unfold Block.mgmtChannel at hchannel
  unfold Block.mgmtIn
  dsimp only
  rw [hserves, hchannel, hme, decide_eq_true hlen, decide_eq_true hflight]
  rfl

theorem Block.mgmtIn_dropped (hserves : b.serves l = true) (h : ¬ b.mgmtGood identity l f) :
    b.mgmtIn identity l f = b.mgmtDrop := by
  have hcond : ¬ (b.mgmtChannel l f && f.forMe identity && decide (f.len ≤ 4200) && decide (b.mgmtInFlight < 16)) = true := by
    rwa [Bool.and_eq_true, Bool.and_eq_true, Bool.and_eq_true, decide_eq_true_eq, decide_eq_true_eq, and_assoc, and_assoc]
  unfold Block.mgmtIn
  dsimp only
  rw [if_neg (by rw [hserves]; decide)]
  exact if_neg hcond

/-- An item taken in joins the lane's own. -/
theorem Block.takesIn_own (body : ItemBody) :
    ((b.takesIn l body).lane l).own = (b.lane l).own ++ [{ epoch := b.mod.epoch, body := body }] := by
  unfold Block.takesIn
  rw [Block.field_of_untold (Block.untold_toPeer _ l _) l LaneSt.own, Block.lane_modLane]

theorem Block.takesIn_mail (body : ItemBody) : (b.takesIn l body).mail = b.mail := by
  unfold Block.takesIn
  obtain ⟨lanes, h⟩ := Block.toPeer_frame (b.modLane l fun x => { x with own := x.own ++ [{ epoch := b.mod.epoch, body := body }] }) l
    { epoch := b.mod.epoch, body := body }
  rw [h]
  rfl

end Management

end Sys2Proof

namespace Sys2Proof.Machine

section TakeUp

variable {s : State} {l : Lane} {w : Win} {stamp : Nat}

/-- A lane out of service takes up nothing. -/
theorem takeUp_idle (h : s.b.serves l = false) : s.takeUp l w = s := by
  unfold State.takeUp
  dsimp only
  rw [h]
  rfl

/-- A window that holds its next request back. -/
theorem takeUp_held (hserves : s.b.serves l = true) (hstamp : s.b.nextStamp? l w = some stamp)
    (hfirst : ((s.b.win w).lanes.get l).taken = (s.b.win w).admitted)
    (h : s.b.winOpen w = false ∨ s.b.ringRoom w = false ∨ s.b.othersFirst l w stamp = true) : s.takeUp l w = s := by
  unfold State.takeUp
  dsimp only
  rw [if_neg (by rw [hserves]; decide), hstamp]
  dsimp only
  rw [hfirst, beq_self_eq_true, if_pos (by rcases h with h | h | h <;> simp [h])]

theorem takeUp_paced (hserves : s.b.serves l = true) (hstamp : s.b.nextStamp? l w = some stamp)
    (hfirst : ((s.b.win w).lanes.get l).taken = (s.b.win w).admitted) (hopen : s.b.winOpen w = true)
    (hroom : s.b.ringRoom w = true) (hothers : s.b.othersFirst l w stamp = false) (hpace : s.b.paceOk w = false) :
    s.takeUp l w = s.withBlock (s.b.modWin w fun a => { a with pacing := true }) := by
  unfold State.takeUp
  dsimp only
  rw [if_neg (by rw [hserves]; decide), hstamp]
  dsimp only
  rw [hfirst, beq_self_eq_true, hopen, hroom, hothers, hpace, if_neg (by decide), if_pos (by decide)]

/-- The lane that comes first, the active one, carries its copy through the checks. -/
theorem takeUp_first (hserves : s.b.serves l = true) (hstamp : s.b.nextStamp? l w = some stamp)
    (hfirst : ((s.b.win w).lanes.get l).taken = (s.b.win w).admitted) (hopen : s.b.winOpen w = true)
    (hroom : s.b.ringRoom w = true) (hothers : s.b.othersFirst l w stamp = false) (hpace : s.b.paceOk w = true)
    (hact : s.b.act = l) (hfar : ((s.b.win w).lanes.get l.other).copies = []) {content : List Byte}
    (hcontent : s.b.copySlot s.mem l w ((s.b.win w).lanes.get l).taken = content) :
    s.takeUp l w = (s.withBlock ((s.b.letIn w).modWin w fun a => a.advance l ((s.b.win w).lanes.get l).taken
      (!(s.b.letIn w).serves l.other) true content)).accept w.path content stamp false := by
  have hact' : (s.b.letIn w).act = l := by cases w <;> exact hact
  unfold State.takeUp
  dsimp only
  rw [if_neg (by rw [hserves]; decide), hstamp]
  dsimp only
  rw [hcontent, hfar, hfirst, beq_self_eq_true, hopen, hroom, hothers, hpace, if_neg (by decide), if_neg (by decide), if_pos rfl]
  dsimp only [List.find?_nil]
  rw [if_pos hact']
  rfl

/-- The lane that comes second and is not the active one compares its copy and advances. -/
theorem takeUp_second (hserves : s.b.serves l = true) (hstamp : s.b.nextStamp? l w = some stamp)
    (hsecond : ((s.b.win w).lanes.get l).taken ≠ (s.b.win w).admitted) {c content : List Byte}
    (hfar : ((s.b.win w).lanes.get l.other).copies = [(((s.b.win w).lanes.get l).taken, true, c)])
    (hcontent : s.b.copySlot s.mem l w ((s.b.win w).lanes.get l).taken = content) :
    s.takeUp l w = s.withBlock ((s.b.copiesMet w c content).modWin w fun a =>
      a.advance l ((s.b.win w).lanes.get l).taken true true content) := by
  unfold State.takeUp
  dsimp only
  rw [if_neg (by rw [hserves]; decide), hstamp]
  dsimp only
  have hmatch : [(((s.b.win w).lanes.get l).taken, true, c)].find? (fun x => x.1 == ((s.b.win w).lanes.get l).taken) =
      some (((s.b.win w).lanes.get l).taken, true, c) := List.find?_cons_of_pos (beq_self_eq_true _)
  rw [hcontent, hfar, beq_false_of_ne hsecond, hmatch]
  rfl

end TakeUp

section Queue

variable {s : State} {k : Nat}

theorem takeMgmt_empty (h : s.b.mail.mgQueue = []) : s.takeMgmt k = s := by
  have hsame : (s.b.modMail fun m => { m with mgQueue := [] }) = s.b := by
    rw [← h]
    rfl
  unfold State.takeMgmt
  dsimp only
  rw [h, hsame]
  rfl

/-- The one management frame that waits is taken up in its turn (R110). -/
theorem takeMgmt_one {f : MgmtFrame} {e : Nat} (h : s.b.mail.mgQueue = [(f, e)]) (hdue : e < k)
    (hturn : s.b.windowsFirst s.b.act none e 1 = false) :
    s.takeMgmt k = (s.withBlock (s.b.modMail fun m => { m with mgQueue := [] })).accept .mgmt (mgmtCopy f) e (!f.secTag) := by
  have hfree : (s.b.modMail fun m => { m with mgQueue := [] }).windowsFirst s.b.act none e 1 = false := hturn
  have htakes : (([] : List (MgmtFrame × Nat)).isEmpty && decide (e < k) &&
      !(s.b.modMail fun m => { m with mgQueue := [] }).windowsFirst s.b.act none e 1) = true := by
    rw [hfree, decide_eq_true hdue]
    rfl
  unfold State.takeMgmt
  dsimp only
  rw [h]
  exact if_pos htakes

end Queue

/-- Settles O32: the management queue, the window's five cases, and the management frame. -/
theorem requestsAreTakenUp : Obligations.RequestsAreTakenUp := by
  unfold Obligations.RequestsAreTakenUp
  intro s l hparts hrates
  have hexec (w : Win) (t : State) (h : s.takeUp l w = t) : exec (.requestTakeUp l w) s = .next (t.takeMgmt t.b.mail.gov.mbEpoch) := by
    rw [← h]
    rfl
  refine ⟨fun k => takeMgmt_empty, fun k f e hqueue hdue hturn => takeMgmt_one hqueue hdue hturn, fun w hserves hqueue => ?_,
    fun w stamp hserves hstamp => ⟨fun hfirst hheld => ?_, fun hfirst hopen hroom hothers hpace => ?_,
      fun hfirst hopen hroom hothers hpace hact hfar => ?_, fun hsecond hact c hfar => ?_⟩, fun f hserves hprovision => ?_⟩
  · rw [hexec w s (takeUp_idle hserves), takeMgmt_empty hqueue]
  · exact hexec w s (takeUp_held hserves hstamp hfirst hheld)
  · exact hexec w _ (takeUp_paced hserves hstamp hfirst hopen hroom hothers hpace)
  · refine ⟨_, hexec w _ (takeUp_first hserves hstamp hfirst hopen hroom hothers hpace hact hfar rfl), ?_⟩
    rw [Block.win_modWin (Block.letIn_parts.trans hparts), Block.letIn_win hparts]
    refine ⟨(WinAgreed.advance_spec _ _ _ _).1, rfl, rfl, fun p hw => ?_⟩
    subst hw
    rw [Block.rates_modWin]
    exact Block.letIn_tokens hrates
  · obtain ⟨hmail, hpart, hdiv⟩ := s.b.copiesMet_spec (w := w) c (s.b.copySlot s.mem l w ((s.b.win w).lanes.get l).taken)
    have hwin := Block.win_of_mail hmail w
    refine ⟨_, hexec w _ (takeUp_second hserves hstamp hsecond hfar rfl), ?_⟩
    rw [Block.win_modWin (by rw [hmail]; exact hparts), hwin, Block.modWin_done, hmail, (Block.modWin_beside _).1,
      (Block.modWin_beside _).2]
    obtain ⟨htaken, hcopies⟩ := (s.b.win w).advance_spec (l := l) (i := ((s.b.win w).lanes.get l).taken) true true
      (s.b.copySlot s.mem l w ((s.b.win w).lanes.get l).taken)
    refine ⟨htaken, hcopies.trans ?_, rfl, hpart, hdiv⟩
    rw [hfar]
    exact List.filter_cons_of_neg (by rw [bne_self_eq_false]; decide)
  · have hrun : exec (.managementFrame l f) s = .next (s.withBlock (s.b.mgmtIn s.otp.identity l f)) := by
      show onBlock (fun b => if b.mod.provision && (b.lane l).st == 1 then provisionAnswer b s.otp l f
        else b.mgmtIn s.otp.identity l f) s = _
      unfold onBlock
      dsimp only
      rw [hprovision]
      rfl
    have hgood : s.b.mgmtGood s.otp.identity l f ↔ (s.b.mgmtChannel l f = true ∧ byteAt f.body 0 = 1 ∧ byteAt f.body 1 = 1 ∧
        beNat (bytesAt f.body 4 8) = s.otp.identity.toNat ∧ f.len ≤ 4200 ∧ s.b.mgmtInFlight < 16) := by
      unfold Block.mgmtGood
      rw [MgmtFrame.forMe_iff, and_assoc, and_assoc]
    refine ⟨fun h => ⟨_, hrun, ?_⟩, fun h => ⟨_, hrun, ?_⟩⟩
    · rw [Block.mgmtIn_taken hserves (hgood.mpr h), Block.takesIn_own, Block.takesIn_mail]
      exact ⟨rfl, rfl, rfl⟩
    · rw [Block.mgmtIn_dropped hserves fun hok => h (hgood.mp hok)]
      exact ⟨rfl, rfl, rfl⟩

end Sys2Proof.Machine
end

section
/-! PROOF. The switch core: what its counts and events leave, and a frame at a physical port (R124, R349-R376). Part of O60. -/

namespace Sys2Proof

/-! ## Events and counts -/

section Counts

variable {b : Block} {l : Lane}

/-- A lane's switch core. -/
def Block.swAt (b : Block) (l : Lane) : SwitchSt := (b.lane l).sw

theorem Block.swAt_modSw (f : SwitchSt → SwitchSt) : (b.modLane l fun x => x.modSw f).swAt l = f (b.swAt l) := by
  unfold Block.swAt
  rw [Block.lane_modLane]
  rfl

/-- An event of limited rate is due. -/
def Block.limitedDue (b : Block) (key : Nat) : Bool :=
  match b.ev.lastSec.find? (fun e => e.1 == key) with
  | some (_, e) => decide (e + 20000 ≤ b.mod.epoch)
  | none => true

theorem Block.raiseLimited_eq (b : Block) (key : Nat) (l : Lane) (ev cause subject : Nat) (detail : Int) :
    b.raiseLimited key l ev cause subject detail = if b.limitedDue key then
      (b.raise l ev cause subject detail).modEv fun v => { v with lastSec := assocSet v.lastSec key b.mod.epoch } else b := rfl

/-- A part of the switch core that a change leaves. -/
theorem Block.swPart_modSw {α : Type} (f : SwitchSt → SwitchSt) (g : SwitchSt → α) (h : ∀ s, g (f s) = g s := by intro; rfl) :
    g ((b.modLane l fun x => x.modSw f).swAt l) = g (b.swAt l) := by
  rw [Block.swAt_modSw, h]

/-- What the switch core reports leaves all but what lanes hold and the events. -/
theorem Block.raiseLimited_frame (b : Block) (key : Nat) (l : Lane) (ev cause subject : Nat) (detail : Int) :
    ∃ lanes evs, b.raiseLimited key l ev cause subject detail = { b with lanes := lanes, ev := evs } := by
  obtain ⟨lanes, evs, h⟩ := Block.raise_frame b l ev cause subject detail
  rw [Block.raiseLimited_eq, h]
  split
  · exact ⟨_, _, rfl⟩
  · exact ⟨b.lanes, b.ev, rfl⟩

theorem Block.unsent_raiseLimited (key ev cause subject : Nat) (detail : Int) (k : Lane) :
    ((b.raiseLimited key l ev cause subject detail).lane k).unsent = (b.lane k).unsent := by
  unfold Block.raiseLimited
  dsimp only
  rw [apply_ite (fun t : Block => (t.lane k).unsent)]
  exact (ite_congr rfl (fun _ => Block.lane_of_untold (Block.untold_raise b l ev cause subject detail) k) fun _ => rfl).trans (ite_self _)

/-- A field of a lane that no event touches. -/
theorem Block.field_swEvent {α : Type} (ev port : Nat) (detail : Int) (k : Lane) (f : LaneSt → α)
    (hf : ∀ x : LaneSt, f x.unsent = f x := by intro; rfl) : f ((b.swEvent l ev port detail).lane k) = f (b.lane k) := by
  rw [← hf, Block.swEvent, Block.unsent_raiseLimited, hf]

theorem Block.swAt_swEvent (ev port : Nat) (detail : Int) : (b.swEvent l ev port detail).swAt l = b.swAt l :=
  Block.field_swEvent ev port detail l LaneSt.sw

theorem Block.swAt_swCount (port ev : Nat) (f : PortStats → PortStats) :
    (b.swCount l port ev f).swAt l = (b.swAt l).modStats port f := by
  unfold Block.swCount
  rw [Block.swAt_swEvent, Block.swAt_modSw]

/-- A part of the switch core beside the statistics. -/
theorem Block.swPart_swCount {α : Type} (port ev : Nat) (f : PortStats → PortStats) (g : SwitchSt → α)
    (h : ∀ s : SwitchSt, g (s.modStats port f) = g s := by intro; rfl) : g ((b.swCount l port ev f).swAt l) = g (b.swAt l) := by
  rw [Block.swAt_swCount, h]

/-- The items that a lane has taken in. -/
def Block.ownAt (b : Block) (l : Lane) : List Item := (b.lane l).own

theorem Block.ownAt_modSw (f : SwitchSt → SwitchSt) : (b.modLane l fun x => x.modSw f).ownAt l = b.ownAt l := by
  unfold Block.ownAt
  rw [Block.lane_modLane]
  rfl

theorem Block.ownAt_swEvent (ev port : Nat) (detail : Int) : (b.swEvent l ev port detail).ownAt l = b.ownAt l :=
  Block.field_swEvent ev port detail l LaneSt.own

theorem Block.ownAt_swCount (port ev : Nat) (f : PortStats → PortStats) : (b.swCount l port ev f).ownAt l = b.ownAt l := by
  unfold Block.swCount
  rw [Block.ownAt_swEvent, Block.ownAt_modSw]

/-- A count leaves all but the lanes and the events. -/
theorem Block.swCount_frame (b : Block) (l : Lane) (port ev : Nat) (f : PortStats → PortStats) :
    ∃ lanes evs, b.swCount l port ev f = { b with lanes := lanes, ev := evs } := by
  obtain ⟨lanes, evs, h⟩ := Block.raiseLimited_frame (b.modLane l fun x => x.modSw fun s => s.modStats port f)
    (0x100000 + 0x10000 * l.num + 0x100 * (ev % 256) + port) l ev 0
    (if ev = 194 ∨ ev = 197 ∨ ev = 198 ∨ ev = 199 then noSubject else port) 1
  exact ⟨lanes, evs, h⟩

/-- The statistics of a port. -/
def Block.portStats (b : Block) (l : Lane) (port : Nat) : PortStats := (b.swAt l).stats.getD port PortStats.zero

theorem SwitchSt.stats_modStats {s : SwitchSt} {port : Nat} (f : PortStats → PortStats) (h : port < s.stats.length) :
    (s.modStats port f).stats.getD port PortStats.zero = f (s.stats.getD port PortStats.zero) := updAt_getD_same _ _ _ _ h

theorem Block.portStats_swCount {port : Nat} (ev : Nat) (f : PortStats → PortStats) (h : port < (b.swAt l).stats.length) :
    (b.swCount l port ev f).portStats l port = f (b.portStats l port) := by
  unfold Block.portStats
  rw [Block.swAt_swCount]
  exact SwitchSt.stats_modStats f h

end Counts

/-! ## The frames received -/

section Received

variable {b : Block} {l : Lane}

/-- What a port has received. -/
def PortStats.received (t : PortStats) : Nat × Nat := (t.rxF, t.rxB)

/-- What the ports of a lane have received. -/
def Block.received (b : Block) (l : Lane) : List (Nat × Nat) := (b.swAt l).stats.map PortStats.received

theorem Block.received_modSw {f : SwitchSt → SwitchSt} (hf : ∀ s : SwitchSt, (f s).stats.map PortStats.received = s.stats.map PortStats.received := by intro; rfl) :
    (b.modLane l fun x => x.modSw f).received l = b.received l := by
  unfold Block.received
  rw [Block.swAt_modSw]
  exact hf _

theorem SwitchSt.received_modStats (s : SwitchSt) (port : Nat) {f : PortStats → PortStats}
    (hf : ∀ t, (f t).received = t.received := by intro; rfl) :
    (s.modStats port f).stats.map PortStats.received = s.stats.map PortStats.received := updAt_map_of_view s.stats port hf

theorem Block.received_swEvent (ev port : Nat) (detail : Int) : (b.swEvent l ev port detail).received l = b.received l := by
  unfold Block.received
  rw [Block.swAt_swEvent]

theorem Block.received_swCount (port ev : Nat) {f : PortStats → PortStats}
    (hf : ∀ t, (f t).received = t.received := by intro; rfl) :
    (b.swCount l port ev f).received l = b.received l :=
  (Block.received_swEvent ..).trans (Block.received_modSw fun s => s.received_modStats port hf)

theorem Block.swAt_takesIn (body : ItemBody) : (b.takesIn l body).swAt l = b.swAt l := by
  unfold Block.takesIn Block.swAt
  dsimp only
  rw [Block.field_of_untold (Block.untold_toPeer _ l _) l LaneSt.sw, Block.lane_modLane]

theorem Block.received_takesIn (body : ItemBody) : (b.takesIn l body).received l = b.received l := by
  unfold Block.received
  rw [Block.swAt_takesIn]

theorem Block.received_police (i len : Nat) (dei : Bool) : ((b.police l i len dei).2).received l = b.received l := by
  unfold Block.police
  dsimp only
  split
  · rfl
  · exact Block.received_modSw

theorem Block.received_red (port q colour : Nat) : ((b.red l port q colour).2).received l = b.received l := by
  unfold Block.red
  dsimp only
  split
  · exact Block.received_modSw
  · split
    · exact Block.received_modSw
    · exact Block.received_modSw (b := b)

/-- A reference offered to a queue of a port that is up. -/
def Block.offered (b : Block) (l : Lane) (id port q len : Nat) (many drop : Bool) : Block :=
  if drop then b.modLane l fun x => x.modSw fun s => s.modStats port fun t => { t with red := t.red + 1 }
  else if (b.swAt l).cells ((b.swAt l).queue port q) + cellsOf len ≤ b.queueLimit port q then
    b.modLane l fun x => x.modSw fun s => s.modQueue port q (· ++ [id])
  else if !many then b.modLane l fun x => x.modSw fun s => s.modStats port fun t => { t with queue := t.queue + 1 }
  else if ((b.swAt l).residue.getD port []).length < 64 then
    b.modLane l fun x => x.modSw fun s => { s with residue := updAt s.residue port (· ++ [(id, q)]) }
  else b.swCount l port 196 fun t => { t with mcast := t.mcast + 1 }

theorem Block.offer_up {id port q len colour : Nat} {many : Bool} (h : b.portDown l port = false) :
    b.offer l id port q len colour many = (b.red l port q colour).2.offered l id port q len many (b.red l port q colour).1 := by
  unfold Block.offer
  rw [if_neg (ne_true_of_eq_false h)]
  rfl

theorem Block.received_offered (id port q len : Nat) (many drop : Bool) :
    (b.offered l id port q len many drop).received l = b.received l := by
  unfold Block.offered
  split
  · exact Block.received_modSw fun s => s.received_modStats port
  · split
    · exact Block.received_modSw
    · split
      · exact Block.received_modSw fun s => s.received_modStats port
      · split
        · exact Block.received_modSw
        · exact Block.received_swCount port 196

theorem Block.received_offer (id port q len colour : Nat) (many : Bool) :
    (b.offer l id port q len colour many).received l = b.received l := by
  by_cases hdown : b.portDown l port = true
  · unfold Block.offer
    rw [if_pos hdown]
    exact Block.received_modSw fun s => s.received_modStats port
  · rw [Block.offer_up (eq_false_of_ne_true hdown)]
    exact (Block.received_offered ..).trans (Block.received_red port q colour)

/-- A frame that a port does not carry (R353). -/
def Block.oversize (b : Block) (l : Lane) (e : SwEntry) (len p : Nat) : Bool :=
  decide (b.p 0x4804 p < len) || (e.queue == 7 && (p == 1 || p == 2) && !b.slotCarries l e.slot len)

/-- The ports that do not carry a frame count it. -/
def Block.sizeErrors (b : Block) (l : Lane) (ports : List Nat) : Block :=
  ports.foldl (fun b p => b.swCount l p 205 fun t => { t with errs := t.errs + 1 }) b

/-- A frame in the buffer. -/
def Block.newFrame (b : Block) (l : Lane) (index : Nat) (e : SwEntry) (src : Nat) (sender : Option Prid) (f : EthFrame) (colour : Nat) :
    SwFrame :=
  { id := (b.lane l).sw.nextId, index := index, gen := b.genFor l src index, src := Fin.ofNat 39 src, sender := sender,
    frame := f, born := b.mod.epoch, life := fieldAt (pbytes b.params 0x4830 0 8) (2 * e.life) 2, slot := e.slot,
    handle := f.rtag.map fun n => (e.handle, n.toNat), colour := Fin.ofNat 3 colour }

/-- A frame enters the buffer and is offered to its ports. -/
def Block.placed (b : Block) (l : Lane) (fr : SwFrame) (queue len colour : Nat) (ports : List Nat) : Block :=
  (ports.foldl (fun b p => b.offer l fr.id p queue len colour (decide (1 < ports.length)))
    (b.modLane l fun x => x.modSw fun s => { s with frames := s.frames ++ [fr], nextId := s.nextId + 1 })).modLane l
      fun x => x.modSw SwitchSt.gc

/-- The common reserve has room for a frame; a partition's own quota was checked at its ring (R352). -/
def Block.reserveRoom (b : Block) (l : Lane) (sender : Option Prid) (len : Nat) : Bool :=
  if sender.isSome then true else decide ((b.lane l).sw.reserve + cellsOf len ≤ 8192)

theorem Block.enqueue_eq (index : Nat) (e : SwEntry) (src : Nat) (sender : Option Prid) (f : EthFrame) (colour : Nat)
    (ports : List Nat) : b.enqueue l index e src sender f colour ports =
      if ports.isEmpty then b
      else if (ports.filter fun p => !b.oversize l e f.len p).isEmpty then b.sizeErrors l (ports.filter (b.oversize l e f.len))
      else if !b.reserveRoom l sender f.len then (b.sizeErrors l (ports.filter (b.oversize l e f.len))).swCount l src 194 fun t =>
        { t with queue := t.queue + 1 }
      else (b.sizeErrors l (ports.filter (b.oversize l e f.len))).placed l
        { (b.sizeErrors l (ports.filter (b.oversize l e f.len))).newFrame l index e src sender f colour with id := (b.lane l).sw.nextId }
        e.queue f.len colour (ports.filter fun p => !b.oversize l e f.len p) := rfl

theorem Block.received_sizeErrors (ports : List Nat) : (b.sizeErrors l ports).received l = b.received l :=
  foldl_keeps (fun t : Block => t.received l = b.received l) rfl fun _ p h => (Block.received_swCount p 205).trans h

theorem Block.received_placed (fr : SwFrame) (queue len colour : Nat) (ports : List Nat) :
    (b.placed l fr queue len colour ports).received l = b.received l := by
  refine Eq.trans Block.received_modSw ?_
  exact foldl_keeps (fun t : Block => t.received l = b.received l) Block.received_modSw fun _ _ h =>
    (Block.received_offer ..).trans h

theorem Block.received_enqueue (index : Nat) (e : SwEntry) (src : Nat) (sender : Option Prid) (f : EthFrame) (colour : Nat)
    (ports : List Nat) : (b.enqueue l index e src sender f colour ports).received l = b.received l := by
  rw [Block.enqueue_eq]
  split
  · rfl
  · split
    · exact Block.received_sizeErrors _
    · split
      · exact (Block.received_swCount src 194).trans (Block.received_sizeErrors _)
      · exact (Block.received_placed ..).trans (Block.received_sizeErrors _)

end Received

/-! ## A classified frame goes on (R360, R366, R376) -/

section Forward

variable {b : Block} {l : Lane} {e : SwEntry} {f : EthFrame}

/-- The colour of a frame under its entry. -/
def Block.coloured (b : Block) (l : Lane) (e : SwEntry) (f : EthFrame) : Nat × Block :=
  if e.police then b.police l e.policer f.len f.dei else (0, b)

/-- The next number of a stream handle in a lane. -/
def Block.nextNum (b : Block) (l : Lane) (handle : Nat) : Nat := assocD 0 (b.lane l).sw.seqNum handle

/-- A frame that its entry gives a sequence number. -/
def Block.sequenced (b : Block) (l : Lane) (e : SwEntry) (f : EthFrame) : EthFrame × Block :=
  if e.action = 1 then
    ({ f with rtag := some (BitVec.ofNat 16 (b.nextNum l e.handle)), len := f.len + 6 },
      b.modLane l fun x => x.modSw fun s => { s with seqNum := assocSet s.seqNum e.handle ((b.nextNum l e.handle + 1) % 65536) })
  else (f, b)

/-- A number against the recovery of a lane. -/
def Block.recovers (b : Block) (l : Lane) (src handle n : Nat) : Bool × Block :=
  let x := recovTake (b.lane l).sw.recov handle n (b.p 0x4836 0)
  let b' := b.modLane l fun x' => x'.modSw fun s => { s with recov := x.2.1 }
  (x.1, if x.2.2 then b'.swEvent l 201 src handle else b')

/-- A frame meets the recovery of its entry, if it has one. -/
def Block.recovered (b : Block) (l : Lane) (e : SwEntry) (src : Nat) (ports : List Nat) : Option Half → Bool × Block
  | some n => if 2 ≤ e.action && !ports.isEmpty then b.recovers l src e.handle n.toNat else (true, b)
  | none => (true, b)

/-- A frame for virtual ports waits for agreement. -/
def Block.toAgree (b : Block) (l : Lane) (i : Nat) (e : SwEntry) (src : Nat) (f : EthFrame) : Block :=
  if e.toVirtual then b.takesIn l (.eth i (b.genFor l src i) src f) else b

/-- The frame as it leaves on a physical port. -/
def EthFrame.outgoing (f : EthFrame) (e : SwEntry) : EthFrame :=
  if e.action = 2 && f.rtag.isSome then { f with rtag := none, len := f.len - 6 } else f

/-- A frame past its policer. -/
def Block.onward (b : Block) (l : Lane) (i : Nat) (e : SwEntry) (src : Nat) (sender : Option Prid) (f : EthFrame) (colour : Nat)
    (ports : List Nat) : Block :=
  let x := b.sequenced l e f
  let y := x.2.recovered l e src ports x.1.rtag
  let b' := y.2.toAgree l i e src x.1
  if y.1 then b'.enqueue l i e src sender (x.1.outgoing e) colour ports else b'

theorem Block.forward_eq (i src : Nat) (sender : Option Prid) (ports : List Nat) : b.forward l i e src sender f ports =
    if (b.coloured l e f).1 = 2 && !(byteAt ((b.coloured l e f).2.policer e.policer) 11).testBit 1 then
      (b.coloured l e f).2.swCount l src 193 fun t => { t with policer := t.policer + 1 }
    else (b.coloured l e f).2.onward l i e src sender (if (b.coloured l e f).1 = 2 then { f with dei := true } else f)
      (b.coloured l e f).1 ports := by
  rfl

theorem Block.received_coloured : ((b.coloured l e f).2).received l = b.received l := by
  unfold Block.coloured
  split
  · exact Block.received_police ..
  · rfl

theorem Block.received_sequenced : ((b.sequenced l e f).2).received l = b.received l := by
  unfold Block.sequenced
  split
  · exact Block.received_modSw
  · rfl

theorem Block.received_recovers (src handle n : Nat) : ((b.recovers l src handle n).2).received l = b.received l := by
  unfold Block.recovers
  dsimp only
  split
  · exact (Block.received_swEvent ..).trans Block.received_modSw
  · exact Block.received_modSw

theorem Block.received_recovered (src : Nat) (ports : List Nat) (n : Option Half) :
    ((b.recovered l e src ports n).2).received l = b.received l := by
  cases n with
  | none => rfl
  | some n =>
    unfold Block.recovered
    dsimp only
    split
    · exact Block.received_recovers ..
    · rfl

theorem Block.received_toAgree (i src : Nat) : (b.toAgree l i e src f).received l = b.received l := by
  unfold Block.toAgree
  split
  · exact Block.received_takesIn _
  · rfl

theorem Block.received_onward (i src : Nat) (sender : Option Prid) (colour : Nat) (ports : List Nat) :
    (b.onward l i e src sender f colour ports).received l = b.received l := by
  have hready := ((Block.received_toAgree (b := ((b.sequenced l e f).2.recovered l e src ports (b.sequenced l e f).1.rtag).2)
    (e := e) (f := (b.sequenced l e f).1) (l := l) i src).trans (Block.received_recovered ..)).trans Block.received_sequenced
  unfold Block.onward
  dsimp only
  split
  · exact (Block.received_enqueue ..).trans hready
  · exact hready

/-- A frame that goes on leaves what the ports have received. -/
theorem Block.received_forward (i src : Nat) (sender : Option Prid) (ports : List Nat) :
    (b.forward l i e src sender f ports).received l = b.received l := by
  rw [Block.forward_eq]
  split
  · exact (Block.received_swCount src 193).trans Block.received_coloured
  · exact (Block.received_onward ..).trans Block.received_coloured

/-- Without a policer and an R-tag action a frame goes on as it is. -/
theorem Block.forward_plain (i src : Nat) (sender : Option Prid) (ports : List Nat) (hpolice : e.police = false)
    (haction : e.action = 0) : b.forward l i e src sender f ports =
      (b.toAgree l i e src f).enqueue l i e src sender f 0 ports := by
  have hcolour : b.coloured l e f = (0, b) := by
    unfold Block.coloured
    rw [hpolice]
    rfl
  have hseq : b.sequenced l e f = (f, b) := by
    unfold Block.sequenced
    rw [haction]
    rfl
  have hrecov : b.recovered l e src ports f.rtag = (true, b) := by
    unfold Block.recovered
    rw [haction]
    cases f.rtag <;> rfl
  have hout : f.outgoing e = f := by
    unfold EthFrame.outgoing
    rw [haction]
    rfl
  have honward : b.onward l i e src sender f 0 ports = (b.toAgree l i e src f).enqueue l i e src sender f 0 ports := by
    unfold Block.onward
    dsimp only
    rw [hseq]
    dsimp only
    rw [hrecov, hout]
    rfl
  rw [Block.forward_eq, hcolour]
  exact honward

end Forward

/-! ## One reference in an empty queue (R352, R353, R368, R371) -/

section Admitted

variable {b : Block} {l : Lane}

theorem SwitchSt.queue_modQueue {s : SwitchSt} {p q : Nat} (f : List Nat → List Nat) (hports : s.queues.length = 7) (hp : p < 7)
    (hqueues : ∀ x ∈ s.queues, x.length = 8) (hq : q < 8) : (s.modQueue p q f).queue p q = f (s.queue p q) := by
  have hin : p < s.queues.length := by omega
  have hrow : (s.queues.getD p []).length = 8 := by
    rw [getD_in _ _ hin]
    exact hqueues _ (List.getElem_mem hin)
  unfold SwitchSt.queue SwitchSt.modQueue
  dsimp only
  rw [updAt_getD_same _ _ _ _ hin, updAt_getD_same _ _ _ _ (by omega)]

/-- A row that holds something stands in its table. -/
theorem getD_mem_of_mem {α : Type} {t : List (List α)} {i : Nat} {x : α} (h : x ∈ t.getD i []) : t.getD i [] ∈ t := by
  rcases Nat.lt_or_ge i t.length with hin | hout
  · rw [getD_in _ _ hin]
    exact List.getElem_mem hin
  · rw [getD_out _ _ hout] at h
    exact absurd h List.not_mem_nil

/-- A frame that a queue names is referred to. -/
theorem SwitchSt.referred_of_queue {s : SwitchSt} {p q id : Nat} (h : id ∈ s.queue p q) : s.referred id = true := by
  have hrow := getD_mem_of_mem h
  have hport := getD_mem_of_mem hrow
  unfold SwitchSt.referred
  rw [Bool.or_eq_true, Bool.or_eq_true]
  exact .inl (.inl (List.any_eq_true.mpr ⟨_, hport, List.any_eq_true.mpr ⟨_, hrow, List.contains_iff_mem.mpr h⟩⟩))

/-- A queue's average after a frame. -/
def Block.averaged (b : Block) (l : Lane) (p q : Nat) (a : Rat) : Block :=
  b.modLane l fun x => x.modSw fun s => { s with avg := updAt s.avg p fun v => setAt v q a }

/-- A frame in the buffer. -/
def Block.buffered (b : Block) (l : Lane) (fr : SwFrame) : Block :=
  b.modLane l fun x => x.modSw fun s => { s with frames := s.frames ++ [fr], nextId := s.nextId + 1 }

/-- A quiet queue drops nothing early: no frame waits and its average stands at 0. -/
theorem Block.red_quiet {p q : Nat} (hempty : (b.swAt l).queue p q = []) (havg : ((b.swAt l).avg.getD p []).getD q 0 = 0)
    (hmin : 0 < byteAt (bytesAt (pbytes b.params 0x4812 p 96) (12 * q) 4) 0) : b.red l p q 0 = (false, b.averaged l p q 0) := by
  have hcells : (b.swAt l).cells ((b.swAt l).queue p q) = 0 := by
    rw [hempty]
    rfl
  have hzero : (0 : Rat) + (100 * (((0 : Nat) : Rat)) / ((b.queueLimit p q : Nat) : Rat) - 0) / ((2 ^ b.p 0x4831 0 : Nat) : Rat) = 0 := by
    rw [show ((0 : Nat) : Rat) = 0 from rfl, Rat.mul_zero, Rat.div_def, Rat.div_def, Rat.zero_mul, Rat.sub_self, Rat.zero_mul, Rat.add_zero]
  have hprob : redProb (byteAt (bytesAt (pbytes b.params 0x4812 p 96) (12 * q) 4) 0)
      (byteAt (bytesAt (pbytes b.params 0x4812 p 96) (12 * q) 4) 1) (byteAt (bytesAt (pbytes b.params 0x4812 p 96) (12 * q) 4) 2) 0 = 0 := by
    unfold redProb
    exact if_pos (by exact_mod_cast hmin)
  unfold Block.red
  dsimp only
  unfold Block.swAt at hcells havg
  rw [hcells, havg, hzero, Nat.mul_zero, Nat.add_zero, hprob]
  rfl

theorem Block.portDown_congr {t : Block} {p : Nat} (hparams : t.params = b.params) (hlinks : (t.swAt l).links = (b.swAt l).links)
    (hstop : (t.swAt l).txStopped = (b.swAt l).txStopped) (hflush : (t.swAt l).txFlushed = (b.swAt l).txFlushed) :
    t.portDown l p = b.portDown l p := by
  unfold Block.swAt at hlinks hstop hflush
  unfold Block.portDown Block.p
  dsimp only
  rw [hlinks, hstop, hflush, hparams]

theorem Block.portDown_buffered (fr : SwFrame) (p : Nat) : (b.buffered l fr).portDown l p = b.portDown l p := by
  exact Block.portDown_congr rfl (Block.swPart_modSw _ SwitchSt.links) (Block.swPart_modSw _ SwitchSt.txStopped)
    (Block.swPart_modSw _ SwitchSt.txFlushed)

/-- A queue of a lane. -/
def Block.queueAt (b : Block) (l : Lane) (p q : Nat) : List Nat := (b.swAt l).queue p q

theorem Block.queueAt_buffered (fr : SwFrame) (p q : Nat) : (b.buffered l fr).queueAt l p q = b.queueAt l p q :=
  Block.swPart_modSw _ fun s => s.queue p q

theorem Block.queueAt_averaged (p q : Nat) (a : Rat) : (b.averaged l p q a).queueAt l p q = b.queueAt l p q :=
  Block.swPart_modSw _ fun s => s.queue p q

/-- The one frame offered to an empty queue of a port that is up is taken. -/
theorem Block.offer_one {id p q len : Nat} (hup : b.portDown l p = false) (hempty : b.queueAt l p q = [])
    (havg : ((b.swAt l).avg.getD p []).getD q 0 = 0) (hlimit : cellsOf len ≤ b.queueLimit p q)
    (hmin : 0 < byteAt (bytesAt (pbytes b.params 0x4812 p 96) (12 * q) 4) 0) :
    b.offer l id p q len 0 false = (b.averaged l p q 0).modLane l fun x => x.modSw fun s => s.modQueue p q (· ++ [id]) := by
  have hqueue : ((b.averaged l p q 0).swAt l).queue p q = [] := (Block.queueAt_averaged p q 0).trans hempty
  have hroom : ((b.averaged l p q 0).swAt l).cells (((b.averaged l p q 0).swAt l).queue p q) + cellsOf len ≤
      (b.averaged l p q 0).queueLimit p q := by
    rw [hqueue]
    exact Nat.le_trans (Nat.le_of_eq (Nat.zero_add _)) hlimit
  rw [Block.offer_up hup, Block.red_quiet hempty havg hmin]
  exact if_pos hroom

/-- The one frame offered to an empty queue of a port that is up takes its place there. -/
theorem Block.placed_one {fr : SwFrame} {p q len : Nat} (hp : p < 7) (hq : q < 8) (hup : b.portDown l p = false)
    (hports : (b.swAt l).queues.length = 7) (hqueues : ∀ x ∈ (b.swAt l).queues, x.length = 8) (hempty : b.queueAt l p q = [])
    (havg : ((b.swAt l).avg.getD p []).getD q 0 = 0) (hlimit : cellsOf len ≤ b.queueLimit p q)
    (hmin : 0 < byteAt (bytesAt (pbytes b.params 0x4812 p 96) (12 * q) 4) 0) :
    ((b.placed l fr q len 0 [p]).swAt l).queue p q = [fr.id] ∧ fr ∈ ((b.placed l fr q len 0 [p]).swAt l).frames := by
  have hports2 : (((b.buffered l fr).averaged l p q 0).swAt l).queues = (b.swAt l).queues :=
    (Block.swPart_modSw _ SwitchSt.queues).trans (Block.swPart_modSw _ SwitchSt.queues)
  have havg2 : ((b.buffered l fr).swAt l).avg = (b.swAt l).avg := Block.swPart_modSw _ SwitchSt.avg
  have hframes : fr ∈ (((b.buffered l fr).averaged l p q 0).swAt l).frames := by
    have hkept : (((b.buffered l fr).averaged l p q 0).swAt l).frames = ((b.buffered l fr).swAt l).frames :=
      Block.swPart_modSw _ SwitchSt.frames
    rw [hkept, Block.buffered, Block.swAt_modSw]
    exact List.mem_append_right _ (List.mem_singleton_self _)
  have hoffer : (b.buffered l fr).offer l fr.id p q len 0 false =
      ((b.buffered l fr).averaged l p q 0).modLane l fun x => x.modSw fun s => s.modQueue p q (· ++ [fr.id]) :=
    Block.offer_one ((Block.portDown_buffered fr p).trans hup) ((Block.queueAt_buffered fr p q).trans hempty)
      (by rw [havg2]; exact havg) hlimit hmin
  have hsw : (b.placed l fr q len 0 [p]).swAt l =
      ((((b.buffered l fr).averaged l p q 0).swAt l).modQueue p q (· ++ [fr.id])).gc := by
    have hplaced : b.placed l fr q len 0 [p] =
      ((b.buffered l fr).offer l fr.id p q len 0 false).modLane l fun x => x.modSw SwitchSt.gc := rfl
    rw [hplaced, Block.swAt_modSw, hoffer, Block.swAt_modSw]
  have hqueue : ((((b.buffered l fr).averaged l p q 0).swAt l).modQueue p q (· ++ [fr.id])).queue p q = [fr.id] := by
    rw [SwitchSt.queue_modQueue _ (by rw [hports2]; exact hports) hp (by rw [hports2]; exact hqueues) hq]
    exact congrArg (· ++ [fr.id]) ((Block.queueAt_averaged p q 0).trans ((Block.queueAt_buffered fr p q).trans hempty))
  rw [hsw]
  exact ⟨hqueue, List.mem_filter.mpr ⟨hframes, SwitchSt.referred_of_queue (hqueue ▸ List.mem_singleton_self _)⟩⟩

/-- A frame that one port carries, with room in the common reserve. -/
theorem Block.enqueue_one {e : SwEntry} {f : EthFrame} {i src p : Nat} (hsize : b.oversize l e f.len p = false)
    (hroom : (b.swAt l).reserve + cellsOf f.len ≤ 8192) :
    b.enqueue l i e src none f 0 [p] = b.placed l (b.newFrame l i e src none f 0) e.queue f.len 0 [p] := by
  have hbig : [p].filter (b.oversize l e f.len) = [] := List.filter_cons_of_neg (ne_true_of_eq_false hsize)
  have hfit : [p].filter (fun p => !b.oversize l e f.len p) = [p] := List.filter_cons_of_pos (by rw [hsize]; decide)
  have hreserve : b.reserveRoom l none f.len = true := decide_eq_true hroom
  rw [Block.enqueue_eq, hbig, hfit, hreserve]
  rfl

end Admitted

/-! ## A frame at a physical port (R124, R349, R360) -/

section Ingress

variable {b : Block} {l : Lane} {port : Nat} {sec : Option SecTag} {f : EthFrame} {identity : DWord}

/-- A port that takes and sends frames. -/
def Block.portLive (b : Block) (l : Lane) (port : Nat) : Prop :=
  b.serves l = true ∧ b.p 0x4801 port ≠ 0 ∧ (b.swAt l).links.getD port .down = .up

/-- A frame counted at its port. -/
def Block.arrived (b : Block) (l : Lane) (port len : Nat) : Block :=
  b.modLane l fun x => x.modSw fun s => s.modStats port fun t => { t with rxF := t.rxF + 1, rxB := t.rxB + len }

/-- A frame of the uplink meets MACsec. -/
def Block.secured (b : Block) (l : Lane) (port : Nat) (sec : Option SecTag) (f : EthFrame) : Bool × Block :=
  if port = 0 then b.macsecIn l sec f else (true, b)

/-- A management frame at a port goes to Ottum on the uplink alone. -/
def Block.toOttum (b : Block) (identity : DWord) (l : Lane) (port : Nat) (sec : Option SecTag) (f : EthFrame) (ok : Bool) : Block :=
  if port ≠ 0 then b.mgmtDrop
  else
    let sc0 := match sec with
      | some t => b.p 0x4840 0 == 1 && b.scOf? t == some 0
      | none => false
    let b := if ok || sec.isNone then b else b.swCount l port 202 fun t => { t with errs := t.errs + 1 }
    b.mgmtIn identity l (f.mgmt sec sc0 ok)

/-- A frame of a length that the port carries. -/
def Block.carried (b : Block) (identity : DWord) (l : Lane) (port : Nat) (sec : Option SecTag) (f : EthFrame) (ok : Bool) : Block :=
  if f.etype = 0x88B5 then b.toOttum identity l port sec f ok
  else if ok then b.switchIn l port f else b.swCount l port 202 fun t => { t with errs := t.errs + 1 }

theorem Block.frameIn_dead (h : ¬ b.portLive l port) : b.frameIn identity l port sec f = b := by
  unfold Block.portLive Block.swAt at h
  unfold Block.frameIn
  refine if_pos ?_
  rw [Bool.or_eq_true, Bool.or_eq_true, Bool.not_eq_true', beq_iff_eq, bne_iff_ne]
  refine Decidable.byContradiction fun hlive => ?_
  rw [not_or, not_or, Bool.not_eq_false] at hlive
  obtain ⟨⟨hserves, hon⟩, hup⟩ := hlive
  exact h ⟨hserves, hon, Decidable.not_not.mp hup⟩

theorem Block.portLive_go (h : b.portLive l port) :
    ¬ (!b.serves l || b.p 0x4801 port == 0 || (b.lane l).sw.links.getD port .down != .up) = true := by
  obtain ⟨hserves, hon, hup⟩ := h
  unfold Block.swAt at hup
  rw [hserves, hup, beq_false_of_ne hon]
  decide

theorem Block.frameIn_long (h : b.portLive l port) (hlen : b.p 0x4804 port < f.len) : b.frameIn identity l port sec f =
    (b.arrived l port f.len).swCount l port 205 fun t => { t with errs := t.errs + 1 } := by
  unfold Block.frameIn
  rw [if_neg (Block.portLive_go h)]
  exact if_pos hlen

theorem Block.frameIn_carried (h : b.portLive l port) (hlen : f.len ≤ b.p 0x4804 port) : b.frameIn identity l port sec f =
    ((b.arrived l port f.len).secured l port sec f).2.carried identity l port sec f ((b.arrived l port f.len).secured l port sec f).1 := by
  unfold Block.frameIn
  rw [if_neg (Block.portLive_go h)]
  exact if_neg (Nat.not_lt.mpr hlen)

/-- MACsec on the uplink changes the packet numbers alone. -/
theorem Block.secured_part {α : Type} (g : SwitchSt → α) (h : ∀ (s : SwitchSt) (n : List Nat), g { s with rxPn := n } = g s := by
    intros; rfl) : g (((b.secured l port sec f).2).swAt l) = g (b.swAt l) := by
  have hsec : g (((b.macsecIn l sec f).2).swAt l) = g (b.swAt l) := by
    unfold Block.macsecIn
    dsimp only
    split
    · rfl
    split
    · rfl
    split
    · rfl
    split
    · rfl
    split
    · rfl
    · exact Block.swPart_modSw _ g fun s => h s _
  unfold Block.secured
  split
  · exact hsec
  · rfl

theorem Block.swAt_mgmtIn (m : MgmtFrame) : (b.mgmtIn identity l m).swAt l = b.swAt l := by
  cases hserves : b.serves l
  · unfold Block.mgmtIn
    rw [hserves]
    rfl
  · by_cases hgood : b.mgmtGood identity l m
    · rw [Block.mgmtIn_taken hserves hgood, Block.swAt_takesIn]
      rfl
    · rw [Block.mgmtIn_dropped hserves hgood]
      rfl

/-- A management frame leaves what the ports have received, and the buffer. -/
theorem Block.toOttum_kept (ok : Bool) : (b.toOttum identity l port sec f ok).received l = b.received l ∧
    ((b.toOttum identity l port sec f ok).swAt l).frames = (b.swAt l).frames := by
  have hcount : (b.swCount l port 202 fun t => { t with errs := t.errs + 1 }).received l = b.received l ∧
      ((b.swCount l port 202 fun t => { t with errs := t.errs + 1 }).swAt l).frames = (b.swAt l).frames :=
    ⟨Block.received_swCount port 202, Block.swPart_swCount port 202 _ SwitchSt.frames⟩
  unfold Block.toOttum
  by_cases hport : port ≠ 0
  · rw [if_pos hport]
    exact ⟨rfl, rfl⟩
  · rw [if_neg hport]
    dsimp only
    unfold Block.received
    rw [Block.swAt_mgmtIn]
    split
    · exact ⟨rfl, rfl⟩
    · exact hcount

theorem Block.received_switchIn : (b.switchIn l port f).received l = b.received l := by
  unfold Block.switchIn
  split
  · exact Block.received_swCount port 200
  · exact Block.received_forward ..

/-- A carried frame leaves what the ports have received. -/
theorem Block.received_carried (ok : Bool) : (b.carried identity l port sec f ok).received l = b.received l := by
  unfold Block.carried
  split
  · exact (Block.toOttum_kept ok).1
  · split
    · exact Block.received_switchIn
    · exact Block.received_swCount port 202

/-- A frame at a port in use counts there once. -/
theorem Block.received_frameIn (h : b.portLive l port) :
    (b.frameIn identity l port sec f).received l = (b.arrived l port f.len).received l := by
  rcases Nat.lt_or_ge (b.p 0x4804 port) f.len with hlong | hfits
  · rw [Block.frameIn_long h hlong]
    exact Block.received_swCount port 205
  · rw [Block.frameIn_carried h hfits]
    exact (Block.received_carried _).trans (Block.secured_part fun s => s.stats.map PortStats.received)

theorem Block.received_port (b : Block) (l : Lane) (port : Nat) : (b.received l).getD port (0, 0) = (b.portStats l port).received :=
  getD_map (n := port) (b.swAt l).stats PortStats.zero PortStats.received

/-- The counts of the port once a frame has arrived. -/
theorem Block.portStats_frameIn (h : b.portLive l port) (hport : port < (b.swAt l).stats.length) :
    ((b.frameIn identity l port sec f).portStats l port).rxF = (b.portStats l port).rxF + 1 ∧
      ((b.frameIn identity l port sec f).portStats l port).rxB = (b.portStats l port).rxB + f.len := by
  have hcount : ((b.arrived l port f.len).portStats l port) = { b.portStats l port with
      rxF := (b.portStats l port).rxF + 1, rxB := (b.portStats l port).rxB + f.len } := by
    unfold Block.portStats Block.arrived
    rw [Block.swAt_modSw]
    exact SwitchSt.stats_modStats _ hport
  have hreceived : ((b.frameIn identity l port sec f).portStats l port).received = ((b.arrived l port f.len).portStats l port).received := by
    rw [← Block.received_port, ← Block.received_port, Block.received_frameIn h]
  rw [hcount] at hreceived
  exact ⟨congrArg Prod.fst hreceived, congrArg Prod.snd hreceived⟩

/-! ### Management frames of the uplink -/

theorem Block.mgmtInFlight_modSw (g : SwitchSt → SwitchSt) : (b.modLane l fun x => x.modSw g).mgmtInFlight = b.mgmtInFlight := by
  cases l <;> rfl

/-- A management frame that no MACsec frame carried, on the uplink of a port in use. -/
theorem Block.frameIn_uplink (h : b.portLive l 0) (hlen : f.len ≤ b.p 0x4804 0) (hmgmt : f.etype = 0x88B5) : ∃ ok,
    b.frameIn identity l 0 none f = (b.arrived l 0 f.len).mgmtIn identity l (f.mgmt none false ok) := by
  have hnone : ((b.arrived l 0 f.len).secured l 0 none f).2 = b.arrived l 0 f.len := by
    unfold Block.secured Block.macsecIn
    rw [if_pos rfl]
    split <;> rfl
  refine ⟨((b.arrived l 0 f.len).secured l 0 none f).1, ?_⟩
  rw [Block.frameIn_carried h hlen, hnone, Block.carried, if_pos hmgmt]
  unfold Block.toOttum
  rw [if_neg (not_not_intro rfl)]
  dsimp only
  rw [Option.isNone_none, Bool.or_true]
  rfl

/-- A management frame on another port is discarded. -/
theorem Block.frameIn_elsewhere (h : b.portLive l port) (hlen : f.len ≤ b.p 0x4804 port) (hmgmt : f.etype = 0x88B5) (hport : port ≠ 0) :
    b.frameIn identity l port sec f = (b.arrived l port f.len).mgmtDrop := by
  have hplain : (b.arrived l port f.len).secured l port sec f = (true, b.arrived l port f.len) := if_neg hport
  rw [Block.frameIn_carried h hlen, hplain, Block.carried, if_pos hmgmt]
  exact if_pos hport

/-- Another frame on a port without MACsec is classified. -/
theorem Block.frameIn_switched (h : b.portLive l port) (hlen : f.len ≤ b.p 0x4804 port) (hmgmt : f.etype ≠ 0x88B5) (hport : port ≠ 0) :
    b.frameIn identity l port sec f = (b.arrived l port f.len).switchIn l port f := by
  have hplain : (b.arrived l port f.len).secured l port sec f = (true, b.arrived l port f.len) := if_neg hport
  rw [Block.frameIn_carried h hlen, hplain, Block.carried, if_neg hmgmt]
  rfl

theorem Block.switchIn_found {i : Nat} {e : SwEntry}
    (h : classifyIn b.net.entries port none (f.vid.getD (b.p 0x4805 port)) f = some (i, e)) :
    b.switchIn l port f = b.forward l i e port none f e.physical := by
  unfold Block.switchIn
  rw [h]

theorem Block.switchIn_unknown (h : classifyIn b.net.entries port none (f.vid.getD (b.p 0x4805 port)) f = none) :
    b.switchIn l port f = b.swCount l port 200 fun t => { t with noEntry := t.noEntry + 1 } := by
  unfold Block.switchIn
  rw [h]

/-! ### What becomes of a frame at a port in use -/

theorem Block.swPart_arrived {α : Type} (len : Nat) (g : SwitchSt → α)
    (h : ∀ (s : SwitchSt) (t : PortStats → PortStats), g (s.modStats port t) = g s := by intros; rfl) :
    g ((b.arrived l port len).swAt l) = g (b.swAt l) := Block.swPart_modSw _ g fun s => h s _

theorem Block.portStats_arrived (len : Nat) (hport : port < (b.swAt l).stats.length) : (b.arrived l port len).portStats l port =
    { b.portStats l port with rxF := (b.portStats l port).rxF + 1, rxB := (b.portStats l port).rxB + len } := by
  unfold Block.portStats Block.arrived
  rw [Block.swAt_modSw]
  exact SwitchSt.stats_modStats _ hport

theorem Block.stats_arrived (len : Nat) (hport : port < (b.swAt l).stats.length) : port < ((b.arrived l port len).swAt l).stats.length := by
  unfold Block.arrived
  rw [Block.swAt_modSw]
  exact (updAt_length ..).symm ▸ hport

theorem Block.portDown_arrived (len p : Nat) : (b.arrived l port len).portDown l p = b.portDown l p :=
  Block.portDown_congr rfl (Block.swPart_arrived len SwitchSt.links) (Block.swPart_arrived len SwitchSt.txStopped)
    (Block.swPart_arrived len SwitchSt.txFlushed)

/-- A frame longer than the port carries is an error. -/
theorem Block.ingress_long (h : b.portLive l port) (hport : port < (b.swAt l).stats.length) (hlen : b.p 0x4804 port < f.len) :
    ((b.frameIn identity l port sec f).portStats l port).errs = (b.portStats l port).errs + 1 ∧
      ((b.frameIn identity l port sec f).swAt l).frames = (b.swAt l).frames := by
  rw [Block.frameIn_long h hlen, Block.portStats_swCount 205 _ (Block.stats_arrived f.len hport), Block.portStats_arrived f.len hport]
  exact ⟨rfl, (Block.swPart_swCount port 205 _ SwitchSt.frames).trans (Block.swPart_arrived f.len SwitchSt.frames)⟩

/-- A management frame leaves the buffer. -/
theorem Block.ingress_mgmt_frames (h : b.portLive l port) (hlen : f.len ≤ b.p 0x4804 port) (hmgmt : f.etype = 0x88B5) :
    ((b.frameIn identity l port sec f).swAt l).frames = (b.swAt l).frames := by
  rw [Block.frameIn_carried h hlen, Block.carried, if_pos hmgmt, (Block.toOttum_kept _).2, Block.secured_part SwitchSt.frames,
    Block.swPart_arrived f.len SwitchSt.frames]

theorem Block.ownAt_arrived (len : Nat) : (b.arrived l port len).ownAt l = b.ownAt l := Block.ownAt_modSw _

/-- A management frame on another port is dropped. -/
theorem Block.ingress_elsewhere (h : b.portLive l port) (hlen : f.len ≤ b.p 0x4804 port) (hmgmt : f.etype = 0x88B5) (hport : port ≠ 0) :
    (b.frameIn identity l port sec f).mail.mgDrop = (b.mail.mgDrop + 1) % 2 ^ 32 ∧
      (b.frameIn identity l port sec f).ownAt l = b.ownAt l := by
  rw [Block.frameIn_elsewhere h hlen hmgmt hport]
  exact ⟨rfl, Block.ownAt_arrived f.len⟩

theorem Block.mgmtGood_arrived (len : Nat) (m : MgmtFrame) (hplain : m.secTag = false) : (b.arrived l port len).mgmtGood identity l m ↔
    (b.lane l).defaults = true ∧ m.forMe identity = true ∧ m.len ≤ 4200 ∧ b.mgmtInFlight < 16 := by
  have hdefaults : ((b.arrived l port len).lane l).defaults = (b.lane l).defaults := by
    unfold Block.arrived
    rw [Block.lane_modLane]
    rfl
  have hflight : (b.arrived l port len).mgmtInFlight = b.mgmtInFlight := Block.mgmtInFlight_modSw _
  unfold Block.mgmtGood Block.mgmtChannel
  rw [hplain, hdefaults, hflight, if_neg Bool.false_ne_true]

/-- A management frame on the uplink, outside MACsec, is taken in or dropped (R124). -/
theorem Block.ingress_uplink (h : b.portLive l 0) (hlen : f.len ≤ b.p 0x4804 0) (hmgmt : f.etype = 0x88B5) :
    ∃ g : MgmtFrame, g.body = f.data ∧ g.rtag = f.rtag ∧ g.secTag = false ∧
      ((b.lane l).defaults = false ∨ g.forMe identity = false ∨ 4200 < g.len ∨ 16 ≤ b.mgmtInFlight →
        (b.frameIn identity l 0 none f).mail.mgDrop = (b.mail.mgDrop + 1) % 2 ^ 32 ∧ (b.frameIn identity l 0 none f).ownAt l = b.ownAt l) ∧
      ((b.lane l).defaults = true → g.forMe identity = true → g.len ≤ 4200 → b.mgmtInFlight < 16 →
        (b.frameIn identity l 0 none f).mail.mgRx = (b.mail.mgRx + 1) % 2 ^ 32 ∧
        (b.frameIn identity l 0 none f).ownAt l = b.ownAt l ++ [{ epoch := b.mod.epoch, body := .mgmt g }]) := by
  obtain ⟨ok, hrun⟩ := Block.frameIn_uplink (identity := identity) h hlen hmgmt
  have hgood := Block.mgmtGood_arrived (b := b) (l := l) (port := 0) (identity := identity) f.len (f.mgmt none false ok) rfl
  have hserves : (b.arrived l 0 f.len).serves l = true := by
    obtain ⟨hserves, -, -⟩ := h
    rw [← hserves]
    cases l <;> rfl
  refine ⟨f.mgmt none false ok, rfl, rfl, rfl, fun hbad => ?_, fun hdefaults hme hfits hflight => ?_⟩
  · have hnot : ¬ (b.arrived l 0 f.len).mgmtGood identity l (f.mgmt none false ok) := by
      rw [hgood]
      rintro ⟨hdefaults, hme, hfits, hflight⟩
      rcases hbad with h | h | h | h
      · exact Bool.false_ne_true (h.symm.trans hdefaults)
      · exact Bool.false_ne_true (h.symm.trans hme)
      · omega
      · omega
    rw [hrun, Block.mgmtIn_dropped hserves hnot]
    exact ⟨rfl, Block.ownAt_arrived f.len⟩
  · rw [hrun, Block.mgmtIn_taken hserves (hgood.mpr ⟨hdefaults, hme, hfits, hflight⟩), Block.takesIn_mail, Block.ownAt,
      Block.takesIn_own]
    exact ⟨rfl, congrArg (· ++ [_]) (Block.ownAt_arrived f.len)⟩

/-- A frame that no entry matches is counted. -/
theorem Block.ingress_unknown (h : b.portLive l port) (hstats : port < (b.swAt l).stats.length) (hlen : f.len ≤ b.p 0x4804 port)
    (hmgmt : f.etype ≠ 0x88B5) (hport : port ≠ 0)
    (hfound : classifyIn b.net.entries port none (f.vid.getD (b.p 0x4805 port)) f = none) :
    ((b.frameIn identity l port sec f).portStats l port).noEntry = (b.portStats l port).noEntry + 1 ∧
      ((b.frameIn identity l port sec f).swAt l).queues = (b.swAt l).queues := by
  rw [Block.frameIn_switched h hlen hmgmt hport, Block.switchIn_unknown (b := b.arrived l port f.len) hfound,
    Block.portStats_swCount 200 _ (Block.stats_arrived f.len hstats), Block.portStats_arrived f.len hstats]
  exact ⟨rfl, (Block.swPart_swCount port 200 _ SwitchSt.queues).trans (Block.swPart_arrived f.len SwitchSt.queues)⟩

theorem isVirtual_phys (h : port < 7) : isVirtual port = false := by
  unfold isVirtual
  rw [decide_eq_false (by omega : ¬ 7 ≤ port), Bool.false_and]

theorem Block.genFor_phys (h : port < 7) (i : Nat) : b.genFor l port i = b.net.inForce i := by
  unfold Block.genFor
  rw [isVirtual_phys h]
  rfl

/-- A frame for virtual ports alone waits for agreement. -/
theorem Block.ingress_agreed {i : Nat} {e : SwEntry} (h : b.portLive l port) (hphys : port < 7) (hlen : f.len ≤ b.p 0x4804 port)
    (hmgmt : f.etype ≠ 0x88B5) (hport : port ≠ 0)
    (hfound : classifyIn b.net.entries port none (f.vid.getD (b.p 0x4805 port)) f = some (i, e)) (hpolice : e.police = false)
    (haction : e.action = 0) (hvirtual : e.toVirtual = true) (hnone : e.physical = []) :
    (b.frameIn identity l port sec f).ownAt l = b.ownAt l ++ [{ epoch := b.mod.epoch, body := .eth i (b.net.inForce i) port f }] := by
  have hagree : (b.arrived l port f.len).toAgree l i e port f = (b.arrived l port f.len).takesIn l (.eth i (b.net.inForce i) port f) := by
    unfold Block.toAgree
    rw [if_pos hvirtual, Block.genFor_phys hphys]
    rfl
  rw [Block.frameIn_switched h hlen hmgmt hport, Block.switchIn_found (b := b.arrived l port f.len) hfound,
    Block.forward_plain i port none _ hpolice haction, hnone, Block.enqueue_eq, hagree]
  show ((b.arrived l port f.len).takesIn l _).ownAt l = _
  rw [Block.ownAt, Block.takesIn_own]
  exact congrArg (· ++ [_]) (Block.ownAt_arrived f.len)

/-- A frame for one physical port with room enters its queue there. -/
theorem Block.ingress_queued {i p : Nat} {e : SwEntry} (h : b.portLive l port) (hphys : port < 7) (hlen : f.len ≤ b.p 0x4804 port)
    (hmgmt : f.etype ≠ 0x88B5) (hport : port ≠ 0)
    (hfound : classifyIn b.net.entries port none (f.vid.getD (b.p 0x4805 port)) f = some (i, e)) (hpolice : e.police = false)
    (haction : e.action = 0) (hvirtual : e.toVirtual = false) (hone : e.physical = [p]) (hring : p = 0 ∨ 3 ≤ p ∨ e.queue ≠ 7)
    (hp : p < 7) (hq : e.queue < 8) (hup : b.portDown l p = false) (hsize : f.len ≤ b.p 0x4804 p)
    (hroom : (b.swAt l).reserve + cellsOf f.len ≤ 8192) (hports : (b.swAt l).queues.length = 7)
    (hqueues : ∀ x ∈ (b.swAt l).queues, x.length = 8) (hempty : (b.swAt l).queue p e.queue = [])
    (havg : ((b.swAt l).avg.getD p []).getD e.queue 0 = 0) (hlimit : cellsOf f.len ≤ b.queueLimit p e.queue)
    (hmin : 0 < byteAt (bytesAt (pbytes b.params 0x4812 p 96) (12 * e.queue) 4) 0) :
    ((b.frameIn identity l port sec f).swAt l).queue p e.queue = [(b.swAt l).nextId] ∧
      ∃ x ∈ ((b.frameIn identity l port sec f).swAt l).frames, x.id = (b.swAt l).nextId ∧ x.frame = f ∧ x.gen = b.net.inForce i := by
  have hfits : (b.arrived l port f.len).oversize l e f.len p = false := by
    have hkeeps : ¬ ((b.arrived l port f.len).p 0x4804 p < f.len) := Nat.not_lt.mpr hsize
    unfold Block.oversize
    rw [decide_eq_false hkeeps]
    rcases hring with h | h | h
    · simp [h]
    · simp [show p ≠ 1 by omega, show p ≠ 2 by omega]
    · simp [h]
  have hstay : (b.arrived l port f.len).toAgree l i e port f = b.arrived l port f.len := if_neg (ne_true_of_eq_false hvirtual)
  have hupArrived : (b.arrived l port f.len).portDown l p = false := (Block.portDown_arrived f.len p).trans hup
  have hqueuesArrived : ((b.arrived l port f.len).swAt l).queues = (b.swAt l).queues := Block.swPart_arrived _ SwitchSt.queues
  have hreserve : ((b.arrived l port f.len).swAt l).reserve = (b.swAt l).reserve := Block.swPart_arrived _ SwitchSt.reserve
  have havgArrived : ((b.arrived l port f.len).swAt l).avg = (b.swAt l).avg := Block.swPart_arrived _ SwitchSt.avg
  have hid : ((b.arrived l port f.len).newFrame l i e port none f 0).id = (b.swAt l).nextId := Block.swPart_arrived _ SwitchSt.nextId
  rw [Block.frameIn_switched h hlen hmgmt hport, Block.switchIn_found (b := b.arrived l port f.len) hfound,
    Block.forward_plain i port none _ hpolice haction, hone, hstay, Block.enqueue_one hfits (by rw [hreserve]; exact hroom)]
  obtain ⟨hqueued, hframe⟩ := Block.placed_one (b := b.arrived l port f.len) (l := l) (len := f.len)
    (fr := (b.arrived l port f.len).newFrame l i e port none f 0) hp hq hupArrived (by rw [hqueuesArrived]; exact hports)
    (by rw [hqueuesArrived]; exact hqueues) ((Block.swPart_arrived _ fun s => s.queue p e.queue).trans hempty)
    (by rw [havgArrived]; exact havg) hlimit hmin
  rw [hid] at hqueued
  exact ⟨hqueued, _, hframe, hid, rfl, Block.genFor_phys (b := b.arrived l port f.len) hphys i⟩

end Ingress

end Sys2Proof
end

section
/-! PROOF. The transmit rings of virtual ports (R148, R355-R357). Part of O60. -/

namespace Sys2Proof

/-! ## Whose turn it is (R148) -/

section Turn

/-- After its rounds a participant of some weight has credit. -/
theorem roundsFor_credit (c : Int) {w : Nat} (hw : 0 < w) : 0 < c + schedQuantum * w * roundsFor c w := by
  have hquantum : 0 < schedQuantum * w := by
    have : (0 : Int) < w := by exact_mod_cast hw
    unfold schedQuantum
    omega
  unfold roundsFor
  by_cases hc : 0 < c
  · rw [if_pos hc]
    simpa using hc
  · rw [if_neg hc]
    have hrounds : 0 ≤ (1 - c + schedQuantum * w - 1) / (schedQuantum * w) := Int.ediv_nonneg (by omega) (by omega)
    have hmod := Int.emod_lt_of_pos (1 - c + schedQuantum * w - 1) hquantum
    have hdiv := Int.mul_ediv_add_emod (1 - c + schedQuantum * w - 1) (schedQuantum * w)
    rw [Int.toNat_of_nonneg hrounds]
    omega

theorem filter_only (p : Fin 32) : (List.range 32).filter (fun q => q == p.val) = [p.val] := by
  revert p
  decide

/-- The turns of one cycle name each participant. -/
theorem mem_turns (turn : Nat) (p : Fin 32) : p.val ∈ (List.range 32).map fun i => (turn + i) % 32 :=
  List.mem_map.mpr ⟨(p.val + 32 - turn % 32) % 32, List.mem_range.mpr (Nat.mod_lt _ (by decide)), by omega⟩

/-- The only participant with work waiting has its turn. -/
theorem Sched.pick_only (s : Sched) {w : Nat → Nat} (p : Fin 32) (hw : 0 < w p.val) (hcredit : s.credit.length = 32) :
    ∃ sch, s.pick w [p.val] = some (p.val, sch) := by
  let credit := mapIdxFrom (fun q c => if [p.val].contains q then
    c + schedQuantum * w q * (roundsFor (s.credit.getD p.val 0) (w p.val) : Nat) else 0) 0 s.credit
  let order := ((List.range 32).map fun i => (s.turn + i) % 32).filter [p.val].contains
  have hmem : p.val ∈ order := List.mem_filter.mpr ⟨mem_turns s.turn p, by simp⟩
  have honly (q : Nat) (hq : q ∈ order) : q = p.val := by simpa using (List.mem_filter.mp hq).2
  have hpositive : 0 < credit.getD p.val 0 := by
    have hin : p.val < s.credit.length := by omega
    have hself : [p.val].contains p.val = true := by simp
    rw [List.getD_eq_getElem?_getD, getElem?_mapIdxFrom, Nat.zero_add, List.getElem?_eq_getElem hin]
    show 0 < (if [p.val].contains p.val then _ else 0 : Int)
    rw [if_pos hself, ← getD_in _ 0 hin]
    exact roundsFor_credit _ hw
  have hpick : s.pick w [p.val] =
      (order.find? fun q => decide (0 < credit.getD q 0)).map fun q => (q, { credit := credit, turn := q }) := rfl
  have hfind : order.find? (fun q => decide (0 < credit.getD q 0)) = some p.val := by
    cases hf : order.find? (fun q => decide (0 < credit.getD q 0)) with
    | none => exact absurd (decide_eq_true hpositive) (List.find?_eq_none.mp hf _ hmem)
    | some q => rw [honly q (List.mem_of_find?_eq_some hf)]
  rw [hpick, hfind]
  exact ⟨_, rfl⟩

end Turn

/-! ## The head of a ring (R355-R357) -/

section Head

variable {b : Block} {m : MemSt} {l : Lane}

/-- The address of the descriptor at the head of a virtual port's transmit ring. -/
def Block.txAddr (b : Block) (l : Lane) (p : Nat) : Nat :=
  b.p 0x4820 (7 + p) + 16 * ((b.swAt l).txHead.getD p 0 % b.p 0x4821 (7 + p))

/-- A virtual port whose ring the switch core looks at. -/
def Block.txLive (b : Block) (l : Lane) (p : Nat) : Prop :=
  b.serves l = true ∧ b.p 0x4820 (7 + p) ≠ 0 ∧ (b.slice p).phase ≠ .none ∧ (b.slice p).frozen = false

/-- What the head of a live ring shows. -/
def Block.txHeadOf (b : Block) (m : MemSt) (l : Lane) (p : Nat) : VpHead :=
  if !(b.slice p).holdsSram (b.txAddr l p) 16 then .outside (b.txAddr l p) else
  let d := m.read l (b.txAddr l p) 16
  if !(byteAt d 11).testBit 7 then .idle else
  let len := fieldAt d 8 2
  let addr := fieldAt d 0 8
  if len < 60 || byteAt d 10 != 0 || byteAt d 11 % 128 != 0 || !zerosAt d 12 4 then .wrong
  else if !(b.slice p).holdsSram addr len then .outside addr
  else
    let f := EthFrame.ofBytes (m.read l addr len)
    match classifyIn (b.tableFor l p) (7 + p) (some p) (f.vid.getD 1) f with
    | none => .frame len none f
    | some (i, e) =>
      let widest := (e.physical.map fun q => b.p 0x4804 q).foldl max (if e.toVirtual then b.rxBuffer else 0)
      if widest < len then .wrong
      else if (b.slice p).quota < (b.lane l).sw.quotaUsed p + (b.lane l).boundFor b.net p + cellsOf f.len then .idle
      else .frame len (some (i, e)) f

theorem Block.vpHead_idle {p : Nat} (h : b.serves l = false ∨ b.p 0x4820 (7 + p) = 0 ∨ (b.slice p).phase = .none ∨
    (b.slice p).frozen = true) : b.vpHead m l p = .idle := by
  unfold Block.vpHead
  refine if_pos ?_
  rcases h with h | h | h | h <;> simp [h]

theorem Block.vpHead_live {p : Nat} (h : b.txLive l p) : b.vpHead m l p = b.txHeadOf m l p := by
  obtain ⟨hserves, hbase, hphase, hfrozen⟩ := h
  unfold Block.vpHead
  exact if_neg (by simp [hserves, hbase, hphase, hfrozen])

variable {p : Nat}

theorem Block.txHeadOf_outside (h : (b.slice p).holdsSram (b.txAddr l p) 16 = false) :
    b.txHeadOf m l p = .outside (b.txAddr l p) := if_pos (congrArg not h)

theorem Block.txHeadOf_idle (h : (b.slice p).holdsSram (b.txAddr l p) 16 = true)
    (hown : (byteAt (m.read l (b.txAddr l p) 16) 11).testBit 7 = false) : b.txHeadOf m l p = .idle := by
  unfold Block.txHeadOf
  rw [if_neg (by rw [h]; decide)]
  exact if_pos (congrArg not hown)

theorem Block.txHeadOf_wrong (h : (b.slice p).holdsSram (b.txAddr l p) 16 = true)
    (hown : (byteAt (m.read l (b.txAddr l p) 16) 11).testBit 7 = true) (hshort : fieldAt (m.read l (b.txAddr l p) 16) 8 2 < 60) :
    b.txHeadOf m l p = .wrong := by
  unfold Block.txHeadOf
  rw [if_neg (by rw [h]; decide)]
  dsimp only
  rw [if_neg (by rw [hown]; decide), decide_eq_true hshort]
  rfl

/-- A descriptor handed over with its form, and its buffer in the slice. -/
def Block.txFormed (b : Block) (m : MemSt) (l : Lane) (p : Nat) : Prop :=
  let d := m.read l (b.txAddr l p) 16
  (b.slice p).holdsSram (b.txAddr l p) 16 = true ∧ 60 ≤ fieldAt d 8 2 ∧ byteAt d 10 = 0 ∧ byteAt d 11 = 128 ∧ zerosAt d 12 4 = true ∧
    (b.slice p).holdsSram (fieldAt d 0 8) (fieldAt d 8 2) = true

/-- The frame that the descriptor names. -/
def Block.txFrame (b : Block) (m : MemSt) (l : Lane) (p : Nat) : EthFrame :=
  EthFrame.ofBytes (m.read l (fieldAt (m.read l (b.txAddr l p) 16) 0 8) (fieldAt (m.read l (b.txAddr l p) 16) 8 2))

/-- What the frame's classification makes of the head. -/
def Block.txFound (b : Block) (l : Lane) (p len : Nat) (f : EthFrame) : Option (Nat × SwEntry) → VpHead
  | none => .frame len none f
  | some (i, e) =>
    if (e.physical.map fun q => b.p 0x4804 q).foldl max (if e.toVirtual then b.rxBuffer else 0) < len then .wrong
    else if (b.slice p).quota < (b.lane l).sw.quotaUsed p + (b.lane l).boundFor b.net p + cellsOf f.len then .idle
    else .frame len (some (i, e)) f

theorem Block.txHeadOf_formed (h : b.txFormed m l p) : b.txHeadOf m l p =
    b.txFound l p (fieldAt (m.read l (b.txAddr l p) 16) 8 2) (b.txFrame m l p)
      (classifyIn (b.tableFor l p) (7 + p) (some p) ((b.txFrame m l p).vid.getD 1) (b.txFrame m l p)) := by
  obtain ⟨hring, hlen, h10, h11, hzeros, hbuf⟩ := h
  unfold Block.txHeadOf
  rw [if_neg (by rw [hring]; decide)]
  dsimp only
  rw [h11, if_neg (by decide), decide_eq_false (Nat.not_lt.mpr hlen), h10, hzeros, if_neg (by decide), hbuf]
  unfold Block.txFound Block.txFrame
  rfl

end Head

/-! ## The descriptor goes back -/

section Taken

variable {b t : Block} {m : MemSt} {l : Lane} {p : Nat}

theorem Block.vpTaken_fst : (b.vpTaken m l p).1 = b.modLane l fun x => x.modSw fun w =>
    { w with txHead := setAt w.txHead p ((b.swAt l).txHead.getD p 0 + 1) } := rfl

theorem Block.vpTaken_snd : (b.vpTaken m l p).2 =
    m.write l (b.txAddr l p + 11) [BitVec.ofNat 8 (byteAt (m.read l (b.txAddr l p) 16) 11 % 128)] := rfl

/-- What the descriptor's return shows: the ring's head, and the ownership bit in memory. -/
def TxReturned (b : Block) (m : MemSt) (l : Lane) (p : Nat) (b' : Block) (m' : MemSt) : Prop :=
  (b'.swAt l).txHead.getD p 0 = (b.swAt l).txHead.getD p 0 + 1 ∧
    m'.read l (b.txAddr l p + 11) 1 = [BitVec.ofNat 8 (byteAt (m.read l (b.txAddr l p) 16) 11 % 128)] ∧
    ∀ a, a ≠ b.txAddr l p + 11 → m'.read l a 1 = m.read l a 1

/-- Counts and frames taken in do not change what the descriptor's return shows. -/
theorem Block.vpTaken_returned (hhead : (t.swAt l).txHead = (b.swAt l).txHead) (hparams : t.params = b.params)
    (hlen : p < (b.swAt l).txHead.length) (hwf : m.Wf) : TxReturned b m l p (t.vpTaken m l p).1 (t.vpTaken m l p).2 := by
  have haddr : t.txAddr l p = b.txAddr l p := by
    unfold Block.txAddr Block.p
    rw [hhead, hparams]
  rw [Block.vpTaken_fst, Block.vpTaken_snd, haddr, hhead]
  refine ⟨?_, MemSt.read_write_same l _ _ hwf, fun a ha => MemSt.read_write_apart m l l fun i hlow hhigh => ?_⟩
  · rw [Block.swAt_modSw]
    exact updAt_getD_same _ _ _ _ (by rw [hhead]; exact hlen)
  · rw [List.length_singleton]
    omega

theorem Block.vpTaken_kept (port : Nat) : (b.vpTaken m l p).1.portStats l port = b.portStats l port ∧
    (b.vpTaken m l p).1.ownAt l = b.ownAt l := by
  rw [Block.vpTaken_fst]
  exact ⟨Block.swPart_modSw _ fun s => s.stats.getD port PortStats.zero, Block.ownAt_modSw _⟩

end Taken

/-! ## A ring is served -/

section Served

variable {b : Block} {m : MemSt} {l : Lane} {p : Prid}

/-- A virtual port has a frame to take. -/
def VpHead.ready : VpHead → Bool
  | .frame .. => true
  | _ => false

theorem Block.vpTurn_eq (p : Nat) : b.vpTurn m l p = ((b.lane l).vpSched.pick (fun q => b.p 0x1003 q)
    ((List.range 32).filter fun q => (b.vpHead m l q).ready)).bind fun x => if x.1 = p then some x.2 else none := by
  unfold Block.vpTurn
  rfl

/-- The one virtual port that has a frame has its turn. -/
theorem Block.vpTurn_only (hready : (b.vpHead m l p.val).ready = true) (hweight : 0 < b.p 0x1003 p)
    (hcredit : (b.lane l).vpSched.credit.length = 32) (hothers : ∀ q : Prid, q ≠ p → b.p 0x4820 (7 + q.val) = 0) :
    ∃ sch, b.vpTurn m l p.val = some sch := by
  have honly : ((List.range 32).filter fun q => (b.vpHead m l q).ready) = [p.val] := by
    rw [← filter_only p]
    refine List.filter_congr fun q hq => ?_
    by_cases h : q = p.val
    · rw [h, hready, beq_self_eq_true]
    · have hidle : b.vpHead m l q = .idle :=
        Block.vpHead_idle (.inr (.inl (hothers ⟨q, List.mem_range.mp hq⟩ fun heq => h (congrArg Fin.val heq))))
      rw [hidle, beq_false_of_ne h]
      rfl
  obtain ⟨sch, hpick⟩ := (b.lane l).vpSched.pick_only (w := fun q => b.p 0x1003 q) p hweight hcredit
  rw [Block.vpTurn_eq, honly, hpick]
  exact ⟨sch, if_pos rfl⟩

theorem Block.vpTransmit_idle (h : b.vpHead m l p.val = .idle) : b.vpTransmit m l p = (b, m) := by
  unfold Block.vpTransmit
  rw [h]

theorem Block.vpTransmit_waits {n : Nat} {dest : Option (Nat × SwEntry)} {f : EthFrame} (h : b.vpHead m l p.val = .frame n dest f)
    (hturn : b.vpTurn m l p.val = none) : b.vpTransmit m l p = (b, m) := by
  unfold Block.vpTransmit
  rw [h]
  dsimp only
  rw [hturn]

theorem Block.vpTransmit_outside {a : Nat} (h : b.vpHead m l p.val = .outside a) :
    b.vpTransmit m l p = (if b.drainsRange p a 1 then b else b.gateViolation l p 1 a, m) := by
  unfold Block.vpTransmit
  rw [h]

theorem Block.vpTransmit_wrong (h : b.vpHead m l p.val = .wrong) : b.vpTransmit m l p =
    (b.swCount l (7 + p.val) 204 fun t => { t with errs := t.errs + 1 }).vpTaken m l p := by
  unfold Block.vpTransmit
  rw [h]

/-- A virtual port's account charged for a frame. -/
def Block.vpCharged (b : Block) (l : Lane) (sch : Sched) : Block := b.modLane l fun x => { x with vpSched := sch }

theorem Block.vpTransmit_unknown {n : Nat} {f : EthFrame} {sch : Sched} (h : b.vpHead m l p.val = .frame n none f)
    (hturn : b.vpTurn m l p.val = some sch) : b.vpTransmit m l p =
      ((b.vpCharged l (sch.charge p (8 * n))).swCount l (7 + p.val) 200 fun t => { t with noEntry := t.noEntry + 1 }).vpTaken m l p := by
  unfold Block.vpTransmit
  rw [h]
  dsimp only
  rw [hturn]
  rfl

theorem Block.vpTransmit_found {n i : Nat} {e : SwEntry} {f : EthFrame} {sch : Sched} (h : b.vpHead m l p.val = .frame n (some (i, e)) f)
    (hturn : b.vpTurn m l p.val = some sch) : b.vpTransmit m l p =
      ((b.vpCharged l (sch.charge p (8 * n))).vpForward l p i e f).vpTaken m l p := by
  unfold Block.vpTransmit
  rw [h]
  dsimp only
  rw [hturn]
  rfl

theorem Block.lane_vpCharged (sch : Sched) : (b.vpCharged l sch).lane l = { b.lane l with vpSched := sch } := Block.lane_modLane ..

theorem Block.swAt_vpCharged (sch : Sched) : (b.vpCharged l sch).swAt l = b.swAt l := by
  unfold Block.swAt
  rw [Block.lane_vpCharged]

theorem Block.ownAt_vpCharged (sch : Sched) : (b.vpCharged l sch).ownAt l = b.ownAt l := by
  unfold Block.ownAt
  rw [Block.lane_vpCharged]

theorem Block.swAt_gateViolation (k : Lane) (q cause addr : Nat) : (b.gateViolation k q cause addr).swAt l = b.swAt l := by
  unfold Block.gateViolation Block.violate
  split
  · exact Block.field_of_untold (Block.untold_raiseAll ..) l LaneSt.sw
  · rfl

/-- A frame for virtual ports alone waits for agreement. -/
theorem Block.vpForward_agreed {i : Nat} {e : SwEntry} {f : EthFrame} (hpolice : e.police = false) (haction : e.action = 0)
    (hvirtual : e.toVirtual = true) (hnone : e.physical = []) : b.vpForward l p i e f =
      (b.arrived l (7 + p.val) f.len).takesIn l (.eth i ((b.arrived l (7 + p.val) f.len).genFor l (7 + p.val) i) (7 + p.val) f) := by
  have hagree : (b.arrived l (7 + p.val) f.len).toAgree l i e (7 + p.val) f =
      (b.arrived l (7 + p.val) f.len).takesIn l (.eth i ((b.arrived l (7 + p.val) f.len).genFor l (7 + p.val) i) (7 + p.val) f) :=
    if_pos hvirtual
  have hforward := Block.forward_plain (b := b.arrived l (7 + p.val) f.len) (l := l) (f := f) i (7 + p.val) (some p) [] hpolice haction
  rw [Block.enqueue_eq, hagree] at hforward
  unfold Block.vpForward
  rw [hnone]
  exact hforward

theorem Block.genFor_arrived (port len src i : Nat) : (b.arrived l port len).genFor l src i = b.genFor l src i := by
  have hhead : ((b.arrived l port len).swAt l).txHead = (b.swAt l).txHead := Block.swPart_arrived len SwitchSt.txHead
  have hcut : ((b.arrived l port len).swAt l).cut = (b.swAt l).cut := Block.swPart_arrived len SwitchSt.cut
  unfold Block.swAt at hhead hcut
  unfold Block.genFor Block.behindCut
  rw [hhead, hcut]
  rfl

theorem Block.takesIn_params (body : ItemBody) : (b.takesIn l body).params = b.params := by
  unfold Block.takesIn
  dsimp only
  obtain ⟨lanes, h⟩ := Block.toPeer_frame (b.modLane l fun x => { x with own := x.own ++ [{ epoch := b.mod.epoch, body := body }] }) l
    { epoch := b.mod.epoch, body := body }
  rw [h]
  rfl

theorem Block.swCount_params (port ev : Nat) (f : PortStats → PortStats) : (b.swCount l port ev f).params = b.params := by
  obtain ⟨lanes, evs, h⟩ := Block.swCount_frame b l port ev f
  rw [h]

end Served

end Sys2Proof

namespace Sys2Proof.Machine

section Transmit

variable {s : State} {l : Lane} {p : Prid} {b' : Block} {m' : MemSt}

/-- What serving a ring does to the state. -/
theorem vpTransmit_runs (h : s.b.vpTransmit s.mem l p = (b', m')) :
    exec (.vpTransmitDescriptor l p) s = .next ((s.withBlock b').withMem m') :=
  congrArg (fun x : Block × MemSt => Host.Outcome.next ((s.withBlock x.1).withMem x.2)) h

theorem vpTransmit_rests (h : s.b.vpTransmit s.mem l p = (s.b, s.mem)) : exec (.vpTransmitDescriptor l p) s = .next s :=
  vpTransmit_runs h

/-- A descriptor outside the slice leaves the memory and the ring. -/
theorem vpTransmit_outside (hlive : s.b.txLive l p) (h : (s.b.slice p).holdsSram (s.b.txAddr l p) 16 = false) :
    ∃ t, exec (.vpTransmitDescriptor l p) s = .next t ∧ t.mem = s.mem ∧ (t.b.swAt l).txHead = (s.b.swAt l).txHead := by
  have hhead : s.b.vpHead s.mem l p.val = .outside (s.b.txAddr l p) :=
    (Block.vpHead_live hlive).trans (Block.txHeadOf_outside h)
  refine ⟨_, vpTransmit_runs (Block.vpTransmit_outside hhead), rfl, ?_⟩
  show ((if s.b.drainsRange p _ 1 then s.b else s.b.gateViolation l p 1 _).swAt l).txHead = _
  split
  · rfl
  · rw [Block.swAt_gateViolation]

/-- A frame too short goes back unsent and is counted. -/
theorem vpTransmit_short (hlive : s.b.txLive l p) (hwf : s.mem.Wf) (hrings : (s.b.swAt l).txHead.length = 32)
    (hstats : (s.b.swAt l).stats.length = 39) (hring : (s.b.slice p).holdsSram (s.b.txAddr l p) 16 = true)
    (hown : (byteAt (s.mem.read l (s.b.txAddr l p) 16) 11).testBit 7 = true)
    (hshort : fieldAt (s.mem.read l (s.b.txAddr l p) 16) 8 2 < 60) :
    ∃ t, exec (.vpTransmitDescriptor l p) s = .next t ∧ TxReturned s.b s.mem l p t.b t.mem ∧
      (t.b.portStats l (7 + p.val)).errs = (s.b.portStats l (7 + p.val)).errs + 1 := by
  have hhead : s.b.vpHead s.mem l p.val = .wrong := (Block.vpHead_live hlive).trans (Block.txHeadOf_wrong hring hown hshort)
  refine ⟨_, vpTransmit_runs (Block.vpTransmit_wrong hhead), Block.vpTaken_returned
    (Block.swPart_swCount (7 + p.val) 204 _ SwitchSt.txHead) (Block.swCount_params ..) (by omega) hwf, ?_⟩
  show ((Block.vpTaken _ s.mem l p).1.portStats l (7 + p.val)).errs = _
  rw [(Block.vpTaken_kept _).1, Block.portStats_swCount 204 _ (by omega)]

/-- A frame that no entry matches goes back and is counted. -/
theorem vpTransmit_unknown (hlive : s.b.txLive l p) (hwf : s.mem.Wf) (hrings : (s.b.swAt l).txHead.length = 32)
    (hstats : (s.b.swAt l).stats.length = 39) (hformed : s.b.txFormed s.mem l p) (hweight : 0 < s.b.p 0x1003 p)
    (hcredit : (s.b.lane l).vpSched.credit.length = 32) (hothers : ∀ q : Prid, q ≠ p → s.b.p 0x4820 (7 + q.val) = 0)
    (hfound : classifyIn (s.b.tableFor l p) (7 + p.val) (some p.val) ((s.b.txFrame s.mem l p).vid.getD 1) (s.b.txFrame s.mem l p) =
      none) :
    ∃ t, exec (.vpTransmitDescriptor l p) s = .next t ∧ TxReturned s.b s.mem l p t.b t.mem ∧
      (t.b.portStats l (7 + p.val)).noEntry = (s.b.portStats l (7 + p.val)).noEntry + 1 := by
  have hhead := (Block.vpHead_live (m := s.mem) hlive).trans (Block.txHeadOf_formed hformed)
  rw [hfound] at hhead
  obtain ⟨sch, hturn⟩ := Block.vpTurn_only (m := s.mem) (l := l) (p := p) (by rw [hhead]; rfl) hweight hcredit hothers
  refine ⟨_, vpTransmit_runs (Block.vpTransmit_unknown hhead hturn), Block.vpTaken_returned ?_ (Block.swCount_params ..) (by omega) hwf, ?_⟩
  · rw [Block.swPart_swCount (7 + p.val) 200 _ SwitchSt.txHead, Block.swAt_vpCharged]
  · show ((Block.vpTaken _ s.mem l p).1.portStats l (7 + p.val)).noEntry = _
    rw [(Block.vpTaken_kept _).1, Block.portStats_swCount 200 _ (by rw [Block.swAt_vpCharged]; omega)]
    unfold Block.portStats
    rw [Block.swAt_vpCharged]

/-- A frame for virtual ports alone, within the quota, waits for agreement. -/
theorem vpTransmit_agreed (hlive : s.b.txLive l p) (hwf : s.mem.Wf) (hrings : (s.b.swAt l).txHead.length = 32)
    (hformed : s.b.txFormed s.mem l p) (hweight : 0 < s.b.p 0x1003 p) (hcredit : (s.b.lane l).vpSched.credit.length = 32)
    (hothers : ∀ q : Prid, q ≠ p → s.b.p 0x4820 (7 + q.val) = 0) {i : Nat} {e : SwEntry}
    (hfound : classifyIn (s.b.tableFor l p) (7 + p.val) (some p.val) ((s.b.txFrame s.mem l p).vid.getD 1) (s.b.txFrame s.mem l p) =
      some (i, e)) (hpolice : e.police = false) (haction : e.action = 0) (hvirtual : e.toVirtual = true) (hnone : e.physical = [])
    (hbuffer : fieldAt (s.mem.read l (s.b.txAddr l p) 16) 8 2 ≤ s.b.rxBuffer)
    (hquota : (s.b.swAt l).quotaUsed p + (s.b.lane l).boundFor s.b.net p + cellsOf (s.b.txFrame s.mem l p).len ≤ (s.b.slice p).quota) :
    ∃ t, exec (.vpTransmitDescriptor l p) s = .next t ∧ TxReturned s.b s.mem l p t.b t.mem ∧
      t.b.ownAt l = s.b.ownAt l ++
        [{ epoch := s.b.mod.epoch, body := .eth i (s.b.genFor l (7 + p.val) i) (7 + p.val) (s.b.txFrame s.mem l p) }] := by
  have hhead := (Block.vpHead_live (m := s.mem) hlive).trans (Block.txHeadOf_formed hformed)
  have hcarried : s.b.txFound l p (fieldAt (s.mem.read l (s.b.txAddr l p) 16) 8 2) (s.b.txFrame s.mem l p) (some (i, e)) =
      .frame (fieldAt (s.mem.read l (s.b.txAddr l p) 16) 8 2) (some (i, e)) (s.b.txFrame s.mem l p) := by
    unfold Block.txFound
    dsimp only
    rw [hnone, List.map_nil, List.foldl_nil, if_pos hvirtual, if_neg (Nat.not_lt.mpr hbuffer)]
    exact if_neg (Nat.not_lt.mpr hquota)
  rw [hfound, hcarried] at hhead
  obtain ⟨sch, hturn⟩ := Block.vpTurn_only (m := s.mem) (l := l) (p := p) (by rw [hhead]; rfl) hweight hcredit hothers
  refine ⟨_, vpTransmit_runs (Block.vpTransmit_found hhead hturn), ?_, ?_⟩
  · rw [Block.vpForward_agreed hpolice haction hvirtual hnone]
    refine Block.vpTaken_returned ?_ (Block.takesIn_params _) (by omega) hwf
    rw [Block.swAt_takesIn, Block.swPart_arrived _ SwitchSt.txHead, Block.swAt_vpCharged]
  · show (Block.vpTaken _ s.mem l p).1.ownAt l = _
    have hgen : (s.b.vpCharged l (sch.charge p (8 * fieldAt (s.mem.read l (s.b.txAddr l p) 16) 8 2))).genFor l (7 + p.val) i =
        s.b.genFor l (7 + p.val) i := by
      unfold Block.genFor Block.behindCut
      rw [Block.lane_vpCharged]
      rfl
    rw [(Block.vpTaken_kept 0).2, Block.vpForward_agreed hpolice haction hvirtual hnone, Block.ownAt, Block.takesIn_own,
      Block.genFor_arrived, hgen]
    exact congrArg (· ++ [_]) ((Block.ownAt_arrived _).trans (Block.ownAt_vpCharged _))

end Transmit

end Sys2Proof.Machine
end

section
/-! PROOF. Egress, links and audits of the switch core (R369-R376, R485). Settles O60. -/

namespace Sys2Proof

/-! ## A reference leaves a queue (R371, R372) -/

section Head

variable {b : Block} {l : Lane} {port : Nat}

/-- A queue changed by a function that leaves an empty one empty. -/
theorem SwitchSt.queue_modQueue_nil (s : SwitchSt) (p q : Nat) {f : List Nat → List Nat} (hf : f [] = []) :
    (s.modQueue p q f).queue p q = f (s.queue p q) := by
  unfold SwitchSt.queue SwitchSt.modQueue
  dsimp only
  rcases Nat.lt_or_ge p s.queues.length with hp | hp
  · rw [updAt_getD_same _ _ _ _ hp]
    rcases Nat.lt_or_ge q (s.queues.getD p []).length with hq | hq
    · rw [updAt_getD_same _ _ _ _ hq]
    · rw [getD_out _ _ (by rwa [updAt_length]), getD_out _ _ hq, hf]
  · have hnone : (updAt s.queues p fun qs => updAt qs q f).getD p [] = [] :=
      getD_out _ _ (by rwa [updAt_length])
    have hnone' : s.queues.getD p [] = [] := getD_out _ _ hp
    rw [hnone, hnone']
    exact hf.symm

/-- The counts of a frame that leaves a queue. -/
def PortStats.leaves (len : Nat) (send : Bool) (t : PortStats) : PortStats :=
  if send then { t with txF := t.txF + 1, txB := t.txB + len } else { t with life := t.life + 1 }

/-- A frame that leaves is told: by its check record when it is sent, by an event when it is too old. -/
def Block.toldLeaving (b : Block) (l : Lane) (port : Nat) (f : SwFrame) (send : Bool) : Block :=
  if send then (match f.handle with
    | some (h, n) => b.checkSent l h n (if f.src.val < 7 then 32 else f.src.val - 7) f.frame.bytes
    | none => b)
  else b.swEvent l 192 port 1

theorem Block.swAt_toldLeaving (f : SwFrame) (send : Bool) : (b.toldLeaving l port f send).swAt l = b.swAt l := by
  unfold Block.toldLeaving
  cases send with
  | false => exact Block.swAt_swEvent ..
  | true =>
    rw [if_pos rfl]
    cases f.handle with
    | none => rfl
    | some x => exact Block.field_of_untold (Block.untold_checkSent ..) l LaneSt.sw

theorem Block.takeHead_eq (q : Nat) (f : SwFrame) (send : Bool) : b.takeHead l port q f send =
    (((b.modLane l fun x => x.modSw fun s => (s.modQueue port q (·.erase f.id)).modStats port
      (PortStats.leaves f.frame.len send)).toldLeaving l port f send).fromResidue l port).modLane l fun x => x.modSw SwitchSt.gc := by
  unfold Block.takeHead Block.toldLeaving PortStats.leaves
  rfl

/-- Nothing waits on the residue list. -/
theorem Block.fromResidue_none (h : (b.swAt l).residue.getD port [] = []) : b.fromResidue l port = b := by
  unfold Block.swAt at h
  unfold Block.fromResidue
  rw [h]
  rfl

/-- The switch core once a reference has left a queue of a port without residue. -/
theorem Block.swAt_takeHead (q : Nat) (f : SwFrame) (send : Bool) (hresidue : (b.swAt l).residue.getD port [] = []) :
    (b.takeHead l port q f send).swAt l =
      (((b.swAt l).modQueue port q (·.erase f.id)).modStats port (PortStats.leaves f.frame.len send)).gc := by
  have hnone : (((b.modLane l fun x => x.modSw fun s => (s.modQueue port q (·.erase f.id)).modStats port
      (PortStats.leaves f.frame.len send)).toldLeaving l port f send).swAt l).residue.getD port [] = [] := by
    rw [Block.swAt_toldLeaving, Block.swAt_modSw]
    exact hresidue
  rw [Block.takeHead_eq, Block.swAt_modSw, Block.fromResidue_none hnone, Block.swAt_toldLeaving, Block.swAt_modSw]

theorem Block.takeHead_queue (q : Nat) (f : SwFrame) (send : Bool) (hresidue : (b.swAt l).residue.getD port [] = []) :
    ((b.takeHead l port q f send).swAt l).queue port q = ((b.swAt l).queue port q).erase f.id := by
  rw [Block.swAt_takeHead q f send hresidue]
  exact SwitchSt.queue_modQueue_nil (b.swAt l) port q (List.erase_nil _)

theorem Block.takeHead_stats (q : Nat) (f : SwFrame) (send : Bool) (hresidue : (b.swAt l).residue.getD port [] = [])
    (hport : port < (b.swAt l).stats.length) :
    (b.takeHead l port q f send).portStats l port = PortStats.leaves f.frame.len send (b.portStats l port) := by
  unfold Block.portStats
  rw [Block.swAt_takeHead q f send hresidue]
  exact SwitchSt.stats_modStats (s := (b.swAt l).modQueue port q (·.erase f.id)) _ hport

end Head

/-! ## A port serves its next frame (R369) -/

section Egress

variable {b : Block} {l : Lane} {port : Nat}

/-- The frame at the head of a queue. -/
def SwitchSt.headOf (s : SwitchSt) (port q : Nat) : Option SwFrame := (s.queue port q).head?.bind s.frame?

theorem Block.egress_dead (h : ¬ b.portLive l port) : b.egress l port = b := by
  unfold Block.portLive Block.swAt at h
  unfold Block.egress
  refine if_pos ?_
  rw [Bool.or_eq_true, Bool.or_eq_true, Bool.not_eq_true', beq_iff_eq, bne_iff_ne]
  refine Decidable.byContradiction fun hlive => ?_
  rw [not_or, not_or, Bool.not_eq_false] at hlive
  obtain ⟨⟨hserves, hup⟩, hon⟩ := hlive
  exact h ⟨hserves, hon, Decidable.not_not.mp hup⟩

theorem Block.egress_go (h : b.portLive l port) :
    ¬ (!b.serves l || (b.lane l).sw.links.getD port .down != .up || b.p 0x4801 port == 0) = true := by
  obtain ⟨hserves, hon, hup⟩ := h
  unfold Block.swAt at hup
  rw [hserves, hup, beq_false_of_ne hon]
  decide

theorem Block.egress_idle (h : b.portLive l port) (hpick : b.pickQueue l port = none) : b.egress l port = b := by
  unfold Block.egress
  dsimp only
  rw [if_neg (Block.egress_go h), hpick]

/-- Credits written back. -/
def Block.credited (b : Block) (l : Lane) (port : Nat) (x : List Nat) : Block :=
  b.modLane l fun y => y.modSw fun s => { s with deficit := updAt s.deficit port fun _ => x }

/-- The picked frame of a port other than the uplink leaves, sent or too old. -/
theorem Block.egress_picked (h : b.portLive l port) {n : Nat} {x : List Nat} {f : SwFrame} (hpick : b.pickQueue l port = some (n, x))
    (hhead : (b.swAt l).headOf port n = some f) (hport : port ≠ 0) : b.egress l port =
      if b.aged f then b.takeHead l port n f false else (b.credited l port x).takeHead l port n f true := by
  unfold SwitchSt.headOf Block.swAt at hhead
  unfold Block.egress
  dsimp only
  rw [if_neg (Block.egress_go h), hpick]
  dsimp only
  rw [hhead, if_neg hport]
  rfl

end Egress

/-! ## Links and the hold (R373) -/

section Links

variable {b : Block} {l : Lane} {port : Nat}

theorem Block.swAt_setLink (st : LinkSt) : (b.setLink l port st).swAt l = { b.swAt l with links := setAt (b.swAt l).links port st } :=
  Block.swAt_modSw _

theorem Block.link_setLink (st d : LinkSt) (hport : port < (b.swAt l).links.length) :
    ((b.setLink l port st).swAt l).links.getD port d = st := by
  rw [Block.swAt_setLink]
  exact updAt_getD_same _ _ _ _ hport

theorem Block.swAt_raise (k : Lane) (ev cause subject : Nat) (detail : Int) : (b.raise k ev cause subject detail).swAt l = b.swAt l :=
  Block.field_of_untold (Block.untold_raise ..) l LaneSt.sw

/-- References that a flush takes. -/
def SwitchSt.goes (s : SwitchSt) (sel : SwFrame → Bool) (i : Nat) : Bool :=
  match s.frame? i with
  | some f => sel f
  | none => true

/-- How many references a flush takes. -/
def SwitchSt.going (s : SwitchSt) (port : Nat) (sel : SwFrame → Bool) : Nat :=
  ((s.queues.getD port []).map fun ids => (ids.filter (s.goes sel)).length).sum +
    ((s.residue.getD port []).filter fun r => s.goes sel r.1).length

/-- The references that a flush leaves. -/
def SwitchSt.flushed (s : SwitchSt) (t : SwitchSt) (port : Nat) (sel : SwFrame → Bool) : SwitchSt :=
  { t with queues := updAt t.queues port fun qs => qs.map fun ids => ids.filter fun i => !s.goes sel i,
           residue := updAt t.residue port fun r => r.filter fun y => !s.goes sel y.1 }

theorem Block.flushPort_eq (sel : SwFrame → Bool) : b.flushPort l port sel =
    if (b.swAt l).going port sel = 0 then b
    else (b.modLane l fun x => x.modSw fun s => (((b.swAt l).flushed s port sel).gc).modStats port fun t =>
      { t with hold := t.hold + (b.swAt l).going port sel }).swEvent l 191 port ((b.swAt l).going port sel) := by
  unfold Block.flushPort
  rfl

theorem SwitchSt.goes_all (s : SwitchSt) (i : Nat) : s.goes (fun _ => true) i = true := by
  unfold SwitchSt.goes
  cases s.frame? i <;> rfl

/-- A flush of every frame leaves the queues of its port empty. -/
theorem Block.flushPort_all (n : Nat) : ((b.flushPort l port fun _ => true).swAt l).queue port n = [] := by
  rw [Block.flushPort_eq]
  by_cases hzero : (b.swAt l).going port (fun _ => true) = 0
  · rw [if_pos hzero]
    unfold SwitchSt.going at hzero
    have hsum := (Nat.add_eq_zero_iff.mp hzero).1
    unfold SwitchSt.queue
    rcases Nat.lt_or_ge n ((b.swAt l).queues.getD port []).length with hn | hn
    · have hrow := List.sum_eq_zero_iff_forall_eq_nat.mp hsum _ (List.mem_map.mpr ⟨_, List.getElem_mem hn, rfl⟩)
      rw [List.filter_eq_self.mpr fun i _ => SwitchSt.goes_all _ i] at hrow
      rw [getD_in _ _ hn]
      exact List.eq_nil_of_length_eq_zero hrow
    · exact getD_out _ _ hn
  · rw [if_neg hzero, Block.swAt_swEvent, Block.swAt_modSw]
    show ((updAt (b.swAt l).queues port _).getD port []).getD n [] = []
    have hnone (ids : List Nat) : ids.filter (fun i => !(b.swAt l).goes (fun _ => true) i) = [] :=
      List.filter_eq_nil_iff.mpr fun i _ => by rw [SwitchSt.goes_all]; decide
    rcases Nat.lt_or_ge port (b.swAt l).queues.length with hport | hport
    · rw [updAt_getD_same _ _ _ _ hport, funext hnone]
      have hmap := getD_map (n := n) ((b.swAt l).queues.getD port []) [] fun _ : List Nat => ([] : List Nat)
      exact hmap
    · have hout : (updAt (b.swAt l).queues port fun qs => qs.map fun ids =>
          ids.filter fun i => !(b.swAt l).goes (fun _ => true) i).getD port [] = [] :=
        getD_out _ _ (by rwa [updAt_length])
      rw [hout]
      rfl

theorem Block.flushPort_links (sel : SwFrame → Bool) : ((b.flushPort l port sel).swAt l).links = (b.swAt l).links := by
  rw [Block.flushPort_eq]
  split
  · rfl
  · rw [Block.swAt_swEvent]
    exact Block.swPart_modSw _ SwitchSt.links

/-- A port whose hold has ended is down and empty. -/
theorem Block.downed (hport : port < (b.swAt l).links.length) :
    (((b.setLink l port .down).flushPort l port fun _ => true).swAt l).links.getD port .up = .down ∧
      ∀ n, (((b.setLink l port .down).flushPort l port fun _ => true).swAt l).queue port n = [] :=
  ⟨by rw [Block.flushPort_links]; exact Block.link_setLink .down .up hport, Block.flushPort_all⟩

end Links

end Sys2Proof

namespace Sys2Proof.Machine

section Clauses

variable {s : State} {l : Lane} {port : PhyPort}

/-- PORT_LINK_DOWN of a port that is up. -/
def linkDown (l : Lane) (port : PhyPort) (b : Block) : Block :=
  if b.p 0x4803 port = 0 then (b.setLink l port .down).flushPort l port (fun _ => true) else b.setLink l port .hold

theorem portLinkDown_up (hup : (s.b.swAt l).links.getD port .down = .up) :
    Becomes (.portLinkDown l port) s (linkDown l port (s.b.raise l (184 + port.val) 2 port 0)) := by
  refine becomes_onBlock (f := fun b => if (b.lane l).sw.links.getD port .down != .up then b
    else linkDown l port (b.raise l (184 + port.val) 2 port 0)) rfl (if_neg ?_)
  unfold Block.swAt at hup
  rw [hup]
  decide

theorem portLinkDown_other (hup : (s.b.swAt l).links.getD port .down ≠ .up) : Becomes (.portLinkDown l port) s s.b :=
  becomes_onBlock (f := fun b => if (b.lane l).sw.links.getD port .down != .up then b
    else linkDown l port (b.raise l (184 + port.val) 2 port 0)) rfl (if_pos (bne_iff_ne.mpr hup))

/-- The port of a link that goes down. -/
theorem linkDown_spec {b : Block} (hport : port.val < (b.swAt l).links.length) :
    (b.p 0x4803 port = 0 → ((linkDown l port b).swAt l).links.getD port .up = .down ∧
      ∀ n, ((linkDown l port b).swAt l).queue port n = []) ∧
    (b.p 0x4803 port ≠ 0 → ((linkDown l port b).swAt l).links.getD port .up = .hold ∧
      ((linkDown l port b).swAt l).queues = (b.swAt l).queues) := by
  unfold linkDown
  refine ⟨fun hnow => ?_, fun hlater => ?_⟩
  · rw [if_pos hnow]
    exact Block.downed hport
  · rw [if_neg hlater]
    exact ⟨Block.link_setLink .hold .up hport, Block.swPart_modSw _ SwitchSt.queues⟩

/-- PORT_LINK_UP. -/
def linkUp (l : Lane) (port : PhyPort) (b : Block) : Block :=
  if (b.lane l).sw.links.getD port .down == .up || b.p 0x4801 port == 0 || !b.serves l then b
  else (b.setLink l port .up).raise l (184 + port.val) 1 port 0

theorem linkUp_done {b : Block} (hdown : (b.swAt l).links.getD port .down ≠ .up) (hon : b.p 0x4801 port ≠ 0)
    (hserves : b.serves l = true) (hport : port.val < (b.swAt l).links.length) :
    ((linkUp l port b).swAt l).links.getD port .down = .up := by
  have hgo : ¬ ((b.lane l).sw.links.getD port .down == .up || b.p 0x4801 port == 0 || !b.serves l) = true := by
    unfold Block.swAt at hdown
    rw [beq_false_of_ne hdown, beq_false_of_ne hon, hserves]
    decide
  unfold linkUp
  rw [if_neg hgo, Block.swAt_raise]
  exact Block.link_setLink .up .down hport

/-- DECK_COUNT of a lane in service. -/
def deckCount (l : Lane) (sum : Nat) (b : Block) : Block :=
  if !b.serves l then b
  else if sum = 32768 then b.modLane l fun x => x.modSw fun w => { w with mismatch := 0 }
  else
    let n := (b.lane l).sw.mismatch + 1
    let b := b.modLane l fun x => x.modSw fun w =>
      { w with mismatch := n, lostCells := 32768 - sum, sweeping := w.sweeping || (decide (2 ≤ n) && b.p 0x4832 0 == 1) }
    if 2 ≤ n then b.swEvent l 197 255 0 else b

theorem deckCount_even {b : Block} (hserves : b.serves l = true) :
    ((deckCount l 32768 b).swAt l).mismatch = 0 ∧ ((deckCount l 32768 b).swAt l).sweeping = (b.swAt l).sweeping := by
  unfold deckCount
  rw [if_neg (by rw [hserves]; decide), if_pos rfl, Block.swAt_modSw]
  exact ⟨rfl, rfl⟩

theorem deckCount_odd {b : Block} {sum : Nat} (hserves : b.serves l = true) (hsum : sum ≠ 32768) :
    ((deckCount l sum b).swAt l).mismatch = (b.swAt l).mismatch + 1 ∧ ((deckCount l sum b).swAt l).sweeping =
      ((b.swAt l).sweeping || (decide (1 ≤ (b.swAt l).mismatch) && b.p 0x4832 0 == 1)) := by
  have hn : decide (2 ≤ (b.lane l).sw.mismatch + 1) = decide (1 ≤ (b.swAt l).mismatch) :=
    decide_eq_decide.mpr (by unfold Block.swAt; omega)
  have hquiet (t : Block) (q : Prop) [Decidable q] : (if q then t.swEvent l 197 255 0 else t).swAt l = t.swAt l := by
    split
    · exact Block.swAt_swEvent ..
    · rfl
  unfold deckCount
  rw [if_neg (by rw [hserves]; decide), if_neg hsum]
  dsimp only
  rw [hquiet, Block.swAt_modSw, hn]
  exact ⟨rfl, rfl⟩

/-- RECLAIM_SWEEP_END. -/
def sweepEnd (l : Lane) (n : Nat) (b : Block) : Block :=
  if !(b.lane l).sw.sweeping then b
  else
    (b.modLane l fun x => x.modSw fun w =>
      { w with sweeping := false, mismatch := 0, lostCells := 0, leaked := satNat 0xFFFFFFFF (w.leaked + n) }).swEvent l 198 255 (n : Int)

theorem sweepEnd_done {b : Block} {n : Nat} (h : (b.swAt l).sweeping = true) : ((sweepEnd l n b).swAt l).sweeping = false ∧
    ((sweepEnd l n b).swAt l).leaked = satNat 0xFFFFFFFF ((b.swAt l).leaked + n) := by
  unfold sweepEnd
  rw [if_neg (by unfold Block.swAt at h; rw [h]; decide), Block.swAt_swEvent, Block.swAt_modSw]
  exact ⟨rfl, rfl⟩

/-- SEQUENCE_RECOVERY_RESET. -/
def recovReset (l : Lane) (h : Nat) (b : Block) : Block :=
  if (b.lane l).sw.recov.any (fun r => r.handle == h) then
    (b.modLane l fun x => x.modSw fun w => { w with recov := w.recov.filter fun r => r.handle != h }).swEvent l 201 255 (h : Int)
  else b

theorem recovReset_recov (h : Nat) (b : Block) : ((recovReset l h b).swAt l).recov = (b.swAt l).recov.filter fun r => r.handle != h := by
  unfold recovReset
  by_cases hany : (b.lane l).sw.recov.any (fun r => r.handle == h) = true
  · rw [if_pos hany, Block.swAt_swEvent, Block.swAt_modSw]
  · rw [if_neg hany]
    refine (List.filter_eq_self.mpr fun r hr => ?_).symm
    rw [bne_iff_ne]
    exact fun heq => hany (List.any_eq_true.mpr ⟨r, hr, beq_iff_eq.mpr heq⟩)

theorem recovReset_none {h : Nat} {b : Block} (hnone : ∀ x ∈ (b.swAt l).recov, x.handle ≠ h) : recovReset l h b = b :=
  if_neg fun hany => by
    obtain ⟨x, hx, heq⟩ := List.any_eq_true.mp hany
    exact hnone x hx (beq_iff_eq.mp heq)

/-- What a port's hold does when it ends. -/
def holdEnd (l : Lane) (port : PhyPort) (b : Block) : LinkSt → Block
  | .hold => (b.setLink l port .down).flushPort l port (fun _ => true)
  | .up =>
    if (b.lane l).sw.txStopped && port.val = 0 then
      (b.modLane l fun x => x.modSw fun w => { w with txFlushed := true }).flushPort l port (fun _ => true)
    else if port.val = 1 ∨ port.val = 2 then b.flushPort l port (fun f => decide (f.slot < 64) && !b.slotHeld l f.slot)
    else b
  | .down => b

theorem portHoldExpiry_becomes {st : LinkSt} (h : (s.b.swAt l).links.getD port .down = st) :
    Becomes (.portHoldExpiry l port) s (holdEnd l port s.b st) := by
  subst h
  refine becomes_onBlock (f := fun b => holdEnd l port b ((b.lane l).sw.links.getD port .down)) ?_ rfl
  rfl

/-- MACSEC_RX_WAIT_EXPIRY. -/
def rxWaitExpiry (l : Lane) (b : Block) : Block :=
  if b.serves l && b.p 0x4840 0 == 1 then
    { b with cipher := { b.cipher with drops := satNat 0xFFFFFFFF (b.cipher.drops + 1) } }
  else b

theorem rxWaitExpiry_drops {b : Block} : (rxWaitExpiry l b).cipher.drops =
    if b.serves l = true ∧ b.p 0x4840 0 = 1 then satNat 0xFFFFFFFF (b.cipher.drops + 1) else b.cipher.drops := by
  have hcond : (b.serves l && b.p 0x4840 0 == 1) = true ↔ b.serves l = true ∧ b.p 0x4840 0 = 1 := by
    rw [Bool.and_eq_true, beq_iff_eq]
  unfold rxWaitExpiry
  by_cases h : b.serves l = true ∧ b.p 0x4840 0 = 1
  · rw [if_pos (hcond.mpr h), if_pos h]
  · rw [if_neg (mt hcond.mp h), if_neg h]

end Clauses

/-- Settles O60: ingress, the transmit rings, egress, links, audits, recovery and the MACsec wait. -/
theorem framesAreSwitched : Obligations.FramesAreSwitched := by
  unfold Obligations.FramesAreSwitched
  intro s l port sec f sw st live found hstats hlinks
  have hport : port.val < (s.b.swAt l).stats.length := Nat.lt_of_lt_of_eq (by omega) hstats.symm
  have hlink : port.val < (s.b.swAt l).links.length := Nat.lt_of_lt_of_eq port.isLt hlinks.symm
  have hzero (h : port ≠ 0) : port.val ≠ 0 := fun heq => h (Fin.ext heq)
  refine ⟨fun hdead => ⟨?_, ?_⟩, fun hlive => ⟨s.b.frameIn s.otp.identity l port sec f, rfl,
    (Block.portStats_frameIn hlive hport).1, (Block.portStats_frameIn hlive hport).2, Block.ingress_long hlive hport,
    fun hlen => ⟨fun hmgmt => ⟨Block.ingress_mgmt_frames hlive hlen hmgmt, fun hother => ?_, fun huplink hplain => ?_⟩,
      fun hother hmgmt hnone => ?_, fun i e hother hmgmt hhit hpolice haction => ⟨fun hvirtual hphys => ?_, ?_⟩⟩⟩, ?_, fun p => ⟨?_, ?_⟩,
    fun hlive hpick => ?_, fun n x f hlive hpick hhead hother hresidue => ?_, portLinkDown_other, fun hup => ?_,
    fun hdown hon hserves => ?_, fun hup => ?_, fun hhold => ?_, fun hdown => ?_, fun free linked flight hserves => ?_, fun n => ⟨?_, ?_⟩,
    fun h => ⟨?_, ?_⟩, ?_⟩
  · exact becomes_onBlock (f := fun b => b.frameIn s.otp.identity l port sec f) rfl (Block.frameIn_dead hdead)
  · exact becomes_onBlock (f := fun b => b.egress l port) rfl (Block.egress_dead hdead)
  · exact Block.ingress_elsewhere hlive hlen hmgmt (hzero hother)
  · subst huplink hplain
    exact Block.ingress_uplink hlive hlen hmgmt
  · exact Block.ingress_unknown hlive hport hlen hmgmt (hzero hother) hnone
  · exact Block.ingress_agreed hlive port.isLt hlen hmgmt (hzero hother) hhit hpolice haction hvirtual hphys
  · intro p hvirtual hone hring hp hq hup hsize hroom hports hqueues hempty havg hlimit hmin
    exact Block.ingress_queued hlive port.isLt hlen hmgmt (hzero hother) hhit hpolice haction hvirtual hone hring hp hq hup hsize hroom
      hports hqueues hempty havg hlimit hmin
  · exact fun p n dest g hhead hturn => vpTransmit_rests (Block.vpTransmit_waits hhead hturn)
  · exact fun hoff => vpTransmit_rests (Block.vpTransmit_idle (Block.vpHead_idle hoff))
  · intro hserves hbase hphase hfrozen hwf hrings
    have htx : s.b.txLive l p := ⟨hserves, hbase, hphase, hfrozen⟩
    refine ⟨vpTransmit_outside htx, fun hring => ⟨fun hown => ?_, fun hown => ⟨?_, ?_⟩⟩⟩
    · exact vpTransmit_rests (Block.vpTransmit_idle ((Block.vpHead_live htx).trans (Block.txHeadOf_idle hring hown)))
    · exact vpTransmit_short htx hwf hrings hstats hring hown
    · intro hlong h10 h11 hzeros hweight hcredit hothers hbuf
      have hformed : s.b.txFormed s.mem l p := ⟨hring, hlong, h10, h11, hzeros, hbuf⟩
      refine ⟨vpTransmit_unknown htx hwf hrings hstats hformed hweight hcredit hothers, fun i e hhit hpolice haction hvirtual hphys => ?_⟩
      exact vpTransmit_agreed htx hwf hrings hformed hweight hcredit hothers hhit hpolice haction hvirtual hphys
  · exact becomes_onBlock (f := fun b => b.egress l port) rfl (Block.egress_idle hlive hpick)
  · refine ⟨s.b.egress l port, rfl, ?_⟩
    rw [Block.egress_picked hlive hpick hhead (hzero hother)]
    by_cases haged : s.b.aged f = true
    · rw [if_pos haged]
      refine ⟨Block.takeHead_queue n f false hresidue, fun hyoung => absurd haged (ne_true_of_eq_false hyoung), fun _ => ?_⟩
      have hcount := Block.takeHead_stats n f false hresidue hport
      exact ⟨(congrArg PortStats.life hcount).trans rfl, (congrArg PortStats.txF hcount).trans rfl⟩
    · rw [if_neg haged]
      have hresidue' : ((s.b.credited l port x).swAt l).residue.getD port [] = [] :=
        (Block.swPart_modSw _ fun s => s.residue.getD port []).trans hresidue
      have hstats' : ((s.b.credited l port x).swAt l).stats = (s.b.swAt l).stats := Block.swPart_modSw _ SwitchSt.stats
      have hqueue : ((s.b.credited l port x).swAt l).queue port n = (s.b.swAt l).queue port n :=
        Block.swPart_modSw _ fun s => s.queue port n
      have hcount := Block.takeHead_stats n f true hresidue' (by rw [hstats']; exact hport)
      rw [Block.portStats.eq_def (s.b.credited l port x), hstats'] at hcount
      refine ⟨(Block.takeHead_queue n f true hresidue').trans (congrArg (·.erase f.id) hqueue), fun _ => ?_, fun hold => absurd hold haged⟩
      exact ⟨congrArg PortStats.txF hcount, congrArg PortStats.txB hcount⟩
  · refine ⟨linkDown l port (s.b.raise l (184 + port.val) 2 port 0), portLinkDown_up hup, ?_⟩
    obtain ⟨lanes, evs, hframe⟩ := Block.raise_frame s.b l (184 + port.val) 2 port 0
    have hsw := Block.swAt_raise (b := s.b) (l := l) l (184 + port.val) 2 port 0
    have hspec := linkDown_spec (l := l) (port := port) (b := s.b.raise l (184 + port.val) 2 port 0) (by rw [hsw]; exact hlink)
    rw [hsw] at hspec
    have hparam : (s.b.raise l (184 + port.val) 2 port 0).p 0x4803 port = s.b.p 0x4803 port := by
      rw [hframe]
      rfl
    rw [hparam] at hspec
    exact hspec
  · exact ⟨linkUp l port s.b, rfl, linkUp_done hdown hon hserves hlink⟩
  · refine becomes_onBlock (f := linkUp l port) rfl (if_pos ?_)
    rw [Bool.or_eq_true, Bool.or_eq_true]
    exact .inl (.inl (beq_iff_eq.mpr hup))
  · refine ⟨(s.b.setLink l port .down).flushPort l port fun _ => true, portHoldExpiry_becomes hhold, Block.downed hlink⟩
  · exact portHoldExpiry_becomes hdown
  · refine ⟨deckCount l (free + linked + flight) s.b, rfl, fun heven => ?_, fun hodd => deckCount_odd hserves hodd⟩
    rw [heven]
    exact deckCount_even hserves
  · exact fun hoff => becomes_onBlock (f := sweepEnd l n) rfl (if_pos (congrArg not hoff))
  · exact fun hon => ⟨sweepEnd l n s.b, rfl, sweepEnd_done hon⟩
  · exact fun hnone => becomes_onBlock (f := recovReset l h.val) rfl (recovReset_none hnone)
  · refine ⟨recovReset l h.val s.b, rfl, fun x hx => ?_, fun x hx hne => ?_⟩
    · have hmem : x ∈ ((recovReset l h.val s.b).swAt l).recov := hx
      rw [recovReset_recov] at hmem
      exact bne_iff_ne.mp (List.mem_filter.mp hmem).2
    · show x ∈ ((recovReset l h.val s.b).swAt l).recov
      rw [recovReset_recov]
      exact List.mem_filter.mpr ⟨hx, bne_iff_ne.mpr hne⟩
  · refine ⟨rxWaitExpiry l s.b, rfl, ?_⟩
    exact rxWaitExpiry_drops

end Sys2Proof.Machine
end

section
/-! PROOF. The sizes of tables: what keeps them (R16, R19, R349, R443, R450, R470). The predicates follow the state's types; each
operation of the model has one lemma that says what it keeps, and a longer one is put together from those it is made of. Part of
O5. -/

namespace Sys2Proof

/-! ## Sizes of parts -/

@[simp] theorem mapIdxFrom_length {α β : Type} (f : Nat → α → β) (n : Nat) (l : List α) : (mapIdxFrom f n l).length = l.length := by
  induction l generalizing n with
  | nil => rfl
  | cons x xs ih => exact congrArg (· + 1) (ih (n + 1))

@[simp] theorem setAt_length {α : Type} (l : List α) (i : Nat) (v : α) : (setAt l i v).length = l.length := updAt_length ..

/-- Every entry of a table meets a condition once one entry has changed. -/
theorem forall_mem_updAt {α : Type} {P : α → Prop} {l : List α} {i : Nat} {f : α → α} (h : ∀ x ∈ l, P x)
    (hf : ∀ x, P x → P (f x)) : ∀ x ∈ updAt l i f, P x := by
  intro x hx
  obtain ⟨j, hj⟩ := List.mem_iff_getElem?.mp hx
  rw [updAt_getElem?] at hj
  split at hj
  · obtain ⟨y, hy, rfl⟩ := Option.map_eq_some_iff.mp hj
    exact hf y (h y (List.mem_of_getElem? hy))
  · exact h x (List.mem_of_getElem? hj)

theorem forall_mem_mapIdxFrom {α β : Type} {P : α → Prop} {Q : β → Prop} {l : List α} {f : Nat → α → β} {n : Nat} (h : ∀ x ∈ l, P x)
    (hf : ∀ i x, P x → Q (f i x)) : ∀ y ∈ mapIdxFrom f n l, Q y := by
  intro y hy
  obtain ⟨j, hj⟩ := List.mem_iff_getElem?.mp hy
  rw [getElem?_mapIdxFrom] at hj
  obtain ⟨x, hx, rfl⟩ := Option.map_eq_some_iff.mp hj
  exact hf _ x (h x (List.mem_of_getElem? hx))

theorem forall_mem_map_of {α β : Type} {P : α → Prop} {Q : β → Prop} {l : List α} {f : α → β} (h : ∀ x ∈ l, P x)
    (hf : ∀ x, P x → Q (f x)) : ∀ y ∈ l.map f, Q y :=
  List.forall_mem_map.mpr fun x hx => hf x (h x hx)

/-- An entry of a table, or the value that stands for one outside it. -/
theorem getD_of_forall {α : Type} {P : α → Prop} {l : List α} {d : α} (h : ∀ x ∈ l, P x) (hd : P d) (i : Nat) : P (l.getD i d) := by
  rcases Nat.lt_or_ge i l.length with hin | hout
  · rw [getD_in _ _ hin]
    exact h _ (List.getElem_mem hin)
  · rwa [getD_out _ _ hout]

/-- A core has a budget for each PRID. -/
def CoreSt.Sized (c : CoreSt) : Prop := c.budget.length = 32

/-- Both cores of a pair have. -/
def PairSt.Sized (p : PairSt) : Prop := p.main.Sized ∧ p.chk.Sized

/-- The switch core's tables of ports and virtual ports. -/
def SwitchSt.Sized (s : SwitchSt) : Prop :=
  s.queues.length = 7 ∧ (∀ q ∈ s.queues, q.length = 8) ∧ s.links.length = 7 ∧ s.stats.length = 39 ∧ s.txHead.length = 32

/-- A die has its channels. -/
def DieSt.Sized (d : DieSt) : Prop := d.chans.length = 16

theorem LaneSt.sized_iff (x : LaneSt) : x.Sized ↔
    x.pairs.length = 6 ∧ (∀ p ∈ x.pairs, p.Sized) ∧ x.can.length = 12 ∧ x.fronts.length = 48 ∧ x.sw.Sized := Iff.rfl

/-! ## Cores and pairs -/

theorem CoreSt.Sized.ite {q : Prop} [Decidable q] {t e : CoreSt} (ht : t.Sized) (he : e.Sized) : (if q then t else e).Sized := by
  split
  · exact ht
  · exact he

theorem PairSt.Sized.ite {q : Prop} [Decidable q] {t e : PairSt} (ht : t.Sized) (he : e.Sized) : (if q then t else e).Sized := by
  split
  · exact ht
  · exact he

theorem CoreSt.Sized.fresh : CoreSt.fresh.Sized := rfl

theorem PairSt.Sized.fresh : PairSt.fresh.Sized := ⟨rfl, rfl⟩

/-! ## The switch core -/

section Switch

variable {s : SwitchSt}

theorem SwitchSt.Sized.ite {q : Prop} [Decidable q] {t e : SwitchSt} (ht : t.Sized) (he : e.Sized) : (if q then t else e).Sized := by
  split
  · exact ht
  · exact he

theorem SwitchSt.Sized.fresh : SwitchSt.fresh.Sized :=
  ⟨rfl, fun _ hq => List.eq_of_mem_replicate hq ▸ rfl, rfl, rfl, rfl⟩

theorem SwitchSt.Sized.modQueue {p q : Nat} {f : List Nat → List Nat} (h : s.Sized) : (s.modQueue p q f).Sized := by
  obtain ⟨hports, hqueues, hrest⟩ := h
  exact ⟨(updAt_length ..).trans hports, forall_mem_updAt (P := fun qs : List (List Nat) => qs.length = 8) hqueues
    fun _ hx => (updAt_length ..).trans hx, hrest⟩

theorem SwitchSt.Sized.modStats {p : Nat} {f : PortStats → PortStats} (h : s.Sized) : (s.modStats p f).Sized := by
  obtain ⟨hports, hqueues, hlinks, hstats, hhead⟩ := h
  exact ⟨hports, hqueues, hlinks, (updAt_length ..).trans hstats, hhead⟩

theorem SwitchSt.Sized.setLinks {p : Nat} {st : LinkSt} (h : s.Sized) : ({ s with links := setAt s.links p st } : SwitchSt).Sized := by
  obtain ⟨hports, hqueues, hlinks, hrest⟩ := h
  exact ⟨hports, hqueues, (setAt_length ..).trans hlinks, hrest⟩

theorem SwitchSt.Sized.setTxHead {p n : Nat} (h : s.Sized) : ({ s with txHead := setAt s.txHead p n } : SwitchSt).Sized := by
  obtain ⟨hports, hqueues, hlinks, hstats, hhead⟩ := h
  exact ⟨hports, hqueues, hlinks, hstats, (setAt_length ..).trans hhead⟩

/-- The queues of a port changed one by one. -/
theorem SwitchSt.Sized.mapQueues {p : Nat} {f : List Nat → List Nat} (h : s.Sized) :
    ({ s with queues := updAt s.queues p fun qs => qs.map f } : SwitchSt).Sized := by
  obtain ⟨hports, hqueues, hrest⟩ := h
  exact ⟨(updAt_length ..).trans hports, forall_mem_updAt (P := fun qs : List (List Nat) => qs.length = 8) hqueues
    fun _ hx => (List.length_map ..).trans hx, hrest⟩

end Switch

/-! ## Lanes -/

section Lanes

variable {x : LaneSt}

theorem LaneSt.Sized.ite {q : Prop} [Decidable q] {t e : LaneSt} (ht : t.Sized) (he : e.Sized) : (if q then t else e).Sized := by
  split
  · exact ht
  · exact he

theorem LaneSt.Sized.off : LaneSt.off.Sized :=
  ⟨rfl, fun _ hp => List.eq_of_mem_replicate hp ▸ ⟨rfl, rfl⟩, rfl, rfl, SwitchSt.Sized.fresh⟩

theorem LaneSt.Sized.sw (h : x.Sized) : x.sw.Sized := by
  obtain ⟨-, -, -, -, hsw⟩ := h
  exact hsw

theorem LaneSt.Sized.pair {i : Nat} (h : x.Sized) : (x.pair i).Sized := by
  obtain ⟨-, hpairs, -⟩ := h
  exact getD_of_forall (P := PairSt.Sized) hpairs PairSt.Sized.fresh i

theorem LaneSt.Sized.modSw {f : SwitchSt → SwitchSt} (h : x.Sized) (hf : ∀ s : SwitchSt, s.Sized → (f s).Sized := by exact fun _ hs => hs) :
    (x.modSw f).Sized := by
  obtain ⟨hnum, hpairs, hcan, hfronts, hsw⟩ := h
  exact ⟨hnum, hpairs, hcan, hfronts, hf _ hsw⟩

theorem LaneSt.Sized.modRing {f : RingNode → RingNode} (h : x.Sized) : (x.modRing f).Sized := h

theorem LaneSt.Sized.modCtl {i : Nat} {f : CanCtl → CanCtl} (h : x.Sized) : (x.modCtl i f).Sized := by
  obtain ⟨hnum, hpairs, hcan, hrest⟩ := h
  exact ⟨hnum, hpairs, (updAt_length ..).trans hcan, hrest⟩

theorem LaneSt.Sized.modFront {i : Nat} {f : FrontEnd → FrontEnd} (h : x.Sized) : (x.modFront i f).Sized := by
  obtain ⟨hnum, hpairs, hcan, hfronts, hsw⟩ := h
  exact ⟨hnum, hpairs, hcan, (updAt_length ..).trans hfronts, hsw⟩

theorem LaneSt.Sized.modPair {i : Nat} {f : PairSt → PairSt} (h : x.Sized) (hf : ∀ p : PairSt, p.Sized → (f p).Sized := by exact fun _ hp => hp) :
    (x.modPair i f).Sized := by
  obtain ⟨hnum, hpairs, hrest⟩ := h
  exact ⟨(updAt_length ..).trans hnum, forall_mem_updAt (P := PairSt.Sized) hpairs hf, hrest⟩

/-- Every pair changed. -/
theorem LaneSt.Sized.mapPairs {f : PairSt → PairSt} (h : x.Sized) (hf : ∀ p : PairSt, p.Sized → (f p).Sized := by exact fun _ hp => hp) :
    ({ x with pairs := x.pairs.map f } : LaneSt).Sized := by
  obtain ⟨hnum, hpairs, hrest⟩ := h
  exact ⟨(List.length_map ..).trans hnum, forall_mem_map_of (P := PairSt.Sized) (Q := PairSt.Sized) hpairs hf, hrest⟩

theorem LaneSt.Sized.mapIdxPairs {f : Nat → PairSt → PairSt} (h : x.Sized)
    (hf : ∀ i (p : PairSt), p.Sized → (f i p).Sized := by exact fun _ _ hp => hp) :
    ({ x with pairs := mapIdxFrom f 0 x.pairs } : LaneSt).Sized := by
  obtain ⟨hnum, hpairs, hrest⟩ := h
  exact ⟨(mapIdxFrom_length ..).trans hnum, forall_mem_mapIdxFrom (P := PairSt.Sized) (Q := PairSt.Sized) hpairs hf, hrest⟩

theorem LaneSt.Sized.mapCan {f : CanCtl → CanCtl} (h : x.Sized) : ({ x with can := x.can.map f } : LaneSt).Sized := by
  obtain ⟨hnum, hpairs, hcan, hrest⟩ := h
  exact ⟨hnum, hpairs, (List.length_map ..).trans hcan, hrest⟩

theorem LaneSt.Sized.mapIdxFronts {f : Nat → FrontEnd → FrontEnd} (h : x.Sized) :
    ({ x with fronts := mapIdxFrom f 0 x.fronts } : LaneSt).Sized := by
  obtain ⟨hnum, hpairs, hcan, hfronts, hsw⟩ := h
  exact ⟨hnum, hpairs, hcan, (mapIdxFrom_length ..).trans hfronts, hsw⟩

end Lanes

/-! ## Dies -/

section Dies

variable {d : DieSt}

theorem DieSt.Sized.ite {q : Prop} [Decidable q] {t e : DieSt} (ht : t.Sized) (he : e.Sized) : (if q then t else e).Sized := by
  split
  · exact ht
  · exact he

/-- The die of an answer given as a pair. -/
theorem DieSt.Sized.of_snd {α : Type} {r : α × DieSt} {a : α} (hr : r = (a, d)) (h : r.2.Sized) : d.Sized := by
  rwa [hr] at h

theorem DieSt.Sized.modChan {i : Nat} {f : ChanSt → ChanSt} (h : d.Sized) : (d.modChan i f).Sized := (updAt_length ..).trans h

theorem DieSt.Sized.mapChans {f : ChanSt → ChanSt} (h : d.Sized) : ({ d with chans := d.chans.map f } : DieSt).Sized :=
  (List.length_map ..).trans h

theorem DieSt.Sized.mapIdxChans {f : Nat → ChanSt → ChanSt} (h : d.Sized) : ({ d with chans := mapIdxFrom f 0 d.chans } : DieSt).Sized :=
  (mapIdxFrom_length ..).trans h

theorem DieSt.Sized.delivered : DieSt.delivered.Sized := rfl

end Dies

/-! ## The block -/

section Blocks

variable {b : Block}

theorem Block.Sized.ite {q : Prop} [Decidable q] {t e : Block} (ht : t.Sized) (he : e.Sized) : (if q then t else e).Sized := by
  split
  · exact ht
  · exact he

/-- A step made only under a condition. -/
theorem Block.Sized.onlyIf {q : Prop} [Decidable q] {t : Block} (h : b.Sized) (ht : b.Sized → t.Sized) : (if q then t else b).Sized :=
  .ite (ht h) h

theorem Block.Sized.iteFst {α : Type} {q : Prop} [Decidable q] {t e : Block × α} (ht : t.1.Sized) (he : e.1.Sized) :
    (if q then t else e).1.Sized := by
  split
  · exact ht
  · exact he

theorem Block.Sized.iteSnd {α : Type} {q : Prop} [Decidable q] {t e : α × Block} (ht : t.2.Sized) (he : e.2.Sized) :
    (if q then t else e).2.Sized := by
  split
  · exact ht
  · exact he

/-- The block of an answer given as a pair. -/
theorem Block.Sized.of_fst {α : Type} {r : Block × α} {a : α} (hr : r = (b, a)) (h : r.1.Sized) : b.Sized := by
  rwa [hr] at h

theorem Block.Sized.of_snd {α : Type} {r : α × Block} {a : α} (hr : r = (a, b)) (h : r.2.Sized) : b.Sized := by
  rwa [hr] at h

theorem Block.Sized.lane {l : Lane} (h : b.Sized) : (b.lane l).Sized := by
  obtain ⟨-, -, -, -, -, -, -, -, -, -, -, -, -, hlanes⟩ := h
  exact hlanes l

/-- The block with other lanes. -/
theorem Block.Sized.withLanes {ls : PerLane LaneSt} (h : b.Sized) (hls : ∀ l, (ls.get l).Sized) : ({ b with lanes := ls } : Block).Sized := by
  obtain ⟨hdies, hchans, hlinks, hslices, hviol, hrates, hparts, hinputs, hcan, hslots, hgens, hctxs, hqueues, -⟩ := h
  exact ⟨hdies, hchans, hlinks, hslices, hviol, hrates, hparts, hinputs, hcan, hslots, hgens, hctxs, hqueues, hls⟩

theorem Block.Sized.modLane {l : Lane} {f : LaneSt → LaneSt} (h : b.Sized) (hf : ∀ x : LaneSt, x.Sized → (f x).Sized := by exact fun _ hx => hx) :
    (b.modLane l f).Sized := by
  refine h.withLanes fun k => ?_
  by_cases hk : k = l
  · subst hk
    rw [PerLane.get_upd]
    exact hf _ h.lane
  · obtain rfl := Lane.eq_other hk
    rw [PerLane.get_upd_other]
    exact h.lane

theorem Block.Sized.modLanes {f : LaneSt → LaneSt} (h : b.Sized) (hf : ∀ x : LaneSt, x.Sized → (f x).Sized := by exact fun _ hx => hx) :
    (b.modLanes f).Sized := by
  refine h.withLanes fun k => ?_
  rw [PerLane.get_map]
  exact hf _ h.lane

theorem Block.Sized.modMod {f : ModuleSt → ModuleSt} (h : b.Sized) : (b.modMod f).Sized := h

theorem Block.Sized.modBridge {f : BridgeSt → BridgeSt} (h : b.Sized) : (b.modBridge f).Sized := h

theorem Block.Sized.modNw {f : NwSt → NwSt} (h : b.Sized) : (b.modNw f).Sized := h

theorem Block.Sized.modImg {f : ImgSt → ImgSt} (h : b.Sized) : (b.modImg f).Sized := h

theorem Block.Sized.modNet {f : NetTables → NetTables} (h : b.Sized) : (b.modNet f).Sized := h

theorem Block.Sized.die {i : Nat} (h : b.Sized) : (b.die i).Sized := by
  obtain ⟨-, hchans, -⟩ := h
  exact getD_of_forall (P := DieSt.Sized) hchans DieSt.Sized.delivered i

theorem Block.Sized.modDie {i : Nat} {f : DieSt → DieSt} (h : b.Sized) (hf : ∀ d : DieSt, d.Sized → (f d).Sized := by exact fun _ hd => hd) :
    (b.modDie i f).Sized := by
  obtain ⟨hdies, hchans, hrest⟩ := h
  exact ⟨(updAt_length ..).trans hdies, forall_mem_updAt (P := DieSt.Sized) hchans hf, hrest⟩

theorem Block.Sized.mapDies {f : DieSt → DieSt} (h : b.Sized) (hf : ∀ d : DieSt, d.Sized → (f d).Sized := by exact fun _ hd => hd) :
    ({ b with dies := b.dies.map f } : Block).Sized := by
  obtain ⟨hdies, hchans, hrest⟩ := h
  exact ⟨(List.length_map ..).trans hdies, forall_mem_map_of (P := DieSt.Sized) (Q := DieSt.Sized) hchans hf, hrest⟩

theorem Block.Sized.modChan {c : Nat} {f : ChanSt → ChanSt} (h : b.Sized) : (b.modChan c f).Sized := h.modDie fun _ hd => hd.modChan

theorem Block.Sized.modLink {i : Nat} {f : DieLink → DieLink} (h : b.Sized) : (b.modLink i f).Sized := by
  obtain ⟨hdies, hchans, hlinks, hrest⟩ := h
  exact ⟨hdies, hchans, (updAt_length ..).trans hlinks, hrest⟩

theorem Block.Sized.mapLinks {f : DieLink → DieLink} (h : b.Sized) : ({ b with links := b.links.map f } : Block).Sized := by
  obtain ⟨hdies, hchans, hlinks, hrest⟩ := h
  exact ⟨hdies, hchans, (List.length_map ..).trans hlinks, hrest⟩

/-- The partitions changed, their tables of their size. -/
theorem Block.Sized.modPart {f : PartSt → PartSt} (h : b.Sized) (hf : (f b.part).slices.length = b.part.slices.length ∧
    (f b.part).viol.length = b.part.viol.length ∧ (f b.part).rates.length = b.part.rates.length := by exact ⟨rfl, rfl, rfl⟩) :
    (b.modPart f).Sized := by
  obtain ⟨hdies, hchans, hlinks, hslices, hviol, hrates, hrest⟩ := h
  obtain ⟨hs, hv, hr⟩ := hf
  exact ⟨hdies, hchans, hlinks, hs.trans hslices, hv.trans hviol, hr.trans hrates, hrest⟩

theorem Block.Sized.modSlice {p : Nat} {f : Slice → Slice} (h : b.Sized) : (b.modSlice p f).Sized :=
  h.modPart (f := fun x => { x with slices := updAt x.slices p f }) ⟨updAt_length .., rfl, rfl⟩

theorem Block.Sized.modViol {p : Nat} {f : Violations → Violations} (h : b.Sized) : (b.modViol p f).Sized :=
  h.modPart (f := fun x => { x with viol := updAt x.viol p f }) ⟨rfl, updAt_length .., rfl⟩

theorem Block.Sized.modRates {p : Nat} {f : Rates → Rates} (h : b.Sized) : (b.modRates p f).Sized :=
  h.modPart (f := fun x => { x with rates := updAt x.rates p f }) ⟨rfl, rfl, updAt_length ..⟩

theorem Block.Sized.modMail {f : MailSt → MailSt} (h : b.Sized) (hf : (f b.mail).parts.length = b.mail.parts.length := by exact rfl) :
    (b.modMail f).Sized := by
  obtain ⟨hdies, hchans, hlinks, hslices, hviol, hrates, hparts, hrest⟩ := h
  exact ⟨hdies, hchans, hlinks, hslices, hviol, hrates, hf.trans hparts, hrest⟩

theorem Block.Sized.modInput {i : Nat} {f : InputSt → InputSt} (h : b.Sized) : (b.modInput i f).Sized := by
  obtain ⟨hdies, hchans, hlinks, hslices, hviol, hrates, hparts, hinputs, hrest⟩ := h
  exact ⟨hdies, hchans, hlinks, hslices, hviol, hrates, hparts, (updAt_length ..).trans hinputs, hrest⟩

theorem Block.Sized.mapInputs {f : InputSt → InputSt} (h : b.Sized) : ({ b with inputs := b.inputs.map f } : Block).Sized := by
  obtain ⟨hdies, hchans, hlinks, hslices, hviol, hrates, hparts, hinputs, hrest⟩ := h
  exact ⟨hdies, hchans, hlinks, hslices, hviol, hrates, hparts, (List.length_map ..).trans hinputs, hrest⟩

theorem Block.Sized.mapIdxInputs {f : Nat → InputSt → InputSt} (h : b.Sized) :
    ({ b with inputs := mapIdxFrom f 0 b.inputs } : Block).Sized := by
  obtain ⟨hdies, hchans, hlinks, hslices, hviol, hrates, hparts, hinputs, hrest⟩ := h
  exact ⟨hdies, hchans, hlinks, hslices, hviol, hrates, hparts, (mapIdxFrom_length ..).trans hinputs, hrest⟩

theorem Block.Sized.mapCan {f : CanBus → CanBus} (h : b.Sized) : ({ b with can := b.can.map f } : Block).Sized := by
  obtain ⟨hdies, hchans, hlinks, hslices, hviol, hrates, hparts, hinputs, hcan, hrest⟩ := h
  exact ⟨hdies, hchans, hlinks, hslices, hviol, hrates, hparts, hinputs, (List.length_map ..).trans hcan, hrest⟩

theorem Block.Sized.setParams {ps : List (Nat × Nat)} (h : b.Sized) : ({ b with params := ps } : Block).Sized := h

theorem Block.Sized.slices (h : b.Sized) : b.part.slices.length = 32 := by
  obtain ⟨-, -, -, hslices, -⟩ := h
  exact hslices

theorem Block.Sized.slots (h : b.Sized) : b.keys.slots.length = 256 := by
  obtain ⟨-, -, -, -, -, -, -, -, -, hslots, -⟩ := h
  exact hslots

theorem Block.Sized.modBus {i : Nat} {f : CanBus → CanBus} (h : b.Sized) : (b.modBus i f).Sized := by
  obtain ⟨hdies, hchans, hlinks, hslices, hviol, hrates, hparts, hinputs, hcan, hrest⟩ := h
  exact ⟨hdies, hchans, hlinks, hslices, hviol, hrates, hparts, hinputs, (updAt_length ..).trans hcan, hrest⟩

theorem Block.Sized.modKeys {f : KeySt → KeySt} (h : b.Sized) (hf : (f b.keys).slots.length = b.keys.slots.length ∧
    (f b.keys).gens.length = b.keys.gens.length := by exact ⟨rfl, rfl⟩) : (b.modKeys f).Sized := by
  obtain ⟨hdies, hchans, hlinks, hslices, hviol, hrates, hparts, hinputs, hcan, hslots, hgens, hrest⟩ := h
  obtain ⟨hs, hg⟩ := hf
  exact ⟨hdies, hchans, hlinks, hslices, hviol, hrates, hparts, hinputs, hcan, hs.trans hslots, hg.trans hgens, hrest⟩

theorem Block.Sized.modSlot {i : Nat} {f : KeySlot → KeySlot} (h : b.Sized) : (b.modSlot i f).Sized := h.modKeys ⟨updAt_length .., rfl⟩

/-- The cipher engine changed. -/
theorem Block.Sized.withCipher {c : CipherSt} (h : b.Sized) (hc : c.ctxs.length = b.cipher.ctxs.length := by exact rfl) :
    ({ b with cipher := c } : Block).Sized := by
  obtain ⟨hdies, hchans, hlinks, hslices, hviol, hrates, hparts, hinputs, hcan, hslots, hgens, hctxs, hrest⟩ := h
  exact ⟨hdies, hchans, hlinks, hslices, hviol, hrates, hparts, hinputs, hcan, hslots, hgens, hc.trans hctxs, hrest⟩

theorem Block.Sized.modCtx {i : Nat} {f : CipherCtx → CipherCtx} (h : b.Sized) : (b.modCtx i f).Sized := h.withCipher (updAt_length ..)

theorem Block.Sized.modEv {f : EventSt → EventSt} (h : b.Sized) (hf : (f b.ev).queues.length = b.ev.queues.length := by exact rfl) :
    (b.modEv f).Sized := by
  obtain ⟨hdies, hchans, hlinks, hslices, hviol, hrates, hparts, hinputs, hcan, hslots, hgens, hctxs, hqueues, hlanes⟩ := h
  exact ⟨hdies, hchans, hlinks, hslices, hviol, hrates, hparts, hinputs, hcan, hslots, hgens, hctxs, hf.trans hqueues, hlanes⟩

end Blocks

end Sys2Proof
end

section
/-! PROOF. The sizes of tables: the module's state, the answer of a command and the steps of a core pair. Part of O5. -/

namespace Sys2Proof.Machine

/-- The module's tables have their sizes. -/
def State.Sized (s : State) : Prop := s.b.Sized

/-- What a command answers has tables of their sizes. -/
def OutSized (o : Host.Outcome State Fault Refusal) : Prop := ∀ t, o = .next t → t.Sized

section States

variable {s : State}

theorem State.Sized.block (h : s.Sized) : s.b.Sized := h

theorem State.Sized.ite {q : Prop} [Decidable q] {t e : State} (ht : t.Sized) (he : e.Sized) : (if q then t else e).Sized := by
  split
  · exact ht
  · exact he

theorem State.Sized.withBlock {b : Block} (h : b.Sized) : (s.withBlock b).Sized := h

theorem State.Sized.withMem {m : MemSt} (h : s.Sized) : (s.withMem m).Sized := h

theorem State.Sized.withOtp {o : Otp} (h : s.Sized) : (s.withOtp o).Sized := h

theorem OutSized.next (h : s.Sized) : OutSized (.next s) := by
  rintro t ⟨⟩
  exact h

theorem OutSized.refused {r : Refusal} : OutSized (.refused r) := by
  rintro t ⟨⟩

theorem OutSized.ite {q : Prop} [Decidable q] {t e : Host.Outcome State Fault Refusal} (ht : OutSized t) (he : OutSized e) :
    OutSized (if q then t else e) := by
  split
  · exact ht
  · exact he

theorem OutSized.onBlock {f : Block → Block} (h : s.Sized) (hf : ∀ b : Block, b.Sized → (f b).Sized := by exact fun _ hb => hb) :
    OutSized (onBlock f s) := .next (hf _ h)

end States

end Sys2Proof.Machine

namespace Sys2Proof

/-! ## Core pairs -/

theorem PairSt.Sized.main {p : PairSt} (h : p.Sized) : p.main.Sized := h.1

theorem PairSt.Sized.chk {p : PairSt} (h : p.Sized) : p.chk.Sized := h.2

theorem CoreSt.Sized.step {c : CoreSt} {t : Token} (h : c.Sized) : (c.step t).Sized := by
  unfold CoreSt.step
  split
  · exact h
  · change (if _ then _ else _ : List Nat).length = 32
    split
    · exact (setAt_length ..).trans h
    · exact h

theorem PairSt.Sized.takes {p : PairSt} (h : p.Sized) : p.takes.1.Sized := by
  obtain ⟨hmain, hchk⟩ := h
  unfold PairSt.takes
  split
  · exact ⟨hmain, hchk⟩
  · exact ⟨hmain, hchk.step⟩

theorem PairSt.Sized.drain {p : PairSt} (h : p.Sized) : p.drain.1.Sized :=
  foldl_keeps (fun x : PairSt × Option Nat => x.1.Sized) h fun _ _ hx => hx.takes

theorem PairSt.Sized.retire {p : PairSt} {t : Token} (h : p.Sized) : (p.retire t).1.Sized := by
  obtain ⟨hmain, hchk⟩ : (if 2 ≤ p.fifo.length then p.takes else (p, none)).1.Sized := by
    split
    · exact h.takes
    · exact h
  exact ⟨hmain.step, hchk⟩

theorem PairSt.Sized.alone {p : PairSt} {t : Token} (h : p.Sized) : (p.alone t).Sized := by
  obtain ⟨hmain, hchk⟩ := h
  exact ⟨hmain.step, hchk⟩

theorem PairSt.Sized.sent {p : PairSt} (h : p.Sized) : p.sent.Sized := by
  obtain ⟨hmain, -⟩ := h
  exact ⟨hmain, hmain⟩

theorem PairSt.Sized.both {p : PairSt} {f : CoreSt → CoreSt} (h : p.Sized) (hf : ∀ c : CoreSt, c.Sized → (f c).Sized) : (p.both f).Sized := by
  obtain ⟨hmain, hchk⟩ := h
  exact ⟨hf _ hmain, hf _ hchk⟩

theorem LaneSt.Sized.modLockPair {x : LaneSt} {k : Nat} {f : PairSt → PairSt} (h : x.Sized)
    (hf : k ≠ 6 → ∀ p : PairSt, p.Sized → (f p).Sized := by exact fun _ _ hp => hp) : (x.modLockPair k f).Sized := by
  unfold LaneSt.modLockPair
  split
  · exact h
  · exact h.modPair (hf ‹_›)

theorem LaneSt.Sized.lockPair {x : LaneSt} {k : Nat} (h : x.Sized) (hk : k ≠ 6) : (x.lockPair k).Sized := by
  rw [LaneSt.lockPair, if_neg hk]
  exact h.pair

end Sys2Proof
end

section
/-! PROOF. The sizes of tables: what the channels and their dies keep. One lemma says it of each operation, put
together from those of the operations it is made of. Part of O5. -/

namespace Sys2Proof

open Machine

section Keeps

variable {b : Block} {l : Lane} {s : State} {r : Req} {m : MemSt}

/-! ## Events and the bridge link -/

theorem Block.Sized.toPeer {it : Item} (h : b.Sized) : (b.toPeer l it).Sized := .ite (.modLane h) h

theorem Block.Sized.takesIn {body : ItemBody} (h : b.Sized) : (b.takesIn l body).Sized := .toPeer (.modLane h)

theorem Block.Sized.raise {ev cause subject : Nat} {detail : Int} (h : b.Sized) : (b.raise l ev cause subject detail).Sized :=
  .ite h (.ite (.modLane h) h)

theorem Block.Sized.raiseAll {ev cause subject : Nat} {detail : Int} (h : b.Sized) : (b.raiseAll ev cause subject detail).Sized :=
  .raise (.raise h)

theorem Block.Sized.raiseLimited {key : Nat} {ev cause subject : Nat} {detail : Int} (h : b.Sized) :
    (b.raiseLimited key l ev cause subject detail).Sized := .ite (.modEv (.raise h)) h

theorem Block.Sized.diverge {source prid : Nat} (h : b.Sized) : (b.diverge source prid).Sized := .modMod (.raiseAll h)

theorem Block.Sized.checkSent {stream num prid : Nat} {content : List Byte} (h : b.Sized) :
    (b.checkSent l stream num prid content).Sized := by
  unfold Block.checkSent
  dsimp only
  split
  · exact .ite (.toPeer (.modLane h)) (.diverge (.toPeer (.modLane h)))
  · exact .toPeer (.modLane h)

theorem Block.Sized.drawNat (h : b.Sized) : b.drawNat.2.Sized := h

/-! ## Requests and responses -/

theorem Block.Sized.violate {p cause addr : Nat} (h : b.Sized) : (b.violate p cause addr).Sized := .raiseAll (.modViol h)

theorem Block.Sized.gateViolation {p cause addr : Nat} (h : b.Sized) : (b.gateViolation l p cause addr).Sized :=
  .ite (.modPart (.violate h)) (.modPart h)

theorem Block.Sized.remember {a : Response} (h : b.Sized) : (b.remember a).Sized := .modMail h

theorem Block.Sized.post {a : Response} (h : b.Sized) : (b.post a).Sized := .onlyIf (.modMail h) fun hb => .remember hb

theorem Block.Sized.finish {op : Nat} {st : Status} {payload : List Byte} {eff : Effect} (h : b.Sized) :
    (b.finish r op st payload eff).Sized := .post h

theorem Block.Sized.reply {op : Nat} {st : Status} (h : b.Sized) : (b.reply r op st).Sized := .finish h

theorem Block.Sized.ok {op : Nat} {payload : List Byte} (h : b.Sized) : (b.ok r op payload).Sized := .finish h

theorem Block.Sized.hold {op : Nat} {k : PendKind} {now : Bool} (h : b.Sized) : (b.hold r op k now).Sized :=
  .onlyIf (.modMail h) fun hb => .post hb

theorem Block.Sized.keepWaiting {op : Nat} (h : b.Sized) : (b.keepWaiting op r).Sized := .modMail h

theorem Block.Sized.finishWhere {sel : Pend → Bool} {st : Status} {payload : List Byte} {eff : Effect} (h : b.Sized) :
    (b.finishWhere sel st payload eff).Sized := foldl_keeps Block.Sized (.modMail h) fun _ _ hb => .finish hb

theorem Block.Sized.setChallenge {p : Path} {c : Option DWord} (h : b.Sized) : (b.setChallenge p c).Sized := by
  unfold Block.setChallenge
  split
  · exact .modMail h
  · exact .modMail h
  · exact h

theorem Block.Sized.newChallenge {p : Path} {c : DWord} (h : b.Sized) : (b.newChallenge p c).Sized := .setChallenge (.modMail h)

theorem Block.Sized.countResized {p : Nat} (h : b.Sized) : (b.countResized p).Sized := .modPart h

theorem Block.Sized.nameViolation {addr : Nat} (h : b.Sized) : (b.nameViolation r addr).Sized := by
  unfold Block.nameViolation
  split
  · exact .violate h
  · exact .violate h
  · exact h

theorem Block.Sized.serve {op : Nat} {run : Block → Block} (h : b.Sized) (hrun : ∀ (b' : Block), b'.Sized → (run b').Sized) :
    (b.serve op r run).Sized := by
  unfold Block.serve
  refine .ite h (.ite (.keepWaiting h) (.ite (.reply h) (.ite (.reply h) (.ite (.reply h) (.ite (.reply (.countResized h)) ?_)))))
  split
  · dsimp only
    split
    · exact .nameViolation (.reply h)
    · exact .reply h
  · exact .ite (.reply (.setChallenge h)) (.ite (.reply h) (.ite (.reply (.setChallenge h)) (hrun _ (.ite (.setChallenge h) h))))

/-! ## Reports of a die -/

theorem DieSt.Sized.report {d : DieSt} {ev cause subject : Nat} {detail : Int} (h : d.Sized) :
    (d.report ev cause subject detail).Sized := h

theorem Block.Sized.chanReport {c cause : Nat} {detail : Int} (h : b.Sized) : (b.chanReport c cause detail).Sized :=
  .ite (.modDie h) h

theorem Block.Sized.flagTo {c k : Nat} {v : Bool} (h : b.Sized) : (b.flagTo c k v).Sized :=
  .onlyIf (.modChan h) fun hb => .chanReport hb

theorem Block.Sized.reportPassed {c cause old new : Nat} {ths : List Nat} (h : b.Sized) :
    (b.reportPassed c cause old new ths).Sized := foldl_keeps Block.Sized h fun _ _ hb => .chanReport hb

theorem DieSt.Sized.writeStore {d : DieSt} {es : List FsEntry} (h : d.Sized) : (d.writeStore es).Sized := h

theorem DieSt.Sized.writeIso {d : DieSt} {policy : Fin 3} {opened : Bool} (h : d.Sized) : (d.writeIso policy opened).Sized :=
  .ite h h

/-! ## Load channels -/

theorem Block.Sized.turnOn {c : Nat} {ph : Phase} (h : b.Sized) : (b.turnOn c ph).Sized := .modChan h

theorem Block.Sized.turnOff {c : Nat} {fast : Bool} (h : b.Sized) : (b.turnOff c fast).Sized := .modChan h

theorem Block.Sized.setDuty {c : Nat} (h : b.Sized) : (b.setDuty c).Sized := .modChan h

theorem Block.Sized.placeSlot {c freq : Nat} (h : b.Sized) : (b.placeSlot c freq).Sized := .modChan (.modDie h)

theorem Block.Sized.startPwm {c freq duty : Nat} (h : b.Sized) : (b.startPwm c freq duty).Sized :=
  .setDuty (.placeSlot (.modChan (.ite (.turnOn h) (.modChan h))))

theorem Block.Sized.goOn {c : Nat} (h : b.Sized) : (b.goOn c).Sized := by
  unfold Block.goOn
  refine .ite h (.ite (.modChan h) ?_)
  split
  · exact h
  · exact .turnOn h
  · exact .startPwm h

theorem Block.Sized.recallStored {c : Nat} (h : b.Sized) : (b.recallStored c).Sized :=
  .ite h (.ite (.modChan h) (.ite (.modChan h) h))

theorem Block.Sized.settle {c : Nat} (h : b.Sized) : (b.settle c).Sized := by
  unfold Block.settle
  refine .ite h ?_
  dsimp only
  split
  · exact .goOn (.modChan (.recallStored h))
  · exact .goOn (.modChan (.recallStored h))
  · exact .ite (.recallStored h) (.ite (.modChan (.recallStored h)) (.goOn (.recallStored h)))

theorem Block.Sized.cmdOff {c : Nat} (h : b.Sized) : (b.cmdOff c).1.Sized := .turnOff (.modChan h)

theorem Block.Sized.nextPeriod {c : Nat} {p : Nat × Nat} (h : b.Sized) : (b.nextPeriod c p).1.Sized := .iteFst h (.modChan h)

theorem Block.Sized.cmdOn {c : Nat} {pwm : Option (Nat × Nat)} (h : b.Sized) : (b.cmdOn c pwm).1.Sized := by
  unfold Block.cmdOn
  refine .iteFst h (.iteFst h (.iteFst h (.iteFst (.modChan h) (.iteFst (.modChan h) (.iteFst (.modChan h) ?_)))))
  split
  · exact .modChan h
  · exact .modChan h
  · exact .modChan h
  · exact .nextPeriod h
  · exact .modChan h
  · exact .modChan h
  · exact .startPwm h
  · exact .startPwm h
  · exact .modChan h
  · exact .modChan h
  · exact .nextPeriod h
  · exact .nextPeriod h
  · exact .goOn (.modChan h)

theorem Block.Sized.cmdPwm {c freq duty : Nat} (h : b.Sized) : (b.cmdPwm c freq duty).1.Sized :=
  .iteFst (.cmdOff h) (.iteFst (.cmdOn h) (.cmdOn h))

theorem Block.Sized.protOff {c code : Nat} {detail : Int} (h : b.Sized) : (b.protOff c code detail).Sized :=
  .ite (.chanReport (.turnOff (.modChan h))) (.ite (.chanReport (.turnOff (.modChan h))) (.chanReport (.turnOff (.modChan h))))

theorem Block.Sized.countSwitch {c : Nat} (h : b.Sized) : (b.countSwitch c).Sized := .reportPassed (.modChan h)

theorem Block.Sized.freewheel {c : Nat} {missing : Bool} (h : b.Sized) : (b.freewheel c missing).Sized :=
  .ite h (.onlyIf (.modChan h) fun hb => .chanReport hb)

theorem Block.Sized.unclamped {c : Nat} (h : b.Sized) : (b.unclamped c).Sized := .ite h (.freewheel (.modChan h))

theorem Block.Sized.countClamp {c energyUj : Nat} {start10 : Int} (h : b.Sized) : (b.countClamp c energyUj start10).Sized :=
  .onlyIf (.onlyIf (.reportPassed (.freewheel (.modChan h))) fun hb => .ite (.chanReport hb) (.chanReport hb)) fun hb =>
    .chanReport hb

theorem Block.Sized.turnOffEnds {c : Nat} (h : b.Sized) : (b.turnOffEnds c).Sized := by
  unfold Block.turnOffEnds
  dsimp only
  split
  · exact .settle (.countSwitch (.modChan h))
  · exact .settle (.countSwitch (.modChan h))
  · exact .ite (.countSwitch (.modChan h)) (.ite (.countSwitch (.modChan h)) (.countSwitch (.modChan h)))
  · exact h

theorem Block.Sized.isolate {d : Nat} (h : b.Sized) : (b.isolate d).Sized :=
  .ite h (.modDie (foldl_keeps Block.Sized h fun _ _ hb => .turnOff hb) fun _ hd => .writeIso hd)

theorem Block.Sized.feedStep {d i : Nat} (h : b.Sized) : (b.feedStep d i).Sized := by
  unfold Block.feedStep
  split
  · exact .modDie h
  · refine .modDie ?_
    split
    · exact .goOn h
    · exact .settle h

theorem Block.Sized.takeStored {c : Nat} (h : b.Sized) : (b.takeStored c).Sized := by
  unfold Block.takeStored
  dsimp only
  split
  · exact .modChan (.cmdOff h)
  · split
    · exact .settle (.modChan (.modChan h))
    · exact .modChan (.modChan h)
    · exact .modChan (.modChan h)
    · exact .modChan (.modChan h)
    · exact .modChan (.modChan h)
  · exact h
  · split
    · exact .settle (.modChan (.modChan h))
    · exact .startPwm (.modChan h)
    · exact .startPwm (.modChan h)
    · exact .modChan (.modChan h)
    · exact .modChan (.modChan h)
    · exact .modChan (.modChan h)
    · exact .modChan (.modChan h)

theorem Block.Sized.takeAllStored {d : Nat} (h : b.Sized) : (b.takeAllStored d).Sized :=
  foldl_keeps Block.Sized h fun _ _ hb => .ite (.takeStored hb) hb

theorem DieSt.Sized.enableStored {d : DieSt} (h : d.Sized) : d.enableStored.Sized := .mapIdxChans h

theorem DieSt.Sized.prefer {d : DieSt} {p : Lane} (h : d.Sized) : (d.prefer p).Sized := .ite h (.report h)

theorem Block.Sized.carryOut {d : Nat} {f : DieFrame} (h : b.Sized) : (b.carryOut d f).1.Sized := by
  unfold Block.carryOut
  dsimp only
  split
  · exact .iteFst (.cmdOff h) (.cmdOn h)
  · exact .cmdPwm (.modChan h)
  · exact foldl_keeps (fun x : Block × List (Nat × Nat) => x.1.Sized) h fun _ _ hb => .iteFst (.cmdOn hb) (.cmdOff hb)
  · exact .modDie h
  · exact .modDie h fun _ hd => .prefer hd
  · exact .modChan h
  · refine .ite (.ite (.ite (.turnOff (.modChan h)) (.modChan h))
        (.ite (.modChan (.modDie h)) (.onlyIf (.modDie h) fun hb => .modChan hb))) (.ite ?_ h)
    split
    · exact .modDie h
    · exact .modDie h
    · exact .modDie h
    · exact .modDie h
    · exact h
  · exact .modDie h

theorem Block.Sized.actOn {d : Nat} {f : DieFrame} {copy : Fin 4} (h : b.Sized) : (b.actOn d f copy).Sized := .modDie (.carryOut h)

theorem Block.Sized.releaseUpTo {d dist : Nat} {copy : Fin 4} (h : b.Sized) : (b.releaseUpTo d dist copy).Sized :=
  foldl_keeps Block.Sized (.modDie h) fun _ _ hb => .actOn hb

theorem Block.Sized.dieDiverges {d : Nat} {f : DieFrame} (h : b.Sized) : (b.dieDiverges d f).Sized := .modDie h

theorem DieSt.Sized.feed {d : DieSt} {p : Lane} (h : d.Sized) : (d.feed p).Sized := h

theorem Block.Sized.lateCopy {d : Nat} {p : Lane} {f : DieFrame} (h : b.Sized) : (b.lateCopy d p f).Sized := by
  unfold Block.lateCopy
  dsimp only
  split
  · exact .modDie h
  · exact .ite h (.onlyIf (.dieDiverges h) fun hb => .modDie (.carryOut hb))

theorem Block.Sized.frameAt {d : Nat} {p : Lane} {k : SeqKind} {fr : LinkFrame} (h : b.Sized) : (b.frameAt d p k fr).Sized := by
  unfold Block.frameAt
  refine .ite h (.ite (.onlyIf (.modDie h) fun hb => .actOn (.modDie hb fun _ hd => .prefer hd))
      (.ite (.lateCopy (.modDie h)) (.ite (.actOn (.modDie ?_)) (.modDie (.onlyIf (.modDie h) fun hb => ?_)))))
  · split
    · exact .releaseUpTo (.modDie h)
    · exact .ite (.releaseUpTo (.modDie h)) (.dieDiverges (.releaseUpTo (.modDie h)))
  · split
    · exact .actOn (.modDie hb)
    · exact hb

theorem Block.Sized.sendFrame {d : Nat} {k : SeqKind} {idx : Nat} {arg : List Byte} (h : b.Sized) :
    (b.sendFrame d k idx arg).Sized := .ite h (foldl_keeps Block.Sized (.modLink h) fun _ _ hb => .checkSent hb)

theorem Block.Sized.sendConf {d : Nat} (h : b.Sized) : (b.sendConf d).Sized :=
  .sendFrame (foldl_keeps Block.Sized h fun _ _ hb => .sendFrame hb)

theorem Block.Sized.takeOver {d : Nat} (h : b.Sized) : (b.takeOver d).Sized :=
  .modDie (.sendConf (.sendFrame h)) fun _ hd => .mapIdxChans hd

theorem Block.Sized.sendRole (h : b.Sized) : (b.sendRole l).Sized := foldl_keeps Block.Sized h fun _ _ hb => .sendFrame hb

/-! ## Fuse estimate, ledger and snapshots -/

theorem Block.Sized.fuseChannel {c : Nat} {substrate10 : Int} {m : ChanMeas} {pc : Rat} (h : b.Sized) :
    (b.fuseChannel c substrate10 m pc).Sized :=
  .ite (.modChan h) (.onlyIf (.onlyIf (.onlyIf (.flagTo (.modChan (.flagTo (.modChan h)))) fun hb => .protOff hb) fun hb =>
    .isolate hb) fun hb => .settle (.modChan hb))

theorem DieSt.Sized.takeSnaps {d : DieSt} (h : d.Sized) : d.takeSnaps.Sized := .mapChans h

theorem Block.Sized.fuseUpdate {d : Nat} {substrate10 : Int} {ms : List ChanMeas} (h : b.Sized) :
    (b.fuseUpdate d substrate10 ms).Sized :=
  .ite h (.modDie (foldl_keeps Block.Sized (.modDie h) fun _ _ hb => .fuseChannel hb) fun _ hd => .takeSnaps hd)

theorem Block.Sized.ledgerChannel {c : Nat} (h : b.Sized) : (b.ledgerChannel c).Sized :=
  .ite (.modChan h) (.reportPassed (.modChan h))

/-! ## Commands of the dies -/

theorem Block.Sized.reportBadStores {d : Nat} (h : b.Sized) : (b.reportBadStores d).Sized :=
  .modDie (.onlyIf (.ite (foldl_keeps Block.Sized (.modDie h) fun _ _ hb => .modDie hb) h) fun hb => foldl_keeps Block.Sized
    (.modDie hb) fun _ _ hb2 => .modDie hb2)

theorem Block.Sized.logicUp {d : Nat} {src : Fin 3} (h : b.Sized) : (b.logicUp d src).Sized :=
  .modDie (.takeAllStored (.modDie (.modDie h fun _ _ => .enableStored .delivered) fun _ hd => .mapIdxChans hd)) fun _ hd =>
    .takeSnaps hd

theorem Block.Sized.watchdog {d : Nat} (h : b.Sized) : (b.watchdog d).Sized := .ite h (.takeAllStored (.modDie h))

theorem Block.Sized.crcFail {d : Nat} {p : Lane} (h : b.Sized) : (b.crcFail d p).Sized :=
  .ite h (.modDie h fun _ hd => .ite (.report hd) hd)

theorem Block.Sized.answerRead {d : Nat} {p : Lane} {item : Nat} (h : b.Sized) : (b.answerRead d p item).Sized := .ite h (.modDie h)

theorem Block.Sized.refreshAt {d : Nat} {p : Lane} {dev10 : Bool} (h : b.Sized) : (b.refreshAt d p dev10).Sized :=
  .ite h (.modDie h fun _ hd => .ite (.report hd) (.ite hd hd))

theorem Block.Sized.portBytes {d : Nat} {p : Lane} {dev10 : Bool} {l : List Byte} (h : b.Sized) :
    (b.portBytes d p dev10 l).Sized := by
  unfold Block.portBytes
  split
  · exact .crcFail h
  · exact .refreshAt h
  · exact .frameAt h
  · exact .answerRead h
  · exact h

theorem Block.Sized.portSeq {d : Nat} {p : Lane} {k : SeqKind} {f : LinkFrame} (h : b.Sized) : (b.portSeq d p k f).Sized :=
  .portBytes h

theorem Machine.OutSized.execPowerDieLogicUp {d : Die} (h : s.Sized) : OutSized (execPowerDieLogicUp d s) := by
  unfold Machine.execPowerDieLogicUp
  refine .onBlock h fun _ hb => ?_
  split
  · exact .ite hb (.logicUp hb)
  · exact hb

theorem Machine.OutSized.execRefresh {d : Die} {port : Lane} {dev10 : Bool} (h : s.Sized) : OutSized (execRefresh d port dev10 s) :=
  .onBlock h fun _ hb => .portBytes hb

theorem Machine.OutSized.execSet {d : Die} {port : Lane} {f : LinkFrame} (h : s.Sized) : OutSized (execSet d port f s) :=
  .onBlock h fun _ hb => .portSeq hb

theorem Machine.OutSized.execPwm {d : Die} {port : Lane} {f : LinkFrame} (h : s.Sized) : OutSized (execPwm d port f s) :=
  .onBlock h fun _ hb => .portSeq hb

theorem Machine.OutSized.execMulti {d : Die} {port : Lane} {f : LinkFrame} (h : s.Sized) : OutSized (execMulti d port f s) :=
  .onBlock h fun _ hb => .portSeq hb

theorem Machine.OutSized.execKeep {d : Die} {port : Lane} {f : LinkFrame} (h : s.Sized) : OutSized (execKeep d port f s) :=
  .onBlock h fun _ hb => .onlyIf (.portSeq hb) fun hb2 => .reportBadStores hb2

theorem Machine.OutSized.execRole {d : Die} {port : Lane} {f : LinkFrame} (h : s.Sized) : OutSized (execRole d port f s) :=
  .onBlock h fun _ hb => .portSeq hb

theorem Machine.OutSized.execUnlockFrame {d : Die} {port : Lane} {f : LinkFrame} (h : s.Sized) :
    OutSized (execUnlockFrame d port f s) := .onBlock h fun _ hb => .portSeq hb

theorem Machine.OutSized.execConf {d : Die} {port : Lane} {f : LinkFrame} (h : s.Sized) : OutSized (execConf d port f s) :=
  .onBlock h fun _ hb => .portSeq hb

theorem Machine.OutSized.execStore {d : Die} {port : Lane} {f : LinkFrame} (h : s.Sized) : OutSized (execStore d port f s) :=
  .onBlock h fun _ hb => .portSeq hb

theorem Machine.OutSized.execRead {d : Die} {port : Lane} {item : Nat} (h : s.Sized) : OutSized (execRead d port item s) :=
  .onBlock h fun _ hb => .portBytes hb

theorem Machine.OutSized.execPowerFrameCrcFail {d : Die} {port : Lane} (h : s.Sized) : OutSized (execPowerFrameCrcFail d port s) :=
  .onBlock h fun _ hb => .crcFail hb

theorem Machine.OutSized.execPairingWindowEnd {d : Die} {num : Half} (h : s.Sized) : OutSized (execPairingWindowEnd d num s) :=
  .onBlock h fun _ hb => .ite (.releaseUpTo hb) hb

theorem Machine.OutSized.execPreferredPortSilent {d : Die} (h : s.Sized) : OutSized (execPreferredPortSilent d s) :=
  .onBlock h fun _ hb => .ite (.modDie hb fun _ hd => .prefer hd) hb

theorem Machine.OutSized.execWatchdogExpiry {d : Die} (h : s.Sized) : OutSized (execWatchdogExpiry d s) :=
  .onBlock h fun _ hb => .watchdog hb

theorem Machine.OutSized.execSlopeEnd {c : Chan} (h : s.Sized) : OutSized (execSlopeEnd c s) := by
  unfold Machine.execSlopeEnd
  refine .onBlock h fun _ hb => ?_
  split
  · exact .modChan hb
  · exact .turnOffEnds (.unclamped hb)

theorem Machine.OutSized.execInrushWindowEnd {c : Chan} (h : s.Sized) : OutSized (execInrushWindowEnd c s) :=
  .onBlock h fun _ hb => .modChan hb

theorem Machine.OutSized.execInrushEarlyEnd {c : Chan} (h : s.Sized) : OutSized (execInrushEarlyEnd c s) :=
  .onBlock h fun _ hb => .modChan hb

theorem Machine.OutSized.execPwmEdge {c : Chan} {onEdge : Bool} (h : s.Sized) : OutSized (execPwmEdge c onEdge s) := by
  unfold Machine.execPwmEdge
  refine .onBlock h fun _ hb => ?_
  dsimp only
  split
  · refine .setDuty ?_
    split
    · exact .modChan (.ite (.modChan (.modChan hb)) (.placeSlot (.modChan hb)))
    · exact .modChan (.modChan hb)
  · refine .setDuty ?_
    split
    · exact .modChan (.ite (.modChan (.modChan hb)) (.placeSlot (.modChan hb)))
    · exact .modChan (.modChan hb)
  · exact .modChan hb
  · exact .modChan hb
  · exact hb

theorem Machine.OutSized.execClampEnd {c : Chan} {energyUj : Nat} {start10 : Int} (h : s.Sized) :
    OutSized (execClampEnd c energyUj start10 s) := .onBlock h fun _ hb => .ite (.turnOffEnds (.countClamp hb)) hb

theorem Machine.OutSized.execClampBinEnd {d : Die} (h : s.Sized) : OutSized (execClampBinEnd d s) :=
  .onBlock h fun _ hb => .modDie hb fun _ hd => .mapChans hd

theorem Machine.OutSized.execFastTrip {c : Chan} (h : s.Sized) : OutSized (execFastTrip c s) :=
  .onBlock h fun _ hb => .ite (.protOff hb) hb

theorem Machine.OutSized.execShortInLimit {c : Chan} (h : s.Sized) : OutSized (execShortInLimit c s) :=
  .onBlock h fun _ hb => .ite (.protOff hb) hb

theorem Machine.OutSized.execFuseModelUpdate {d : Die} {substrate10 : Int} {m : List ChanMeas} (h : s.Sized) :
    OutSized (execFuseModelUpdate d substrate10 m s) := .onBlock h fun _ hb => .fuseUpdate hb

theorem Machine.OutSized.execThermalShutdown {c : Chan} (h : s.Sized) : OutSized (execThermalShutdown c s) := by
  unfold Machine.execThermalShutdown
  refine .onBlock h fun _ hb => .ite ?_ hb
  split
  · exact .ite (.protOff hb) (.protOff hb)
  · exact .protOff hb

theorem Machine.OutSized.execTripHoldEnd {c : Chan} (h : s.Sized) : OutSized (execTripHoldEnd c s) :=
  .onBlock h fun _ hb => .ite (.settle (.modChan hb)) hb

theorem Machine.OutSized.execThermalHoldEnd {c : Chan} (h : s.Sized) : OutSized (execThermalHoldEnd c s) :=
  .onBlock h fun _ hb => .ite (.settle (.modChan hb)) hb

theorem Machine.OutSized.execRetryWindowEnd {c : Chan} (h : s.Sized) : OutSized (execRetryWindowEnd c s) :=
  .onBlock h fun _ hb => .ite hb (.modChan hb)

theorem Machine.OutSized.execOpenLoadOnCheck {c : Chan} {f : Finding} (h : s.Sized) : OutSized (execOpenLoadOnCheck c f s) :=
  .onBlock h fun _ hb => .ite (.flagTo hb) hb

theorem Machine.OutSized.execOffStateCheck {c : Chan} {open' short : Finding} (h : s.Sized) :
    OutSized (execOffStateCheck c open' short s) :=
  .onBlock h fun _ hb => .ite (.ite (.ite (.modChan hb) (.flagTo (.modChan hb)))
    (.flagTo (.ite (.modChan hb) (.flagTo (.modChan hb))))) hb

theorem Machine.OutSized.execStuckOnCheck {c : Chan} {f : Finding} (h : s.Sized) : OutSized (execStuckOnCheck c f s) :=
  .onBlock h fun _ hb => .ite (.ite (.onlyIf (.flagTo hb) fun hb2 => .isolate hb2) (.onlyIf (.flagTo hb) fun hb2 => .settle hb2)) hb

theorem Machine.OutSized.execNoOnCheck {c : Chan} {f : Finding} (h : s.Sized) : OutSized (execNoOnCheck c f s) :=
  .onBlock h fun _ hb => .ite (.flagTo hb) hb

theorem Machine.OutSized.execSenseMismatchCheck {c : Chan} {f : Finding} (h : s.Sized) : OutSized (execSenseMismatchCheck c f s) :=
  .onBlock h fun _ hb => .ite (.flagTo hb) hb

theorem Machine.OutSized.execShortGndClear {c : Chan} (h : s.Sized) : OutSized (execShortGndClear c s) :=
  .onBlock h fun _ hb => .ite (.flagTo hb) hb

theorem Machine.OutSized.execIsolationSwitchOpen {d : Die} (h : s.Sized) : OutSized (execIsolationSwitchOpen d s) :=
  .onBlock h fun _ hb => .ite (foldl_keeps Block.Sized (.modDie hb) fun _ _ hb2 => .chanReport hb2) hb

theorem Machine.OutSized.execIsolationSwitchClosed {d : Die} (h : s.Sized) : OutSized (execIsolationSwitchClosed d s) :=
  .onBlock h fun _ hb => .ite (.feedStep (.modDie hb)) hb

theorem Machine.OutSized.execIsolationSwitchFault {d : Die} {c : Fin 16} (h : s.Sized) :
    OutSized (execIsolationSwitchFault d c s) := .onBlock h fun _ hb => .ite (.modDie hb) hb

theorem Machine.OutSized.execLedgerUpdate {d : Die} (h : s.Sized) : OutSized (execLedgerUpdate d s) :=
  .onBlock h fun _ hb => .ite (foldl_keeps Block.Sized hb fun _ _ hb2 => .ledgerChannel hb2) hb

theorem Machine.OutSized.execCounterCopy (h : s.Sized) : OutSized (execCounterCopy s) :=
  .onBlock h fun _ hb => .ite (foldl_keeps Block.Sized (foldl_keeps Block.Sized hb fun _ _ hb2 => .modLink hb2) fun _ _ hb2 =>
    .modImg hb2) hb

theorem Machine.OutSized.execFeedBelow18V {d : Die} (h : s.Sized) : OutSized (execFeedBelow18V d s) :=
  .onBlock h fun _ hb => .modDie hb fun _ hd => .mapChans hd

theorem Machine.OutSized.execThermalWarning {c : Chan} {above : Bool} (h : s.Sized) : OutSized (execThermalWarning c above s) :=
  .onBlock h fun _ hb => .ite (.flagTo hb) hb

end Keeps

end Sys2Proof
end

section
/-! PROOF. The sizes of tables: what channel requests, the command link, the lanes and their pairs keep. One lemma says it of each operation, put
together from those of the operations it is made of. Part of O5. -/

namespace Sys2Proof

open Machine

section Keeps

variable {b : Block} {l : Lane} {s : State} {r : Req} {m : MemSt}

/-! ## Channel requests -/

theorem Block.Sized.needRoom {op n : Nat} {k : Block → Block} (h : b.Sized) (hk : ∀ (b' : Block), b'.Sized → (k b').Sized) :
    (b.needRoom r op n k).Sized := .ite (.ok h) (hk _ h)

theorem Block.Sized.check7 {op : Nat} {good : Bool} {k : Block → Block} (h : b.Sized)
    (hk : ∀ (b' : Block), b'.Sized → (k b').Sized) : (b.check7 r op good k).Sized := .ite (hk _ h) (.reply h)

theorem Block.Sized.sendChan {op c : Nat} {k : SeqKind} {arg : List Byte} (h : b.Sized) : (b.sendChan r op c k arg).Sized :=
  .hold (.sendFrame h)

theorem Block.Sized.runChanSet (h : b.Sized) : (b.runChanSet r).Sized :=
  .check7 h fun _ hb => .needRoom hb fun _ hb2 => .ite (.reply hb2) (.sendChan hb2)

theorem Block.Sized.runChanPwm (h : b.Sized) : (b.runChanPwm r).Sized :=
  .check7 h fun _ hb => .needRoom hb fun _ hb2 => .ite (.reply hb2) (.sendChan hb2)

theorem Block.Sized.runChanMulti (h : b.Sized) : (b.runChanMulti r).Sized :=
  .check7 h fun _ hb => .needRoom hb fun _ hb2 => .ite (.reply hb2)
    (.ite (.ok hb2) (.hold (foldl_keeps Block.Sized hb2 fun _ _ hb3 => .sendFrame hb3)))

theorem Block.Sized.runUnlock (h : b.Sized) : (b.runUnlock r).Sized :=
  .check7 h fun _ hb => .needRoom hb fun _ hb2 => .ite (.reply hb2) (.ite (.finish hb2) (.sendChan hb2))

theorem Block.Sized.runChanStatus (h : b.Sized) : (b.runChanStatus r).Sized := by
  unfold Block.runChanStatus
  exact .check7 h fun _ hb => .ite (.reply hb) (.ok hb)

theorem Block.Sized.isoAct {d fn pol : Nat} (h : b.Sized) : (b.isoAct d fn pol).Sized :=
  .ite h (.ite (.ite h (.modDie h fun _ hd => .writeIso hd)) (.ite (.isolate h) (.ite h (.modDie h fun _ hd => .writeIso hd))))

theorem Block.Sized.runDieIsolate (h : b.Sized) : (b.runDieIsolate r).Sized :=
  .check7 h fun _ hb => .needRoom hb fun _ hb2 => .ite (.reply hb2) (.ite (.reply hb2) (.ite (.reply hb2) (.finish hb2)))

theorem Block.Sized.sendStore {d : Nat} {es : List FsEntry} (h : b.Sized) : (b.sendStore d es).Sized :=
  .sendFrame (foldl_keeps Block.Sized h fun _ _ hb => .sendFrame (.sendFrame (.sendFrame hb)))

theorem Block.Sized.runFailsafeStore (h : b.Sized) : (b.runFailsafeStore r).Sized :=
  .check7 h fun _ hb => .needRoom hb fun _ hb2 => .ite (.reply hb2)
    (.ite (.reply hb2) (.hold (foldl_keeps Block.Sized hb2 fun _ _ hb3 => .sendStore hb3)))

theorem DieSt.Sized.storeEnds {d : DieSt} {count : Nat} {es : List FsEntry} (h : d.Sized) : (d.storeEnds count es).Sized := by
  change (if d.storeCount = count then ({ d.writeStore es with storeCfg := es } : DieSt) else d).Sized
  split
  · exact h
  · exact h

theorem Block.Sized.storeWritten (h : b.Sized) : b.storeWritten.Sized := by
  unfold Block.storeWritten
  split
  · exact .finishWhere (foldl_keeps Block.Sized h fun _ _ hb => .modDie hb fun _ hd => .storeEnds hd)
  · exact .mapDies h

theorem Machine.OutSized.execChanSet {q : Req} (h : s.Sized) : OutSized (execChanSet q s) :=
  .onBlock h fun _ hb => .serve hb fun _ hb2 => .runChanSet hb2

theorem Machine.OutSized.execChanPwm {q : Req} (h : s.Sized) : OutSized (execChanPwm q s) :=
  .onBlock h fun _ hb => .serve hb fun _ hb2 => .runChanPwm hb2

theorem Machine.OutSized.execChanMulti {q : Req} (h : s.Sized) : OutSized (execChanMulti q s) :=
  .onBlock h fun _ hb => .serve hb fun _ hb2 => .runChanMulti hb2

theorem Machine.OutSized.execUnlock {q : Req} (h : s.Sized) : OutSized (execUnlock q s) :=
  .onBlock h fun _ hb => .serve hb fun _ hb2 => .runUnlock hb2

theorem Machine.OutSized.execChanStatus {q : Req} (h : s.Sized) : OutSized (execChanStatus q s) :=
  .onBlock h fun _ hb => .serve hb fun _ hb2 => .runChanStatus hb2

theorem Machine.OutSized.execDieIsolateOpen {q : Req} (h : s.Sized) : OutSized (execDieIsolateOpen q s) :=
  .onBlock h fun _ hb => .serve hb fun _ hb2 => .runDieIsolate hb2

theorem Machine.OutSized.execDieIsolateClose {q : Req} (h : s.Sized) : OutSized (execDieIsolateClose q s) :=
  .onBlock h fun _ hb => .serve hb fun _ hb2 => .runDieIsolate hb2

theorem Machine.OutSized.execDieIsolateStorePolicy {q : Req} (h : s.Sized) : OutSized (execDieIsolateStorePolicy q s) :=
  .onBlock h fun _ hb => .serve hb fun _ hb2 => .runDieIsolate hb2

theorem Machine.OutSized.execFailsafeStore {q : Req} (h : s.Sized) : OutSized (execFailsafeStore q s) :=
  .onBlock h fun _ hb => .serve hb fun _ hb2 => .runFailsafeStore hb2

theorem Machine.OutSized.execFailsafeStoreWritten (h : s.Sized) : OutSized (execFailsafeStoreWritten s) :=
  .onBlock h fun _ hb => .storeWritten hb

/-! ## The command link -/

theorem Block.Sized.chanDone {d : Nat} {num : Half} {out : Nat} (h : b.Sized) : (b.chanDone d num out).Sized :=
  .ite (.finishWhere h) (.finishWhere h)

theorem Block.Sized.multiDone {d : Nat} {num : Half} (h : b.Sized) : (b.multiDone d num).Sized := by
  unfold Block.multiDone
  refine foldl_keeps Block.Sized (.modMail (.modMail h)) fun _ _ hb => ?_
  split
  · exact .ok hb
  · exact hb

theorem Block.Sized.multiMasks {d : Nat} {num : Half} {a q x : BitVec 16} (h : b.Sized) : (b.multiMasks d num a q x).Sized :=
  .modMail h

theorem Block.Sized.roleAck {d : Nat} (h : b.Sized) : (b.roleAck d).Sized := .finishWhere (.modMail h)

theorem Block.Sized.frameDone {d : Nat} {u : Unacked} (h : b.Sized) : (b.frameDone d u).Sized := by
  unfold Block.frameDone
  dsimp only
  split
  · exact .multiDone (.modLink h)
  · exact .roleAck (.modLink h)
  · exact .chanDone (.modLink h)

theorem Block.Sized.settleAcks (h : b.Sized) : b.settleAcks.Sized :=
  foldl_keeps Block.Sized h fun _ _ hb => foldl_keeps Block.Sized hb fun _ _ hb2 => .frameDone hb2

theorem Block.Sized.learn {d : Nat} {num : Half} {out : Nat} {a q x : BitVec 16} (h : b.Sized) :
    (b.learn l d num out a q x).Sized := .settleAcks (.multiMasks (.modLink h))

theorem Block.Sized.resolved {d : Nat} {views : List ChanView} {u : Unacked} (h : b.Sized) : (b.resolved l d views u).Sized := by
  unfold Block.resolved
  dsimp only
  split
  · exact .learn h
  · exact .learn h
  · exact .learn h
  · exact .learn h

theorem Block.Sized.frameLost {d : Nat} {u : Unacked} (h : b.Sized) : (b.frameLost l d u).Sized :=
  .raise (.finishWhere (.modLink h))

theorem Block.Sized.statusFor {d : Nat} {num : Half} {views : List ChanView} (h : b.Sized) : (b.statusFor l d num views).Sized :=
  foldl_keeps Block.Sized h fun _ _ hb => .ite (.frameLost hb) (.resolved hb)

theorem Block.Sized.ackTimeout {d : Nat} {num : Half} (h : b.Sized) : (b.ackTimeout l d num).Sized := by
  unfold Block.ackTimeout
  split
  · exact h
  · exact .ite (.ite (.learn h) (.frameLost h)) (.modLink h)

theorem DieSt.Sized.popMsg {x : DieSt} {sel : DieMsg → Bool} (h : x.Sized) : (x.popMsg l sel).2.Sized := by
  unfold DieSt.popMsg
  split
  · exact h
  · exact h

theorem Block.Sized.replied {d : Nat} (h : b.Sized) : (b.replied l d).Sized := .modLink h

theorem Block.Sized.regain {d : Nat} (h : b.Sized) : (b.regain d).Sized := .ite (.takeOver h) h

theorem Block.Sized.takeAck {d : Nat} (h : b.Sized) : (b.takeAck l d).Sized := by
  unfold Block.takeAck
  dsimp only
  split
  next hy => exact .modLink (.learn (.replied (.modDie h fun _ _ => .of_snd hy (.popMsg h.die))))
  · exact h

theorem Block.Sized.takeStatus {d : Nat} (h : b.Sized) : (b.takeStatus l d).Sized := by
  unfold Block.takeStatus
  extract_lets sel
  split
  next hy =>
    extract_lets read fed far told
    have hread : read.Sized := .statusFor (.replied (.modDie h fun _ _ => .of_snd hy (.popMsg h.die)))
    have hfed : fed.Sized := .ite (.regain (.modLink hread)) (.modLink hread)
    exact .ite (.ite (.modLane (.modLink hfed)) (.modLink hfed)) hfed
  · exact h

theorem Block.Sized.takeEvent {d : Nat} (h : b.Sized) : (b.takeEvent l d).Sized := by
  unfold Block.takeEvent
  extract_lets sel
  split
  next hy =>
    extract_lets read raised
    have hread : read.Sized := .modDie h fun _ _ => .of_snd hy (.popMsg h.die)
    exact .ite hread (.ite (.onlyIf hread fun hread => .diverge hread) (.onlyIf (.raise hread) fun hraised => .regain hraised))
  · exact h

theorem Block.Sized.pollDie {d : Nat} (h : b.Sized) : (b.pollDie l d).Sized :=
  .ite h (.onlyIf (.modLink (.ite (foldl_keeps Block.Sized h fun _ _ hb => .frameLost hb) h)) fun hb => .raiseAll hb)

theorem Machine.OutSized.execAck {d : Die} (h : s.Sized) : OutSized (execAck l d s) := .onBlock h fun _ hb => .takeAck hb

theorem Machine.OutSized.execStatus {d : Die} (h : s.Sized) : OutSized (execStatus l d s) := .onBlock h fun _ hb => .takeStatus hb

theorem Machine.OutSized.execEvent {d : Die} (h : s.Sized) : OutSized (execEvent l d s) := .onBlock h fun _ hb => .takeEvent hb

theorem Machine.OutSized.execAckTimeout {d : Die} {num : Half} (h : s.Sized) : OutSized (execAckTimeout l d num s) :=
  .onBlock h fun _ hb => .ackTimeout hb

theorem Machine.OutSized.execRefreshDue {d : Die} (h : s.Sized) : OutSized (execRefreshDue l d s) :=
  .onBlock h fun _ hb => .ite (.modLink hb) hb

theorem Machine.OutSized.execDiePollDue {d : Die} (h : s.Sized) : OutSized (execDiePollDue l d s) :=
  .onBlock h fun _ hb => .ite (.pollDie hb) hb

/-! ## Lanes and roles -/

theorem Block.Sized.fullBuckets (h : b.Sized) : b.fullBuckets.Sized := .modPart h ⟨rfl, rfl, (mapIdxFrom_length ..)⟩

theorem LaneSt.Sized.reset {x : LaneSt} : x.reset.Sized := LaneSt.Sized.off

theorem LaneSt.Sized.quiet {x : LaneSt} (h : x.Sized) : x.quiet.Sized := by
  obtain ⟨hnum, hpairs, hcan, hfronts, -, -, hlinks, hstats, -⟩ := h
  obtain ⟨hports, hqueues, -, -, hhead⟩ := SwitchSt.Sized.fresh
  exact ⟨hnum, hpairs, (List.length_map ..).trans hcan, hfronts, hports, hqueues, hlinks, hstats, hhead⟩

theorem LaneSt.Sized.stopPairs {x : LaneSt} (h : x.Sized) : x.stopPairs.Sized := .mapPairs h

theorem Block.Sized.windowEnds (h : b.Sized) : (b.windowEnds l).Sized := .modBridge (.modLane h fun _ hx => .mapPairs hx)

theorem Block.Sized.leave {st : Nat} (h : b.Sized) : (b.leave l st).Sized :=
  .settleAcks (.finishWhere (.onlyIf (.onlyIf
    (.onlyIf (.modLane (.modLane (.modMod (.onlyIf (.modLane h fun _ hx => .ite .reset (.stopPairs (.quiet hx))) fun hb =>
    .raiseAll hb)))) fun hb => .modLane hb fun _ hx => .ite hx hx) fun hb => .windowEnds hb) fun hb => .modMail hb
    (List.length_map ..)))

theorem Block.Sized.restart {cause : Nat} (h : b.Sized) : (b.restart l cause).Sized := .leave (.modLane h)

theorem Block.Sized.handOver {fail : Bool} {cause : Nat} (h : b.Sized) : (b.handOver l fail cause).Sized := .modMod h

theorem Block.Sized.beginRestart (h : b.Sized) : (b.beginRestart l).Sized := .ite (.handOver (.modLane h)) (.restart h)

theorem Block.Sized.laneDownEvent {by' : Lane} {cause pair : Nat} (h : b.Sized) : (b.laneDownEvent by' l cause pair).Sized := by
  unfold Block.laneDownEvent
  split
  · exact .raise h
  · exact .raise h
  · exact .raise h
  · exact .raise h
  · exact .raise h
  · exact .raise h
  · exact .ite (.raise h) (.raise h)
  · exact .raise h
  · exact .raise h

theorem Block.Sized.breakCopy (h : b.Sized) : (b.breakCopy l).Sized := .ite h (.modLane (.drawNat h) fun _ hx => .ite hx hx)

theorem Block.Sized.laneFault {cause pair : Nat} (h : b.Sized) : (b.laneFault l cause pair).Sized :=
  .ite h (.onlyIf (.onlyIf (.modLane (.leave (.modLane (.modMod (.breakCopy h))))) fun hb => .modLane hb) fun hb => .raise hb)

theorem Block.Sized.laneDown {cause pair : Nat} (h : b.Sized) : (b.laneDown l cause pair).Sized :=
  .onlyIf (.modLane (.laneDownEvent h)) fun hb => .handOver hb

theorem Block.Sized.bridgeFail (h : b.Sized) : b.bridgeFail.Sized := by
  unfold Block.bridgeFail
  refine .ite h ?_
  dsimp only
  split
  · exact .onlyIf (.modBridge (.raiseAll h)) fun hb => .restart hb
  · exact .modBridge (.raiseAll h)

theorem Block.Sized.peerSilent (h : b.Sized) : (b.peerSilent l).Sized :=
  .ite h (.ite (.onlyIf (.modLane h) fun hb => .leave hb)
    (foldl_keeps Block.Sized (.modLane (.modLane h)) fun _ _ hb => .modLink hb))

theorem Block.Sized.checkAgainst {stream num : Nat} {crc : Word} (h : b.Sized) : (b.checkAgainst l stream num crc).Sized := by
  unfold Block.checkAgainst
  split
  · exact .ite h (.diverge h)
  · exact .modLane h

theorem LaneSt.Sized.closes {x : LaneSt} (h : x.Sized) : x.closes.Sized := by
  unfold LaneSt.closes
  split
  · exact .ite h h
  · exact h

theorem Block.Sized.hashAgainst {epoch region : Nat} {h : DWord} (hb : b.Sized) : (b.hashAgainst l epoch region h).Sized := by
  unfold Block.hashAgainst
  split
  · exact .ite (.modLane hb) (.diverge (.modLane hb))
  · exact hb

theorem Block.Sized.itemFrom {it : Item} (h : b.Sized) : (b.itemFrom l it).Sized := by
  unfold Block.itemFrom
  refine .ite (.modLane h) ?_
  split
  · exact .modLane (.modLane h) fun _ hx => .closes hx
  · exact .checkAgainst (.modLane h)
  · exact .hashAgainst (.modLane h)
  · exact .ite (.modLane h) (.modEv (.modLane h))
  · exact .modKeys (.modLane h)
  · exact .modLane (.modLane h) fun _ hx => .closes hx

theorem Block.Sized.breakPairs {mask : BitVec 7} (h : b.Sized) : (b.breakPairs l mask).Sized :=
  foldl_keeps Block.Sized (.modLane h) fun _ _ hb => .raise hb

theorem Block.Sized.runDebugEnable {life : Lifecycle} (h : b.Sized) : (b.runDebugEnable life r).Sized :=
  .check7 h fun _ hb => .ite (.reply hb) (.ite (.reply hb) (.finish hb))

theorem Block.Sized.runRoleSet (h : b.Sized) : (b.runRoleSet r).Sized :=
  .check7 h fun _ hb => .ite (.reply hb) (.ite (.reply hb) (.ite (.ok hb) (.hold (.handOver hb))))

theorem Block.Sized.runLaneRestart (h : b.Sized) : (b.runLaneRestart r).Sized :=
  .check7 h fun _ hb => .ite (.reply hb) (.ite (.reply hb) (.hold (.beginRestart (.modLane hb))))

theorem Block.Sized.setActivation {k : PendKind} (h : b.Sized) : (b.setActivation k).Sized := .modMail h

theorem Block.Sized.activateNext (h : b.Sized) : b.activateNext.Sized := by
  unfold Block.activateNext
  split
  · dsimp only
    split
    · exact .beginRestart (.setActivation h)
    · exact .finishWhere (.ite (.handOver h) h)
  · exact h

theorem Block.Sized.runUpdateActivate {level : LaneSt → Nat} (h : b.Sized) : (b.runUpdateActivate level r).Sized :=
  .check7 h fun _ hb => .needRoom hb fun _ hb2 => .ite (.reply hb2)
    (.ite (.reply hb2) (.ite (.reply hb2) (.ite (.reply hb2) (.activateNext (.hold hb2)))))

theorem Block.Sized.inService (h : b.Sized) : (b.inService l).Sized := by
  unfold Block.inService
  refine .onlyIf ?_ fun hb => .beginRestart hb
  split
  · exact .onlyIf (.finishWhere (.modLanes (.modLanes (.modLane h)))) fun hb => .activateNext hb
  · exact .finishWhere (.modLanes (.modLanes (.modLane h)))

theorem Block.Sized.activateStops (h : b.Sized) : b.activateStops.Sized := by
  unfold Block.activateStops
  split
  · exact .ite h (.finishWhere h)
  · exact h

theorem Block.Sized.restartFallsDue (h : b.Sized) : (b.restartFallsDue l).Sized :=
  .ite h (.ite (.beginRestart h) (.raiseAll (.modLane h)))

theorem Machine.OutSized.execLaneFault {cause : Nat} (h : s.Sized) : OutSized (execLaneFault l cause s) :=
  .onBlock h fun _ hb => .laneFault hb

theorem Machine.OutSized.execLockstepMismatch {pair : LockPair} {cause : Fin 4} (h : s.Sized) :
    OutSized (execLockstepMismatch l pair cause s) := .onBlock h fun _ hb => .ite hb (.laneFault hb)

theorem Machine.OutSized.execComparatorTimeout {pair : LockPair} {silent : Bool} (h : s.Sized) :
    OutSized (execComparatorTimeout l pair silent s) := .onBlock h fun _ hb => .ite hb (.laneFault hb)

theorem Machine.OutSized.execDebugEnable {q : Req} (h : s.Sized) : OutSized (execDebugEnable q s) :=
  .onBlock h fun _ hb => .serve hb fun _ hb2 => .runDebugEnable hb2

theorem Machine.OutSized.execLaneDownReceived {cause pair : Nat} (h : s.Sized) : OutSized (execLaneDownReceived l cause pair s) :=
  .onBlock h fun _ hb => .ite hb (.laneDown hb)

theorem Machine.OutSized.execTimeWordTimeout (h : s.Sized) : OutSized (execTimeWordTimeout l s) :=
  .onBlock h fun _ hb => .laneFault hb

theorem Machine.OutSized.execLinkFlitError {k : FlitLink} {again : Bool} (h : s.Sized) :
    OutSized (execLinkFlitError k again s) := by
  unfold Machine.execLinkFlitError
  refine .onBlock h fun _ hb => ?_
  dsimp only
  split
  · exact .ite (.laneFault hb) (.modLane hb)
  · exact .ite (.laneFault hb) (.modLane hb)
  · exact .onlyIf (.modBridge (.modLanes hb)) fun hb2 => .bridgeFail hb2

theorem Machine.OutSized.execBridgeLinkHealthy (h : s.Sized) : OutSized (execBridgeLinkHealthy s) :=
  .onBlock h fun _ hb => .ite hb (.raiseAll (.modLanes (.modBridge hb)))

theorem Machine.OutSized.execAgreementItemReceived {item : Item} (h : s.Sized) : OutSized (execAgreementItemReceived l item s) :=
  .onBlock h fun _ hb => .itemFrom hb

theorem Machine.OutSized.execPortActivityTimeout (h : s.Sized) : OutSized (execPortActivityTimeout l s) :=
  .onBlock h fun _ hb => .ite hb (.ite (foldl_keeps Block.Sized (.modLane hb) fun _ _ hb2 => .modLink hb2)
    (.ite (.bridgeFail (foldl_keeps Block.Sized (.modLane hb) fun _ _ hb2 => .modLink hb2))
    (.handOver (.onlyIf (foldl_keeps Block.Sized (.modLane hb) fun _ _ hb2 => .modLink hb2) fun hb2 => .leave hb2))))

theorem Machine.OutSized.execCommandPortReturn {d : Die} (h : s.Sized) : OutSized (execCommandPortReturn d s) :=
  .onBlock h fun _ hb => .ite (.sendFrame hb) hb

theorem Machine.OutSized.execRestartDue (h : s.Sized) : OutSized (execRestartDue l s) := .onBlock h fun _ hb => .restartFallsDue hb

theorem Machine.OutSized.execRoleSet {q : Req} (h : s.Sized) : OutSized (execRoleSet q s) :=
  .onBlock h fun _ hb => .serve hb fun _ hb2 => .runRoleSet hb2

theorem Machine.OutSized.execLaneRestart {q : Req} (h : s.Sized) : OutSized (execLaneRestart q s) :=
  .onBlock h fun _ hb => .serve hb fun _ hb2 => .runLaneRestart hb2

theorem Machine.OutSized.execActivateTimeout (h : s.Sized) : OutSized (execActivateTimeout s) :=
  .onBlock h fun _ hb => .activateStops hb

/-! ## Lockstep pairs -/

theorem Block.Sized.pairFault {k : Nat} {x3 : Option Nat} (h : b.Sized) : (b.pairFault l k x3).Sized := by
  unfold Block.pairFault
  split
  · exact .laneFault h
  · exact h

theorem Block.Sized.drainPair {k : Nat} (h : b.Sized) : (b.drainPair l k).Sized :=
  .ite h (.pairFault (.modLane h fun _ hx => .modLockPair hx fun hk _ _ => (LaneSt.Sized.lockPair h.lane hk).drain))

theorem CoreSt.Sized.started {pc pair info : Nat} {budget : List Nat} (h : budget.length = 32) :
    (CoreSt.started pc pair info budget).Sized := h

theorem Block.newBudget_length (b : Block) (pair : Nat) : (b.newBudget pair).length = 32 := by
  rw [Block.newBudget, List.length_map, List.length_range]

theorem Block.Sized.budgetTrap {k g : Nat} (h : b.Sized) : (b.budgetTrap l k g).Sized :=
  .onlyIf (.modLane h fun _ hx => .modPair hx) fun hb => .modViol hb

theorem Block.Sized.charged {k g : Nat} {virt : Bool} (h : b.Sized) : (b.charged l k g virt).Sized := .ite (.budgetTrap h) h

theorem Block.Sized.periodEnds {k : Nat} (h : b.Sized) : (b.periodEnds l k).Sized :=
  .modLane (.drainPair h) fun _ hx => .modPair hx fun _ _ => ⟨Block.newBudget_length .., Block.newBudget_length ..⟩

theorem Block.Sized.budgetSpent {k g : Nat} (h : b.Sized) : (b.budgetSpent l k g).Sized :=
  .budgetTrap (.modLane (.drainPair h) fun _ hx => .modPair hx fun _ hp => .both hp fun _ hc => (setAt_length ..).trans hc)

theorem Block.Sized.retires {k : Nat} {t : Token} {held : Bool} (h : b.Sized) : (b.retires l k t held).Sized :=
  .ite (.charged (.modLane h fun _ hx => .modPair hx fun _ hp => .alone hp))
    (.onlyIf (.pairFault (.charged (.modLane h fun _ hx => .modPair hx fun _ _ => .retire h.lane.pair))) fun hb => .drainPair hb)

theorem Block.Sized.accRetires {k : Nat} {t : Token} {held : Bool} (h : b.Sized) : (b.accRetires l k t held).Sized := by
  unfold Block.accRetires
  split
  · exact .retires h
  · exact .retires h
  · exact h

theorem Block.Sized.throughPair {k : Nat} {t : Token} {held : Bool} {act : Block × MemSt} (h : b.Sized) (hact : act.1.Sized) :
    (b.throughPair m l k t held act).1.Sized := .iteFst hact (.iteFst h (.iteFst (.laneFault h) (.accRetires hact)))

theorem Block.Sized.sweep (h : b.Sized) : (b.sweep l).Sized := by
  unfold Block.sweep
  dsimp only
  split
  · exact .laneFault (.modLane h)
  · exact foldl_keeps Block.Sized (.modLane h) fun _ _ hb => .drainPair hb

theorem Block.Sized.interrupts (h : b.Sized) : b.interrupts.Sized :=
  .modLanes h fun _ hx => .ite hx (.mapIdxPairs hx fun _ _ hp => .ite hp hp)

theorem Machine.OutSized.execSweepPeriod (h : s.Sized) : OutSized (execSweepPeriod l s) :=
  .onBlock h fun _ hb => .ite (.sweep hb) hb

theorem Machine.OutSized.execDebugHaltRequest {pair : LockPair} (h : s.Sized) : OutSized (execDebugHaltRequest l pair s) :=
  .onBlock h fun _ hb => .ite (.modLane hb fun _ hx => .modLockPair hx) hb

end Keeps

end Sys2Proof
end

section
/-! PROOF. The sizes of tables: what slices, inputs and the switch core keep. One lemma says it of each operation, put
together from those of the operations it is made of. Part of O5. -/

namespace Sys2Proof

open Machine

section Keeps

variable {b : Block} {l : Lane} {s : State} {r : Req} {m : MemSt}

/-! ## Slices -/

theorem Block.Sized.decideCreate {p : Nat} {recs : List ResRec} (h : b.Sized) : (b.decideCreate r p recs).Sized :=
  .ite (.finish h) (.reply h)

theorem Block.Sized.runSliceCreate (h : b.Sized) : (b.runSliceCreate r).Sized :=
  .check7 h fun _ hb => .ite (.hold hb) (.ite (.reply hb) (.decideCreate hb))

theorem Block.Sized.runSliceGrow (h : b.Sized) : (b.runSliceGrow r).Sized :=
  .check7 h fun _ hb => .ite (.reply hb) (.ite (.finish hb) (.reply hb))

theorem Block.Sized.runSliceQuery (h : b.Sized) : (b.runSliceQuery r).Sized := .check7 h fun _ hb => .ite (.ok hb) (.ok hb)

theorem Block.Sized.runThaw (h : b.Sized) : (b.runThaw r).Sized := .check7 h fun _ hb => .finish hb

theorem Block.Sized.thawNow {p : Nat} (h : b.Sized) : (b.thawNow p).Sized := by
  unfold Block.thawNow
  refine .ite h (.raiseAll (.modLanes (.modRates (.modSlice h)) fun _ hx => .mapPairs hx fun _ hp => ?_))
  split
  · exact .ite hp hp
  · exact hp

/-- What a slice's records write keeps the table of slices. -/
@[simp] theorem applySlice_length (ss : List Slice) (p : Nat) (create : Bool) (recs : List ResRec) :
    (applySlice ss p create recs).length = ss.length := by
  cases create
  · simp [applySlice]
  · simp [applySlice]

theorem Block.Sized.sliceNow {p : Nat} {create : Bool} {recs : List ResRec} (h : b.Sized) : (b.sliceNow p create recs).Sized :=
  .onlyIf (.modPart h ⟨applySlice_length .., rfl, rfl⟩)
    (fun h1 => .modViol (.modEv (.modMail h1 (setAt_length ..)) (setAt_length ..)))

theorem Block.Sized.brCount {f : BridgeSt → BridgeSt} (h : b.Sized) : (b.brCount l f).Sized := .ite (.modBridge h) h

theorem Block.Sized.dropLines {pair : Nat} {sel : PrefLine → Bool} (h : b.Sized) : (b.dropLines l pair sel).Sized :=
  .ite h (.brCount (.modLane h fun _ hx => .modPair hx))

theorem PairSt.Sized.setGuest {x : PairSt} {mode : CoreMode} (h : x.Sized) : (x.setGuest mode).Sized := by
  unfold PairSt.setGuest
  split
  · exact h
  · exact h
  · exact h

theorem Block.Sized.closeWindow {p : Nat} (h : b.Sized) : (b.closeWindow p).Sized :=
  .ite (.modRates h) (.onlyIf (.onlyIf (.onlyIf (.modRates h) fun hb => .violate hb) fun hb => .violate hb) fun hb => .violate hb)

theorem Machine.OutSized.execSliceCreate {q : Req} (h : s.Sized) : OutSized (execSliceCreate q s) :=
  .onBlock h fun _ hb => .serve hb fun _ hb2 => .runSliceCreate hb2

theorem Machine.OutSized.execSliceGrow {q : Req} (h : s.Sized) : OutSized (execSliceGrow q s) :=
  .onBlock h fun _ hb => .serve hb fun _ hb2 => .runSliceGrow hb2

theorem Machine.OutSized.execSliceQuery {q : Req} (h : s.Sized) : OutSized (execSliceQuery q s) :=
  .onBlock h fun _ hb => .serve hb fun _ hb2 => .runSliceQuery hb2

theorem Machine.OutSized.execThaw {q : Req} (h : s.Sized) : OutSized (execThaw q s) :=
  .onBlock h fun _ hb => .serve hb fun _ hb2 => .runThaw hb2

theorem Machine.OutSized.execHgpridWrite {pair : Pair} {mode : CoreMode} {v : DWord} (h : s.Sized) :
    OutSized (execHgpridWrite l pair mode v s) :=
  .onBlock h fun _ hb => .ite hb (.onlyIf (.modLane (.ite (.dropLines hb) hb) fun _ hx => .modPair hx fun _ hp => .setGuest hp) fun
    hb2 => .retires hb2)

theorem Machine.OutSized.execRateWindowEnd (h : s.Sized) : OutSized (execRateWindowEnd s) :=
  .onBlock h fun _ hb => .ite (foldl_keeps Block.Sized hb fun _ _ hb2 => .closeWindow hb2) hb

theorem Machine.OutSized.execBudgetPeriod {pair : Pair} (h : s.Sized) : OutSized (execBudgetPeriod l pair s) :=
  .onBlock h fun _ hb => .periodEnds hb

theorem Machine.OutSized.execBudgetExhausted {pair : Pair} (h : s.Sized) : OutSized (execBudgetExhausted l pair s) :=
  .onBlock h fun _ hb => .ite hb (.budgetSpent hb)

/-! ## Inputs -/

theorem Block.Sized.scanInput {i : Nat} {mv : Int} (h : b.Sized) : (b.scanInput l i mv).Sized :=
  .ite h (.modLane h fun _ hx => .modFront hx)

theorem Block.Sized.edgePeriod {i period high : Nat} (h : b.Sized) : (b.edgePeriod l i period high).Sized :=
  .ite h (.modLane h fun _ hx => .modFront hx)

theorem Block.Sized.edgeNone {i : Nat} (h : b.Sized) : (b.edgeNone l i).Sized := .ite h (.modLane h fun _ hx => .modFront hx)

theorem Block.Sized.tagSamples (h : b.Sized) : (b.tagSamples l).Sized := .ite h (.modLane h fun _ hx => .mapIdxFronts hx)

theorem Block.Sized.deliverInput {i : Nat} {own far : Option Sample} {two : Bool} {epoch : Nat} (h : b.Sized) :
    (b.deliverInput i own far two epoch).Sized :=
  .ite h (.onlyIf (.onlyIf (.onlyIf (.onlyIf (.onlyIf (.onlyIf (.modInput h) fun hb => .raiseAll hb) fun hb => .raiseAll hb) fun
    hb => .raiseAll hb) fun hb => .raiseAll hb) fun hb => .raiseAll hb) fun hb => .raiseAll hb)

theorem Block.Sized.runInputRead (h : b.Sized) : (b.runInputRead r).Sized :=
  .check7 h fun _ hb => .needRoom hb fun _ hb2 => .ite (.reply hb2) (.ok hb2)

theorem Block.Sized.modeChanged {i : Nat} (h : b.Sized) : (b.modeChanged i).Sized := .modLanes h fun _ hx => .modFront hx

theorem Machine.OutSized.execInputRead {q : Req} (h : s.Sized) : OutSized (execInputRead q s) :=
  .onBlock h fun _ hb => .serve hb fun _ hb2 => .runInputRead hb2

theorem Machine.OutSized.execInputScan {i : Input} {mv : Int} (h : s.Sized) : OutSized (execInputScan l i mv s) :=
  .onBlock h fun _ hb => .scanInput hb

theorem Machine.OutSized.execEdgeTimerPeriod {i : Input} {period high : Nat} (h : s.Sized) :
    OutSized (execEdgeTimerPeriod l i period high s) := .onBlock h fun _ hb => .edgePeriod hb

theorem Machine.OutSized.execEdgeTimeout {i : Input} (h : s.Sized) : OutSized (execEdgeTimeout l i s) :=
  .onBlock h fun _ hb => .edgeNone hb

/-! ## Queues and entries of the switch core -/

theorem SwitchSt.Sized.modVpRx {x : SwitchSt} {p q : Nat} {f : List Nat → List Nat} (h : x.Sized) : (x.modVpRx p q f).Sized := h

theorem SwitchSt.Sized.gc {x : SwitchSt} (h : x.Sized) : x.gc.Sized := h

theorem Block.Sized.swEvent {ev port : Nat} {detail : Int} (h : b.Sized) : (b.swEvent l ev port detail).Sized := .raiseLimited h

theorem Block.Sized.swCount {port ev : Nat} {f : PortStats → PortStats} (h : b.Sized) : (b.swCount l port ev f).Sized :=
  .swEvent (.modLane h fun _ hx => .modSw hx fun _ hw => .modStats hw)

theorem Block.Sized.police {i len : Nat} {dei : Bool} (h : b.Sized) : (b.police l i len dei).2.Sized := .iteSnd h (.modLane h)

theorem Block.Sized.red {port q colour : Nat} (h : b.Sized) : (b.red l port q colour).2.Sized :=
  .iteSnd (.modLane h) (.iteSnd (.modLane h) (.withCipher (.modLane h)))

theorem Block.Sized.offer {id port q len colour : Nat} {many : Bool} (h : b.Sized) : (b.offer l id port q len colour many).Sized :=
  .ite (.modLane h fun _ hx => .modSw hx fun _ hw => .modStats hw)
    (.ite (.modLane (.red h) fun _ hx => .modSw hx fun _ hw => .modStats hw)
    (.ite (.modLane (.red h) fun _ hx => .modSw hx fun _ hw => .modQueue hw)
    (.ite (.modLane (.red h) fun _ hx => .modSw hx fun _ hw => .modStats hw) (.ite (.modLane (.red h)) (.swCount (.red h))))))

theorem Block.Sized.enqueue {index : Nat} {e : SwEntry} {src : Nat} {sender : Option Prid} {f : EthFrame} {colour : Nat}
    {ports : List Nat} (h : b.Sized) : (b.enqueue l index e src sender f colour ports).Sized :=
  .ite h (.ite (foldl_keeps Block.Sized h fun _ _ hb => .swCount hb)
    (.ite (.swCount (foldl_keeps Block.Sized h fun _ _ hb => .swCount hb))
    (.modLane (foldl_keeps Block.Sized (.modLane (foldl_keeps Block.Sized h fun _ _ hb => .swCount hb)) fun _ _ hb => .offer hb))))

theorem Block.Sized.fromResidue {port : Nat} (h : b.Sized) : (b.fromResidue l port).Sized :=
  foldl_keeps Block.Sized h fun _ _ hb => .ite (.swCount (.modLane hb))
    (.ite (.modLane hb fun _ hx => .modSw hx fun _ hw => .modQueue hw) hb)

/-! ## Frames through the switch core -/

theorem Block.Sized.macsecIn {sec : Option SecTag} {f : EthFrame} (h : b.Sized) : (b.macsecIn l sec f).2.Sized := by
  unfold Block.macsecIn
  refine .iteSnd h ?_
  split
  · exact h
  · split
    · exact h
    · exact .iteSnd h (.iteSnd h (.modLane h))

theorem Block.Sized.macsecOut (h : b.Sized) : (b.macsecOut l).2.Sized := by
  unfold Block.macsecOut
  refine .iteSnd h ?_
  dsimp only
  split
  · exact .swEvent (.modLane h)
  · refine .iteSnd (.swEvent (.modLane h)) (.iteSnd (.modLane h)
        (.iteSnd ?_ (.modLane (.onlyIf (.modCtx h) fun hb => .raiseAll hb))))
    split
    · exact .iteSnd (.modNet h) (.swEvent (.modLane h))
    · exact .swEvent (.modLane h)

theorem Block.Sized.runMacsecSa (h : b.Sized) : (b.runMacsecSa r).Sized :=
  .check7 h fun _ hb => .ite (.ite (.reply hb) (.ite (.reply hb) (.finish hb)))
    (.ite (.ite (.reply hb) (.ite (.ok hb) (.finish hb))) (.ite (.reply hb) (.finish hb)))

theorem Block.Sized.saUse {k : Nat} (h : b.Sized) : (b.saUse k).Sized := .modLanes (.modNet h)

theorem Block.Sized.saInstallNow {k : Nat} {an : Fin 4} {pn : Nat} (h : b.Sized) : (b.saInstallNow k an pn).Sized :=
  .ite (.onlyIf (.modCtx (.modNet h)) fun hb => .saUse hb) (.modLanes (.modCtx (.modNet h)))

theorem Block.Sized.saRetireNow {k : Nat} (h : b.Sized) : (b.saRetireNow k).Sized := .modNet h

theorem Block.Sized.forward {i : Nat} {e : SwEntry} {src : Nat} {sender : Option Prid} {f : EthFrame} {ports : List Nat}
    (h : b.Sized) : (b.forward l i e src sender f ports).Sized := by
  unfold Block.forward
  split
  next colour policed hpolice =>
    have hpoliced : policed.Sized := .of_snd hpolice (.iteSnd (.police h) h)
    extract_lets mark
    refine .ite (.swCount hpoliced) ?_
    extract_lets
    split
    next g numbered hnumber =>
      have hnumbered : numbered.Sized := .of_snd hnumber (.iteSnd (.modLane hpoliced) hpoliced)
      split
      next pass recovered hrecover =>
        have hrecovered : recovered.Sized := by
          refine .of_snd hrecover ?_
          split
          · exact .iteSnd (.ite (.swEvent (.modLane hnumbered)) (.modLane hnumbered)) hnumbered
          · exact hnumbered
        extract_lets agreed
        have hagreed : agreed.Sized := .ite (.takesIn hrecovered) hrecovered
        exact .ite (.enqueue hagreed) hagreed

theorem Block.Sized.switchIn {port : Nat} {f : EthFrame} (h : b.Sized) : (b.switchIn l port f).Sized := by
  unfold Block.switchIn
  split
  · exact .swCount h
  · exact .forward h

theorem Block.Sized.mgmtDrop (h : b.Sized) : b.mgmtDrop.Sized := .modMail h

theorem Block.Sized.mgmtIn {identity : DWord} {f : MgmtFrame} (h : b.Sized) : (b.mgmtIn identity l f).Sized :=
  .ite h (.ite (.takesIn (.modMail h)) (.mgmtDrop h))

theorem Block.Sized.frameIn {identity : DWord} {port : Nat} {sec : Option SecTag} {f : EthFrame} (h : b.Sized) :
    (b.frameIn identity l port sec f).Sized := by
  unfold Block.frameIn
  extract_lets counted
  have hcounted : counted.Sized := .modLane h fun _ hx => .modSw hx fun _ hw => .modStats hw
  refine .ite h (.ite (.swCount hcounted) ?_)
  split
  next ok checked hcheck =>
    have hchecked : checked.Sized := .of_snd hcheck (.iteSnd (.macsecIn hcounted) hcounted)
    exact .ite (.ite (.mgmtDrop hchecked) (.mgmtIn (.ite hchecked (.swCount hchecked))))
      (.ite (.switchIn hchecked) (.swCount hchecked))

theorem Block.Sized.vpForward {p : Prid} {i : Nat} {e : SwEntry} {f : EthFrame} (h : b.Sized) : (b.vpForward l p i e f).Sized :=
  .ite (.onlyIf (.modLane h fun _ hx => .modSw hx fun _ hw => .modStats hw) fun hb => .swCount hb)
    (.forward (.onlyIf (.modLane h fun _ hx => .modSw hx fun _ hw => .modStats hw) fun hb => .swCount hb))

theorem Block.Sized.vpTaken {p : Nat} (h : b.Sized) : (b.vpTaken m l p).1.Sized :=
  .modLane h fun _ hx => .modSw hx fun _ hw => .setTxHead hw

theorem Block.Sized.vpTransmit {p : Prid} (h : b.Sized) : (b.vpTransmit m l p).1.Sized := by
  unfold Block.vpTransmit
  split
  · exact h
  · exact .ite h (.gateViolation h)
  · exact .vpTaken (.swCount h)
  · split
    · exact h
    · dsimp only
      split
      · exact .vpTaken (.swCount (.modLane h))
      · exact .vpTaken (.vpForward (.modLane h))

theorem Block.Sized.deliverEth {i g : Nat} {f : EthFrame} {src : Nat} (h : b.Sized) : (b.deliverEth i g f src).Sized := by
  unfold Block.deliverEth
  split
  · exact h
  · exact foldl_keeps Block.Sized h fun _ _ hb => .ite hb
        (.ite (.swCount hb) (foldl_keeps Block.Sized hb fun _ _ hb2 => .modLane hb2))

theorem Block.Sized.vpWrite {p : Nat} {f : SwFrame} {q : Nat} (h : b.Sized) : (b.vpWrite m l p f q).1.Sized :=
  .iteFst (.ite h (.gateViolation h)) (.modLane h fun _ hx => .modSw hx fun _ hw => .modStats (.gc (.modVpRx hw)))

theorem Block.Sized.vpDeliver {p : Nat} (h : b.Sized) : (b.vpDeliver m p).1.Sized :=
  .iteFst h (foldl_keeps (fun x : Block × MemSt => x.1.Sized)
    (.ite h (foldl_keeps Block.Sized h fun _ _ hb => .modLane hb fun _ hx => .modSw hx fun _ hw => .modStats (.gc hw))) fun _ _
    hb => foldl_keeps (fun x : Block × MemSt => x.1.Sized) hb fun _ _ hb2 => .vpWrite hb2)

theorem Block.Sized.takeHead {port q : Nat} {f : SwFrame} {send : Bool} (h : b.Sized) : (b.takeHead l port q f send).Sized := by
  unfold Block.takeHead
  refine .modLane (.fromResidue (.ite ?_ (.swEvent (.modLane h fun _ hx => .modSw hx fun _ hw => .modStats (.modQueue hw)))))
  split
  · exact .checkSent (.modLane h fun _ hx => .modSw hx fun _ hw => .modStats (.modQueue hw))
  · exact .modLane h fun _ hx => .modSw hx fun _ hw => .modStats (.modQueue hw)

theorem Block.Sized.flushPort {port : Nat} {sel : SwFrame → Bool} (h : b.Sized) : (b.flushPort l port sel).Sized :=
  .ite h (.swEvent (.modLane h fun _ hx => .modSw hx fun _ hw => .modStats (.gc (.mapQueues hw))))

theorem Block.Sized.egress {port : Nat} (h : b.Sized) : (b.egress l port).Sized := by
  unfold Block.egress
  refine .ite h ?_
  split
  · exact h
  · split
    · exact h
    · exact .ite (.takeHead h) (.ite (.takeHead (.modLane (.iteSnd (.macsecOut h) h)))
          (.ite (.flushPort (.modLane (.iteSnd (.macsecOut h) h))) (.iteSnd (.macsecOut h) h)))

theorem Block.Sized.runEntry {op : Nat} {e : Option SwEntry} (h : b.Sized) : (b.runEntry r op e).Sized :=
  .ite (.reply h) (.hold (.modNet h))

theorem Block.Sized.runEntrySet (h : b.Sized) : (b.runEntrySet r).Sized :=
  .check7 h fun _ hb => .needRoom hb fun _ hb2 => .ite (.reply hb2) (.runEntry hb2)

theorem Block.Sized.runEntryDel (h : b.Sized) : (b.runEntryDel r).Sized :=
  .check7 h fun _ hb => .needRoom hb fun _ hb2 => .runEntry hb2

theorem Block.Sized.cutEntries (h : b.Sized) : b.cutEntries.Sized := .ite h (.modLanes (.modNet h))

theorem Block.Sized.entryDrained {index : Nat} (h : b.Sized) : (b.entryDrained l index).Sized := .ite h (.finishWhere (.modMail h))

theorem Block.Sized.runPortStats (h : b.Sized) : (b.runPortStats r).Sized := .check7 h fun _ hb => .ok hb

theorem Block.Sized.setLink {port : Nat} {st : LinkSt} (h : b.Sized) : (b.setLink l port st).Sized :=
  .modLane h fun _ hx => .modSw hx fun _ hw => .setLinks hw

theorem Machine.OutSized.execSwitchEntrySet {q : Req} (h : s.Sized) : OutSized (execSwitchEntrySet q s) :=
  .onBlock h fun _ hb => .serve hb fun _ hb2 => .runEntrySet hb2

theorem Machine.OutSized.execSwitchEntryDel {q : Req} (h : s.Sized) : OutSized (execSwitchEntryDel q s) :=
  .onBlock h fun _ hb => .serve hb fun _ hb2 => .runEntryDel hb2

theorem Machine.OutSized.execGenerationDrained {index : Fin 4096} (h : s.Sized) : OutSized (execGenerationDrained l index s) :=
  .onBlock h fun _ hb => .entryDrained hb

theorem Machine.OutSized.execPortStats {q : Req} (h : s.Sized) : OutSized (execPortStats q s) :=
  .onBlock h fun _ hb => .serve hb fun _ hb2 => .runPortStats hb2

theorem Machine.OutSized.execMacsecSaInstall {q : Req} (h : s.Sized) : OutSized (execMacsecSaInstall q s) :=
  .onBlock h fun _ hb => .serve hb fun _ hb2 => .runMacsecSa hb2

theorem Machine.OutSized.execMacsecSaMakeCurrent {q : Req} (h : s.Sized) : OutSized (execMacsecSaMakeCurrent q s) :=
  .onBlock h fun _ hb => .serve hb fun _ hb2 => .runMacsecSa hb2

theorem Machine.OutSized.execMacsecSaRetire {q : Req} (h : s.Sized) : OutSized (execMacsecSaRetire q s) :=
  .onBlock h fun _ hb => .serve hb fun _ hb2 => .runMacsecSa hb2

theorem Machine.OutSized.execFrameIngress {port : PhyPort} {sec : Option SecTag} {f : EthFrame} (h : s.Sized) :
    OutSized (execFrameIngress l port sec f s) := .onBlock h fun _ hb => .frameIn hb

theorem Machine.OutSized.execVpTransmitDescriptor {p : Prid} (h : s.Sized) : OutSized (execVpTransmitDescriptor l p s) :=
  .next (.withMem (.withBlock (.vpTransmit h)))

theorem Machine.OutSized.execEgressTransmit {port : PhyPort} (h : s.Sized) : OutSized (execEgressTransmit l port s) :=
  .onBlock h fun _ hb => .egress hb

theorem Machine.OutSized.execPortLinkDown {port : PhyPort} (h : s.Sized) : OutSized (execPortLinkDown l port s) :=
  .onBlock h fun _ hb => .ite hb (.ite (.flushPort (.setLink (.raise hb))) (.setLink (.raise hb)))

theorem Machine.OutSized.execPortLinkUp {port : PhyPort} (h : s.Sized) : OutSized (execPortLinkUp l port s) :=
  .onBlock h fun _ hb => .ite hb (.raise (.setLink hb))

theorem Machine.OutSized.execPortHoldExpiry {port : PhyPort} (h : s.Sized) : OutSized (execPortHoldExpiry l port s) := by
  unfold Machine.execPortHoldExpiry
  refine .onBlock h fun _ hb => ?_
  split
  · exact .flushPort (.setLink hb)
  · exact .ite (.flushPort (.modLane hb)) (.ite (.flushPort hb) hb)
  · exact hb

theorem Machine.OutSized.execDeckCount {free linked inFlight : Nat} (h : s.Sized) :
    OutSized (execDeckCount l free linked inFlight s) :=
  .onBlock h fun _ hb => .ite hb (.ite (.modLane hb) (.onlyIf (.modLane hb) fun hb2 => .swEvent hb2))

theorem Machine.OutSized.execReclaimSweepEnd {returned : Nat} (h : s.Sized) : OutSized (execReclaimSweepEnd l returned s) :=
  .onBlock h fun _ hb => .ite hb (.swEvent (.modLane hb))

theorem Machine.OutSized.execSequenceRecoveryReset {handle : Fin 1024} (h : s.Sized) :
    OutSized (execSequenceRecoveryReset l handle s) := .onBlock h fun _ hb => .ite (.swEvent (.modLane hb)) hb

theorem Machine.OutSized.execMacsecRxWaitExpiry (h : s.Sized) : OutSized (execMacsecRxWaitExpiry l s) :=
  .onBlock h fun _ hb => .ite hb hb

/-! ## Wake sources -/

theorem Block.Sized.canEv {i : Nat} {state : Bool} {cause n : Nat} (h : b.Sized) : (b.canEv l i state cause n).Sized :=
  .ite (.ite h (.modBus h)) (.modEv (.raise (.ite h (.modBus h))))

theorem Block.Sized.canQueue {i : Nat} {t : CanTx} (h : b.Sized) : (b.canQueue l i t).Sized :=
  .ite (.canEv (.modLane h fun _ hx => .modCtl hx)) (.modLane h fun _ hx => .modCtl hx)

theorem Block.Sized.nmSend {i : Nat} {keep commit : Bool} (h : b.Sized) : (b.nmSend i keep commit).Sized :=
  foldl_keeps Block.Sized h fun _ _ hb => .canQueue hb

theorem Block.Sized.heardAwake {network node gap : Nat} (h : b.Sized) : (b.heardAwake network node gap).Sized := .modNw h

theorem Block.Sized.awakeEnds {network node : Nat} (h : b.Sized) : (b.awakeEnds network node).Sized := .modNw h

theorem Block.Sized.sleepBegins (h : b.Sized) : b.sleepBegins.Sized :=
  .modLanes (Block.Sized.mapInputs (.mapCan (.raiseAll (.modNw h)))) fun _ hx => .modRing hx

theorem Block.Sized.sleepEnds {src detail : Nat} (h : b.Sized) : (b.sleepEnds src detail).Sized :=
  .mapCan (foldl_keeps Block.Sized (.modLane (.modLane (.finishWhere (.raiseAll (.modNw h))) fun _ hx => .modRing hx) fun _ hx =>
    .modRing hx) fun _ _ hb => .nmSend hb)

theorem Block.Sized.wakeRequest {src detail : Nat} (h : b.Sized) : (b.wakeRequest src detail).Sized := by
  unfold Block.wakeRequest
  split
  · exact .sleepEnds h
  · exact .modNw h
  · exact h

theorem Block.Sized.confirmWake (h : b.Sized) : b.confirmWake.Sized := .modNw h

end Keeps

end Sys2Proof
end

section
/-! PROOF. The sizes of tables: what the ring, the buses, sleep and the bridge keep. One lemma says it of each operation, put
together from those of the operations it is made of. Part of O5. -/

namespace Sys2Proof

open Machine

section Keeps

variable {b : Block} {l : Lane} {s : State} {r : Req} {m : MemSt}

/-! ## Ring nodes -/

theorem Block.Sized.modNode {f : RingNode → RingNode} (h : b.Sized) : (b.modNode l f).Sized := .modLane h

theorem Block.Sized.ringEv {ev cause subject : Nat} (h : b.Sized) : (b.ringEv l ev cause subject).Sized := .raise h

theorem Block.Sized.leaveSync {dest : RingState} (h : b.Sized) : (b.leaveSync l dest).Sized :=
  .onlyIf (.modNode h) fun hb => .ringEv hb

theorem Block.Sized.enterSync (h : b.Sized) : (b.enterSync l).Sized := .ringEv (.modNode h)

theorem Block.Sized.settleBids (h : b.Sized) : b.settleBids.Sized := .finishWhere (.modMail h)

theorem Block.Sized.dropBids (h : b.Sized) : b.dropBids.Sized := .finishWhere h

theorem Block.Sized.runRingBid (h : b.Sized) : (b.runRingBid r).Sized :=
  .check7 h fun _ hb => .ite (.reply hb) (.ite (.reply hb)
    (.ite (.ok (.modNode (.modNode hb))) (.ite (.ok hb) (.settleBids (.hold (.modLanes (.dropBids hb)))))))

theorem Block.Sized.ringSend {f : RingFrame} (h : b.Sized) : (b.ringSend l f).Sized := .modNode h

theorem Block.Sized.sendOwn {f : RingFrame} (h : b.Sized) : (b.sendOwn l f).Sized :=
  .ite (.ringSend h) (.ringSend (.ite (.ringSend h) h))

theorem Block.Sized.slotHead {b : Block} {l : Lane} {port slot : Nat} {ids : List Nat} (h : b.Sized) :
    (b.slotHead l port slot ids).1.Sized := by
  induction ids generalizing b with
  | nil => exact h
  | cons id t ih =>
    unfold Block.slotHead
    split
    · exact ih h
    · exact .iteFst (ih h) (.iteFst (ih (.takeHead h)) (.takeHead h))

theorem Block.Sized.slotFrame {slot : Nat} (h : b.Sized) : (b.slotFrame l slot).1.Sized := by
  unfold Block.slotFrame
  split
  next hwest => exact .of_fst hwest (.slotHead h)
  next hwest => exact .slotHead (.of_fst hwest (.slotHead h))

theorem Block.Sized.sendStatic {slot : Nat} (h : b.Sized) : (b.sendStatic l slot).Sized := by
  unfold Block.sendStatic
  split
  · exact h
  · exact .ite h (.sendOwn (.modNode (.slotFrame h)))

theorem Block.Sized.sendPolled {slot : Nat} (h : b.Sized) : (b.sendPolled l slot).Sized := by
  unfold Block.sendPolled
  split
  · exact h
  · exact .ite h (.sendOwn (.modNode (.slotFrame h)))

theorem Block.Sized.poll {slot : Nat} (h : b.Sized) : (b.poll l slot).Sized := by
  unfold Block.poll
  split
  · exact h
  · exact .ite h (.onlyIf (.sendOwn h) fun hb => .sendPolled hb)

theorem Block.Sized.ringIn {port : RingPort} {f : EthFrame} (h : b.Sized) : (b.ringIn l port f).Sized :=
  .ite h (.switchIn (.modLane h fun _ hx => .modSw hx fun _ hw => .modStats hw))

theorem Block.Sized.sleepWatch {f : RingFrame} (h : b.Sized) : (b.sleepWatch l f).Sized :=
  .ite (.awakeEnds h) (.heardAwake (.confirmWake h))

theorem Block.Sized.takeIn {port : RingPort} {f : RingFrame} (h : b.Sized) : (b.takeIn l port f).Sized := by
  unfold Block.takeIn
  refine .ite h ?_
  dsimp only
  split
  · exact .onlyIf (.onlyIf (.onlyIf (.modNode h) fun hb => .sleepWatch (.modNode hb)) fun hb => .modNode hb) fun hb => .ringIn hb
  · exact .onlyIf (.onlyIf (.modNode h) fun hb => .sleepWatch (.modNode hb)) fun hb => .modNode hb

theorem Block.Sized.repeatFrame {port : RingPort} {f : RingFrame} (h : b.Sized) : (b.repeatFrame l port f).Sized :=
  .ite (.ringEv h) (.ite (.ringSend (.drawNat h))
    (.ite (.ringEv (.drawNat h)) (.ringSend (.ite (.ringSend (.drawNat h)) (.drawNat h)))))

theorem Block.Sized.ringWakes (h : b.Sized) : (b.ringWakes l).Sized := .ite (.wakeRequest h) h

theorem Block.Sized.slotArrives {port : RingPort} {f : RingFrame} (h : b.Sized) : (b.slotArrives l port f).Sized :=
  .ite h (.ite (.ite h (.ringWakes h)) (.ite (.takeIn (.ite h (.ringWakes h)))
    (.ite (.ite (.ringEv (.ite h (.ringWakes h))) (.onlyIf (.ite h (.ringWakes h)) fun hb => .repeatFrame hb))
    (.onlyIf (.takeIn (.ite h (.ringWakes h))) fun hb => .repeatFrame hb))))

theorem Block.Sized.openArrives {port : RingPort} {f : RingFrame} (h : b.Sized) : (b.openArrives l port f).Sized := by
  unfold Block.openArrives
  refine .ite h (.ite (.ite h (.ringWakes h))
      (.ite (.modNode (.ite h (.ringWakes h))) (.onlyIf (.ite h (.ringWakes h)) fun hb => ?_)))
  split
  · exact hb
  · exact .ite (.ringIn hb) (.ite (.modNode hb) (.ringEv hb))

theorem Block.Sized.sleepRound (h : b.Sized) : (b.sleepRound l).Sized :=
  .ite h (.ite (.ite (.raise (.modNode h)) h) (.ite (.modNode (.leaveSync h)) h))

theorem Block.Sized.handRound (h : b.Sized) : (b.handRound l).Sized := .ite h (.ite (.ringEv (.modNode h)) (.modNode h))

theorem Block.Sized.announce {bids : List (Nat × Fin 8)} {noBid : BitVec 16} (h : b.Sized) : (b.announce l bids noBid).Sized := by
  unfold Block.announce
  refine .ite h ?_
  split
  · exact h
  · exact .modNode h

theorem Block.Sized.sendBeacon (h : b.Sized) : (b.sendBeacon l).Sized := .ite (.modNode h) h

theorem Block.Sized.roundBegins (h : b.Sized) : (b.roundBegins l).Sized :=
  .ite h (.sendBeacon (.announce (.settleBids
    (.handRound (.sleepRound (.onlyIf (.modNode (.modNode (.ite (.ringEv h) h))) fun hb => .enterSync hb))))))

theorem Block.Sized.beaconCall {c : Beacon} (h : b.Sized) : (b.beaconCall l c).Sized := by
  unfold Block.beaconCall
  dsimp only
  split
  · exact h
  · exact .modNode h
  · exact .ite (.ite h (.ringEv (.leaveSync h))) (.ite h (.modNode h))

theorem Block.Sized.beaconIn {c : Beacon} (h : b.Sized) : (b.beaconIn l c).Sized :=
  .ite h (.ite (.ringWakes h) (.ite (.onlyIf (.modNode (.leaveSync (.ringWakes h))) fun hb => .ringEv hb)
    (.ite (.ringWakes h) (.beaconCall (.modNode (.ringWakes h))))))

theorem Block.Sized.dealerGone (h : b.Sized) : (b.dealerGone l).Sized :=
  .ite h (.ite (.sendBeacon (.ringEv (.modNode h))) (.modNode h))

theorem Block.Sized.graceOver (h : b.Sized) : (b.graceOver l).Sized := .ite h (.ringEv (.modNode (.leaveSync h)))

theorem Block.Sized.ringColdStart (h : b.Sized) : (b.ringColdStart l).Sized := .ite h (.sendBeacon (.ringEv (.modNode h)))

theorem Block.Sized.rateStep {vals : List (Nat × Int)} (h : b.Sized) : (b.rateStep l vals).Sized :=
  .ite h (.onlyIf (.modNode h) fun hb => .ringEv hb)

theorem Block.Sized.average (h : b.Sized) : (b.average l).Sized :=
  .ite (.leaveSync (.modNode (.rateStep (.onlyIf (.ite (.ringEv h) h) fun hb => .ringEv hb))))
    (.onlyIf (.modNode (.rateStep (.onlyIf (.ite (.ringEv h) h) fun hb => .ringEv hb))) fun hb => .enterSync hb)

theorem Block.Sized.findCall (h : b.Sized) : (b.findCall l).Sized := .ite h (.ite (.modNode h) (.ringEv (.modNode h)))

theorem Block.Sized.findAwake (h : b.Sized) : (b.findAwake l).Sized := .ite (.modNode h) h

theorem Block.Sized.missedPolls (h : b.Sized) : (b.missedPolls l).Sized :=
  .ite h (foldl_keeps Block.Sized h fun _ _ hb => .ringEv (.modNode hb))

theorem Block.Sized.slotsOver (h : b.Sized) : (b.slotsOver l).Sized := .ite h (.average (.missedPolls (.findAwake (.findCall h))))

theorem Block.Sized.guardOver (h : b.Sized) : (b.guardOver l).Sized :=
  .ite h (foldl_keeps Block.Sized (.modNode h) fun _ _ hb => .ite (.ringEv (.modNode hb)) hb)

theorem Block.Sized.delaysMeasured {rge rgw : List Nat} (h : b.Sized) : (b.delaysMeasured l rge rgw).Sized :=
  .ite h (.onlyIf (.modNode h) fun hb => .onlyIf (.ringEv hb) fun hb2 => .leaveSync hb2)

theorem Block.Sized.keepBlocks (h : b.Sized) : (b.keepBlocks l).Sized :=
  .ite (.ringEv (.modNode h)) (.ite (.beginRestart (.ringEv (.modNode (.ringEv (.modNode h)))))
    (.leaveSync (.ringEv (.modNode (.ringEv (.modNode h))))))

theorem Block.Sized.ringBreaks {p : RingPort} (h : b.Sized) : (b.ringBreaks l p).Sized := .ite h (.modNode (.ite h (.ringEv h)))

theorem Machine.OutSized.execRingBid {q : Req} (h : s.Sized) : OutSized (execRingBid q s) :=
  .onBlock h fun _ hb => .serve hb fun _ hb2 => .runRingBid hb2

theorem Machine.OutSized.execRingBidTimeout (h : s.Sized) : OutSized (execRingBidTimeout l s) :=
  .onBlock h fun _ hb => .ite (.dropBids (.modLanes hb)) hb

theorem Machine.OutSized.execRoundStart (h : s.Sized) : OutSized (execRoundStart l s) := .onBlock h fun _ hb => .roundBegins hb

theorem Machine.OutSized.execBeaconReceived {c : Beacon} (h : s.Sized) : OutSized (execBeaconReceived l c s) :=
  .onBlock h fun _ hb => .beaconIn hb

theorem Machine.OutSized.execOwnSlotStart {slot : Fin 64} (h : s.Sized) : OutSized (execOwnSlotStart l slot s) :=
  .onBlock h fun _ hb => .sendStatic hb

theorem Machine.OutSized.execPolledSlotStart {slot : Fin 64} (h : s.Sized) : OutSized (execPolledSlotStart l slot s) :=
  .onBlock h fun _ hb => .poll hb

theorem Machine.OutSized.execPollReceived {w : RingWire} {slot : Fin 64} {poll : Poll} (h : s.Sized) :
    OutSized (execPollReceived l w slot poll s) := .onBlock h fun _ hb => .ite (.sendPolled hb) hb

theorem Machine.OutSized.execSlotFrameReceived {port : RingPort} {f : RingFrame} (h : s.Sized) :
    OutSized (execSlotFrameReceived l port f s) := .onBlock h fun _ hb => .slotArrives hb

theorem Machine.OutSized.execOpenWindowFrame {port : RingPort} {f : RingFrame} (h : s.Sized) :
    OutSized (execOpenWindowFrame l port f s) := .onBlock h fun _ hb => .openArrives hb

theorem Machine.OutSized.execDelayMeasurementDue {rge rgw : List Nat} (h : s.Sized) :
    OutSized (execDelayMeasurementDue l rge rgw s) := .onBlock h fun _ hb => .delaysMeasured hb

theorem Machine.OutSized.execSlotsEnd (h : s.Sized) : OutSized (execSlotsEnd l s) := .onBlock h fun _ hb => .slotsOver hb

theorem Machine.OutSized.execGuardEnd (h : s.Sized) : OutSized (execGuardEnd l s) := .onBlock h fun _ hb => .guardOver hb

theorem Machine.OutSized.execDealerSilent (h : s.Sized) : OutSized (execDealerSilent l s) := .onBlock h fun _ hb => .dealerGone hb

theorem Machine.OutSized.execRingGraceExpired (h : s.Sized) : OutSized (execRingGraceExpired l s) :=
  .onBlock h fun _ hb => .graceOver hb

theorem Machine.OutSized.execColdStart (h : s.Sized) : OutSized (execColdStart l s) := .onBlock h fun _ hb => .ringColdStart hb

theorem Machine.OutSized.execKeepBlock {x1 : RingPort} (h : s.Sized) : OutSized (execKeepBlock l x1 s) :=
  .onBlock h fun _ hb => .ite hb (.keepBlocks hb)

theorem Machine.OutSized.execRepeatCut {x1 : RingPort} (h : s.Sized) : OutSized (execRepeatCut l x1 s) :=
  .onBlock h fun _ hb => .ite hb (.onlyIf (.modNode hb) fun hb2 => .ringEv hb2)

theorem Machine.OutSized.execRingLinkBreak {port : RingPort} (h : s.Sized) : OutSized (execRingLinkBreak l port s) :=
  .onBlock h fun _ hb => .ringBreaks hb

theorem Machine.OutSized.execLinkHealthy {port : RingPort} (h : s.Sized) : OutSized (execLinkHealthy l port s) :=
  .onBlock h fun _ hb => .ite hb (.modNode hb)

theorem Machine.OutSized.execRingLineEnergy {x1 : RingPort} (h : s.Sized) : OutSized (execRingLineEnergy l x1 s) :=
  .onBlock h fun _ hb => .ringWakes hb

/-! ## CAN controllers -/

theorem Block.Sized.canRoom {i : Nat} (h : b.Sized) : (b.canRoom l i).Sized :=
  .ite h (.canEv (.modBus (.modLane h fun _ hx => .modCtl hx)))

theorem Block.Sized.runCanSend (h : b.Sized) : (b.runCanSend r).Sized := by
  unfold Block.runCanSend
  refine .check7 h fun _ hb => .ite (.reply hb) ?_
  split
  · exact .reply hb
  · refine .ite (.ok ?_) (.reply ?_)
    · split
      · exact .canQueue (.canRoom (.canQueue hb))
      · exact .canQueue hb
    · split
      · exact .canEv (.modBus hb)
      · exact hb

theorem Block.Sized.canModeLeft {i : Nat} (h : b.Sized) : (b.canModeLeft i).Sized :=
  foldl_keeps Block.Sized h fun _ _ hb => .ite hb (.canEv (.modLane hb fun _ hx => .modCtl hx))

theorem Block.Sized.canFilterNow {p bus i : Nat} {f : Option CanFilter} (h : b.Sized) : (b.canFilterNow p bus i f).Sized :=
  .modBus h

theorem Block.Sized.runCanFilter (h : b.Sized) : (b.runCanFilter r).Sized := .check7 h fun _ hb => .ite (.reply hb) (.finish hb)

theorem Block.Sized.canDeliver {i : Nat} {f : CanFrame} (h : b.Sized) : (b.canDeliver i f).Sized :=
  foldl_keeps Block.Sized (.modBus h) fun _ _ hb => .modBus hb

theorem Block.Sized.canAgree {i : Nat} {act sby : List CanFrame} {actOff two : Bool} (h : b.Sized) :
    (b.canAgree i act sby actOff two).Sized :=
  .ite (foldl_keeps Block.Sized h fun _ _ hb => .canDeliver hb)
    (.ite (foldl_keeps Block.Sized h fun _ _ hb => .canDeliver hb)
    (foldl_keeps Block.Sized (.modMod h) fun _ _ hb => .canDeliver hb))

theorem Block.Sized.runCanRead (h : b.Sized) : (b.runCanRead r).Sized :=
  .check7 h fun _ hb => .needRoom hb fun _ hb2 => .ite (.reply hb2) (.ok (.modBus hb2))

theorem Block.Sized.canErrs {i tec rec : Nat} (h : b.Sized) : (b.canErrs l i tec rec).Sized :=
  .ite (.canEv (.modLane h fun _ hx => .modCtl hx)) (.onlyIf (.modLane h fun _ hx => .modCtl hx) fun hb => .canEv hb)

theorem Block.Sized.canRxGood {i : Nat} (h : b.Sized) : (b.canRxGood l i).Sized :=
  .ite h (.ite (.canErrs (.drawNat h)) (.canErrs h))

theorem Block.Sized.nmHeard {i : Nat} {f : CanFrame} (h : b.Sized) : (b.nmHeard i f).Sized :=
  .ite h (.ite (.heardAwake (.confirmWake h)) (.awakeEnds h))

theorem Block.Sized.canArrives {i : Nat} {f : CanFrame} (h : b.Sized) : (b.canArrives l i f).Sized :=
  .ite h (.ite (.modLane (.ite (.canRxGood h) h) fun _ hx => .modCtl hx)
    (.onlyIf (.nmHeard (.onlyIf (.ite (.canRxGood h) h) fun hb => .wakeRequest hb)) fun hb => .takesIn hb))

theorem Block.Sized.canMeasure {i : Nat} {f : CanFrame} (h : b.Sized) : (b.canMeasure l i f).Sized :=
  .ite h (.ite (.modLane (.drawNat h) fun _ hx => .modCtl hx)
    (.ite (.modLane (.drawNat h) fun _ hx => .modCtl hx) (.canEv (.modLane (.drawNat h) fun _ hx => .modCtl hx))))

theorem Block.Sized.busCommits {i : Nat} (h : b.Sized) : (b.busCommits i).Sized := .ite h (.raiseAll (.modBus h))

theorem Block.Sized.canSent {i : Nat} (h : b.Sized) : (b.canSent l i).Sized := by
  unfold Block.canSent
  refine .ite h ?_
  split
  · exact h
  · exact .onlyIf (.canMeasure (.onlyIf (.modLane h fun _ hx => .modCtl hx) fun hb => .canErrs hb)) fun hb => .busCommits hb

theorem Block.Sized.canTryFails {i : Nat} {error : Bool} (h : b.Sized) : (b.canTryFails l i error).Sized := by
  unfold Block.canTryFails
  refine .ite h ?_
  split
  · exact h
  · exact .ite (.modLane (.ite (.canErrs h) h) fun _ hx => .modCtl hx)
        (.canEv (.modLane (.ite (.canErrs h) h) fun _ hx => .modCtl hx))

theorem Block.Sized.canBusOff {i : Nat} (h : b.Sized) : (b.canBusOff l i).Sized :=
  .ite h (.ite (.canEv (.modLane h fun _ hx => .modCtl hx)) (.canEv (.canEv (.modLane h fun _ hx => .modCtl hx))))

theorem Block.Sized.canRecovers {i : Nat} (h : b.Sized) : (b.canRecovers l i).Sized :=
  .ite h (.canEv (.modLane h fun _ hx => .modCtl hx))

theorem Machine.OutSized.execCanSend {q : Req} (h : s.Sized) : OutSized (execCanSend q s) :=
  .onBlock h fun _ hb => .serve hb fun _ hb2 => .runCanSend hb2

theorem Machine.OutSized.execCanRead {q : Req} (h : s.Sized) : OutSized (execCanRead q s) :=
  .onBlock h fun _ hb => .serve hb fun _ hb2 => .runCanRead hb2

theorem Machine.OutSized.execCanFilterSet {q : Req} (h : s.Sized) : OutSized (execCanFilterSet q s) :=
  .onBlock h fun _ hb => .serve hb fun _ hb2 => .runCanFilter hb2

theorem Machine.OutSized.execCanFrameReceived {i : Bus} {f : CanFrame} (h : s.Sized) : OutSized (execCanFrameReceived l i f s) :=
  .onBlock h fun _ hb => .canArrives hb

theorem Machine.OutSized.execCanFrameSent {i : Bus} (h : s.Sized) : OutSized (execCanFrameSent l i s) :=
  .onBlock h fun _ hb => .canSent hb

theorem Machine.OutSized.execCanTryFailed {i : Bus} {error : Bool} (h : s.Sized) : OutSized (execCanTryFailed l i error s) :=
  .onBlock h fun _ hb => .canTryFails hb

theorem Machine.OutSized.execBusOff {i : Bus} (h : s.Sized) : OutSized (execBusOff l i s) := .onBlock h fun _ hb => .canBusOff hb

theorem Machine.OutSized.execBusOffRecovery {i : Bus} (h : s.Sized) : OutSized (execBusOffRecovery l i s) :=
  .onBlock h fun _ hb => .canRecovers hb

theorem Machine.OutSized.execDominantTimeout {i : Bus} (h : s.Sized) : OutSized (execDominantTimeout l i s) :=
  .onBlock h fun _ hb => .ite hb (.canEv hb)

theorem Machine.OutSized.execCanBusError {i : Bus} {tec rec : Nat} (h : s.Sized) : OutSized (execCanBusError l i tec rec s) :=
  .onBlock h fun _ hb => .ite (.canErrs hb) hb

/-! ## Sleep and wake -/

theorem Block.Sized.silentRing (h : b.Sized) : (b.silentRing l).Sized := .ite (.raise (.modNode h)) h

theorem Block.Sized.allChannelsOff (h : b.Sized) : b.allChannelsOff.Sized :=
  .ite (.mapDies h) (foldl_keeps Block.Sized (.mapDies h) fun _ _ hb => .sendFrame hb)

theorem Block.Sized.moduleCommits (h : b.Sized) : b.moduleCommits.Sized := by
  have hring := Block.Sized.onlyIf (q := b.nw.state = 1) h fun h => .silentRing (l := .b) (.silentRing (l := .a) h)
  exact .ite hring (.finishWhere (.allChannelsOff (.mapIdxInputs (.modNw (foldl_keeps Block.Sized hring fun _ _ hb => .raiseAll hb)))))

theorem Block.Sized.inputWakes (h : b.Sized) : b.inputWakes.Sized :=
  foldl_keeps Block.Sized h fun _ _ hb => .ite hb (.onlyIf (.ite (.confirmWake hb) hb) fun hb2 => .wakeRequest hb2)

theorem DieSt.Sized.down {x : DieSt} : x.down.Sized := DieSt.Sized.delivered

theorem Block.Sized.lanesOff {cause : Nat} (h : b.Sized) : (b.lanesOff cause).Sized :=
  .modNw (.modMod (.modLanes (.breakCopy (.breakCopy h)) fun x _ => LaneSt.Sized.reset (x := x)))

theorem LaneSt.Sized.detect {x : LaneSt} {code detail flags : Nat} (h : x.Sized) : (x.detect code detail flags).Sized := h

theorem LaneSt.Sized.sleeps {x : LaneSt} (h : x.Sized) : x.sleeps.Sized := h

theorem LaneSt.Sized.woken {x : LaneSt} (h : x.Sized) : x.woken.Sized := h

theorem Block.Sized.wakes {dom : Lane} (h : b.Sized) : (b.wakes dom).Sized :=
  .ite (.modLane (.ite (.modNw (.iteSnd (.drawNat h) h)) (.iteSnd (.drawNat h) h)))
    (.modLanes (.ite (.modNw (.iteSnd (.drawNat h) h)) (.iteSnd (.drawNat h) h)))

theorem Block.Sized.sleepNow (h : b.Sized) : b.sleepNow.Sized := .modNw (.mapDies (.modLanes (.lanesOff h)) fun _ _ => .down)

theorem Block.Sized.poweredDown (h : b.Sized) : b.poweredDown.Sized := by
  unfold Block.poweredDown
  refine .ite h ?_
  split
  · exact .sleepNow h
  · exact .wakes (.wakes (.modLanes (.sleepNow h)))

theorem Block.Sized.wakeDetected {dom : Lane} {src : WakeSrc} (h : b.Sized) : (b.wakeDetected dom src).Sized := by
  unfold Block.wakeDetected
  split
  · exact h
  · refine .ite (.wakes (.modLane h)) ?_
    split
    · exact .wakes (.modLane h)
    · exact .modLane h
    · exact .wakeRequest h
    · exact .ite (.wakeRequest h) (.ite (.ringWakes h) h)
    · exact h

theorem Block.Sized.wakeInputChecked {dom : Lane} {i : Nat} {mv : Int} (h : b.Sized) : (b.wakeInputChecked dom i mv).Sized :=
  .ite h (.ite (.modInput h) (.ite (.modInput h) (.wakeDetected (.modInput h))))

theorem Block.Sized.backToSleep (h : b.Sized) : b.backToSleep.Sized := .modNw (.sleepNow h)

theorem Block.Sized.wakeAckLate {life : Lifecycle} {dom : Lane} (h : b.Sized) : (b.wakeAckLate life dom).Sized :=
  .ite h (.ite (.ite (.backToSleep h) h) (.ite h (.onlyIf (.modLane (.leave h)) fun hb => .backToSleep hb)))

theorem Block.Sized.wakeRecord (h : b.Sized) : (b.wakeRecord l).Sized := by
  unfold Block.wakeRecord
  dsimp only
  split
  · exact h
  · exact .modLanes (.raise (.ite (.modInput (.mapInputs (.modNw h))) (.mapInputs (.modNw h))))

theorem Block.Sized.acknowledges (h : b.Sized) : (b.acknowledges l).Sized := .ite (.modLane h) (.modLane (.modLane h))

theorem Block.Sized.wakeTaken (h : b.Sized) : (b.wakeTaken l).Sized :=
  .ite h (.onlyIf (.onlyIf (.wakeRecord (.modNw h)) fun hb => .confirmWake hb) fun hb => .modNw (.raise hb))

theorem Block.Sized.falseWake (h : b.Sized) : b.falseWake.Sized := .ite h (.sleepBegins (.raiseAll (.modNw h)))

theorem Block.Sized.keepsAwake {network node : Nat} (h : b.Sized) : (b.keepsAwake network node).Sized := by
  unfold Block.keepsAwake
  refine .ite h ?_
  split
  · exact h
  · exact .raiseAll (.modNw h)

theorem Block.Sized.runSleep (h : b.Sized) : (b.runSleep r).Sized :=
  .check7 h fun _ hb => .ite (.ok (.wakeRequest hb)) (.ite (.reply hb) (.sleepBegins (.hold hb)))

theorem Block.Sized.runWakeHold (h : b.Sized) : (b.runWakeHold r).Sized :=
  .check7 h fun _ hb => .ite (.ok (.wakeRequest (.confirmWake (.modNw hb)))) (.ok (.modNw hb))

theorem Machine.OutSized.execSleepRequest {q : Req} (h : s.Sized) : OutSized (execSleepRequest q s) :=
  .onBlock h fun _ hb => .serve hb fun _ hb2 => .runSleep hb2

theorem Machine.OutSized.execSleepCancel {q : Req} (h : s.Sized) : OutSized (execSleepCancel q s) :=
  .onBlock h fun _ hb => .serve hb fun _ hb2 => .runSleep hb2

theorem Machine.OutSized.execWakeHold {q : Req} (h : s.Sized) : OutSized (execWakeHold q s) :=
  .onBlock h fun _ hb => .serve hb fun _ hb2 => .runWakeHold hb2

theorem Machine.OutSized.execWakeInputCheck {dom : Lane} {i : Input} {mv : Int} (h : s.Sized) :
    OutSized (execWakeInputCheck dom i mv s) := .onBlock h fun _ hb => .wakeInputChecked hb

theorem Machine.OutSized.execNmCycle (h : s.Sized) : OutSized (execNmCycle s) :=
  .onBlock h fun _ hb => .ite hb (foldl_keeps Block.Sized hb fun _ _ hb2 => .ite hb2 (.nmSend hb2))

theorem Machine.OutSized.execNmTimeout {i : Bus} (h : s.Sized) : OutSized (execNmTimeout i s) :=
  .onBlock h fun _ hb => .ite hb (.ite (.busCommits (foldl_keeps Block.Sized hb fun _ _ hb2 => .canEv hb2))
    (.ite (.nmSend (.modBus hb)) hb))

theorem Machine.OutSized.execPowerDownComplete (h : s.Sized) : OutSized (execPowerDownComplete s) :=
  .onBlock h fun _ hb => .poweredDown hb

theorem Machine.OutSized.execWakeSource {dom : Lane} {src : WakeSrc} (h : s.Sized) : OutSized (execWakeSource dom src s) :=
  .onBlock h fun _ hb => .wakeDetected hb

theorem Machine.OutSized.execWakePin (h : s.Sized) : OutSized (execWakePin s) :=
  .onBlock h fun _ hb => .wakeRequest (.confirmWake hb)

theorem Machine.OutSized.execWakeAckTimeout {dom : Lane} (h : s.Sized) : OutSized (execWakeAckTimeout dom s) :=
  .onBlock h fun _ hb => .wakeAckLate hb

theorem Machine.OutSized.execNoTrafficTimeout (h : s.Sized) : OutSized (execNoTrafficTimeout s) :=
  .onBlock h fun _ hb => .falseWake hb

theorem Machine.OutSized.execKeepawakeThreshold {network : Fin 14} {node : Nat} (h : s.Sized) :
    OutSized (execKeepawakeThreshold network node s) := .onBlock h fun _ hb => .keepsAwake hb

theorem Machine.OutSized.execWakeCoordinationLinkFail (h : s.Sized) : OutSized (execWakeCoordinationLinkFail s) := .onBlock h

/-! ## The cross-lane bridge -/

theorem Block.Sized.setResult {pair : Nat} {r : AccResult} (h : b.Sized) : (b.setResult l pair r).Sized :=
  .modLane h fun _ hx => .modPair hx

theorem Block.Sized.gateRefuses {pair p cause addr : Nat} (h : b.Sized) : (b.gateRefuses l pair p cause addr).Sized :=
  .ite (.setResult h) (.gateViolation (.setResult h))

theorem Block.Sized.gateStalls {pair prid : Nat} {a : Access} (h : b.Sized) : (b.gateStalls l pair prid a).Sized :=
  .modLane h fun _ hx => .modPair hx

theorem Block.Sized.runMark (h : b.Sized) : (b.runMark r).Sized := .check7 h fun _ hb => .finish hb

theorem Block.Sized.markNow {consume : Bool} {entry base len : Nat} (h : b.Sized) : (b.markNow consume entry base len).Sized :=
  .modBridge h

theorem Block.Sized.holdLines {pair : Nat} {ls : List PrefLine} (h : b.Sized) : (b.holdLines l pair ls).Sized :=
  .ite (.modLane h fun _ hx => .modPair hx) (.brCount (.modLane h fun _ hx => .modPair hx))

theorem Block.Sized.traffic {n : Nat} (h : b.Sized) : (b.traffic l n).Sized := .modBridge h

theorem Block.Sized.bridgeRate (h : b.Sized) : b.bridgeRate.Sized := .ite h (.modBridge h)

theorem Block.Sized.bridgeWork {pair : Nat} {w : BridgeWait} (h : b.Sized) : (b.bridgeWork l pair w).Sized := .ite (.modRates h) h

theorem Block.Sized.bridgeServed {pair : Nat} {w : BridgeWait} (h : b.Sized) : (b.bridgeServed l pair w).Sized :=
  .ite (.modLane h fun _ hx => .modPair hx) (.ite (.modRates h) h)

theorem Block.Sized.bridgePerform {pair p : Nat} {op : BridgeOp} {a n : Nat} (h : b.Sized) :
    (b.bridgePerform m l pair p op a n).1.Sized := by
  unfold Block.bridgePerform
  dsimp only
  split
  · split
    · exact .setResult (.brCount h)
    · exact .iteFst (.setResult h) (.setResult (.traffic (.modBridge h)))
  · exact .iteFst (.setResult h) (.setResult (.traffic (.dropLines h)))
  · exact .iteFst (.setResult h) (.setResult (.traffic (.modBridge (.dropLines h))))
  · exact .iteFst (.setResult (.traffic (.dropLines (.modBridge h)))) (.setResult h)
  · exact .iteFst (.setResult h) (.setResult (.traffic (.modBridge (.dropLines h))))

theorem Block.Sized.bridgeAccess {pair : Nat} {virt : Bool} {op : BridgeOp} {a n : Nat} (h : b.Sized) :
    (b.bridgeAccess m l pair virt op a n).1.Sized :=
  .iteFst h (.iteFst (.setResult h) (.iteFst (.setResult h)
    (.iteFst (.gateRefuses h) (.iteFst (.gateStalls h)
    (.iteFst (.setResult h) (.bridgeServed (.iteFst (.setResult (.bridgeWork h)) (.bridgePerform (.bridgeWork h)))))))))

theorem Block.Sized.completes {pair : Nat} {collected : Bool} (h : b.Sized) : (b.completes l pair collected).Sized := by
  unfold Block.completes
  split
  · exact h
  · exact .ite (.accRetires (.holdLines (.setResult (.modBridge h)))) (.onlyIf (.modBridge h) fun hb => .modBridge hb)

theorem Block.Sized.bridgeThrough {k : Nat} {virt : Bool} {op : BridgeOp} {a n : Nat} (h : b.Sized) :
    (b.bridgeThrough m l k virt op a n).1.Sized := .throughPair h (.bridgeAccess h)

theorem Block.Sized.bridgeTurn {tried : List Nat} (h : b.Sized) : (b.bridgeTurn m l tried).1.Sized := by
  unfold Block.bridgeTurn
  dsimp only
  split
  · exact h
  · split
    · exact h
    · exact .ite (.modLane (.bridgeThrough (.modLane h))) (.bridgeThrough (.modLane h))

theorem Block.Sized.bridgeTurns (h : b.Sized) : (b.bridgeTurns m l).1.Sized := by
  unfold Block.bridgeTurns
  exact foldl_keeps (fun x : Block × MemSt × List Nat => x.1.Sized) (start := (b, m, [])) h fun _ _ hb => .bridgeTurn hb

theorem Block.Sized.bridgeEvent {cause : Nat} (h : b.Sized) : (b.bridgeEvent l cause).Sized := .raiseLimited h

theorem Block.Sized.bridgeFreezes {p : Nat} (h : b.Sized) : (b.bridgeFreezes p).Sized :=
  foldl_keeps Block.Sized (.modBridge h) fun _ _ hb => foldl_keeps Block.Sized hb fun _ _ hb2 => .ite (.dropLines hb2) hb2

theorem Machine.OutSized.execBridgeRangeMark {q : Req} (h : s.Sized) : OutSized (execBridgeRangeMark q s) :=
  .onBlock h fun _ hb => .serve hb fun _ hb2 => .runMark hb2

theorem Machine.OutSized.execBridgeWindowAccess {pair : Pair} {virt : Bool} {op : BridgeOp} {offset size : Nat} (h : s.Sized) :
    OutSized (execBridgeWindowAccess l pair virt op offset size s) := .next (.withMem (.withBlock (.bridgeThrough h)))

theorem Machine.OutSized.execPrefetchLifeExpiry {pair : Pair} (h : s.Sized) : OutSized (execPrefetchLifeExpiry l pair s) := by
  unfold Machine.execPrefetchLifeExpiry
  refine .onBlock h fun _ hb => ?_
  split
  · exact hb
  · exact .dropLines hb

theorem Machine.OutSized.execBridgeCompletion {pair : Pair} {collected : Bool} (h : s.Sized) :
    OutSized (execBridgeCompletion l pair collected s) := .onBlock h fun _ hb => .completes hb

theorem Machine.OutSized.execLockExpiry (h : s.Sized) : OutSized (execLockExpiry s) := by
  unfold Machine.execLockExpiry
  refine .onBlock h fun _ hb => ?_
  split
  · exact hb
  · exact .bridgeEvent (.modBridge hb)

theorem Machine.OutSized.execCompletionTimeout (h : s.Sized) : OutSized (execCompletionTimeout l s) := by
  unfold Machine.execCompletionTimeout
  refine .onBlock h fun _ hb => ?_
  split
  · exact hb
  · exact .bridgeEvent (.brCount (.modBridge hb))

theorem Machine.OutSized.execFence {pair : Pair} {virt : Bool} {order : FenceOrder} (h : s.Sized) :
    OutSized (execFence l pair virt order s) :=
  .onBlock h fun _ hb => .ite hb (.retires (.onlyIf (.ite (.dropLines hb) hb) fun hb2 => .setResult hb2))

end Keeps

end Sys2Proof
end

section
/-! PROOF. The sizes of tables: what keys, storage, images, drains and faults keep. One lemma says it of each operation, put
together from those of the operations it is made of. Part of O5. -/

namespace Sys2Proof

open Machine

section Keeps

variable {b : Block} {l : Lane} {s : State} {r : Req} {m : MemSt}

/-! ## The key store -/

theorem Block.Sized.runKey {op : Nat} {replace : Bool} (h : b.Sized) : (b.runKey r op replace).Sized := by
  unfold Block.runKey
  refine .check7 h fun _ hb => .needRoom hb fun _ hb2 => .ite (.reply hb2)
      (.ite (.nameViolation (.reply hb2)) (.ite (.reply hb2) (.ite (.reply hb2) (.ite (.reply hb2) ?_))))
  split
  · exact .reply (.ite (.raiseAll hb2) hb2)
  · exact .ite (.ite (.reply hb2) (.ite (.hold hb2) (.finish hb2)))
        (.ite (.reply hb2) (.ite (.reply hb2) (.hold (.modSlot (.modKeys hb2)))))

theorem Block.Sized.keyNow {i : Nat} {k : KeySlot} (h : b.Sized) : (b.keyNow i k).Sized :=
  .onlyIf (.modSlot h) fun hb => .modKeys hb

theorem Block.Sized.shadowFree {i : Nat} (h : b.Sized) : (b.shadowFree i).Sized := .modSlot (.modKeys h)

theorem Block.Sized.keyDone {i : Nat} (h : b.Sized) : (b.keyDone i).Sized := by
  unfold Block.keyDone
  split
  · exact h
  · split
    · exact .finishWhere h
    · exact .ite (.modMail h) (.finishWhere (.raiseAll (.shadowFree h)))
    · exact h

theorem Block.Sized.keySwaps (h : b.Sized) : b.keySwaps.Sized := by
  unfold Block.keySwaps
  refine foldl_keeps Block.Sized h fun _ _ hb => ?_
  split
  · exact .finishWhere (.keyNow (.shadowFree hb))
  · exact hb

theorem Block.Sized.runEvict (h : b.Sized) : (b.runEvict r).Sized :=
  .check7 h fun _ hb => .ite (.reply hb) (.ite (.reply hb) (.finish hb))

theorem Block.Sized.evictNow {i : Nat} (h : b.Sized) : (b.evictNow i).Sized := .modSlot h

theorem Block.Sized.runDestroy {left : Bool} (h : b.Sized) : (b.runDestroy left r).Sized :=
  .check7 h fun _ hb => .needRoom hb fun _ hb2 => .ite (.reply hb2)
    (.ite (.reply hb2) (.finish (.modKeys hb2 ⟨rfl, (setAt_length ..)⟩)))

theorem Block.Sized.destroyNow {n : Nat} (h : b.Sized) : (b.destroyNow n).Sized :=
  .raiseAll (.modKeys (.finishWhere (foldl_keeps Block.Sized h fun _ _ hb => .shadowFree hb)) ⟨(List.length_map ..), rfl⟩)

theorem Block.Sized.testRootNow (h : b.Sized) : b.testRootNow.Sized := .ite h (.modKeys h ⟨(List.length_map ..), rfl⟩)

theorem Block.Sized.ownLoad {i : Nat} {ack : Bool} (h : b.Sized) : (b.ownLoad i ack).Sized := by
  unfold Block.ownLoad
  split
  · exact .modSlot h
  · exact h

theorem Block.Sized.ownKeys (h : b.Sized) : b.ownKeys.Sized := .modSlot (.modSlot h)

theorem Block.Sized.unlockKeys (h : b.Sized) : b.unlockKeys.Sized :=
  .ite h (.ite (.raiseAll (.modKeys h)) (.ownKeys (foldl_keeps Block.Sized (.modKeys h) fun _ _ hb => .ownLoad hb)))

theorem Block.Sized.unlockSkipped {intrusion : Bool} (h : b.Sized) : (b.unlockSkipped intrusion).Sized :=
  .raiseAll (.onlyIf (.modKeys h) fun hb => .ownLoad hb)

theorem Block.Sized.tamper {k : TamperKind} (h : b.Sized) : (b.tamper l k).Sized :=
  .ite (.modLane (.modLane (.modKeys h))) (.modKeys (.modLane (.modKeys h)))

theorem Block.Sized.keysAbort (h : b.Sized) : b.keysAbort.Sized :=
  .modMail (.finishWhere (foldl_keeps Block.Sized h fun _ _ hb => .shadowFree hb))

theorem Block.Sized.alarmNow (h : b.Sized) : b.alarmNow.Sized := by
  unfold Block.alarmNow
  split
  · exact h
  · exact .ite h (.ite (.raiseAll (.ownLoad (.modKeys (.finishWhere (.modKeys (.keysAbort h))) ⟨(mapIdxFrom_length ..), rfl⟩)))
        (.raiseAll (.modKeys (.modKeys (.keysAbort h)))))

theorem Block.Sized.glitchOver (h : b.Sized) : b.glitchOver.Sized := by
  unfold Block.glitchOver
  dsimp only
  split
  · exact .raiseAll (.modKeys (.modLanes h))
  · exact .raiseAll (.unlockKeys (.modLanes h))
  · exact .modLanes h

theorem Block.Sized.ackNow (h : b.Sized) : b.ackNow.Sized :=
  .ite (.modLanes h) (.raiseAll (.onlyIf (.ite (foldl_keeps Block.Sized (.modKeys (.modLanes h)) fun _ _ hb => .ownLoad hb)
    (.unlockKeys (.modKeys (.modLanes h)))) fun hb => .modKeys hb))

theorem Block.Sized.runTamperAck (h : b.Sized) : (b.runTamperAck r).Sized :=
  .check7 h fun _ hb => .ite (.reply (.iteSnd (.drawNat hb) hb)) (.finish (.iteSnd (.drawNat hb) hb))

theorem Block.Sized.runLifecycle (h : b.Sized) : (b.runLifecycle r).Sized := .check7 h fun _ hb => .ite (.hold hb) (.reply hb)

theorem Block.Sized.lifeWritten (h : b.Sized) : b.lifeWritten.Sized := by
  unfold Block.lifeWritten
  split
  · exact h
  · exact .finishWhere (.ite (.mapDies h) h)

theorem Block.Sized.lifeRestarts (h : b.Sized) : b.lifeRestarts.Sized := .lanesOff (.modKeys h ⟨(List.length_map ..), rfl⟩)

theorem Machine.OutSized.execKeyLoad {q : Req} (h : s.Sized) : OutSized (execKeyLoad q s) :=
  .onBlock h fun _ hb => .serve hb fun _ hb2 => .runKey hb2

theorem Machine.OutSized.execKeyReplace {q : Req} (h : s.Sized) : OutSized (execKeyReplace q s) :=
  .onBlock h fun _ hb => .serve hb fun _ hb2 => .runKey hb2

theorem Machine.OutSized.execKeyDestroy {q : Req} (h : s.Sized) : OutSized (execKeyDestroy q s) :=
  .next (.withOtp (.withBlock (.serve h fun _ hb => .runDestroy hb)))

theorem Machine.OutSized.execKeyEvict {q : Req} (h : s.Sized) : OutSized (execKeyEvict q s) :=
  .onBlock h fun _ hb => .serve hb fun _ hb2 => .runEvict hb2

theorem Machine.OutSized.execTamperAck {q : Req} (h : s.Sized) : OutSized (execTamperAck q s) :=
  .onBlock h fun _ hb => .serve hb fun _ hb2 => .runTamperAck hb2

theorem Machine.OutSized.execKeyOperationDone {slot : Fin 255} (h : s.Sized) : OutSized (execKeyOperationDone slot s) :=
  .onBlock h fun _ hb => .keyDone hb

theorem Machine.OutSized.execLifecycleSet {q : Req} (h : s.Sized) : OutSized (execLifecycleSet q s) :=
  .onBlock h fun _ hb => .serve hb fun _ hb2 => .runLifecycle hb2

theorem Machine.OutSized.execLifecycleWritten (h : s.Sized) : OutSized (execLifecycleWritten s) :=
  .next (.withOtp (.withBlock (.lifeWritten h)))

theorem Machine.OutSized.execTamperAlarm {k : TamperKind} (h : s.Sized) : OutSized (execTamperAlarm l k s) :=
  .onBlock h fun _ hb => .tamper hb

theorem Machine.OutSized.execGlitchClear (h : s.Sized) : OutSized (execGlitchClear s) := .onBlock h fun _ hb => .glitchOver hb

/-! ## The cipher engine and external storage -/

theorem Block.Sized.runCtxSet (h : b.Sized) : (b.runCtxSet r).Sized := by
  unfold Block.runCtxSet
  refine .check7 h fun _ hb => .needRoom hb fun _ hb2 => .ite (.reply hb2) ?_
  split
  · exact .nameViolation (.reply hb2)
  · exact .ite (.nameViolation (.reply hb2)) (.ite (.reply hb2)
        (.ite (.reply hb2) (.ite (.reply hb2) (.ite (.reply hb2) (.finish hb2)))))

theorem Block.Sized.runCtxFree (h : b.Sized) : (b.runCtxFree r).Sized := .check7 h fun _ hb => .ite (.reply hb) (.finish hb)

theorem Block.Sized.cipherEvent {ev cause subject : Nat} {detail : Int} (h : b.Sized) :
    (b.cipherEvent ev cause subject detail).Sized := .raiseLimited (.raiseLimited h)

theorem Block.Sized.cipherWork {p bits : Nat} (h : b.Sized) : (b.cipherWork p bits).Sized := .modRates h

theorem Block.Sized.cipherTakes {p bits : Nat} (h : b.Sized) : (b.cipherTakes p bits).Sized := .modRates h

theorem Block.Sized.engineTurn (h : b.Sized) : b.engineTurn.Sized := by
  unfold Block.engineTurn
  refine .ite h ?_
  split
  · exact h
  · split
    · exact h
    · exact .cipherTakes (.modPart (.modMail h))

theorem Block.Sized.engineNext (h : b.Sized) : b.engineNext.Sized := foldl_keeps Block.Sized h fun _ _ hb => .engineTurn hb

theorem Block.Sized.takeCounter {i : Nat} (h : b.Sized) : (b.takeCounter i).Sized :=
  .onlyIf (.modCtx h) fun hb => .cipherEvent (.modCtx hb)

theorem Block.Sized.runCipher (h : b.Sized) : (b.runCipher r).Sized :=
  .check7 h fun _ hb => .needRoom hb fun _ hb2 => .ite (.reply hb2)
    (.ite (.reply hb2) (.ite (.reply (.onlyIf (.modCtx hb2) fun hb3 => .raiseAll hb3))
    (.engineNext (.ite (.hold (.takeCounter (.cipherWork hb2))) (.hold (.cipherWork hb2))))))

theorem Block.Sized.cipherDone {i : Nat} (h : b.Sized) : (b.cipherDone m i).1.Sized := by
  unfold Block.cipherDone
  split
  · exact h
  · split
    · exact .iteFst h (.engineNext (.finishWhere (.onlyIf (.modCtx h) fun hb => .cipherEvent hb)))
    · exact h

theorem Block.Sized.runStorageWrite {data : Nat → Nat → List Byte} (h : b.Sized) : (b.runStorageWrite data r).Sized :=
  .check7 h fun _ hb => .ite (.reply hb) (.ite (.reply hb) (.engineNext (.hold (.cipherWork hb))))

theorem Block.Sized.runStorageErase (h : b.Sized) : (b.runStorageErase r).Sized :=
  .check7 h fun _ hb => .ite (.reply hb) (.ite (.reply hb) (.hold hb))

theorem Block.Sized.dropUnits {off len : Nat} (h : b.Sized) : (b.dropUnits off len).Sized := .modLanes h fun _ hx => .mapPairs hx

theorem Block.Sized.logStorage {off len step : Nat} (h : b.Sized) : (b.logStorage off len step).Sized := .ite h h

theorem Block.Sized.storageDone {p : Nat} (h : b.Sized) : (b.storageDone m p).1.Sized := by
  unfold Block.storageDone
  split
  · exact h
  · split
    · exact .finishWhere (.logStorage (.dropUnits h))
    · exact h

theorem Block.Sized.unitRead {pair p x : Nat} (h : b.Sized) : (b.unitRead m l pair p x).1.Sized := by
  unfold Block.unitRead
  refine .iteFst h ?_
  split
  · exact h
  · split
    · exact h
    · exact .iteFst h (.iteFst (.ite (.cipherWork h) h)
          (.modLane (.onlyIf (.ite (.cipherWork h) h) fun hb => .cipherTakes hb) fun _ hx => .modPair hx))

theorem Block.Sized.storageRead {pair : Nat} {virt : Bool} {x n : Nat} (h : b.Sized) : (b.storageRead m l pair virt x n).Sized := by
  refine .ite h (.ite (.gateRefuses h) (.ite (.gateRefuses h) (.ite (.gateStalls h) ?_)))
  split
  next hfirst =>
    have hread := Block.Sized.of_fst hfirst (.unitRead h)
    refine .ite (.setResult hread) ?_
    split
    next hlast => exact .setResult (.of_fst hlast (.unitRead hread))
    next hlast => exact .setResult (.of_fst hlast (.unitRead hread))
  next hfirst => exact .setResult (.of_fst hfirst (.unitRead h))

theorem Machine.OutSized.execCipherCtxSet {q : Req} (h : s.Sized) : OutSized (execCipherCtxSet q s) :=
  .onBlock h fun _ hb => .serve hb fun _ hb2 => .runCtxSet hb2

theorem Machine.OutSized.execCipherRun {q : Req} (h : s.Sized) : OutSized (execCipherRun q s) :=
  .onBlock h fun _ hb => .serve hb fun _ hb2 => .runCipher hb2

theorem Machine.OutSized.execCipherOperationDone {ctx : Fin 240} (h : s.Sized) : OutSized (execCipherOperationDone ctx s) :=
  .next (.withMem (.withBlock (.cipherDone h)))

theorem Machine.OutSized.execCipherCtxFree {q : Req} (h : s.Sized) : OutSized (execCipherCtxFree q s) :=
  .onBlock h fun _ hb => .serve hb fun _ hb2 => .runCtxFree hb2

theorem Machine.OutSized.execStorageWrite {q : Req} (h : s.Sized) : OutSized (execStorageWrite q s) :=
  .onBlock h fun _ hb => .serve hb fun _ hb2 => .runStorageWrite hb2

theorem Machine.OutSized.execStorageErase {q : Req} (h : s.Sized) : OutSized (execStorageErase q s) :=
  .onBlock h fun _ hb => .serve hb fun _ hb2 => .runStorageErase hb2

theorem Machine.OutSized.execStorageDeviceDone {p : Prid} (h : s.Sized) : OutSized (execStorageDeviceDone p s) :=
  .next (.withMem (.withBlock (.storageDone h)))

theorem Machine.OutSized.execExternalStorageRead {pair : Pair} {virt : Bool} {offset size : Nat} (h : s.Sized) :
    OutSized (execExternalStorageRead l pair virt offset size s) := .onBlock h fun _ hb => .throughPair hb (.storageRead hb)

/-! ## Setting parameters -/

theorem Block.Sized.runParamSet {ae : Bool} (h : b.Sized) : (b.runParamSet ae r).Sized := by
  unfold Block.runParamSet
  dsimp only
  split
  · exact .reply h
  · exact .ite (.finish h) (.reply h)

theorem Block.Sized.ringEnabled (h : b.Sized) : b.ringEnabled.Sized :=
  foldl_keeps Block.Sized h fun _ _ hb => .ite hb (.leaveSync hb)

theorem Block.Sized.bucketsCut {p : Nat} (h : b.Sized) : (b.bucketsCut p).Sized := .modRates h

theorem Block.Sized.setParam {id inst v : Nat} (h : b.Sized) : (b.setParam id inst v).Sized := by
  unfold Block.setParam
  extract_lets old left stored sent
  have hleft : left.Sized := .ite (.canModeLeft h) h
  have hsent : sent.Sized := .onlyIf (.setParams hleft) fun hb => .sendFrame hb
  exact .ite (.modMod hsent) (.ite hsent (.ite (.bucketsCut hsent) (.ite (.modeChanged hsent) (.ite (.ringEnabled hsent)
    (.ite (.modLanes hsent fun _ hx => .modSw hx fun _ hw => .setTxHead hw) (.ite (.modLanes hsent) hsent))))))

theorem Block.Sized.paramsNow {l : List (Nat × Nat)} (h : b.Sized) : (b.paramsNow l).Sized :=
  foldl_keeps Block.Sized h fun _ _ hb => .setParam hb

theorem Machine.OutSized.execParamSet {q : Req} (h : s.Sized) : OutSized (execParamSet q s) :=
  .onBlock h fun _ hb => .serve hb fun _ hb2 => .runParamSet hb2

/-! ## Firmware and configuration images -/

theorem Block.Sized.modStaging {f : Staging → Staging} (h : b.Sized) : (b.modStaging l f).Sized := .modLane h

theorem Block.Sized.runUpdateBegin (h : b.Sized) : (b.runUpdateBegin r).Sized :=
  .check7 h fun _ hb => .ite (.reply hb) (.ok (foldl_keeps Block.Sized hb fun _ _ hb2 => .modStaging hb2))

theorem Block.Sized.runUpdateBlock (h : b.Sized) : (b.runUpdateBlock r).Sized :=
  .check7 h fun _ hb => .ite (.reply hb) (.reply (foldl_keeps Block.Sized hb fun _ _ hb2 => .modStaging hb2))

theorem Block.Sized.runUpdateVerify (h : b.Sized) : (b.runUpdateVerify r).Sized :=
  .check7 h fun _ hb => .needRoom hb fun _ hb2 => .ite (.finish hb2)
    (.hold (foldl_keeps Block.Sized hb2 fun _ _ hb3 => .ite (.modStaging hb3) hb3))

theorem Block.Sized.verifyLane {rollback : Nat} (h : b.Sized) : (b.verifyLane rollback l).2.Sized := by
  unfold Block.verifyLane
  dsimp only
  split
  · exact .raise (.modStaging h)
  · exact .modStaging h

theorem Block.Sized.verifyDone {rollback : PerLane Nat} (h : b.Sized) : (b.verifyDone rollback).Sized :=
  .ite h (.finishWhere (foldl_keeps Block.Sized h fun _ _ hb => .ite (.verifyLane hb) (.modStaging hb)))

theorem Block.Sized.eraseDone {area : StagingArea} (h : b.Sized) : (b.eraseDone area).Sized := by
  unfold Block.eraseDone
  split
  · exact .modStaging h
  · exact .modImg h

theorem Block.Sized.bootImage {rollback : Nat} (h : b.Sized) : (b.bootImage l rollback).1.Sized := by
  unfold Block.bootImage
  extract_lets s life good take tried ok
  have htake {c : Block} (hc : c.Sized) : (take c).Sized := .modLane (.onlyIf hc fun hc => .raise (.modImg hc))
  have htried : tried.Sized := .onlyIf h fun h => .ite (htake h) (.raise (.modStaging h))
  exact .iteFst htried (.iteFst (htake htried) (.iteFst (.iteFst (.modLane htried) (.raise (.modLane htried))) htried))

theorem Block.Sized.runConfigBlock (h : b.Sized) : (b.runConfigBlock r).Sized :=
  .check7 h fun _ hb => .ite (.reply hb) (.ite (.reply hb) (.ite (.reply (.modImg hb)) (.reply (.modImg hb))))

theorem Block.Sized.runConfigCommit (h : b.Sized) : (b.runConfigCommit r).Sized :=
  .check7 h fun _ hb => .needRoom hb fun _ hb2 => .ite (.reply hb2) (.hold (.modImg hb2))

theorem Block.Sized.commitWritten {ae : Bool} (h : b.Sized) : (b.commitWritten ae).Sized := by
  unfold Block.commitWritten
  split
  · exact h
  · dsimp only
    split
    · exact .finishWhere (.modImg h)
    · exact .finishWhere (.raiseAll (.modImg (foldl_keeps Block.Sized h fun _ _ hb => .modImg hb)))

theorem cfgSlices_length (l : List CfgRec) : (cfgSlices l).length = 32 := by
  refine foldl_keeps (fun ss : List Slice => ss.length = 32) (setAt_length ..) fun ss x hss => ?_
  split
  · exact (applySlice_length ..).trans hss
  · exact hss

theorem Block.Sized.loadCfg {c : CfgImage} (h : b.Sized) : (b.loadCfg c).Sized := by
  refine .modImg (foldl_keeps Block.Sized (.modNet (.modPart (.setParams h) ⟨?_, rfl, rfl⟩)) fun _ x hb => ?_)
  · exact (cfgSlices_length _).trans h.slices.symm
  · split
    · exact .markNow hb
    · exact hb

theorem Block.Sized.loadDefaults (h : b.Sized) : b.loadDefaults.Sized := by
  refine .modImg (.modNet (.modPart h.setParams ⟨?_, rfl, rfl⟩))
  exact ((setAt_length ..).trans List.length_replicate).trans h.slices.symm

theorem Block.Sized.clearRestored (h : b.Sized) : b.clearRestored.Sized :=
  .modImg (.modKeys (.modBridge (.modNw (.modLanes (.modMod (.mapLinks h))))))

theorem Block.Sized.readStore (h : b.Sized) : (b.readStore l).Sized :=
  .ite (.ite (.raise (.modImg h)) (.clearRestored (.raise (.modImg h)))) (.ite (.raise (.modImg h)) h)

theorem Machine.OutSized.execUpdateBegin {q : Req} (h : s.Sized) : OutSized (execUpdateBegin q s) :=
  .onBlock h fun _ hb => .serve hb fun _ hb2 => .runUpdateBegin hb2

theorem Machine.OutSized.execStagingEraseDone {area : StagingArea} (h : s.Sized) : OutSized (execStagingEraseDone area s) :=
  .onBlock h fun _ hb => .eraseDone hb

theorem Machine.OutSized.execUpdateBlock {q : Req} (h : s.Sized) : OutSized (execUpdateBlock q s) :=
  .onBlock h fun _ hb => .serve hb fun _ hb2 => .runUpdateBlock hb2

theorem Machine.OutSized.execUpdateVerify {q : Req} (h : s.Sized) : OutSized (execUpdateVerify q s) :=
  .onBlock h fun _ hb => .serve hb fun _ hb2 => .runUpdateVerify hb2

theorem Machine.OutSized.execUpdateVerifyDone (h : s.Sized) : OutSized (execUpdateVerifyDone s) :=
  .onBlock h fun _ hb => .verifyDone hb

theorem Machine.OutSized.execUpdateActivate {q : Req} (h : s.Sized) : OutSized (execUpdateActivate q s) :=
  .onBlock h fun _ hb => .serve hb fun _ hb2 => .runUpdateActivate hb2

theorem Machine.OutSized.execConfigBlock {q : Req} (h : s.Sized) : OutSized (execConfigBlock q s) :=
  .onBlock h fun _ hb => .serve hb fun _ hb2 => .runConfigBlock hb2

theorem Machine.OutSized.execConfigCommit {q : Req} (h : s.Sized) : OutSized (execConfigCommit q s) :=
  .onBlock h fun _ hb => .serve hb fun _ hb2 => .runConfigCommit hb2

theorem Machine.OutSized.execConfigCommitWritten (h : s.Sized) : OutSized (execConfigCommitWritten s) :=
  .onBlock h fun _ hb => .commitWritten hb

theorem Machine.OutSized.execCommitRestart (h : s.Sized) : OutSized (execCommitRestart s) :=
  .onBlock h fun _ hb => .ite (.lanesOff (.modImg hb)) hb

/-! ## Drains and teardowns -/

theorem Block.Sized.takeAway {p : Nat} {recs : List ResRec} (h : b.Sized) : (b.takeAway p recs).Sized :=
  .modPart (foldl_keeps Block.Sized (.modSlice h) fun _ _ hb => .modBus hb)

theorem Block.Sized.drained {p : Nat} {recs : List ResRec} (h : b.Sized) : (b.drained p recs).Sized :=
  .modKeys (.modPart h) ⟨(mapIdxFrom_length ..), rfl⟩

theorem Block.Sized.addDrain {p : Nat} {recs : List ResRec} {destroy : Bool} (h : b.Sized) : (b.addDrain p recs destroy).Sized :=
  .modPart h

theorem Block.Sized.modDrain {p : Nat} {f : Drain → Drain} (h : b.Sized) : (b.modDrain p f).Sized := .modPart h

theorem Block.Sized.runShrink (h : b.Sized) : (b.runShrink r).Sized :=
  .check7 h fun _ hb => .needRoom hb fun _ hb2 => .ite (.reply hb2) (.hold (.addDrain hb2))

theorem Block.Sized.runDestroySlice (h : b.Sized) : (b.runDestroySlice r).Sized :=
  .check7 h fun _ hb => .ite (.reply hb) (.hold (.addDrain hb))

theorem Block.Sized.shrinkEnds {p us : Nat} {d : Drain} (h : b.Sized) : (b.shrinkEnds p us d).Sized :=
  .finishWhere (.modDrain (.drained h))

theorem Block.Sized.beginShrink {p : Nat} {d : Drain} (h : b.Sized) : (b.beginShrink p d).Sized :=
  .ite (.shrinkEnds (.modDrain (.takeAway h)))
    (foldl_keeps Block.Sized (.modMail (.modSlice (.modDrain (.modDrain (.takeAway h))))) fun _ _ hb => .post hb)

theorem SwitchSt.Sized.setVpRx {s : SwitchSt} {rx : List (List (List Nat))} (h : s.Sized) : ({ s with vpRx := rx } :
    SwitchSt).Sized := h

theorem Block.Sized.beginTeardown {p : Nat} (h : b.Sized) : (b.beginTeardown p).Sized := by
  unfold Block.beginTeardown
  extract_lets recs taken emptied awake kept n begun
  have htaken : taken.Sized := .modSlice (.takeAway h)
  have hemptied : emptied.Sized := .modLanes htaken fun _ hx => .modSw hx fun _ hs => .gc (.setVpRx hs)
  have hawake : awake.Sized := .modNw hemptied
  clear_value awake
  have hkept : kept.Sized := .modPart hawake
  have hbegun : begun.Sized := .modDrain hkept
  exact .ite (.drained hbegun) hbegun

theorem Block.Sized.beginDrains (h : b.Sized) : b.beginDrains.Sized :=
  foldl_keeps Block.Sized h fun _ _ hb => .ite (.beginTeardown hb) (.beginShrink hb)

theorem Block.Sized.shrunkNow {p : Nat} (h : b.Sized) : (b.shrunkNow p).Sized := .modSlice (.modPart h)

theorem SwitchSt.Sized.cutQueue {s : SwitchSt} {k : Nat} (h : s.Sized) : (let s := s.modQueue (k / 8) (k % 8) fun _ => []
    { s with residue := updAt s.residue (k / 8) fun l => l.filter fun e => e.2 != k % 8 } : SwitchSt).Sized :=
  have hqueue : (s.modQueue (k / 8) (k % 8) fun _ => []).Sized := h.modQueue
  hqueue

theorem Block.Sized.drainCut {p : Nat} (h : b.Sized) : (b.drainCut p).Sized := by
  unfold Block.drainCut
  split
  · exact h
  · exact .ite h (.modDrain (.finishWhere (foldl_keeps Block.Sized (.modLanes
      (.modLanes h fun _ hx => foldl_keeps LaneSt.Sized hx fun _ _ hx => .modCtl hx)
      fun _ hx => .modSw hx fun _ hs => .gc (foldl_keeps SwitchSt.Sized hs fun _ _ hs => .cutQueue hs)) fun _ _ hb => .shadowFree hb)))

theorem Block.Sized.drainEnds {p us : Nat} (h : b.Sized) : (b.drainEnds p us).Sized := by
  unfold Block.drainEnds
  split
  · exact h
  · exact .ite h (.ite (.modDrain (.drained (.ite h (.raiseAll h)))) (.shrinkEnds (.ite h (.raiseAll h))))

theorem Block.Sized.tornDown {p : Nat} (h : b.Sized) : (b.tornDown p).Sized := by
  unfold Block.tornDown
  split
  · refine foldl_keeps Block.Sized (.modMail (.finishWhere (.modSlice (.modPart h)))) fun _ _ hb => ?_
    split
    · exact .decideCreate hb
    · exact hb
  · exact h

theorem Machine.OutSized.execSliceShrink {q : Req} (h : s.Sized) : OutSized (execSliceShrink q s) :=
  .onBlock h fun _ hb => .serve hb fun _ hb2 => .runShrink hb2

theorem Machine.OutSized.execSliceDestroy {q : Req} (h : s.Sized) : OutSized (execSliceDestroy q s) :=
  .onBlock h fun _ hb => .serve hb fun _ hb2 => .runDestroySlice hb2

theorem Machine.OutSized.execDrainLimitReached {p : Prid} (h : s.Sized) : OutSized (execDrainLimitReached p s) :=
  .onBlock h fun _ hb => .drainCut hb

theorem Machine.OutSized.execDrainEnd {p : Prid} {us : Nat} (h : s.Sized) : OutSized (execDrainEnd p us s) :=
  .onBlock h fun _ hb => .drainEnds hb

theorem Machine.OutSized.execTeardownEnd {p : Prid} (h : s.Sized) : OutSized (execTeardownEnd p s) :=
  .next (.withMem (.withBlock (.tornDown h)))

theorem Machine.OutSized.execGranuleZeroed {g : Fin 768} (h : s.Sized) : OutSized (execGranuleZeroed g s) :=
  .ite (.next (.withMem (.withBlock (.modPart h)))) (.next h)

/-! ## Faults, events and cooling -/

theorem Block.Sized.scrub {r : ScrubFind} (h : b.Sized) : (b.scrub l r).Sized :=
  .ite h (.onlyIf (.onlyIf (.onlyIf (foldl_keeps Block.Sized (.onlyIf (.modLane h) fun hb => .raise hb) fun _ _ hb => .raise hb)
    fun hb => .modLane hb) fun hb => .raise hb) fun hb => .laneFault hb)

theorem Block.Sized.aonCheck {readOk rtcOk : Bool} (h : b.Sized) : (b.aonCheck l readOk rtcOk).Sized :=
  .ite h (.onlyIf (.modLane h) fun hb => .raise hb)

theorem Block.Sized.coolStep {limit : Int} {m : CoolantMeas} (h : b.Sized) : (b.coolStep limit m).Sized :=
  .ite h (.onlyIf (.onlyIf (.ite (.raiseAll h) h) fun hb => .raiseAll hb) fun hb => .raiseAll hb)

theorem Block.Sized.laneTemp {network : Bool} {t : Int} (h : b.Sized) : (b.laneTemp network l t).Sized :=
  .onlyIf (.onlyIf (.onlyIf (.modLane h) fun hb => .raise hb) fun hb => .withCipher (.raise hb)) fun hb => .laneFault hb

theorem Block.Sized.dieTemp {d : Nat} {t : Int} (h : b.Sized) : (b.dieTemp d t).Sized :=
  .onlyIf (.ite (.raiseAll h) h) fun hb => .withCipher (.raiseAll hb)

theorem Block.Sized.runEventRead (h : b.Sized) : (b.runEventRead r).Sized := .check7 h fun _ hb => .needRoom hb fun _ hb2 => .ok hb2

theorem Block.Sized.runLogRead (h : b.Sized) : (b.runLogRead r).Sized := .check7 h fun _ hb => .needRoom hb fun _ hb2 => .ok hb2

theorem Block.Sized.faultClear {fn : Nat} (h : b.Sized) : (b.faultClear fn).Sized := .ite (.modLanes h) (.modEv (.modLanes h))

theorem Block.Sized.runFaultClear (h : b.Sized) : (b.runFaultClear r).Sized := .check7 h fun _ hb => .finish hb

theorem LaneSt.Sized.append {x : LaneSt} (h : x.Sized) : x.append.Sized := by
  obtain ⟨hnum, hpairs, hcan, hfronts, hsw⟩ := h
  unfold LaneSt.append
  split
  · exact ⟨hnum, hpairs, hcan, hfronts, hsw⟩
  · split
    · exact ⟨hnum, hpairs, hcan, hfronts, hsw⟩
    · exact ⟨hnum, hpairs, hcan, hfronts, hsw⟩

theorem Machine.OutSized.execEventRead {q : Req} (h : s.Sized) : OutSized (execEventRead q s) :=
  .onBlock h fun _ hb => .serve hb fun _ hb2 => .runEventRead hb2

theorem Machine.OutSized.execFaultLogRead {q : Req} (h : s.Sized) : OutSized (execFaultLogRead q s) :=
  .onBlock h fun _ hb => .serve hb fun _ hb2 => .runLogRead hb2

theorem Machine.OutSized.execFaultClearLog {q : Req} (h : s.Sized) : OutSized (execFaultClearLog q s) :=
  .onBlock h fun _ hb => .serve hb fun _ hb2 => .runFaultClear hb2

theorem Machine.OutSized.execFaultClearCounts {q : Req} (h : s.Sized) : OutSized (execFaultClearCounts q s) :=
  .onBlock h fun _ hb => .serve hb fun _ hb2 => .runFaultClear hb2

theorem Machine.OutSized.execScrubPass {r : ScrubFind} (h : s.Sized) : OutSized (execScrubPass l r s) :=
  .onBlock h fun _ hb => .scrub hb

theorem Machine.OutSized.execAonCheck {readOk rtcOk : Bool} (h : s.Sized) : OutSized (execAonCheck l readOk rtcOk s) :=
  .onBlock h fun _ hb => .aonCheck hb

theorem Machine.OutSized.execCoolantEstimate {m : CoolantMeas} (h : s.Sized) : OutSized (execCoolantEstimate m s) :=
  .onBlock h fun _ hb => .coolStep hb

theorem Machine.OutSized.execDieTemperature {d : TempDie} {t10 : Int} (h : s.Sized) : OutSized (execDieTemperature d t10 s) := by
  unfold Machine.execDieTemperature
  refine .onBlock h fun _ hb => ?_
  split
  · exact .dieTemp hb
  · exact .laneTemp hb
  · exact .laneTemp hb

theorem Machine.OutSized.execDieOvertempTimeout {network : Bool} {t10 : Int} (h : s.Sized) :
    OutSized (execDieOvertempTimeout network l t10 s) :=
  .onBlock h fun _ hb => .ite (.laneTemp hb) (.ite (.laneFault (.laneTemp hb)) (.raise (.laneTemp hb)))

theorem Machine.OutSized.execFaultLogAppend (h : s.Sized) : OutSized (execFaultLogAppend l s) :=
  .onBlock h fun _ hb => .ite (.modLane hb fun _ hx => .append hx) hb

theorem Machine.OutSized.execLogHourEnd (h : s.Sized) : OutSized (execLogHourEnd l s) := .onBlock h fun _ hb => .modLane hb

/-! ## Status words -/

theorem Block.Sized.runParamGet {otp : Otp} (h : b.Sized) : (b.runParamGet otp r).Sized := .check7 h fun _ hb => .ok hb

theorem Block.Sized.runNop (h : b.Sized) : (b.runNop r).Sized := .ok h

theorem Block.Sized.runModuleInfo {otp : Otp} (h : b.Sized) : (b.runModuleInfo otp r).Sized := .check7 h fun _ hb => .ok hb

theorem Block.Sized.runChallenge (h : b.Sized) : (b.runChallenge r).Sized :=
  .check7 h fun _ hb => .needRoom hb fun _ hb2 => .ok (.newChallenge hb2)

theorem Machine.OutSized.execNop {q : Req} (h : s.Sized) : OutSized (execNop q s) :=
  .onBlock h fun _ hb => .serve hb fun _ hb2 => .runNop hb2

theorem Machine.OutSized.execModuleInfo {q : Req} (h : s.Sized) : OutSized (execModuleInfo q s) :=
  .onBlock h fun _ hb => .serve hb fun _ hb2 => .runModuleInfo hb2

theorem Machine.OutSized.execParamGet {q : Req} (h : s.Sized) : OutSized (execParamGet q s) :=
  .onBlock h fun _ hb => .serve hb fun _ hb2 => .runParamGet hb2

theorem Machine.OutSized.execAuthChallenge {q : Req} (h : s.Sized) : OutSized (execAuthChallenge q s) :=
  .onBlock h fun _ hb => .serve hb fun _ hb2 => .runChallenge hb2

theorem Machine.OutSized.execAuthChallengeExpiry {mgmt : Bool} (h : s.Sized) : OutSized (execAuthChallengeExpiry mgmt s) :=
  .onBlock h fun _ hb => .setChallenge hb

end Keeps

end Sys2Proof
end

section
/-! PROOF. The sizes of tables: what taking up requests, starting lanes, accesses and the boundary keep. One lemma says it of each operation, put
together from those of the operations it is made of. Part of O5. -/

namespace Sys2Proof

open Machine

section Keeps

variable {b : Block} {l : Lane} {s : State} {r : Req} {m : MemSt}

/-! ## Requests taken up -/

theorem Block.Sized.modWin {w : Win} {f : WinAgreed → WinAgreed} (h : b.Sized) : (b.modWin w f).Sized := by
  unfold Block.modWin
  split
  · exact .modMail h
  · exact .modMail h (updAt_length ..)

theorem Block.Sized.doorbell {w : Win} {v : Word} (h : b.Sized) : (b.doorbell l w v).Sized := by
  unfold Block.doorbell
  refine .ite h (.ite (.modWin ?_) (.modWin ?_))
  · split
    · exact .ite (.modRates h) h
    · exact h
  · split
    · exact .ite (.modRates h) h
    · exact h

theorem Block.Sized.modEq {p : Nat} {f : EventQ → EventQ} (h : b.Sized) : (b.modEq p f).Sized := .modEv h (updAt_length ..)

theorem Block.Sized.winWrite {w : Win} {off : Nat} {v : Word} (h : b.Sized) : (b.winWrite l w off v).Sized :=
  .ite (.doorbell h) (.ite (.ite (.modWin h) h) (.ite (.ite (.modWin h) h) (.ite (.ite (.modWin h) h) (.ite (.modWin h) h))))

theorem Block.Sized.eqWrite {p off : Nat} {v : Word} (h : b.Sized) : (b.eqWrite l p off v).Sized :=
  .ite h (.ite (.modEq h) (.ite (.modEq h) (.ite (.modEq h) h)))

theorem Block.Sized.regWrite {eq : Bool} {w : Win} {off : Nat} {v : Word} (h : b.Sized) : (b.regWrite l eq w off v).Sized :=
  .ite h (.ite (.eqWrite h) (.winWrite h))

theorem Block.Sized.askAgain {e : Recent} (h : b.Sized) : (b.askAgain r e).Sized := by
  unfold Block.askAgain
  split
  · exact .modMail h
  · exact .modMail h

theorem Block.Sized.accepted (h : b.Sized) : (b.accepted r).Sized := .modMail h

theorem Block.Sized.letIn {w : Win} (h : b.Sized) : (b.letIn w).Sized := by
  unfold Block.letIn
  dsimp only
  split
  · exact .modWin h
  · exact .modRates (.modWin h)

theorem Block.Sized.sendMgmt {ls : List Lane} {a : Response} (h : b.Sized) : (b.sendMgmt ls a).Sized :=
  foldl_keeps Block.Sized (.modMail h) fun _ _ hb => .checkSent hb

theorem Machine.State.Sized.outState {s : State} {o : Host.Outcome State Fault Refusal} (h : s.Sized)
    (ho : OutSized o) : (outState s o).Sized := by
  cases o with
  | next t => exact ho t rfl
  | fault r => exact h
  | refused r => exact h

theorem Machine.OutSized.serveOp {op : Nat} {q : Req} (h : s.Sized) : OutSized (serveOp op q s) := by
  unfold Machine.serveOp
  split
  · exact .execNop h
  · exact .execModuleInfo h
  · exact .execParamGet h
  · exact .execParamSet h
  · exact .execAuthChallenge h
  · exact .execSliceCreate h
  · exact .execSliceGrow h
  · exact .execSliceShrink h
  · exact .execSliceDestroy h
  · exact .execSliceQuery h
  · exact .execThaw h
  · exact .execChanSet h
  · exact .execChanPwm h
  · exact .execChanMulti h
  · exact .execUnlock h
  · exact .execChanStatus h
  · exact .onBlock h fun _ hb => .serve hb fun _ hb2 => .runDieIsolate hb2
  · exact .execFailsafeStore h
  · exact .execInputRead h
  · exact .execRingBid h
  · exact .execSwitchEntrySet h
  · exact .execSwitchEntryDel h
  · exact .execPortStats h
  · exact .onBlock h fun _ hb => .serve hb fun _ hb2 => .runMacsecSa hb2
  · exact .execCanSend h
  · exact .execCanRead h
  · exact .execCanFilterSet h
  · exact .onBlock h fun _ hb => .serve hb fun _ hb2 => .runSleep hb2
  · exact .execWakeHold h
  · exact .execBridgeRangeMark h
  · exact .execKeyLoad h
  · exact .execKeyReplace h
  · exact .execKeyDestroy h
  · exact .execKeyEvict h
  · exact .execTamperAck h
  · exact .execCipherCtxSet h
  · exact .execCipherRun h
  · exact .execCipherCtxFree h
  · exact .execStorageWrite h
  · exact .execStorageErase h
  · exact .execUpdateBegin h
  · exact .execUpdateBlock h
  · exact .execUpdateVerify h
  · exact .execUpdateActivate h
  · exact .execConfigBlock h
  · exact .execConfigCommit h
  · exact .execLifecycleSet h
  · exact .execDebugEnable h
  · exact .execRoleSet h
  · exact .execLaneRestart h
  · exact .execEventRead h
  · exact .execFaultLogRead h
  · exact .onBlock h fun _ hb => .serve hb fun _ hb2 => .runFaultClear hb2
  · exact .onBlock h

theorem Machine.State.Sized.accept {path : Path} {c : List Byte} {stamp : Nat} {unsecured : Bool} (h : s.Sized) :
    (s.accept path c stamp unsecured).Sized := by
  unfold Machine.State.accept
  refine .ite (.withBlock (.modMail h)) ?_
  split
  · exact .withBlock (.askAgain h)
  · exact .ite (.withBlock (.reply (.accepted h)))
        (.ite (.withBlock (.reply (.accepted h)))
        (.outState (.ite (.withBlock (.confirmWake (.accepted h))) (.withBlock (.accepted h)))
        (.serveOp (.ite (.withBlock (.confirmWake (.accepted h))) (.withBlock (.accepted h))))))

theorem Machine.State.Sized.takeMgmt {k : Nat} (h : s.Sized) : (s.takeMgmt k).Sized :=
  foldl_keeps State.Sized (.withBlock (.modMail h)) fun _ _ hs => .ite (.accept hs) (.withBlock (.modMail hs))

theorem Machine.State.Sized.takeUp {w : Win} (h : s.Sized) : (s.takeUp l w).Sized := by
  unfold Machine.State.takeUp
  refine .ite h ?_
  split
  · exact h
  · refine .ite h (.ite (.withBlock (.modWin h)) ?_)
    dsimp only
    split
    · exact .ite (.withBlock (.modWin (.ite (.onlyIf h fun _ => .letIn h) (.diverge (.onlyIf h fun _ => .letIn h)))))
          (.accept (.withBlock (.modWin (.ite (.onlyIf h fun _ => .letIn h) (.diverge (.onlyIf h fun _ => .letIn h))))))
    · exact .ite (.accept (.withBlock (.modWin (.onlyIf h fun _ => .letIn h)))) (.withBlock (.modWin (.onlyIf h fun _ => .letIn h)))

theorem Machine.State.Sized.resumeWaiting (h : s.Sized) : s.resumeWaiting.Sized :=
  .withBlock (.modMail (Machine.State.Sized.block
    (foldl_keeps State.Sized (.withBlock (.modMail h)) fun _ _ hs => .outState hs (.serveOp (.withBlock (.modMail hs))))))

theorem Machine.OutSized.execDoorbell {w : Win} {v : Word} (h : s.Sized) : OutSized (execDoorbell l w v s) :=
  .onBlock h fun _ hb => .doorbell hb

theorem Machine.OutSized.execRequestTakeUp {w : Win} (h : s.Sized) : OutSized (execRequestTakeUp l w s) :=
  .next (.takeMgmt (.takeUp h))

theorem Machine.OutSized.execEqConsWrite {p : Prid} {v : Word} (h : s.Sized) : OutSized (execEqConsWrite p v s) :=
  .onBlock h fun _ hb => .ite (.modEq hb) hb

theorem Machine.OutSized.execRegisterWrite {eq : Bool} {w : Win} {offset : Nat} {v : Word} (h : s.Sized) :
    OutSized (execRegisterWrite l eq w offset v s) := .onBlock h fun _ hb => .regWrite hb

theorem Block.Sized.provisionAnswer {otp : Otp} {f : MgmtFrame} (h : b.Sized) : (Machine.provisionAnswer b otp l f).Sized :=
  .ite (.sendMgmt (.modMail h)) (.mgmtDrop h)

theorem Machine.OutSized.execManagementFrame {f : MgmtFrame} (h : s.Sized) : OutSized (execManagementFrame l f s) :=
  .onBlock h fun _ hb => .ite (.provisionAnswer hb) (.mgmtIn hb)

/-! ## Supplies, starts and resynchronisation -/

theorem LaneSt.Sized.cold {x : LaneSt} : x.cold.Sized := LaneSt.Sized.off

theorem Block.Sized.powerUp {mv : Nat} (h : b.Sized) : (b.powerUp mv).Sized := by
  refine .ite h ?_
  obtain ⟨hdies, -, hlinks, -, -, -, -, -, -, -, hgens, -⟩ := h
  refine ⟨(List.length_map ..).trans hdies, List.forall_mem_map.mpr fun _ _ => DieSt.Sized.down, (List.length_map ..).trans hlinks,
    List.length_replicate, List.length_replicate, List.length_replicate, List.length_replicate, List.length_replicate,
    List.length_replicate, List.length_replicate, hgens, List.length_replicate, List.length_replicate, fun l => ?_⟩
  change ((b.lanes.map LaneSt.cold).get l).Sized
  rw [PerLane.get_map]
  exact LaneSt.Sized.cold

theorem Block.Sized.sourceGone {d : Nat} (h : b.Sized) : (b.sourceGone d).Sized := by
  unfold Block.sourceGone
  refine .ite h ?_
  split
  · exact .raiseAll (.modDie h)
  · exact .modDie h fun _ _ => .down

theorem Block.Sized.sourceLost {src : Fin 3} (h : b.Sized) : (b.sourceLost src).Sized :=
  foldl_keeps Block.Sized h fun _ _ hb => .ite (.sourceGone hb) hb

theorem Block.Sized.t30Lost {mv : Nat} (h : b.Sized) : (b.t30Lost mv).Sized :=
  .ite h (.sourceLost (.ite (.modMod h) (.modLanes (.lanesOff (.modMod h)))))

theorem Block.Sized.measureT30 {mv : Nat} (h : b.Sized) : (b.measureT30 l mv).Sized := .ite (.modMod h) h

theorem Block.Sized.railBand {low : Bool} {mv : Nat} (h : b.Sized) : (b.railBand l low mv).Sized :=
  .ite h (.ite (.measureT30 h) (.raise (.modLane (.measureT30 h))))

theorem Block.Sized.setFeed {f : Feed} {x : FeedSt} (h : b.Sized) : (b.setFeed f x).Sized := by
  unfold Block.setFeed
  split
  · exact .modMod h
  · exact .modMod h

theorem DieSt.Sized.feedBand {d : DieSt} {band : FeedBand} (h : d.Sized) : (d.feedBand band).Sized := .mapChans h

theorem Block.Sized.feedTo {f : Feed} {band : FeedBand} {mv : Int} (h : b.Sized) : (b.feedTo f band mv).Sized := by
  unfold Block.feedTo
  refine .ite (.setFeed h) (.onlyIf (.onlyIf (foldl_keeps Block.Sized ?_ fun _ _ hb => .modDie hb fun _ hd => .feedBand hd) fun
      hb => .sourceLost hb) fun hb => foldl_keeps Block.Sized hb fun _ _ hb2 => .ite (.feedStep hb2) hb2)
  split
  · exact .onlyIf (.setFeed h) fun hb => .raiseAll hb
  · exact .setFeed h

theorem Block.Sized.sourceBack {d : Nat} (h : b.Sized) : (b.sourceBack d).Sized := by
  unfold Block.sourceBack
  split
  · exact .ite (.raiseAll (.modDie h)) h
  · exact h

theorem Block.Sized.readBank {ae : Bool} (h : b.Sized) : (b.readBank ae l).Sized := by
  unfold Block.readBank
  refine .ite (.modLane h) ?_
  split
  · exact .modLane h
  · exact .raise (.modLane h)

theorem Block.Sized.bootSteps {ae : Bool} {env : StartEnv} (h : b.Sized) : (b.bootSteps ae l env).Sized := by
  unfold Block.bootSteps
  dsimp only
  split
  · exact .modKeys (.modLane (.modLane (.onlyIf (.readStore (.readBank h)) fun hb => hb)))
  · exact .modLane (.modLane (.onlyIf (.readStore (.readBank h)) fun hb => hb))

theorem Block.Sized.staysInReset (h : b.Sized) : (b.staysInReset l).Sized := .raise (.modLane (.leave h))

theorem Block.Sized.laneStarts {otp : Otp} {env : StartEnv} (h : b.Sized) : (b.laneStarts otp l env).Sized := by
  unfold Block.laneStarts
  extract_lets x life band up raised linked
  have hlife : life.Sized := .modKeys h
  have hup : up.Sized := .modLane hlife
  have hraised : raised.Sized := .ite (.raise hup) (.ite (.raise hup) hup)
  refine .ite h (.ite (.modMod hlife) ?_)
  split
  next booted runs hboot =>
    have hbooted : booted.Sized := .of_fst hboot (.bootImage (.modBridge hraised))
    extract_lets staged injected alone broken
    have hstaged : staged.Sized := .modStaging hbooted
    have hinjected : injected.Sized := .modLane hstaged
    have halone : alone.Sized := .modLane hinjected
    have hbroken : broken.Sized := .ite (.testRootNow (.breakPairs halone)) (.ite (.modKeys halone) halone)
    exact .ite (.leave hstaged) (.ite (.modMod hstaged) (.ite (.modLane (.laneFault hinjected))
      (.ite (.staysInReset hinjected) (.bootSteps hbroken))))

theorem Block.Sized.fresh (h : b.Sized) : b.fresh.Sized := by
  obtain ⟨hdies, hchans, hlinks, -, -, -, -, hinputs, -, hslots, hgens, -, -, hlanes⟩ := h
  exact ⟨(List.length_map ..).trans hdies, forall_mem_map_of (P := DieSt.Sized) (Q := DieSt.Sized) hchans fun _ hd => hd,
    (List.length_map ..).trans hlinks, List.length_replicate, List.length_replicate, List.length_replicate, List.length_replicate,
    (List.length_map ..).trans hinputs, List.length_replicate, hslots, hgens, List.length_replicate, List.length_replicate, hlanes⟩

theorem Block.Sized.loadBank {ae : Bool} (h : b.Sized) : (b.loadBank ae l).Sized := by
  unfold Block.loadBank
  refine .ite (.loadDefaults h) ?_
  split
  · exact .loadCfg h
  · exact .loadDefaults h

theorem Block.Sized.unlock (h : b.Sized) : (b.unlock l).Sized := by
  unfold Block.unlock
  extract_lets code wiped seen
  have hwiped : wiped.Sized := .modKeys h ⟨List.length_replicate.trans h.slots.symm, rfl⟩
  exact .ite (.unlockSkipped hwiped) (.ite (.unlockSkipped hwiped) (.unlockKeys hwiped))

theorem Block.Sized.compareStores (h : b.Sized) : (b.compareStores l).Sized :=
  .ite h (foldl_keeps Block.Sized h fun _ _ hb => .ite (.raise hb) hb)

theorem Block.Sized.loadBoot {otp : Otp} (h : b.Sized) : (b.loadBoot otp m l).1.Sized := by
  unfold Block.loadBoot
  refine .iteFst h ?_
  split
  · exact .raise h
  · refine .iteFst (.raise h) ?_
    split
    · exact .raise h
    · exact .iteFst (.raise (.keyNow h)) (.iteFst (.raise (.modCtx (.keyNow h)))
          (.iteFst (.raise (.modCtx (.keyNow h))) (.modPart (.modCtx (.keyNow h)))))

theorem Block.Sized.takeControl {otp : Otp} (h : b.Sized) : (b.takeControl otp m l).1.Sized :=
  .loadBoot (.wakeTaken (.onlyIf (.inService (.raise (.unlock (.fullBuckets (.loadBank (.modMod (.modLane (.fresh h)))))))) fun
    hb => .compareStores (foldl_keeps Block.Sized hb fun _ _ hb2 => .ite (.takeOver hb2) hb2)))

theorem Block.Sized.startPairs {otp : Otp} (h : b.Sized) : (b.startPairs otp m).1.Sized := by
  refine .iteFst h ?_
  split
  · exact h
  · exact foldl_keeps (fun x : Block × MemSt => x.1.Sized) (Block.Sized.modPart h) fun _ _ hb =>
      .modLane hb fun _ hx => .mapIdxPairs hx fun _ _ _ => ⟨.started (Block.newBudget_length ..), .started (Block.newBudget_length ..)⟩

theorem Block.Sized.readyEvents (h : b.Sized) : (b.readyEvents l).Sized := by
  unfold Block.readyEvents
  refine .raise (.modLane ?_)
  split
  · exact .laneDownEvent (.modEv h)
  · exact .modEv h

theorem Block.Sized.laneReady {otp : Otp} (h : b.Sized) : (b.laneReady otp m l).1.Sized := by
  unfold Block.laneReady
  extract_lets x up acked same alone told rolled
  have hacked : acked.Sized := .acknowledges (.modLane h)
  have halone : alone.Sized := .ite (.leave hacked) hacked
  have htold : told.Sized := .readyEvents halone
  have hrolled : rolled.Sized := .ite htold (.modLane htold)
  exact .iteFst h (.iteFst (.ite hrolled (.compareStores hrolled)) (.readyEvents (.takeControl halone)))

theorem Block.Sized.repairFrom {ae : Bool} (h : b.Sized) : (b.repairFrom ae l).Sized := by
  unfold Block.repairFrom
  dsimp only
  split
  · exact h
  · exact .raise (.restart (.modLane (.modImg h)))

theorem Block.Sized.pairingRefused {cause : Nat} (h : b.Sized) : (b.pairingRefused l cause).Sized := .modLane (.raise h)

theorem Block.Sized.beginResync (h : b.Sized) : (b.beginResync l).Sized := .modBridge (.modMod (.modLane h))

theorem Block.Sized.pairs {otp : Otp} {found : PairingFound} (h : b.Sized) : (b.pairs otp m l found).1.Sized :=
  .iteFst h (.iteFst (.pairingRefused h) (.iteFst (.pairingRefused h)
    (.iteFst (.pairingRefused h) (.iteFst (.iteFst (.takeControl (.leave (.raise (.pairingRefused h))))
    (.raise (.pairingRefused h))) (.iteFst (.iteFst (.repairFrom h) (.takeControl (.repairFrom h)))
    (.iteFst (.repairFrom h) (.beginResync h)))))))

theorem Block.Sized.cutAsked {holdUs : Nat} (h : b.Sized) : (b.cutAsked m l holdUs).Sized := .ite h (.modMod (.modLane h))

theorem SwitchSt.Sized.joined {own act : SwitchSt} (h : own.Sized) (hact : act.Sized) : (own.joined act).Sized := by
  obtain ⟨-, -, hlinks, hstats, -⟩ := h
  obtain ⟨hports, hqueues, -, -, hhead⟩ := hact
  exact ⟨hports, hqueues, hlinks, hstats, hhead⟩

/-- A lane that takes the state of the far lane at the cut. -/
theorem LaneSt.Sized.cut {x a : LaneSt} (h : x.Sized) (ha : a.Sized) :
    ({ x with
        resyncStage := 3, pairs := a.pairs.map PairSt.sent, log := a.log, logQueue := a.logQueue, sw := x.sw.joined a.sw,
        can := mapIdxFrom (fun i (c : CanCtl) => { c with tx := (a.ctl i).tx }) 0 x.can } : LaneSt).Sized := by
  obtain ⟨-, -, hcan, hfronts, hsw⟩ := h
  obtain ⟨hnum, hpairs, -, -, hasw⟩ := ha
  exact ⟨(List.length_map ..).trans hnum, forall_mem_map_of (P := PairSt.Sized) (Q := PairSt.Sized) hpairs fun _ hp => hp.sent,
    (mapIdxFrom_length ..).trans hcan, hfronts, SwitchSt.Sized.joined hsw hasw⟩

theorem Block.Sized.cutNow (h : b.Sized) : (b.cutNow m).1.Sized := by
  unfold Block.cutNow
  split
  · exact h
  · extract_lets drained a cut told
    have hdrained : drained.Sized := foldl_keeps Block.Sized h fun _ _ hb => .drainPair hb
    have hcut : cut.Sized := .modLane hdrained fun _ hx => .cut hx hdrained.lane
    have htold : told.Sized := .modMail hcut (List.length_map ..)
    exact .iteFst hdrained (.modMod htold)

theorem Block.Sized.holdOver {ms : Nat} (h : b.Sized) : (b.holdOver l ms).Sized := .ite h (.modMod (.modLane h))

theorem Block.Sized.resynced (h : b.Sized) : (b.resynced m).1.Sized := by
  unfold Block.resynced
  split
  · exact h
  · exact .inService (.raiseAll (.raiseAll (.withCipher (.modMod (.modLanes (.modLane h fun _ hx => .mapCan hx))))))

theorem Machine.OutSized.execModulePowerUp {mv : Nat} (h : s.Sized) : OutSized (execModulePowerUp mv s) :=
  .next (.ite h (.withMem (.withBlock (.powerUp h))))

theorem Machine.OutSized.execT30Valid {mv : Nat} (h : s.Sized) : OutSized (execT30Valid mv s) :=
  .onBlock h fun _ hb => .ite hb (.modMod hb)

theorem Machine.OutSized.execT30Invalid {mv : Nat} (h : s.Sized) : OutSized (execT30Invalid mv s) :=
  .onBlock h fun _ hb => .t30Lost hb

theorem Machine.OutSized.execRailsLowered {mv : Nat} (h : s.Sized) : OutSized (execRailsLowered l mv s) :=
  .onBlock h fun _ hb => .railBand hb

theorem Machine.OutSized.execRailsRestored {mv : Nat} (h : s.Sized) : OutSized (execRailsRestored l mv s) :=
  .onBlock h fun _ hb => .railBand hb

theorem Machine.OutSized.execT30Overvoltage {mv : Nat} (h : s.Sized) : OutSized (execT30Overvoltage mv s) :=
  .onBlock h fun _ hb => .ite (.modMod hb) (.raiseAll (.modLanes (.modMod hb)))

theorem Machine.OutSized.execT30Band3Left {mv : Nat} (h : s.Sized) : OutSized (execT30Band3Left mv s) :=
  .onBlock h fun _ hb => .ite (.modMod hb) (.raiseAll (.modLanes (.modMod hb)))

theorem Machine.OutSized.execFeedBandChange {f : Feed} {band : FeedBand} {mv : Int} (h : s.Sized) :
    OutSized (execFeedBandChange f band mv s) := .onBlock h fun _ hb => .feedTo hb

theorem Machine.OutSized.execFeedReversed {f : Feed} {mv : Int} (h : s.Sized) : OutSized (execFeedReversed f mv s) :=
  .onBlock h fun _ hb => .feedTo hb

theorem Machine.OutSized.execFeedUnreversed {f : Feed} {mv : Int} (h : s.Sized) : OutSized (execFeedUnreversed f mv s) :=
  .onBlock h fun _ hb => .ite (.feedTo hb) hb

theorem Machine.OutSized.execFeedReturnNextChannel {d : Die} (h : s.Sized) : OutSized (execFeedReturnNextChannel d s) := by
  unfold Machine.execFeedReturnNextChannel
  refine .onBlock h fun _ hb => ?_
  split
  · exact .ite (.feedStep hb) hb
  · exact hb

theorem Machine.OutSized.execLogicSourceReturn {d : Die} (h : s.Sized) : OutSized (execLogicSourceReturn d s) :=
  .onBlock h fun _ hb => .sourceBack hb

theorem Machine.OutSized.execLaneStart {env : StartEnv} (h : s.Sized) : OutSized (execLaneStart l env s) :=
  .next (.withMem (.withBlock (.laneStarts h)))

theorem Machine.OutSized.execLaneReady (h : s.Sized) : OutSized (execLaneReady l s) := .next (.withMem (.withBlock (.laneReady h)))

theorem Machine.OutSized.execLanePairing {found : PairingFound} (h : s.Sized) : OutSized (execLanePairing l found s) :=
  .next (.withMem (.withBlock (.pairs h)))

theorem Machine.OutSized.execResyncCut {holdUs : Nat} (h : s.Sized) : OutSized (execResyncCut l holdUs s) :=
  .onBlock h fun _ hb => .cutAsked hb

theorem Machine.OutSized.execResyncComplete {ms : Nat} (h : s.Sized) : OutSized (execResyncComplete l ms s) :=
  .onBlock h fun _ hb => .holdOver hb

/-! ## Fabric accesses -/

theorem Block.Sized.winReadDone {w : Win} {off n : Nat} (h : b.Sized) : (b.winReadDone l w off n).Sized := .ite (.modWin h) h

theorem Block.Sized.windowAccess {kind : AccKind} {eq : Bool} {w : Win} {off n : Nat} {data : List Byte} (h : b.Sized) :
    (b.windowAccess l kind eq w off n data).1.Sized := by
  unfold Block.windowAccess
  split
  · exact .ite h (.winReadDone h)
  · exact foldl_keeps Block.Sized h fun _ _ hb => .regWrite hb

theorem Block.Sized.accEnds {a : Access} {r : AccResult} (h : b.Sized) : (b.accEnds l a r).Sized := by
  unfold Block.accEnds
  split
  · exact .setResult h
  · exact h

theorem Block.Sized.accRefused {a : Access} {p cause : Nat} (h : b.Sized) : (b.accRefused l a p cause).Sized :=
  .ite (.accEnds h) (.gateViolation (.accEnds h))

theorem Block.Sized.accStalls {a : Access} (h : b.Sized) : (b.accStalls l a).Sized := by
  unfold Block.accStalls
  split
  · exact .gateStalls h
  · exact h

theorem Block.Sized.sramAccess {a : Access} (h : b.Sized) : (b.sramAccess m l a).1.Sized := by
  unfold Block.sramAccess
  split
  · exact .accEnds h
  · exact .accEnds h

theorem Block.Sized.fabric {a : Access} (h : b.Sized) : (b.fabric m l a).1.Sized := by
  unfold Block.fabric
  refine .iteFst h (.iteFst (.accEnds h) (.iteFst (.accRefused h) ?_))
  dsimp only
  split
  · exact .iteFst (.accEnds h) (.iteFst (.accRefused h) (.iteFst (.accStalls h) (.iteFst (.accEnds h) (.sramAccess h))))
  · exact .iteFst (.accStalls h) (.accEnds (.windowAccess h))
  · exact .iteFst (.accStalls h) (.accEnds (.windowAccess h))
  · exact .iteFst (.accStalls h) (.accEnds (.windowAccess h))
  · split
    · exact .bridgeAccess h
    · exact .iteFst h (.accRefused h)
  · split
    · exact .storageRead h
    · exact .iteFst h (.accRefused h)
  · exact .accRefused h

theorem Block.Sized.fabricThrough {a : Access} (h : b.Sized) : (b.fabricThrough m l a).1.Sized := by
  unfold Block.fabricThrough
  split
  · exact .fabric h
  · exact .throughPair h (.fabric h)

theorem Block.Sized.timeWord (h : b.Sized) : (b.timeWord m l).1.Sized :=
  .iteFst h (.bridgeTurns (.onlyIf (foldl_keeps Block.Sized (.modLane h) fun _ _ hb => .drainPair hb) fun hb => .engineNext
    (.modPart hb ⟨rfl, rfl, (mapIdxFrom_length ..)⟩)))

theorem Machine.OutSized.execFabricAccess {acc : Access} (h : s.Sized) : OutSized (execFabricAccess l acc s) :=
  .next (.withMem (.withBlock (.fabricThrough h)))

theorem Machine.OutSized.execTimeWord (h : s.Sized) : OutSized (execTimeWord l s) := .next (.withMem (.withBlock (.timeWord h)))

/-! ## The boundary of an epoch -/

theorem Block.Sized.offsetSeen {ns : Int} (h : b.Sized) : (b.offsetSeen ns).Sized :=
  .ite (.modMod h) (.onlyIf (.modMod h) fun hb => .diverge hb)

theorem Block.Sized.silence {k : Nat} (h : b.Sized) : (b.silence k l).Sized := .ite (.peerSilent h) h

theorem Block.Sized.aloneSeen (h : b.Sized) : b.aloneSeen.Sized := foldl_keeps Block.Sized (.modPart h) fun _ _ hb => .diverge hb

theorem Block.Sized.decide1 {prid : Nat} (h : b.Sized) : (b.decide1 prid).Sized := by
  unfold Block.decide1
  refine .ite (.onlyIf (.modMod h) fun hb => .raiseAll hb) ?_
  split
  · exact .onlyIf (.modMod h) fun hb => .raiseAll hb
  · exact .ite (.onlyIf (.onlyIf (.modMod h) fun hb => .raiseAll hb) fun hb => .restart hb)
        (.onlyIf (.onlyIf (.modMod h) fun hb => .raiseAll hb) fun hb => .modMod (.modLane (.leave hb)))

theorem Block.Sized.decideAll (h : b.Sized) : b.decideAll.Sized := .modMod (foldl_keeps Block.Sized h fun _ _ hb => .decide1 hb)

theorem Block.Sized.roleChange (h : b.Sized) : b.roleChange.Sized := by
  unfold Block.roleChange
  split
  · exact h
  · extract_lets old fail cause named raised heard marked told
    have hraised : raised.Sized := .ite (.raiseAll (.modMod h)) (.raiseAll (.modMod h))
    have hmarked : marked.Sized := .ite (.modLane hraised) (.mapInputs (.modLane hraised))
    have htold : told.Sized := .ite (.sendRole hmarked) (.finishWhere hmarked)
    clear_value old
    split
    · exact .ite (.restart htold) htold
    · exact htold

theorem Block.Sized.freeze {p : Nat} (h : b.Sized) : (b.freeze p).Sized :=
  .ite h (.ite (.modViol h) (.bridgeFreezes (.modSlice (.modViol h))))

theorem Block.Sized.effect {x1 : Effect} (h : b.Sized) : (b.effect x1).Sized := by
  unfold Block.effect
  split
  · exact h
  · exact .paramsNow h
  · exact .sliceNow h
  · exact .thawNow h
  · exact .isoAct h
  · exact .faultClear h
  · exact .ackNow h
  · exact .shrunkNow h
  · exact .markNow h
  · exact .canFilterNow h
  · exact .modCtx h
  · exact .modCtx h
  · exact .keyNow h
  · exact .evictNow h
  · exact .destroyNow h
  · exact .testRootNow (.onlyIf (.ite (.breakPairs h) h) fun hb => .breakPairs hb)
  · exact .saInstallNow h
  · exact .saUse h
  · exact .saRetireNow h
  · exact .modImg h
  · exact .lifeRestarts h

theorem Block.Sized.show {a : Response} (h : b.Sized) : (b.show m a).1.Sized := by
  unfold Block.show
  split
  · exact .effect (.sendMgmt h)
  · exact .iteFst (.modMail h) (.effect (.ite h (.modWin h)))

theorem Block.Sized.showAll (h : b.Sized) : (b.showAll m).1.Sized :=
  foldl_keeps (fun x : Block × MemSt => x.1.Sized) (.modMail h) fun _ _ hb => .show hb

theorem Block.Sized.tellPending (h : b.Sized) : b.tellPending.Sized := foldl_keeps Block.Sized (.modMail h) fun _ _ hb => .post hb

theorem Block.Sized.deliverInputs {k : Nat} {far : List Item} (h : b.Sized) : (b.deliverInputs k l far).Sized :=
  .inputWakes (foldl_keeps Block.Sized h fun _ _ hb => .deliverInput hb)

theorem Block.Sized.deliverCan {k : Nat} {own far : List Item} {two : Bool} (h : b.Sized) : (b.deliverCan k l own far two).Sized :=
  foldl_keeps Block.Sized h fun _ _ hb => .canAgree hb

theorem Block.Sized.deliverNet {own far : List Item} (h : b.Sized) : (b.deliverNet m l own far).1.Sized :=
  foldl_keeps (fun x : Block × MemSt => x.1.Sized) (foldl_keeps Block.Sized (.modNet h) fun _ _ hb => .deliverEth hb) fun _ _ hb =>
    .vpDeliver hb

theorem Block.Sized.setTime {k : Nat} (h : b.Sized) : (b.setTime k).Sized := .modMod h

theorem Block.Sized.deliverEvent {r : EvRec} (h : b.Sized) : (b.deliverEvent r).Sized :=
  .onlyIf (.modEv (foldl_keeps Block.Sized h fun _ _ hb => .modEq hb)) fun hb => .modLanes hb fun _ hx => .ite hx hx

theorem Block.Sized.deliverEvents {k : Nat} (h : b.Sized) : (b.deliverEvents k).Sized :=
  foldl_keeps Block.Sized (.modEv h) fun _ _ hb => .deliverEvent hb

theorem Block.Sized.hashRegions (h : b.Sized) : b.hashRegions.Sized :=
  foldl_keeps Block.Sized h fun _ _ hb => .toPeer (.toPeer (.modLanes hb fun _ hx => .ite hx hx))

theorem Block.Sized.closeRecord (h : b.Sized) : (b.closeRecord l).Sized :=
  .ite h (.toPeer (foldl_keeps Block.Sized h fun _ _ hb => .toPeer hb))

theorem Block.Sized.beforeDelivery {offsetNs : Int} (h : b.Sized) : (b.beforeDelivery offsetNs).Sized :=
  .beginDrains (foldl_keeps Block.Sized (.keySwaps
    (.alarmNow (.roleChange (.decideAll (.aloneSeen (.ite (.offsetSeen h) (.silence (.silence (.offsetSeen h))))))))) fun _ _ hb =>
    .freeze hb)

theorem Block.Sized.removedOver (h : b.Sized) : b.removedOver.Sized := .modPart h

theorem Block.Sized.afterDelivery {k : Nat} (h : b.Sized) : (b.afterDelivery k).Sized := by
  unfold Block.afterDelivery
  extract_lets told windows sampled hashed routed
  have htold : told.Sized := .removedOver (.tellPending (.moduleCommits h))
  have hwindows : windows.Sized := .modMail htold (List.length_map ..)
  have hsampled : sampled.Sized := .closeRecord (.closeRecord (.tagSamples (.tagSamples hwindows)))
  have hhashed : hashed.Sized := .hashRegions (.bridgeRate hsampled)
  clear_value hashed
  have hrouted : routed.Sized := .interrupts (.modPart hhashed)
  exact .modMod hrouted

theorem Machine.State.Sized.deliver {k : Nat} (h : s.Sized) : (s.deliver k).Sized := by
  unfold Machine.State.deliver
  extract_lets b l own two far taken timed canned
  have htaken : taken.Sized := .modLanes h
  have hcanned : canned.Sized := .deliverCan (.deliverInputs (.setTime htaken))
  split
  next net mem hnet =>
    have hdelivered : net.Sized := .of_fst hnet (.deliverNet hcanned)
    split
    extract_lets stored queued taken
    have hqueued : queued.Sized := .withBlock (.modMail (.modNet hdelivered))
    have hmgmt : taken.Sized := .takeMgmt hqueued
    exact .withBlock (.deliverEvents hmgmt)

theorem Machine.State.Sized.burn (h : s.Sized) : s.burn.Sized := by
  unfold Machine.State.burn
  split
  · exact .withBlock (.raiseAll h)
  · exact h

theorem Machine.State.Sized.boundaryEnds {k : Nat} (h : s.Sized) : (s.boundaryEnds k).Sized := by
  unfold Machine.State.boundaryEnds
  extract_lets after
  have hafter : after.b.Sized := .afterDelivery h
  clear_value after
  split
  next back m hb =>
    have hback : back.Sized := .of_fst hb (.resynced hafter)
    split
    next cut n hc =>
      have hcut : cut.Sized := .of_fst hc (.cutNow hback)
      exact .withMem (.withBlock (.modEv hcut))

theorem Machine.State.Sized.boundary {offsetNs : Int} (h : s.Sized) : (s.boundary offsetNs).Sized := by
  unfold Machine.State.boundary
  extract_lets before
  have hbefore : before.Sized := .beforeDelivery h
  clear_value before
  split
  next shown m hshow =>
    have hshown : shown.Sized := .of_fst hshow (.showAll hbefore)
    split
    next started n hstart =>
      have hstarted : started.Sized := .of_fst hstart (.startPairs (.cutEntries hshown))
      extract_lets swapped stored k delivered
      have hswapped : swapped.Sized := by
        refine .ite (.modNet ?_) hstarted
        split
        · exact .saUse hstarted
        · exact hstarted
      have hdelivered : delivered.Sized := .ite hswapped (.deliver hswapped)
      exact .boundaryEnds (.burn (.resumeWaiting hdelivered))

theorem Machine.State.Sized.boundaryAlone (h : s.Sized) : s.boundaryAlone.Sized := .withBlock (.modMod (.deliverEvents h))

theorem Machine.OutSized.execEpochBoundary {offsetNs : Int} (h : s.Sized) : OutSized (execEpochBoundary offsetNs s) :=
  .next (.ite (.boundary h) (.ite (.boundaryAlone h) h))

end Keeps

end Sys2Proof
end

section
/-! PROOF. The sizes of tables: every command and every step. Settles O5. -/

namespace Sys2Proof.Machine

/-- Every command of the table keeps the size of every table. -/
theorem OutSized.exec {c : Instr} {s : State} (h : s.Sized) : OutSized (exec c s) := by
  cases c with
  | nop => exact .execNop h
  | moduleInfo => exact .execModuleInfo h
  | paramGet => exact .execParamGet h
  | paramSet => exact .execParamSet h
  | authChallenge => exact .execAuthChallenge h
  | authChallengeExpiry => exact .execAuthChallengeExpiry h
  | sliceCreate => exact .execSliceCreate h
  | sliceGrow => exact .execSliceGrow h
  | sliceShrink => exact .execSliceShrink h
  | sliceDestroy => exact .execSliceDestroy h
  | sliceQuery => exact .execSliceQuery h
  | thaw => exact .execThaw h
  | drainLimitReached => exact .execDrainLimitReached h
  | drainEnd => exact .execDrainEnd h
  | teardownEnd => exact .execTeardownEnd h
  | granuleZeroed => exact .execGranuleZeroed h
  | chanSet => exact .execChanSet h
  | chanPwm => exact .execChanPwm h
  | chanMulti => exact .execChanMulti h
  | unlock => exact .execUnlock h
  | chanStatus => exact .execChanStatus h
  | dieIsolateOpen => exact .execDieIsolateOpen h
  | dieIsolateClose => exact .execDieIsolateClose h
  | dieIsolateStorePolicy => exact .execDieIsolateStorePolicy h
  | failsafeStore => exact .execFailsafeStore h
  | failsafeStoreWritten => exact .execFailsafeStoreWritten h
  | inputRead => exact .execInputRead h
  | ringBid => exact .execRingBid h
  | ringBidTimeout => exact .execRingBidTimeout h
  | switchEntrySet => exact .execSwitchEntrySet h
  | switchEntryDel => exact .execSwitchEntryDel h
  | generationDrained => exact .execGenerationDrained h
  | portStats => exact .execPortStats h
  | macsecSaInstall => exact .execMacsecSaInstall h
  | macsecSaMakeCurrent => exact .execMacsecSaMakeCurrent h
  | macsecSaRetire => exact .execMacsecSaRetire h
  | canSend => exact .execCanSend h
  | canRead => exact .execCanRead h
  | canFilterSet => exact .execCanFilterSet h
  | sleepRequest => exact .execSleepRequest h
  | sleepCancel => exact .execSleepCancel h
  | wakeHold => exact .execWakeHold h
  | bridgeRangeMark => exact .execBridgeRangeMark h
  | keyLoad => exact .execKeyLoad h
  | keyReplace => exact .execKeyReplace h
  | keyDestroy => exact .execKeyDestroy h
  | keyEvict => exact .execKeyEvict h
  | tamperAck => exact .execTamperAck h
  | cipherCtxSet => exact .execCipherCtxSet h
  | cipherRun => exact .execCipherRun h
  | cipherOperationDone => exact .execCipherOperationDone h
  | cipherCtxFree => exact .execCipherCtxFree h
  | storageWrite => exact .execStorageWrite h
  | storageErase => exact .execStorageErase h
  | storageDeviceDone => exact .execStorageDeviceDone h
  | externalStorageRead => exact .execExternalStorageRead h
  | updateBegin => exact .execUpdateBegin h
  | stagingEraseDone => exact .execStagingEraseDone h
  | updateBlock => exact .execUpdateBlock h
  | updateVerify => exact .execUpdateVerify h
  | updateVerifyDone => exact .execUpdateVerifyDone h
  | updateActivate => exact .execUpdateActivate h
  | configBlock => exact .execConfigBlock h
  | configCommit => exact .execConfigCommit h
  | commitRestart => exact .execCommitRestart h
  | lifecycleSet => exact .execLifecycleSet h
  | lifecycleWritten => exact .execLifecycleWritten h
  | debugEnable => exact .execDebugEnable h
  | roleSet => exact .execRoleSet h
  | laneRestart => exact .execLaneRestart h
  | eventRead => exact .execEventRead h
  | faultLogRead => exact .execFaultLogRead h
  | faultClearLog => exact .execFaultClearLog h
  | faultClearCounts => exact .execFaultClearCounts h
  | doorbell => exact .execDoorbell h
  | requestTakeUp => exact .execRequestTakeUp h
  | managementFrame => exact .execManagementFrame h
  | eqConsWrite => exact .execEqConsWrite h
  | registerWrite => exact .execRegisterWrite h
  | hgpridWrite => exact .execHgpridWrite h
  | fabricAccess => exact .execFabricAccess h
  | rateWindowEnd => exact .execRateWindowEnd h
  | budgetPeriod => exact .execBudgetPeriod h
  | budgetExhausted => exact .execBudgetExhausted h
  | epochBoundary => exact .execEpochBoundary h
  | agreementItemReceived => exact .execAgreementItemReceived h
  | timeWord => exact .execTimeWord h
  | timeWordTimeout => exact .execTimeWordTimeout h
  | linkFlitError => exact .execLinkFlitError h
  | bridgeLinkHealthy => exact .execBridgeLinkHealthy h
  | laneFault => exact .execLaneFault h
  | lockstepMismatch => exact .execLockstepMismatch h
  | comparatorTimeout => exact .execComparatorTimeout h
  | sweepPeriod => exact .execSweepPeriod h
  | debugHaltRequest => exact .execDebugHaltRequest h
  | laneDownReceived => exact .execLaneDownReceived h
  | restartDue => exact .execRestartDue h
  | laneStart => exact .execLaneStart h
  | laneReady => exact .execLaneReady h
  | lanePairing => exact .execLanePairing h
  | resyncCut => exact .execResyncCut h
  | resyncComplete => exact .execResyncComplete h
  | modulePowerUp => exact .execModulePowerUp h
  | powerDieLogicUp => exact .execPowerDieLogicUp h
  | t30Valid => exact .execT30Valid h
  | t30Invalid => exact .execT30Invalid h
  | railsLowered => exact .execRailsLowered h
  | railsRestored => exact .execRailsRestored h
  | t30Overvoltage => exact .execT30Overvoltage h
  | feedBandChange => exact .execFeedBandChange h
  | feedReversed => exact .execFeedReversed h
  | feedUnreversed => exact .execFeedUnreversed h
  | feedReturnNextChannel => exact .execFeedReturnNextChannel h
  | logicSourceReturn => exact .execLogicSourceReturn h
  | refreshDue => exact .execRefreshDue h
  | refresh => exact .execRefresh h
  | set => exact .execSet h
  | pwm => exact .execPwm h
  | multi => exact .execMulti h
  | keep => exact .execKeep h
  | role => exact .execRole h
  | unlockFrame => exact .execUnlockFrame h
  | conf => exact .execConf h
  | store => exact .execStore h
  | read => exact .execRead h
  | ack => exact .execAck h
  | status => exact .execStatus h
  | event => exact .execEvent h
  | powerFrameCrcFail => exact .execPowerFrameCrcFail h
  | pairingWindowEnd => exact .execPairingWindowEnd h
  | preferredPortSilent => exact .execPreferredPortSilent h
  | ackTimeout => exact .execAckTimeout h
  | watchdogExpiry => exact .execWatchdogExpiry h
  | diePollDue => exact .execDiePollDue h
  | slopeEnd => exact .execSlopeEnd h
  | inrushWindowEnd => exact .execInrushWindowEnd h
  | inrushEarlyEnd => exact .execInrushEarlyEnd h
  | pwmEdge => exact .execPwmEdge h
  | clampEnd => exact .execClampEnd h
  | clampBinEnd => exact .execClampBinEnd h
  | fastTrip => exact .execFastTrip h
  | shortInLimit => exact .execShortInLimit h
  | fuseModelUpdate => exact .execFuseModelUpdate h
  | thermalShutdown => exact .execThermalShutdown h
  | tripHoldEnd => exact .execTripHoldEnd h
  | thermalHoldEnd => exact .execThermalHoldEnd h
  | retryWindowEnd => exact .execRetryWindowEnd h
  | openLoadOnCheck => exact .execOpenLoadOnCheck h
  | offStateCheck => exact .execOffStateCheck h
  | stuckOnCheck => exact .execStuckOnCheck h
  | noOnCheck => exact .execNoOnCheck h
  | senseMismatchCheck => exact .execSenseMismatchCheck h
  | shortGndClear => exact .execShortGndClear h
  | isolationSwitchOpen => exact .execIsolationSwitchOpen h
  | isolationSwitchClosed => exact .execIsolationSwitchClosed h
  | isolationSwitchFault => exact .execIsolationSwitchFault h
  | ledgerUpdate => exact .execLedgerUpdate h
  | counterCopy => exact .execCounterCopy h
  | inputScan => exact .execInputScan h
  | edgeTimerPeriod => exact .execEdgeTimerPeriod h
  | edgeTimeout => exact .execEdgeTimeout h
  | wakeInputCheck => exact .execWakeInputCheck h
  | roundStart => exact .execRoundStart h
  | beaconReceived => exact .execBeaconReceived h
  | ownSlotStart => exact .execOwnSlotStart h
  | polledSlotStart => exact .execPolledSlotStart h
  | pollReceived => exact .execPollReceived h
  | slotFrameReceived => exact .execSlotFrameReceived h
  | openWindowFrame => exact .execOpenWindowFrame h
  | delayMeasurementDue => exact .execDelayMeasurementDue h
  | slotsEnd => exact .execSlotsEnd h
  | guardEnd => exact .execGuardEnd h
  | dealerSilent => exact .execDealerSilent h
  | ringGraceExpired => exact .execRingGraceExpired h
  | coldStart => exact .execColdStart h
  | keepBlock _ port => exact .execKeepBlock (x1 := port) h
  | repeatCut _ port => exact .execRepeatCut (x1 := port) h
  | ringLinkBreak => exact .execRingLinkBreak h
  | linkHealthy => exact .execLinkHealthy h
  | frameIngress => exact .execFrameIngress h
  | vpTransmitDescriptor => exact .execVpTransmitDescriptor h
  | egressTransmit => exact .execEgressTransmit h
  | portLinkDown => exact .execPortLinkDown h
  | portLinkUp => exact .execPortLinkUp h
  | portHoldExpiry => exact .execPortHoldExpiry h
  | deckCount => exact .execDeckCount h
  | reclaimSweepEnd => exact .execReclaimSweepEnd h
  | sequenceRecoveryReset => exact .execSequenceRecoveryReset h
  | canFrameReceived => exact .execCanFrameReceived h
  | canFrameSent => exact .execCanFrameSent h
  | canTryFailed => exact .execCanTryFailed h
  | busOff => exact .execBusOff h
  | busOffRecovery => exact .execBusOffRecovery h
  | dominantTimeout => exact .execDominantTimeout h
  | nmCycle => exact .execNmCycle h
  | nmTimeout => exact .execNmTimeout h
  | powerDownComplete => exact .execPowerDownComplete h
  | wakeSource => exact .execWakeSource h
  | wakePin => exact .execWakePin h
  | wakeAckTimeout => exact .execWakeAckTimeout h
  | noTrafficTimeout => exact .execNoTrafficTimeout h
  | keepawakeThreshold => exact .execKeepawakeThreshold h
  | bridgeWindowAccess => exact .execBridgeWindowAccess h
  | prefetchLifeExpiry => exact .execPrefetchLifeExpiry h
  | bridgeCompletion => exact .execBridgeCompletion h
  | lockExpiry => exact .execLockExpiry h
  | completionTimeout => exact .execCompletionTimeout h
  | tamperAlarm => exact .execTamperAlarm h
  | glitchClear => exact .execGlitchClear h
  | scrubPass => exact .execScrubPass h
  | aonCheck => exact .execAonCheck h
  | coolantEstimate => exact .execCoolantEstimate h
  | dieTemperature => exact .execDieTemperature h
  | dieOvertempTimeout => exact .execDieOvertempTimeout h
  | faultLogAppend => exact .execFaultLogAppend h
  | logHourEnd => exact .execLogHourEnd h
  | t30Band3Left => exact .execT30Band3Left h
  | feedBelow18V => exact .execFeedBelow18V h
  | thermalWarning => exact .execThermalWarning h
  | activateTimeout => exact .execActivateTimeout h
  | portActivityTimeout => exact .execPortActivityTimeout h
  | commandPortReturn => exact .execCommandPortReturn h
  | keyOperationDone => exact .execKeyOperationDone h
  | configCommitWritten => exact .execConfigCommitWritten h
  | wakeCoordinationLinkFail => exact .execWakeCoordinationLinkFail h
  | canBusError => exact .execCanBusError h
  | ringLineEnergy _ port => exact .execRingLineEnergy (x1 := port) h
  | fence => exact .execFence h
  | macsecRxWaitExpiry => exact .execMacsecRxWaitExpiry h

/-- Settles O5: each operation keeps the sizes, so each command does, and a step carries out the command at the front of the queue. -/
theorem sizesAreKept : Obligations.SizesAreKept := by
  unfold Obligations.SizesAreKept
  intro s t h hstep
  unfold step at hstep
  split at hstep
  next => exact OutSized.next h t hstep
  next c rest _ => exact OutSized.exec (s := { s with pending := rest }) h t hstep

end Sys2Proof.Machine
end

end
